-- ==== Sys2Proof/Word.lean ====
section
/-! DEFINITION. The word types of the QH-8160 (R9): registers and dwords are 32 bits and little-endian,
addresses are 64 bits and untranslated (R37). Index types carry the fixed counts of the part. -/

namespace Sys2Proof

/-- A dword or a register (R9). -/
abbrev Word := BitVec 32
/-- A byte. -/
abbrev Byte := BitVec 8
/-- A host address (R37). -/
abbrev Addr := BitVec 64
/-- A root port P0–P7 (R14, Table 0-4). -/
abbrev Port := Fin 8
/-- Half 0 (SuperSpeed) or half 1 (USB 2.0) of a port (R163). -/
abbrev Half := Fin 2
/-- A power channel C0–C15. -/
abbrev Chan := Fin 16
/-- A pump channel PC0–PC63. -/
abbrev Pump := Fin 64
/-- A function, which is an instance (R33). -/
abbrev Fn := Fin 256
/-- A queue 0–4,095 (R61). -/
abbrev QueueId := Fin 4096
/-- A pipe identifier of 20 bits (Table 0-4). -/
abbrev PipeId := Fin 1048576

/-- A finite map with a default: pairs with rising keys, none of which holds the default. -/
abbrev Sparse (α : Type) := List (Nat × α)

end Sys2Proof
end

