-- ==== Sys2Proof/Syntax.lean ====
section
/-! DEFINITION. The commands of the QH-8160: one constructor of `Instr` per row of the table of operations and
events, each with the operands that come from outside the block (a value written, data returned by the host or a
unit, a measured level, the outcome of a self-test). -/

namespace Sys2Proof

/-- The kind of a host bus error, coded as HI_HERR_INFO.KIND (Table 2-15). -/
inductive ErrKind where
  | timeout | unsupported | abort | poisoned | ecrc
deriving DecidableEq, Repr

/-- A register window that a memory write can name (R34, R418, R420, Table 2-4). -/
inductive Window where
  /-- BAR0 of the physical function. -/
  | bar0
  /-- BAR2 of the physical function. -/
  | bar2
  /-- BAR0 of virtual function `i`. -/
  | vf (i : Fn)
deriving DecidableEq, Repr

/-- Where a doorbell is rung (R63): BAR2 by global number, or a VF BAR0 by local number. -/
inductive Doorbell where
  | manager (q : QueueId)
  | tenant (i : Fn) (j : Fin 64)
deriving DecidableEq, Repr

/-- FLT_ACCINFO.SOURCE (Table 10-10). -/
inductive AccSource where
  | pcie | firmware | smbus
deriving DecidableEq, Repr

/-- Requests that Table 2-5 answers Unsupported Request. -/
inductive UrKind where
  | lockRead | io | type1 | overLong | memoryDisabled
deriving DecidableEq, Repr

/-- The answer to a read of an index cell: DW0, or an error of Table 2-8 at the cell's address. -/
inductive CellAnswer where
  | data (dw0 : Word)
  | error (k : ErrKind)
deriving DecidableEq, Repr

/-- DW0–DW11 of one slot (Tables 4-1 and 12-1); DW12–DW15 are never read (R70). -/
abbrev Slot := Vector Word 12

/-- The answer to one entry read: its slots in index order, or an error. -/
inductive FetchAnswer where
  | data (slots : List Slot)
  | error (k : ErrKind)
deriving DecidableEq, Repr

/-- The answer to a read of bytes. -/
inductive ReadAnswer where
  | data (bytes : List Byte)
  | error (k : ErrKind)
deriving DecidableEq, Repr

/-- A read that the QH-8160 has outstanding (R55). A pump read is named by its transfer place and read number. -/
inductive ReadRef where
  | cell (q : QueueId)
  | entries (q : QueueId) (first : Word)
  | pump (place : Nat) (read : Nat)
  | barrier (q : QueueId) (index : Word)
  /-- A read of the FW_STAGE chunk that is being fetched, by its first byte in the chunk. -/
  | stage (first : Nat)
deriving DecidableEq, Repr

/-- The cause of a link reset (Table 16-6). -/
inductive LinkResetKind where
  | perst | hotReset | linkDown
deriving DecidableEq, Repr

/-- Device states of a function (Table 2-6); D3cold is entered by PERST#. -/
inductive DState where
  | d0 | d3hot | d3cold
deriving DecidableEq, Repr

/-- A configuration write with an effect of its own that no other row has (R30, R36, R38, R39, R48). -/
inductive CfgSpaceWrite where
  | pmeStatusClear
  | pmeEnable (b : Bool)
  | memoryEnable (b : Bool)
  | tenBitTagEnable (b : Bool)
  /-- ASPM L1.1, ASPM L1.2, PCI-PM L1.1 and PCI-PM L1.2 enables (R32). -/
  | l1Substates (aspm11 aspm12 pci11 pci12 : Bool)
  /-- Correctable and Non-Fatal Error Reporting Enable; the AER status bits cleared (R29, R55). -/
  | errorReporting (correctable nonFatal : Bool)
  | aerClear
  /-- Completion Timeout Value and Disable, ARI Capable Hierarchy (Table 2-1, R33). -/
  | completionTimeoutValue (code : Fin 16)
  | completionTimeoutDisable (b : Bool)
  | ariHierarchy (b : Bool)
  | maxPayload (code : Fin 3)
  | maxReadRequest (code : Fin 6)
deriving DecidableEq, Repr

/-- A command packet of queue 0 (Table 12-1): the index it was fetched from and DW0–DW11. -/
structure Packet where
  index : Word
  dw : Slot
deriving DecidableEq, Repr

/-- An IN data packet as it arrives on a port (Table 7-2): sequence number (half 0) or toggle in bit 0 (half 1). -/
structure InPacket where
  data : List Byte
  seq : Nat
  /-- CRC, bit stuffing and framing hold. -/
  crcOk : Bool
  /-- The packet is of a type, and has a PID, that the protocol allows at this point. -/
  typeOk : Bool
  /-- End of Burst is set (half 0). -/
  eob : Bool
  /-- MDATA: further complete-splits bring the rest of an isochronous packet (R213). -/
  more : Bool := false
deriving DecidableEq, Repr

/-- An ACK from a unit or hub (R198, R202, R206, R212). `allowed` is clear for a handshake that the transaction
does not allow and for an invalid PID (Table 7-2). -/
structure Ack where
  numP : Nat
  retry : Bool
  allowed : Bool
deriving DecidableEq, Repr

/-- What a probe brought (R267, R268). -/
inductive ProbeAnswer where
  | noAnswer
  /-- PORT_CONNECTION, PORT_ENABLE, PORT_SUSPEND, PORT_OVER_CURRENT, and on a USB 3 hub the link state. -/
  | status (connection enable suspend overCurrent : Bool) (linkState : Nat)
deriving DecidableEq, Repr

/-- What a read of a context from the cellar brought (R278, Table 10-3). -/
inductive MemAnswer where
  | good | corrected | uncorrectable
deriving DecidableEq, Repr

/-- What the words of a page read as when a pump takes them (R278, R279). -/
inductive PageAnswer where
  | good | corrected
  /-- An uncorrectable word; whether its page fails again after it was rewritten. -/
  | uncorrectable (again : Bool)
  /-- A byte of the staging buffer fails its parity (Table 10-3). -/
  | staging
deriving DecidableEq, Repr

/-- What the chip's memories read as in a decision of the scheduler (Table 10-3, R279, R280). -/
inductive ChipAnswer where
  | good
  /-- A corrected word of the context cache, the pin overflow or the entry store. -/
  | corrected
  /-- An uncorrectable word of a context in the cache or the pin overflow. -/
  | context (n : PipeId)
  /-- Both copies of a pipe's list node are uncorrectable, or one of them. -/
  | node (n : PipeId) (both : Bool)
  /-- An uncorrectable word of the entry at a pipe's head. -/
  | entry (n : PipeId)
  /-- An uncorrectable word of the first page that a pipe is to send; whether its page fails again. -/
  | page (n : PipeId) (again : Bool)
deriving DecidableEq, Repr

/-- What an uncorrectable word of the cellar belongs to (Table 10-3). -/
inductive CellarLoss where
  /-- A pipe or stream context. -/
  | context (n : PipeId)
  /-- A list node of a pipe; whether both of its copies are uncorrectable (R280). -/
  | node (n : PipeId) (both : Bool)
  /-- A fault-log record. -/
  | record (seq : Word)
  /-- Nothing in use. -/
  | unused
deriving DecidableEq, Repr

/-- The outcome of a port's calibration and self-test (Table 6-7, PORT_SERVICE result). -/
inductive PortTest where
  | ok | calibrationFailed | lane0OrUsb2Failed | lane1Failed
deriving DecidableEq, Repr

/-- What a CELLAR_SERVICE meets: nothing of note, a training or a self-test of the returning channel that fails
(R335), or the failure of a cellar channel under R281 while it runs (R336). -/
inductive CellarTest where
  | ok | trainingFailed | selfTestFailed
  | channelFailed (f : Fin 2)
deriving DecidableEq, Repr

/-- How the SET_ADDRESS of a UNIT_ADDRESS ended (R166, R322). -/
inductive SetAddrResult where
  | ok
  | stall (stage : Fin 4)
  | error (info : Byte)
  | unitGone
deriving DecidableEq, Repr

/-- An image as it lies in a slot (R337): the 256 bytes of its header (Table 12-10), and whether its SHA-384 digest and
its signature verify against the key in boot ROM. -/
structure Image where
  header : List Byte
  verified : Bool
deriving DecidableEq, Repr

/-- What became of a staged chunk in flash (R338). -/
inductive FlashResult where
  | programmed
  | failed
  /-- The LAST chunk was programmed, and the copy was checked: whether its digest and signature verify (R337). -/
  | checked (verified : Bool)
deriving DecidableEq, Repr

/-- What the boot sequence found (Table 16-2, Table 16-5, R410). -/
structure BootOutcome where
  /-- BOOT_FAIL.PORTS and LANE1. -/
  ports : BitVec 8
  lane1 : BitVec 8
  /-- BOOT_FAIL.CELLAR. -/
  cellar : BitVec 2
  rooms : BitVec 8
  pumps : BitVec 64
  ways : BitVec 16
  entries : BitVec 16
  retiredPages : Nat
  /-- Both copies of the boot record are bad (R410). -/
  recordBad : Bool
  /-- Per slot: could it be read, what lies in it, did it start (R410). -/
  slotAReads : Bool
  slotA : Image
  slotAStarts : Bool
  slotBReads : Bool
  slotB : Image
  slotBStarts : Bool
  /-- OTP rollback level. -/
  otp : Fin 65
  bootMs : BitVec 16
  cellarGiB : Fin 9
  cellarRate : BitVec 16
  /-- AON ticks since the commit, for a wake from OFF (R397), and t_off of R370 in ms. -/
  aonTicks : Nat
  offMs : Nat
deriving DecidableEq, Repr

/-- The connection that the device port trained to (DEV_ST.SPEED, GEN2). -/
inductive DevSpeed where
  | gen2x1 | gen1x1 | high | full
deriving DecidableEq, Repr

/-- The resets written "bus reset" in R349, coded as the event of Table 13-8. -/
inductive DevReset where
  | usb2 | hot | warm
deriving DecidableEq, Repr

/-- A link power request of the upstream host (R351). -/
inductive DevLpm where
  | u1 | u2 | l1
deriving DecidableEq, Repr

/-- A descriptor that GET_DESCRIPTOR names (Table 13-2). -/
inductive Descriptor where
  | device | bos | configuration | serialString
deriving DecidableEq, Repr

/-- A SET_FEATURE that R351 names. -/
inductive DevFeature where
  | functionSuspend (remoteWake : Bool)
  | deviceRemoteWakeup
deriving DecidableEq, Repr

/-- The causes of a trip, by their codes 1 to 4 (Table 14-2, Table 14-6). -/
inductive TripCause where
  | short | thermal | lowVbus | supply
deriving DecidableEq, Repr

/-- One 100 µs sample of a power channel (R363, R376, R377): mA, mV; the sensor reading in 0.25 °C units and in mV; the
trip causes that are found in the same REF cycle (R380). -/
structure ChanSample where
  iout : BitVec 16
  vout : BitVec 16
  vsup : Nat
  tmeas : Int
  rawTmp : BitVec 16
  found : List TripCause
deriving DecidableEq, Repr

/-- The time that a wake ends a power state after: AON ticks since the commit, ms in the state left. -/
structure SleepTime where
  aonTicks : Nat
  ms : Nat
deriving DecidableEq, Repr

/-- What a wake finds at its ready signals and at the channels' power-up. -/
structure WakeOutcome where
  time : SleepTime
  /-- The check of the firmware's copy, used by a wake from DEEP (Table 15-5 step 5). -/
  imageOk : Bool
  /-- ms from the wake to its end, for BOOT_ST.BOOT_MS. -/
  bootMs : BitVec 16
deriving DecidableEq, Repr

/-- The commands of the block, one constructor per row of the table, in the table's order. -/
inductive Instr where
  /-- DOORBELL_WRITE (R71). -/
  | doorbellWrite (d : Doorbell)
  /-- REGISTER_WRITE (R10): one dword; a write of two dwords is the lower one and then the upper one (Table 2-5). -/
  | registerWrite (win : Window) (offset : Nat) (value : Word)
  /-- OFF_BLOCK_ACCESS (R282): a read of so many dwords of a window, or a write to it. -/
  | offBlockAccess (win : Window) (offset dwords : Nat) (write : Bool) (src : AccSource)
  /-- UNSUPPORTED_REQUEST_RX (R36). -/
  | unsupportedRequestRx (fn : Fn) (kind : UrKind)
  /-- POISONED_WRITE_RX (R36). -/
  | poisonedWriteRx (fn : Fn)
  /-- ISO_MIC_READ (R223). -/
  | isoMicRead
  /-- INDEX_CELL_READ_RETURN (R72). -/
  | indexCellReadReturn (q : QueueId) (a : CellAnswer)
  /-- ENTRY_FETCH_RETURN (R73). -/
  | entryFetchReturn (q : QueueId) (first : Word) (a : FetchAnswer)
  /-- COMPLETION_TIMEOUT (R55). -/
  | completionTimeout (r : ReadRef)
  /-- LATE_COMPLETION_RX (R55). -/
  | lateCompletionRx (fn : Fn)
  /-- BARRIER_READ_RETURN (R54). -/
  | barrierReadReturn (q : QueueId) (index : Word) (err : Option ErrKind)
  /-- FETCH_TURN (R75). -/
  | fetchTurn
  /-- FENCE_SIGNAL (R88). -/
  | fenceSignal (q : QueueId) (index : Word)
  /-- FENCE_WAIT_SATISFIED (R88). -/
  | fenceWaitSatisfied (q : QueueId) (index : Word)
  /-- EVQ_POLL_TIMER (R92). -/
  | evqPollTimer (q : QueueId)
  /-- ADMIN_QUEUE_ENABLE (R98): the value written to QE_ADM_CTL. -/
  | adminQueueEnable (value : Word)
  /-- ADMIN_QUEUE_DISABLE (R82): the value written to QE_ADM_CTL. -/
  | adminQueueDisable (value : Word)
  /-- MODERATION_TIMER_EXPIRY (R42). -/
  | moderationTimerExpiry (fn : Fn) (v : Fn)
  /-- PENDING_MSIX_RELEASE (R43). -/
  | pendingMsixRelease (fn : Fn) (v : Fn)
  /-- PME_RESEND_TIMER (R48). -/
  | pmeResendTimer (fn : Fn)
  /-- L1_IDLE_TIMEOUT (R32). -/
  | l1IdleTimeout
  /-- LINK_TRAINED (R30): speed code 1–5 and lanes. -/
  | linkTrained (speed : Fin 6) (width : Fin 9) (reversed : Bool)
  /-- LINK_RECOVERY (R30). -/
  | linkRecovery
  /-- LINK_RESET (R415). -/
  | linkReset (k : LinkResetKind)
  /-- POWER_STATE_WRITE (R52). -/
  | powerStateWrite (fn : Fn) (d3hot : Bool)
  /-- BUS_MASTER_ENABLE_WRITE (R40). -/
  | busMasterEnableWrite (fn : Fn) (enable : Bool)
  /-- MSIX_ENABLE_WRITE (R43): MSI-X Enable and Function Mask. -/
  | msixEnableWrite (fn : Fn) (enable mask : Bool)
  /-- MSIX_VECTOR_UNMASK (R45). -/
  | msixVectorUnmask (fn : Fn) (v : Fn)
  /-- VF_ENABLE_WRITE (R305): VF Enable and NumVFs. -/
  | vfEnableWrite (enable : Bool) (numVfs : Fn)
  /-- VF_FUNCTION_LEVEL_RESET (R312). -/
  | vfFunctionLevelReset (i : Fn)
  /-- PF_FUNCTION_LEVEL_RESET (R414). -/
  | pfFunctionLevelReset
  /-- INSTANCE_RESET_END (R308): µs from acceptance to the end. -/
  | instanceResetEnd (i : Fn) (us : Nat)
  /-- INSTANCE_REMOVAL_END (R310). -/
  | instanceRemovalEnd (i : Fn)
  /-- MAILBOX_PANE_WRITE (R300): by the manager or the tenant, to the M2T or the T2M pane. -/
  | mailboxPaneWrite (byManager : Bool) (i : Fn) (m2t : Bool) (offset : Fn) (bytes : List Byte)
  /-- MAILBOX_T2M_POST (R300). -/
  | mailboxT2mPost (i : Fn)
  /-- MAILBOX_T2M_ACK (R300). -/
  | mailboxT2mAck (i : Fn)
  /-- MAILBOX_M2T_POST (R300). -/
  | mailboxM2tPost (i : Fn)
  /-- MAILBOX_M2T_ACK (R300). -/
  | mailboxM2tAck (i : Fn)
  /-- RST_DONE_CLEAR (R315). -/
  | rstDoneClear (i : Fn)
  /-- SCHEDULER_DECISION (R153), with what the chip's memories read as (R278–R280). -/
  | schedulerDecision (p : Port) (mem : ChipAnswer)
  /-- MASTER_INTERVAL_TICK (R219). -/
  | masterIntervalTick
  /-- PORT_INTERVAL_TICK (R144). -/
  | portIntervalTick (p : Port)
  /-- CONTEXT_FILL (R152). -/
  | contextFill (n : PipeId) (a : MemAnswer)
  /-- BURST_END (R140). -/
  | burstEnd (n : PipeId)
  /-- DATA_PACKET_RECEIVED (R194). -/
  | dataPacketReceived (n : PipeId) (pkt : InPacket)
  /-- ACK_RECEIVED (R198). -/
  | ackReceived (n : PipeId) (a : Ack)
  /-- NRDY_RECEIVED (R199). -/
  | nrdyReceived (n : PipeId)
  /-- ERDY_RECEIVED (R149): on a stream endpoint, the stream it names. -/
  | erdyReceived (n : PipeId) (stream : Nat)
  /-- STALL_RECEIVED (R207). -/
  | stallReceived (n : PipeId)
  /-- NAK_RECEIVED (R202). -/
  | nakReceived (n : PipeId)
  /-- NYET_RECEIVED (R204). -/
  | nyetReceived (n : PipeId)
  /-- HUB_ERR_RECEIVED (R212). -/
  | hubErrReceived (n : PipeId)
  /-- RESPONSE_TIMEOUT (R195). -/
  | responseTimeout (n : PipeId)
  /-- PROBE_RESULT (R268). -/
  | probeResult (p : Port) (h : Half) (a : ProbeAnswer)
  /-- SWEEP_COMPLETE (R270). -/
  | sweepComplete (k : Fn)
  /-- END_OF_FRAME_GUARD (R203): the pipe whose unit still transmits, if one does. -/
  | endOfFrameGuard (p : Port) (babbler : Option PipeId)
  /-- SPLIT_CLOSE_TIMEOUT (R214). -/
  | splitCloseTimeout (n : PipeId)
  /-- FUNCTION_WAKE_NOTIFICATION (R172). -/
  | functionWakeNotification (p : Port) (addr : BitVec 7)
  /-- BUS_INTERVAL_ADJUSTMENT (R229). -/
  | busIntervalAdjustment (p : Port) (addr : BitVec 7) (value : Int)
  /-- U1_U2_REQUEST_RX (R182). -/
  | u1U2RequestRx (p : Port) (u2 : Bool)
  /-- LINK_IDLE_TIMEOUT (R182). -/
  | linkIdleTimeout (p : Port) (u2 : Bool)
  /-- LPM_IDLE_TIMEOUT (R183). -/
  | lpmIdleTimeout (p : Port)
  /-- LINK_U0_REACHED (R182). -/
  | linkU0Reached (p : Port) (h : Half)
  /-- PORT_RESET (R175): the value written to PRT_SC. -/
  | portReset (p : Port) (h : Half) (value : Word)
  /-- WARM_PORT_RESET (R175). -/
  | warmPortReset (p : Port) (h : Half) (value : Word)
  /-- PORT_DISABLE (R172). -/
  | portDisable (p : Port) (h : Half) (value : Word)
  /-- PORT_SUSPEND (R176). -/
  | portSuspend (p : Port) (h : Half) (value : Word)
  /-- PORT_RESUME (R175). -/
  | portResume (p : Port) (h : Half) (value : Word)
  /-- PORT_POWER_WRITE (R170): the value written to PRT_TC. -/
  | portPowerWrite (p : Port) (value : Word)
  /-- CC_LEVEL_CHANGE (R168): what CC1 and CC2 read, in mV. -/
  | ccLevelChange (p : Port) (mv1 mv2 : Nat)
  /-- CC_DEBOUNCE_EXPIRY (R168). -/
  | ccDebounceExpiry (p : Port)
  /-- SS_TRAINING_COMPLETE (R172): speed code 0–3. -/
  | ssTrainingComplete (p : Port) (speed : Fin 4) (loopback : Bool)
  /-- TRAINING_FAILED (R172). -/
  | trainingFailed (p : Port)
  /-- USB2_CONNECT_DEBOUNCE (R172): D− pulled up means low speed. -/
  | usb2ConnectDebounce (p : Port) (low : Bool)
  /-- DISCONNECT_DETECTED (R172). -/
  | disconnectDetected (p : Port) (h : Half)
  /-- LINK_FAILURE (R172). -/
  | linkFailure (p : Port) (h : Half)
  /-- PORT_RESET_COMPLETE (R175): the speed code found. -/
  | portResetComplete (p : Port) (h : Half) (speed : Fin 7)
  /-- PORT_RESET_TIMEOUT (R175). -/
  | portResetTimeout (p : Port) (h : Half)
  /-- SUSPEND_COMPLETE (R175). -/
  | suspendComplete (p : Port) (h : Half)
  /-- RESUME_COMPLETE (R175). -/
  | resumeComplete (p : Port) (h : Half)
  /-- U3_EXIT_TIMEOUT (R172). -/
  | u3ExitTimeout (p : Port)
  /-- UNIT_WAKE (R175). -/
  | unitWake (p : Port) (h : Half)
  /-- LANE1_LOSS (R180). -/
  | lane1Loss (p : Port)
  /-- LOCK_ACQUIRED (R225): the anchor phase in sixteenths of a tick. -/
  | lockAcquired (phase : BitVec 16)
  /-- ACQUISITION_TIMEOUT (R225). -/
  | acquisitionTimeout
  /-- AREF_PHASE_ERROR (R225). -/
  | arefPhaseError
  /-- AREF_LOST (R225). -/
  | arefLost
  /-- AREF_RANGE_CHANGE (R225): the measured deviation in 0.01 ppm. -/
  | arefRangeChange (dev : BitVec 16)
  /-- HOLDOVER_TIMEOUT (R225). -/
  | holdoverTimeout
  /-- SHARED_PAGE_GRANT (R241). -/
  | sharedPageGrant
  /-- JOB_BIND (R246). -/
  | jobBind (n : Pump)
  /-- SLICE_EXPIRY (R246). -/
  | sliceExpiry (n : Pump)
  /-- PUMP_READ_ISSUE (R248). -/
  | pumpReadIssue
  /-- PUMP_READ_COMPLETION (R247). -/
  | pumpReadCompletion (place : Nat) (read : Nat) (a : ReadAnswer)
  /-- PUMP_WRITE_ISSUE (R249), with what the words read from the page are (R278, R279). -/
  | pumpWriteIssue (mem : PageAnswer)
  /-- PUMP_PAUSE_SET (R254): the value written to PMP_CTL. -/
  | pumpPauseSet (n : Pump) (value : Word)
  /-- PUMP_PAUSE_CLEAR (R254). -/
  | pumpPauseClear (n : Pump) (value : Word)
  /-- PUMP_HALT_ACK (R260). -/
  | pumpHaltAck (n : Pump) (value : Word)
  /-- CELLAR_CHANNEL_FAIL (R281). -/
  | cellarChannelFail (c : Fin 2)
  /-- CELLAR_SCRUB (R278): how many words were corrected, and which, by cellar address, could not be. -/
  | cellarScrub (c : Fin 2) (corrected : Nat) (lost : List (Word × CellarLoss))
  /-- UNDEFINED_COMMAND (R318). -/
  | undefinedCommand (c : Packet)
  /-- QUEUE_CREATE (R61). -/
  | queueCreate (c : Packet)
  /-- QUEUE_DELETE (R82). -/
  | queueDelete (c : Packet)
  /-- QUEUE_ENABLE (R82). -/
  | queueEnable (c : Packet)
  /-- QUEUE_DISABLE (R83). -/
  | queueDisable (c : Packet)
  /-- UNIT_ADDRESS (R166). -/
  | unitAddress (c : Packet)
  /-- SET_ADDRESS_RECOVERY_END (R322). -/
  | setAddressRecoveryEnd (p : Port) (h : Half) (r : SetAddrResult)
  /-- UNIT_RELEASE (R166). -/
  | unitRelease (c : Packet)
  /-- UNIT_ASSIGN (R292). -/
  | unitAssign (c : Packet)
  /-- PIPE_OPEN (R323). -/
  | pipeOpen (c : Packet)
  /-- PIPE_CLOSE (R134). -/
  | pipeClose (c : Packet)
  /-- PIPE_STOP (R134). -/
  | pipeStop (c : Packet)
  /-- PIPE_START (R135). -/
  | pipeStart (c : Packet)
  /-- PIPE_RESET (R134). -/
  | pipeReset (c : Packet)
  /-- PIPE_QUERY (R326). -/
  | pipeQuery (c : Packet)
  /-- ORIGIN_RELEASE (R274). -/
  | originRelease (c : Packet)
  /-- ORIGIN_DROP (R275). -/
  | originDrop (c : Packet)
  /-- LOG_READ (R326). -/
  | logRead (c : Packet)
  /-- PUMP_ACK (R260). -/
  | pumpAck (c : Packet)
  /-- CFG_WRITE (R328). -/
  | cfgWrite (c : Packet)
  /-- CFG_READ (R328). -/
  | cfgRead (c : Packet)
  /-- CFG_COPY (R328). -/
  | cfgCopy (c : Packet)
  /-- CFG_SWAP (R329). -/
  | cfgSwap (c : Packet)
  /-- CFG_SWAP_COMMIT (R329). -/
  | cfgSwapCommit
  /-- PORT_SERVICE (R185): the result of the self-test of a return. -/
  | portService (c : Packet) (r : PortTest)
  /-- PUMP_SERVICE (R332): whether the self-test of a return passes. -/
  | pumpService (c : Packet) (pass : Bool)
  /-- CELLAR_SERVICE (R334): the result of a return, or the failure of a channel meanwhile. -/
  | cellarService (c : Packet) (r : CellarTest)
  /-- PM_ENTER (R386). -/
  | pmEnter (c : Packet)
  /-- CHAN_BIND (R365). -/
  | chanBind (c : Packet)
  /-- FW_STAGE (R338). -/
  | fwStage (c : Packet)
  /-- FLASH_CHUNK_PROGRAMMED (R338). -/
  | flashChunkProgrammed (r : FlashResult)
  /-- FW_ACTIVATE (R339): whether the second check of the copy passes. -/
  | fwActivate (c : Packet) (recheck : Bool)
  /-- FW_READY_REPORT (R340): the pause in µs. -/
  | fwReadyReport (us : Word)
  /-- FW_READY_TIMEOUT (R340): the pause in µs. -/
  | fwReadyTimeout (us : Word)
  /-- BOOT_RECORD_WRITTEN (R339). -/
  | bootRecordWritten
  /-- FW_QUERY (R316). -/
  | fwQuery (c : Packet)
  /-- DIAG_ECHO (R316). -/
  | diagEcho (c : Packet)
  /-- DIAG_LOOPBACK (R360): whether the root port reaches ENABLED at RATE. -/
  | diagLoopback (c : Packet) (reached : Bool)
  /-- DEVPORT_ENABLE (R346): the value written to DEV_CTL. -/
  | devportEnable (value : Word)
  /-- DEVPORT_DISABLE (R349). -/
  | devportDisable (value : Word)
  /-- DEVPORT_REMOTE_WAKE (R351). -/
  | devportRemoteWake (value : Word)
  /-- DEV_VBUS_PRESENT (R349): the connection trained. -/
  | devVbusPresent (speed : DevSpeed)
  /-- DEV_VBUS_ABSENT (R349): the stage of the abandoned control transfer and its bRequest. -/
  | devVbusAbsent (stage : Fin 4) (bRequest : Byte)
  /-- DEVPORT_BUS_RESET (R350): the kind, the stage of the abandoned control transfer and its bRequest. -/
  | devportBusReset (kind : DevReset) (stage : Fin 4) (bRequest : Byte)
  /-- DEVPORT_SUSPEND (R349). -/
  | devportSuspend
  /-- DEVPORT_HOST_RESUME (R351): whether the host drove the resume that completes, alone or beside the device port. -/
  | devportHostResume (host : Bool)
  /-- GET_DESCRIPTOR (R347). -/
  | getDescriptor (d : Descriptor)
  /-- SET_ADDRESS (R349). -/
  | setAddress (a : BitVec 7)
  /-- SET_CONFIGURATION (R349). -/
  | setConfiguration (v : Nat)
  /-- SET_INTERFACE (R349). -/
  | setInterface (i alt : Nat)
  /-- SET_FEATURE (R351). -/
  | setFeature (f : DevFeature)
  /-- GET_INFO (R348). -/
  | getInfo (wValue wIndex : BitVec 16)
  /-- GET_EXPORTS (R348). -/
  | getExports (wValue wIndex : BitVec 16)
  /-- GET_LOG (R348): records asked for in wValue. -/
  | getLog (wValue wIndex : BitVec 16)
  /-- NOTICE (R348). -/
  | notice (wValue wIndex : BitVec 16) (bytes : List Byte)
  /-- UNKNOWN_VENDOR_REQUEST (R348). -/
  | unknownVendorRequest (bmRequestType bRequest : Byte)
  /-- TUNNEL_REQUEST (R355): endpoint pair, stream and the bytes of the transfer. -/
  | tunnelRequest (pair : Fin 16) (stream : BitVec 16) (bytes : List Byte)
  /-- TUNNEL_CANCEL (R357). -/
  | tunnelCancel (pair : Fin 16) (stream : BitVec 16) (tag : Byte)
  /-- SEAT_CLOSE (R367). -/
  | seatClose (c : Chan)
  /-- SEAT_OPEN (R367): how SEATA and SEATB read. -/
  | seatOpen (c : Chan) (a b : Bool)
  /-- SEAT_DEBOUNCE_EXPIRY (R367). -/
  | seatDebounceExpiry (c : Chan)
  /-- VBUS_GOOD_REACHED (R371). -/
  | vbusGoodReached (c : Chan)
  /-- RAMP_TIMEOUT (R368): with the trip causes found in the same REF cycle (R380). -/
  | rampTimeout (c : Chan) (found : List TripCause)
  /-- HARD_SHORT (R374): with the trip causes found in the same REF cycle (R380). -/
  | hardShort (c : Chan) (found : List TripCause)
  /-- THERMAL_MODEL_UPDATE (R376). -/
  | thermalModelUpdate (c : Chan) (m : ChanSample)
  /-- SUPPLY_LOW (R366): VSUPA (0) or VSUPB (1). -/
  | supplyLow (g : Fin 2)
  /-- SUPPLY_RESTORED (R366). -/
  | supplyRestored (g : Fin 2)
  /-- ON_LIMIT_TIMEOUT (R373): with the trip causes found in the same REF cycle (R380). -/
  | onLimitTimeout (c : Chan) (found : List TripCause)
  /-- COOL_GATE_OPEN (R369). -/
  | coolGateOpen (c : Chan)
  /-- CHANNEL_ENABLE (R368): the value written to CH_CTL. -/
  | channelEnable (c : Chan) (value : Word)
  /-- CHANNEL_DISABLE (R368). -/
  | channelDisable (c : Chan) (value : Word)
  /-- CHANNEL_CLR (R368). -/
  | channelClr (c : Chan) (value : Word)
  /-- PM_REFUSERS_CLEARED (R389): the ms waited, and the master interval written to AON. -/
  | pmRefusersCleared
  /-- PM_GRACE_EXPIRY (R391): ms waited. -/
  | pmGraceExpiry (ms : Word)
  /-- FAB_CLOCK_GATE (R387). -/
  | fabClockGate
  /-- WAKE_PIN_ASSERT (R394). -/
  | wakePinAssert (o : BootOutcome) (w : WakeOutcome)
  /-- WAKE_TIMER_EXPIRY (R394). -/
  | wakeTimerExpiry (w : WakeOutcome)
  /-- WAKE_SOURCE_FIRED (R395): source bits 2–8 of Table 15-4. -/
  | wakeSourceFired (bit : Fin 9) (w : WakeOutcome)
  /-- WAKE_STEP_TIMEOUT (R396): the source that fired, and the step of Table 15-5 whose ready signal is missing. -/
  | wakeStepTimeout (bit : Fin 9) (step : Fin 8)
  /-- POWER_ON (R407). -/
  | powerOn (o : BootOutcome)
  /-- POWER_FAIL (R406). -/
  | powerFail
  /-- POWER_FAIL_RESTART (R406): the die temperature then, in °C (R446). -/
  | powerFailRestart (o : BootOutcome) (die : Int)
  /-- XTAL32K_READY (R408). -/
  | xtal32kReady
  /-- XTAL32K_TIMEOUT (R408). -/
  | xtal32kTimeout
  /-- SLOT_BACKGROUND_CHECK (R410): what the check of the other slot found. -/
  | slotBackgroundCheck (c : Image)
  /-- DIE_OVERTEMP_TRIP (R446). -/
  | dieOvertempTrip
  /-- IDENT (R438): whether the controller reads one more byte. -/
  | ident (pec : Bool)
  /-- STATUS (R438): whether the controller reads one more byte. -/
  | status (pec : Bool)
  /-- CAPACITY (R438): whether the controller reads one more byte. -/
  | capacity (pec : Bool)
  /-- THERMAL (R438): the die temperature now in 0.25 °C units. -/
  | thermal (now : BitVec 16) (pec : Bool)
  /-- CHANNELS (R438): whether the controller reads one more byte. -/
  | channels (pec : Bool)
  /-- FAULTS (R438): whether the controller reads one more byte. -/
  | faults (pec : Bool)
  /-- SMBUS_UNSUPPORTED (R438): a read of an undefined code, or another protocol. -/
  | smbusUnsupported (code : Byte) (read pec : Bool)
  /-- SMBUS_CLOCK_TIMEOUT (R438). -/
  | smbusClockTimeout
  /-- UART_RX_CHARACTER (R442). -/
  | uartRxCharacter (c : Byte)
  /-- BYPASS (R441). -/
  | bypass (code : Byte)
  /-- IDCODE (R441). -/
  | idcode
  /-- SAMPLE_PRELOAD (R441): the chain's new contents. -/
  | samplePreload (chain : List Bool)
  /-- EXTEST (R441). -/
  | extest
  /-- CLAMP (R441). -/
  | clamp
  /-- HIGHZ (R441). -/
  | highz
  /-- INSTANCE_RESET_COMMAND (R306). -/
  | instanceResetCommand (c : Packet)
  /-- PERST_DEASSERT (R409). -/
  | perstDeassert
  /-- CONFIG_SPACE_WRITE (R48). -/
  | configSpaceWrite (fn : Fn) (w : CfgSpaceWrite)
  /-- VAON_LOSS (R370). -/
  | vaonLoss
  /-- AREF_RETURN (R225): the measured deviation in 0.01 ppm. -/
  | arefReturn (dev : BitVec 16)
  /-- CELLAR_TRAINING_LOSS (R281). -/
  | cellarTrainingLoss (c : Fin 2)
  /-- POLLING_TIMEOUT (R172). -/
  | pollingTimeout (p : Port)
  /-- DEVPORT_LPM_REQUEST (R351). -/
  | devportLpmRequest (k : DevLpm)
  /-- TUNNEL_IN_SELECTION (R355). -/
  | tunnelInSelection (pair : Fin 16) (stream : BitVec 16)
  /-- STAGE_CHUNK_READ_RETURN (R338). -/
  | stageChunkReadReturn (first : Nat) (a : ReadAnswer)
  /-- LOOPBACK_DURATION_END (R360): packets that failed a check or differed from the pattern. -/
  | loopbackDurationEnd (errors : Nat)
deriving DecidableEq, Repr

end Sys2Proof
end

