-- ==== Sys2Proof/Decode.lean ====
section
/-! DEFINITION. Words that spell a command. The table of operations gives no row any bits: no word spells one. -/

namespace Sys2Proof

/-- The command that a word of the table's bits spells: none, because the table lists no bits for any row.
DEDUCED (log 10). -/
def decodeTableWord (_nbits _w : Nat) : Option Instr := none

end Sys2Proof
end

