-- ==== Sys2Proof/Config.lean ====
section
/-! DEFINITION. What the fuses of one die fix (R421 "fused") and the free values of the model: opaque constants
with no body, so that nothing can be proved about the value they take. -/

namespace Sys2Proof.Config

/-- GLB_UID_HI and GLB_UID_LO (Table 17-5, "fused"): the die's unique number. -/
opaque uid : BitVec 64
/-- DEV_ID.VID (Table 13-10, "fused"): Lemmawyn's USB vendor identifier, whose value the spec does not give. -/
opaque vid : BitVec 16
/-- SMB_ADR[1:0] as strapped on the board (R438). -/
opaque smbAdr : BitVec 2
/-- The manufacturer identity of IDCODE[11:1] (R441, "which is fused"). -/
opaque jtagManufacturer : BitVec 11
/-- DESIGN CHOICE (log 5): the value of the n-th choice or value that the spec leaves open. -/
opaque freeValue : Nat → BitVec 32
/-- DESIGN CHOICE (log 6): the hardware's evaluation of exp(−t/TAU_B) of R370, t and TAU_B in ms; the spec states
no precision, so the number stays open. -/
opaque decay : Nat → Nat → Rat
/-- DESIGN CHOICE (log 8): whether the hardware rounds a value up that lies between two units, of 0.25 °C (Table 14-7)
or of 0.5 K (R370); the spec states neither. -/
opaque roundUp : Rat → Bool
/-- DESIGN CHOICE (log 19): PMP_STG.FUNNEL of a channel with so many bytes staged; the spec does not say how long bytes
wait in the byte funnel. -/
opaque funnel : Nat → Nat → BitVec 6
/-- DESIGN CHOICE (log 20): the dwords of store rooms 0 and 1, whose layout belongs to
firmware and is not given; the third number is PM_CNT.ENTRIES, which a DEEP entry advances. -/
opaque roomWord : Nat → Nat → Nat → BitVec 32

end Sys2Proof.Config
end

