-- ==== Sys2Proof/Machine/State.lean ====
section
/-! DEFINITION. The state of the QH-8160: every register, queue, buffer, counter, mode and pin that the spec gives
the block, block by block, as plain data; the faults and refusals; the state after reset. -/

namespace Sys2Proof.Machine

/-! ### PCI Express host interface (file 02) -/

/-- The link state in and out of ASPM L1 (R32, Table 2-2). -/
inductive L1State where
  | l0 | l1 | l11 | l12
deriving DecidableEq, Repr

/-- A read that has been issued and has not been answered (R38, R55). -/
structure OutRead where
  ref : ReadRef
  fn : Nat
  addr : Nat
  len : Nat
  /-- It waits for a free tag and has not left the block (R38). -/
  waiting : Bool := false
  /-- The answer is to be discarded (R56, R83, R448). -/
  discard : Bool := false
  /-- An error on it is not recorded either (R56). -/
  silent : Bool := false
  /-- Shared pages that return to the pool when it ends (R311, Table 9-1). -/
  pages : Nat := 0
deriving DecidableEq, Repr

/-- The errors that Table 2-8 and Table 2-5 report through AER. -/
inductive AerErr where
  | completionTimeout | unsupportedRequest | completerAbort | poisoned | ecrc | unexpectedCompletion
deriving DecidableEq, Repr

/-- AER of one function: the status bits, the status of advisory non-fatal errors, the first-error pointer and the
header log (Tables 2-1, 2-5, 2-8). The header log's dwords are free values.
DESIGN CHOICE (log 111). -/
structure Aer where
  completionTimeout : Bool := false
  unsupportedRequest : Bool := false
  completerAbort : Bool := false
  poisoned : Bool := false
  ecrc : Bool := false
  unexpectedCompletion : Bool := false
  advisory : Bool := false
  first : Option AerErr := none
  header : List Word := []
deriving DecidableEq, Repr

/-- HI_LINK, HI_L1CTL, HI_HERR_* and the endpoint's link (R30–R32, R57–R60). -/
structure HostIf where
  speed : BitVec 4 := 0
  width : BitVec 4 := 0
  reversed : Bool := false
  tenBit : Bool := false
  mps : Fin 3 := 0
  mrrs : Fin 6 := 2
  l1Entries : BitVec 16 := 0
  idleUs : BitVec 16 := 0x20
  holdIso : Bool := true
  herrAddr : Addr := 0
  herrInst : BitVec 8 := 0
  herrValid : Bool := false
  herrKind : BitVec 3 := 0
  herrSource : BitVec 4 := 0
  herrEdges : BitVec 8 := 0
  linkUp : Bool := false
  l1 : L1State := .l0
  /-- The L1 PM Substates control of system software: ASPM and PCI-PM L1.1 and L1.2 (R32, Table 2-1). -/
  aspmL11 : Bool := false
  aspmL12 : Bool := false
  pciL11 : Bool := false
  pciL12 : Bool := false
  /-- The Completion Timeout Disable and ARI Capable Hierarchy of system software (Table 2-1, R33). -/
  cplTimeoutOff : Bool := false
  cplTimeout : Fin 16 := 0
  ari : Bool := false
  /-- The last LTR message reported 50 µs (R31). -/
  ltrNeed : Bool := false
  /-- PE_WAKE_N is asserted (R48). -/
  peWake : Bool := false
  reads : List OutRead := []
  /-- VF Enable and NumVFs of the physical function (R305). -/
  vfEnable : Bool := false
  numVfs : Nat := 0
  /-- Functions with a read that has timed out and may still be answered (R55). -/
  timedOut : List Nat := []
deriving DecidableEq, Repr

/-- One MSI-X vector: its table entry, pending bit, and the cause count and timer of R42. -/
structure MsixVec where
  addrLo : Word := 0
  addrHi : Word := 0
  data : Word := 0
  masked : Bool := true
  pending : Bool := false
  cnt : Nat := 0
  timer : Bool := false
deriving DecidableEq, Repr

/-- The configuration space of one function, as far as the spec gives its bits an effect (R36, R40, R43, R48, R52). -/
structure Func where
  memEnable : Bool := false
  busMaster : Bool := false
  dstate : DState := .d0
  msixEnable : Bool := false
  funcMask : Bool := false
  pmeStatus : Bool := false
  pmeEnable : Bool := false
  /-- Correctable and Non-Fatal Error Reporting Enable. -/
  corReport : Bool := false
  nfReport : Bool := false
  aer : Aer := {}
  vecs : Sparse MsixVec := []
deriving DecidableEq, Repr

/-! ### Queue engine (files 03, 04) -/

/-- QSTATE (Table 3-2). -/
inductive QState where
  | disabled | enabled | draining | stopped
deriving DecidableEq, Repr

/-- A completion: DW12–DW15 (Table 4-6). -/
structure Cpl where
  status : Nat
  errinfo : Nat := 0
  actual : Word := 0
  interval : Word := 0
  offset : Nat := 0
  /-- DW14 and DW15 are stamped when the completion is written (R124). -/
  atWrite : Bool := false
deriving DecidableEq, Repr

/-- The four dwords that a completion or a reply writes. -/
structure CplDw where
  d12 : Word
  d13 : Word
  d14 : Word
  d15 : Word
  /-- DW14 and DW15 are stamped when they are written (R124). -/
  atWrite : Bool := false
deriving DecidableEq, Repr

/-- Where a fetched entry stands. -/
inductive EntSt where
  /-- Its read is outstanding (R74). -/
  | reading
  /-- In the entry store, not attached (R77). -/
  | fetched
  /-- Attached: to its pipe, to its pump job, or as a fence; on queue 0, accepted by the command processor. -/
  | attached
  /-- Its data is written and its barrier read, of the dword at `addr`, is outstanding (R54). -/
  | barrier (c : CplDw) (addr : Nat)
  /-- Ended; its completion write is held back (R40). -/
  | ended (c : CplDw)
  /-- Its completion has been written (R78). -/
  | done
deriving DecidableEq, Repr

/-- One place of the entry store (R74). -/
structure Ent where
  idx : Word
  place : Nat
  dw : Slot
  st : EntSt
  /-- Started: first burst dispatched, or first read or write of the job issued (R83). -/
  started : Bool := false
  /-- The pipe it is attached to, and the port interval in which it was attached (R233). -/
  pipe : Option Nat := none
  att : Word := 0
deriving DecidableEq, Repr

/-- An event as raised: its header and payload (Table 3-7). -/
structure Ev where
  code : Nat
  seq : BitVec 16
  interval : Word
  pay : List Word
  /-- The cause was counted when the event was raised, for a function in D3 (R48). -/
  caused : Bool := false
deriving DecidableEq, Repr

/-- One queue (R61–R98). -/
structure Queue where
  isEvent : Bool := false
  owner : Nat := 0
  localNo : Nat := 0
  vector : Nat := 0
  log2 : Nat := 0
  burst : Nat := 16
  weight : Nat := 255
  ring : Nat := 0
  cell : Nat := 0
  st : QState := .disabled
  errCell : Bool := false
  errKind : BitVec 3 := 0
  lost : BitVec 8 := 0
  gen : BitVec 16 := 0
  fetch : Word := 0
  head : Word := 0
  pi : Word := 0
  /-- cur[q] of R75. -/
  cur : Int := 0
  /-- A doorbell merged behind the outstanding cell read (R71). -/
  merged : Bool := false
  /-- A FENCE_WAIT holds the queue (R88). -/
  fenceHold : Bool := false
  /-- Indices from HEAD to FETCH, lowest first (submission queue). -/
  ents : List Ent := []
  /-- Waiting events (R93). -/
  waiting : List Ev := []
  seq : BitVec 16 := 0
  lostSince : Word := 0
  /-- Indices that would continue a chain whose transfer has ended: each with the chain's opcode, pipe and stream, and
  what R109 and R110 complete it with. -/
  chainEnds : List (Word × (Nat × Nat × Nat) × Cpl) := []
  /-- STATE changed while the instance was quiesced and is still to be written (R40, R68). -/
  stDirty : Bool := false
  /-- After an instance reset STATE is not written until the next enable (R309). -/
  cellMute : Bool := false
  /-- Index of the QUEUE_DISABLE command whose reply waits for the drain (R84). -/
  drainCmd : Option Word := none
deriving DecidableEq, Repr

/-- The queue engine: the queues that exist, QE_DBDROP, and the fence counters at i × 64 + j (R87). -/
structure QueueEngine where
  queues : Sparse Queue := [(0, {})]
  dbdrop : Word := 0
  fences : Sparse Word := []
deriving DecidableEq, Repr

/-! ### Pipes and scheduler (file 05) -/

/-- Pipe states (Table 5-2); a CLOSED pipe has no record. -/
inductive PState where
  | idle | ready | active | parked | stopped | halted | held | closing
deriving DecidableEq, Repr

/-- KIND (Table 5-1). -/
inductive PKind where
  | control | bulk | streamEp | stream | interrupt | iso
deriving DecidableEq, Repr

/-- An entry named by its queue and index. -/
structure EntRef where
  q : Nat
  idx : Word
deriving DecidableEq, Repr

/-- The isochronous entry that a pipe serves (R113–R115, R233): intervals done and missed, the slot being served, and
whether the entry has begun, is being served, and has moved something in this interval. -/
structure IsoServ where
  begun : Bool := false
  done : Nat := 0
  missed : Nat := 0
  slot : Word := 0
  serving : Bool := false
  moved : Bool := false
deriving DecidableEq, Repr

/-- The context of an open pipe (Table 5-1), its stream context (Table 7-4), and what the hardware keeps with it. -/
structure Pipe where
  state : PState := .idle
  kind : PKind := .control
  dirIn : Bool := false
  inst : Nat := 0
  port : Port := 0
  speed : Nat := 4
  group : Nat := 0
  rdyLatch : Bool := false
  erdyPend : Bool := false
  waitErdy : Bool := false
  split : Bool := false
  addr : Nat := 1
  ep : Nat := 0
  mps : Nat := 64
  maxBurst : Nat := 0
  route : Nat := 0
  ttHub : Nat := 0
  ttPort : Nat := 0
  periodLog2 : Nat := 0
  phase : Nat := 0
  offset : Nat := 0
  admitBytes : Nat := 0
  link : Nat := 0
  streams : Nat := 0
  curStream : Nat := 0
  pages : Nat := 2
  seq : BitVec 5 := 0
  leftPkts : Nat := 0
  block : Nat := 0
  bursts : Word := 0
  nrdys : Word := 0
  rdycans : Word := 0
  lastService : Word := 0
  sstate : Nat := 0
  selects : Word := 0
  rejects : Word := 0
  lastErdy : Word := 0
  x : Option Nat := none
  ents : List EntRef := []
  errs : Nat := 0
  repeats : Nat := 0
  stage : Nat := 0
  /-- State to return to on ORIGIN_RELEASE (Table 5-2), and the origin. -/
  was : PState := .idle
  origin : Nat := 0
  /-- Bytes carried in the present interval (R145). -/
  carried : Nat := 0
  /-- Order of placement in the wheel (R143) and of opening (R180). -/
  placed : Nat := 0
  opened : Nat := 0
  /-- Admitted charge of the present interval that no burst has carried yet (R145, R146). -/
  pend : Nat := 0
  /-- The stream's head entry has completed in the present burst (R209). -/
  ended : Bool := false
  /-- Start position of a split transaction in its translator's frame, in bytes (R148). -/
  ttPos : Nat := 0
  /-- What the entries of a closing pipe complete with once its current packet has ended (R174, R217). -/
  gone : Option Cpl := none
  /-- The port interval in which a stop was accepted last (R154). -/
  stoppedAt : Option Word := none
  /-- Microframes of the frame whose complete-splits are still to come (R151, R213). -/
  splits : List Nat := []
  /-- A start-split is outstanding in the translator (R151, R214). -/
  splitOut : Bool := false
  /-- The commands whose replies wait for the pipe (R157), and whether a stop waits. -/
  cmds : List Word := []
  stopping : Bool := false
  /-- The last isochronous entry's last due slot (R233). -/
  lastIso : Option Word := none
  isv : IsoServ := {}
deriving DecidableEq, Repr

/-- What one port's share of the scheduler holds (R139–R146). -/
structure PortSched where
  /-- Ready lists by group, head first. -/
  lists : Sparse (List Nat) := []
  deficit : Sparse Int := []
  cursor : Nat := 0
  turnOpen : Bool := false
  scavenger : Nat := 0
  /-- The periodic class in bucket order (R144, R145). -/
  klass : List Nat := []
  /-- Interval rooms: half 0 OUT, half 0 IN, half 1. -/
  room : List Int := [0, 0, 0]
  /-- Periodic pending charges, in the same order. -/
  pendChg : List Int := [0, 0, 0]
  /-- Periodic pipes closed since the last tick, whose charge still counts (R148). -/
  freed : List Pipe := []
  /-- The speed of half 0 that admission still uses until the next tick (R180). -/
  oldSpeed : Option Nat := none
  /-- The first of the slots that passed while FAB was gated and have not been caught up with (R387). -/
  passed : Option Word := none
deriving DecidableEq, Repr

/-- The pipe scheduler (R132–R161). -/
structure Sched where
  pipes : Sparse Pipe := []
  ports : Sparse PortSched := []
  dec : Word := 0
  rdycan : Word := 0
  cmiss : Word := 0
  stray : Word := 0
  peak : BitVec 13 := 0
  /-- Contexts in the cache, least recently dispatched first, with "changed" (R152). -/
  cache : List (Nat × Bool) := []
  /-- Contexts in the pin overflow. -/
  overflow : List Nat := []
  /-- Contexts asked of the cellar. -/
  fills : List Nat := []
  stamp : Nat := 0
  /-- The port whose turn is next (R153). -/
  rr : Nat := 0
deriving DecidableEq, Repr

/-! ### Engines (file 07) -/

/-- A burst descriptor in an engine (R191). -/
structure Desc where
  pipe : Nat
  count : Nat
  carried : Nat := 0
  onWire : Bool := false
  /-- Charged at dispatch and charged by the tries so far (R193). -/
  charged : Nat := 0
  used : Nat := 0
  /-- The room it was charged to, and the group whose deficit paid (R140, R193). -/
  room : Nat := 0
  group : Option Nat := none
  /-- NumP of the unit's last ACK: packets that may stand unacknowledged (R198); packets sent and not acknowledged. -/
  numP : Nat := 16
  sent : Nat := 0
  /-- The translator has taken the transaction (R212); a complete-split is out; the interval of the last split. -/
  csplit : Bool := false
  csOut : Bool := false
  csAt : Word := 0
  /-- What the complete-splits of an isochronous IN transaction have brought so far (R213). -/
  part : List Byte := []
  /-- The burst has ended and FAB has not been told: a short packet, a withdrawal or a spent count. -/
  isOver : Bool := false
  withdrawn : Bool := false
  /-- In the room of an earlier interval (R193). -/
  oldRoom : Bool := false
deriving DecidableEq, Repr

/-- The engine of one half (R191, Table 7-1) and its registers (R218). -/
structure Engine where
  descs : List Desc := []
  /-- The retry store, oldest first (R196). -/
  retry : List Nat := []
  retries : BitVec 16 := 0
  xerrs : BitVec 8 := 0
  rstoreOvf : BitVec 8 := 0
  /-- A SET_ADDRESS of a UNIT_ADDRESS runs (R166): the command's index, and the address. -/
  setAddr : Option (Word × Nat) := none
  /-- It has been dispatched (R322). -/
  setSent : Bool := false
deriving DecidableEq, Repr

/-! ### Root ports (file 06) -/

/-- Port states (Table 6-3). -/
inductive HalfSt where
  | poweredOff | disconnected | disabled | resetting | enabled | suspended | resuming
deriving DecidableEq, Repr

/-- A packet on a root port's bus. -/
inductive BusPkt where
  /-- Opening ACK of an IN burst: address, endpoint, sequence number, NumP, stream (R197). -/
  | inAck (addr ep seq numP stream : Nat)
  /-- IN token (R202). -/
  | inTok (addr ep : Nat)
  /-- OUT data packet: sequence number or toggle, stream, bytes (R198, R202). -/
  | data (addr ep seq stream : Nat) (bytes : List Byte)
  /-- SETUP packet (R206). -/
  | setup (addr ep : Nat) (lo hi : Word)
  /-- STATUS stage (R206). -/
  | status (addr ep : Nat) (dirIn : Bool)
  /-- PING (R204). -/
  | ping (addr ep : Nat)
  /-- A handshake or ACK transaction packet: retry, NumP. -/
  | ack (addr ep seq numP : Nat) (retry : Bool)
  /-- Start-split and complete-split (R212, R213); a start-split names its part of an isochronous OUT payload: 0 none,
  1 all, 2 begin, 3 mid, 4 end. -/
  | startSplit (hub hubPort addr ep part : Nat)
  | completeSplit (hub hubPort addr ep : Nat)
  /-- PRE, ahead of a low-speed packet behind a full-speed hub (R202). -/
  | pre
  /-- NoStream (R210). -/
  | noStream (addr ep : Nat)
  /-- ITP with the bus interval counter and Delta, SOF with the frame number, keep-alive (R221). -/
  | itp (counter delta : Nat)
  | sof (frame : Nat)
  | keepAlive
  /-- GET_STATUS(PORT) to a hub (R268); SET_ADDRESS to address 0 over a route string or a hub port (R166). -/
  | probe (hub hubPort : Nat)
  | setAddress (addr route hubPort : Nat)
  /-- U1 and U2 inactivity timeouts, told to the unit by the link's timeout exchange (R182). -/
  | timeouts (u1 u2 : Nat)
  /-- LXU to a link power request, and LGO_U1 or LGO_U2; the LPM transaction (R182–R184). -/
  | lxu
  | lgo (u : Nat)
  | lpm (besl : Nat) (rwe : Bool)
  /-- Reset, suspend and resume signalling (R175). -/
  | busReset
  | hotReset
  | warmReset
  | suspend
  | resume
deriving DecidableEq, Repr

/-- One half of a root port: PRT_SC, PRT_LINK, PRT_WSRC, PRT_EDGE, PRT_ERRC. -/
structure HalfReg where
  st : HalfSt := .poweredOff
  ccs : Bool := false
  speed : BitVec 3 := 7
  csc : Bool := false
  pec : Bool := false
  prc : Bool := false
  plc : Bool := false
  dgc : Bool := false
  err : Bool := false
  cscE : BitVec 5 := 0
  pecE : BitVec 5 := 0
  prcE : BitVec 5 := 0
  plcE : BitVec 5 := 0
  dgcE : BitVec 5 := 0
  errE : BitVec 5 := 0
  lstate : BitVec 4 := 0
  lanes : BitVec 2 := 0
  lane1Fail : Bool := false
  u1Ent : BitVec 8 := 0
  u2Ent : BitVec 8 := 0
  recov : BitVec 8 := 0
  wHost : Bool := false
  wUnit : Bool := false
  fwake : Bool := false
  wAddr : BitVec 7 := 0
  hostE : BitVec 8 := 0
  unitE : BitVec 8 := 0
  linkErr : BitVec 16 := 0
  trainFail : BitVec 16 := 0
  /-- Failed attempts since Rx.Detect was entered (Table 6-3). -/
  tries : Nat := 0
  /-- A suspend is under way (Table 6-4); a Function Wake came with it (R179). -/
  suspending : Bool := false
  wakeWith : Bool := false
  /-- The reset in progress is a warm reset (R175). -/
  warm : Bool := false
  /-- PRT_LPM as it holds for the present idle period (R190). -/
  lpm : Word := 0
  /-- An ITP waits for U0 (R221). -/
  itpDue : Bool := false
  /-- The sources of the resume that runs (R178). -/
  rsHost : Bool := false
  rsUnit : Bool := false
  /-- Packets that wait for the link to leave U1, U2 or L1 (R182, R183). -/
  txHeld : List BusPkt := []
  /-- Reset or suspend signalling that waits for the packets on the wire to end (R175, R217). -/
  sigDue : List BusPkt := []
deriving DecidableEq, Repr

/-- One record of the sump's topology table (R266), with the instance the unit is assigned to (R292). -/
structure Unit where
  half : Half
  parent : Nat
  hubPort : Nat
  route : Nat
  isHub : Bool
  inst : Nat := 0
  /-- The speed code, and the translator that serves the unit. -/
  speed : Nat := 4
deriving DecidableEq, Repr

/-- One root port: PRT_TC, PRT_CNT, the halves, the address table and service. -/
structure PortReg where
  pp : Bool := false
  vbusOk : Bool := false
  cc1 : BitVec 2 := 0
  cc2 : BitVec 2 := 0
  /-- The CC condition being debounced (R168). -/
  ccNow1 : BitVec 2 := 0
  ccNow2 : BitVec 2 := 0
  attached : Bool := false
  flip : Bool := false
  acc : Bool := false
  tcChg : Bool := false
  vbusChg : Bool := false
  ignored : BitVec 8 := 0
  tcE : BitVec 8 := 0
  vbE : BitVec 8 := 0
  channel : Option Chan := none
  /-- PRT_CFG at the last power-on, for SS_MAX, HS_MAX and CONN (R190). -/
  cfg : Word := 0x300
  h0 : HalfReg := {}
  h1 : HalfReg := {}
  /-- Addresses in use and their topology records; addresses reserved (R166). -/
  units : Sparse Unit := []
  reserved : List Nat := []
  /-- In service; PD_PORTp powered (R185). -/
  inService : Bool := true
  powered : Bool := true
  /-- A removal that waits for the port's pipes to close (Table 6-5): its command, power-down, pipes closed by it. -/
  removing : Option (Word × Bool × Nat) := none
  e0 : Engine := {}
  e1 : Engine := {}
deriving DecidableEq, Repr

/-! ### Timebase (file 08) -/

/-- Lock states (Table 8-3). -/
inductive LockSt where
  | free | acquiring | locked | holdover
deriving DecidableEq, Repr

/-- ISO_PST, ISO_PLAG and ISO_PNUM of one port (R220, R229–R232); LAG in sixteenths of a tick. -/
structure PortTime where
  trim : Int := 0
  target : Int := 0
  mode : Nat := 0
  adjDrop : BitVec 8 := 0
  adjRx : BitVec 8 := 0
  lag16 : Nat := 0
  skew : Int := 0
  num : Word := 0
  /-- To be loaded from the master number at the next master tick (R220). -/
  load : Bool := true
  /-- Intervals since TRIM last moved (R231). -/
  since : Nat := 0
  /-- The master interval in which the port's present interval began. -/
  tickMic : Word := 0
deriving DecidableEq, Repr

/-- The bus-interval timebase (R219–R238). -/
structure Timebase where
  running : Bool := false
  mic : Word := 0
  pos : Nat := 0
  snap : Nat := 0
  lock : LockSt := .free
  /-- AREF edges arrive; their frequency is classified in range (R225). -/
  arefPresent : Bool := false
  arefIn : Bool := false
  afreq : BitVec 16 := 0
  anchValid : Bool := false
  anchN : Word := 0
  anchPh : BitVec 16 := 0
  lockChg : Bool := false
  rangeErr : Bool := false
  lockE : BitVec 8 := 0
  rangeE : BitVec 8 := 0
  losses : BitVec 8 := 0
  ports : Sparse PortTime := []
deriving DecidableEq, Repr

/-! ### Cistern and pumps (file 09) -/

/-- Page states (Table 9-1). -/
inductive PageSt where
  | empty | loading | full | draining | sent
deriving DecidableEq, Repr

/-- One page in use: its place in the job's byte stream and what has arrived (R194, R243). -/
structure Page where
  off : Nat
  len : Nat
  st : PageSt
  /-- Service interval of an ISO_OUT packet, counted from the entry's first (R113). -/
  ivl : Nat := 0
  /-- Pieces that have arrived, by offset. -/
  segs : Sparse (List Byte) := []
deriving DecidableEq, Repr

/-- A read of a job that is outstanding: its number, stream offset and length, or its run of a block (R253). -/
structure JobRead where
  num : Nat
  off : Nat
  len : Nat
  addr : Nat
  /-- Planar run: channel or plane number; `off` is then the offset in the run. -/
  run : Option Nat := none
deriving DecidableEq, Repr

/-- TYPE of PMP_JOB. -/
inductive JobType where
  | inp | out | copy
deriving DecidableEq, Repr

/-- An active transfer (R138) with its pump job (R245), at its place 0–4,095. -/
structure Xfer where
  type : JobType
  inst : Nat
  q : Nat
  pipe : Option Nat
  /-- Index of the entry that the job now serves. -/
  idx : Word
  /-- Opcode, pipe and stream of the transfer (R108). -/
  sig : Nat × Nat × Nat := (8, 0, 0)
  urg : Bool
  /-- Whether the job serves an isochronous pipe. -/
  iso : Bool := false
  port : Port := 0
  /-- Shared pages held (R241); pages in use, in packet order. -/
  shared : Nat := 0
  pages : List Page := []
  /-- Bytes of the transfer's chain before the present entry. -/
  base : Nat := 0
  /-- The entry of an OUT chain that its job loads, and the bytes of the chain before it (R245). -/
  jidx : Word := 0
  jbase : Nat := 0
  /-- The first entry of a chain that ended with an acknowledged halt before its turn (R109, R260). -/
  brk : Option Word := none
  /-- The transfer has ended but for the barrier read of its last entry, which keeps its place (R54, R239). -/
  bar : Bool := false
  /-- Dword of the last byte of the present entry's last data write (R54). -/
  lastW : Option Nat := none
  /-- Ends of received or acknowledged packets not yet passed to a completed entry, with their stamps (R124). -/
  marks : List (Nat × Word × Nat) := []
  /-- Bytes accepted from the bus or issued as reads; written or loaded; acknowledged. -/
  inPos : Nat := 0
  wrPos : Nat := 0
  ackPos : Nat := 0
  reads : List JobRead := []
  /-- The block being read (R253): stream position at its first read, units, next run and offset in it, and what has
  arrived, keyed by run × 65,536 + offset. -/
  rdPos : Nat := 0
  rdN : Nat := 0
  rdRun : Nat := 0
  rdOff : Nat := 0
  runs : Sparse (List Byte) := []
  /-- The block being written: units, and writes of it handed over. -/
  wrN : Nat := 0
  wrDone : Nat := 0
  /-- Error latched without a channel (R256): address, kind, after zero. -/
  latched : Option (Nat × Nat × Bool) := none
  /-- The channel the job is bound to; bytes moved since it was bound. -/
  chan : Option Nat := none
  moved : Nat := 0
  /-- The bus side has ended, with this status (R105, R109). -/
  ending : Option Cpl := none
  /-- The interval and offset of the last bus packet, or of the first for isochronous entries (R124). -/
  stampN : Word := 0
  stampO : Nat := 0
  stamped : Bool := false
  /-- ERRINFO of an OVERRUN (Table 4-8); the burst got fewer pages than the interval admits. -/
  overrun : Nat := 0
  starved : Bool := false
  /-- Loading of ISO_OUT packets: rate accumulator, interval being loaded, bytes of it left (R113), and the intervals
  whose cut is 0 bytes. -/
  ldAcc : Word := 0
  ldIvl : Nat := 0
  ldLeft : Nat := 0
  zeros : List Nat := []
  /-- A tunnel request that is cancelled or abandoned: it ends after the packet on the wire (R356, R357). -/
  cut : Bool := false
deriving DecidableEq, Repr

/-- Pump channel states (Table 9-2). -/
inductive PumpSt where
  | idle | run | pausing | paused | halted | off
deriving DecidableEq, Repr

/-- One pump channel's registers (Tables 9-6 to 9-12). -/
structure PumpReg where
  st : PumpSt := .idle
  pause : Bool := false
  preempted : Bool := false
  errAfterZero : Bool := false
  kind : BitVec 3 := 0
  halts : BitVec 8 := 0
  job : Option Nat := none
  /-- SLICE_KB as it stood when the job was bound (R23, R246, Table 12-7). -/
  slice : Nat := 16
  /-- Bytes of the write being assembled that are in the staging buffer. -/
  staged : Nat := 0
  errAddr : Addr := 0
  moved : Word := 0
  /-- A removal waits for PAUSED (Table 9-2): the command's index. -/
  removing : Option Word := none
deriving DecidableEq, Repr

/-- A waiting request for shared pages (R241). -/
structure PageReq where
  place : Nat
  pages : Nat
  /-- The master number and tick of its arrival, and its rank among those that arrive at once (R241). -/
  mic : Word := 0
  pos : Nat := 0
  rank : Nat := 0
deriving DecidableEq, Repr

/-- The cistern and the pumps. -/
structure Cistern where
  xfers : Sparse Xfer := []
  sharedFree : Nat := 8192
  low : Nat := 8192
  deny : Word := 0
  preempt : Word := 0
  pumps : Sparse PumpReg := []
  high : List Nat := []
  norm : List Nat := []
  reqs : List PageReq := []
  /-- Number of the next pump read. -/
  readSeq : Nat := 0
  /-- Round-robin pointers of the outbound path and of the reads (R248, R249). -/
  rrHigh : Nat := 0
  rrNorm : Nat := 0
  rrRead : Nat := 0
  /-- PUMP_COPY entries that wait for a place (R239). -/
  copyWait : List EntRef := []
deriving DecidableEq, Repr

/-! ### Sump and memory errors (file 10) -/

/-- Origin modes (Table 10-2). -/
inductive OMode where
  | free | held | closed
deriving DecidableEq, Repr

/-- One entry of the origin table (Table 10-12). -/
structure Origin where
  mode : OMode := .free
  kind : Nat := 0
  port : Port := 0
  half : Half := 0
  addr : Nat := 0
  hubPort : Nat := 0
  route : Nat := 0
  firstSt : Nat := 0
  firstEi : Nat := 0
  echo : Nat := 0
  held : Nat := 0
  /-- The sweep of R270 runs. -/
  sweeping : Bool := false
  /-- Instances that had a pipe held or closed since it was recorded, with their counts (R287). -/
  insts : Sparse Nat := []
deriving DecidableEq, Repr

/-- A report of a bus error (Table 10-1). -/
structure Report where
  pipe : Nat
  port : Port
  half : Half
  addr : Nat
  status : Nat
  errinfo : Nat
  /-- The pipe's instance has been reset since: the report is judged for the others only (R311). -/
  stale : Bool := false
deriving DecidableEq, Repr

/-- A walk of one port half (R267). -/
structure Walk where
  report : Report
  /-- Hubs on the path still to probe, with the hub port toward the unit. -/
  path : List (Nat × Nat)
  /-- Subtree of this tier-1 address is suspect (R269). -/
  tier1 : Nat
  probing : Bool := false
deriving DecidableEq, Repr

/-- A fault-log record (Table 10-5). -/
structure LogRec where
  kind : Nat
  seq : Word
  interval : Word
  pay : List Word
deriving DecidableEq, Repr

/-- The sump and the fault registers. -/
structure Sump where
  origins : Sparse Origin := []
  walks : Sparse Walk := []
  intake : List Report := []
  overflow : Bool := false
  memUe : Bool := false
  ovfE : BitVec 8 := 0
  ueE : BitVec 8 := 0
  ceThresh : BitVec 16 := 0x64
  ueMax : BitVec 8 := 0x10
  accAddr : BitVec 24 := 0
  accBlock : BitVec 8 := 0
  accInst : BitVec 8 := 0
  accWrite : Bool := false
  accSource : BitVec 2 := 0
  accValid : Bool := false
  accCount : BitVec 8 := 0
  cisCe : BitVec 16 := 0
  cisUe : BitVec 16 := 0
  chipCe : BitVec 16 := 0
  chipUe : BitVec 16 := 0
  cel0Ce : BitVec 16 := 0
  cel0Ue : BitVec 16 := 0
  cel1Ce : BitVec 16 := 0
  cel1Ue : BitVec 16 := 0
  cisRet : BitVec 14 := 0
  /-- Master intervals of the errors of the last second: at 2 + c the correctable ones of cellar channel c (R278), at
  4 + c the uncorrectable ones (R281). -/
  ceTimes : Sparse (List Word) := []
  logSeq : Word := 0
  logCap : Word := 0
  log : List LogRec := []
deriving DecidableEq, Repr


/-! ### Instances and mailboxes (file 11) -/

/-- Instance states (Table 11-4). -/
inductive InstSt where
  | absent | active | quiesced | resetting
deriving DecidableEq, Repr

/-- One instance: its state, reset record, mailbox doorbells and panes (R300–R315). -/
structure Inst where
  st : InstSt := .absent
  t2m : Bool := false
  m2t : Bool := false
  rstDone : Bool := false
  t2mE : BitVec 8 := 0
  m2tE : BitVec 8 := 0
  rstE : BitVec 8 := 0
  drops : BitVec 8 := 0
  resets : BitVec 16 := 0
  cause : BitVec 4 := 0
  lastUs : BitVec 11 := 0
  /-- The reset that runs: cause, merged with another, commands that wait, entries removed (R306, R311). -/
  runCause : Nat := 0
  merged : Bool := false
  rstCmds : List Word := []
  entsRemoved : Nat := 0
  /-- Removal follows the reset (R310); it has begun. -/
  remove : Bool := false
  removing : Bool := false
  paneT2m : Sparse Byte := []
  paneM2t : Sparse Byte := []
deriving DecidableEq, Repr

/-! ### Configuration sets (R327–R330) -/

/-- The active set and the attic, keyed by BAR0 offset; an offset not listed holds its reset value. -/
structure CfgSets where
  active : Sparse Word := []
  attic : Sparse Word := []
deriving DecidableEq, Repr

/-! ### Cellar, command processor, firmware, boot (files 12, 16, 17) -/

/-- CEL_ST of one cellar channel (Table 17-8). -/
structure CelReg where
  inSvc : Bool := false
  selfRefresh : Bool := false
  phase : BitVec 4 := 0
  retrains : BitVec 8 := 0
  mr4 : BitVec 5 := 0
deriving DecidableEq, Repr

/-- The global registers that are not functions of others (R423), and the cellar. -/
structure Glb where
  scratch : Word := 0
  capChg : Bool := false
  capE : BitVec 8 := 0
  c0 : CelReg := {}
  c1 : CelReg := {}
  sizeGib : BitVec 4 := 0
  celRate : BitVec 16 := 0
deriving DecidableEq, Repr

/-- CMD_STAT and CFG_GEN (Table 12-14). -/
structure CmdProc where
  paused : Bool := false
  refused : BitVec 16 := 0
  gen : BitVec 16 := 0
  dirty : Bool := false
  /-- The CFG_SWAP that waits for its commit; the index of its command, if its reply is still due. -/
  pendSwap : Bool := false
  swapCmd : Option Word := none
  /-- The master interval in which it was accepted: it commits at a later tick (R330). -/
  swapMic : Word := 0
deriving DecidableEq, Repr

/-- Step 7 of an activation, which runs in the background (Table 12-11): the slot, its image, and COMMIT. -/
structure BootUpdate where
  slotB : Bool
  ver : BitVec 24
  rb : Nat
  commit : Bool
deriving DecidableEq, Repr

/-- Staging, activation, FW_STAT and FW_VER, with what flash and OTP hold (R337–R343, R410). -/
structure Firmware where
  runB : Bool := false
  aValid : Bool := false
  bValid : Bool := false
  staging : Bool := false
  activating : Bool := false
  otp : Nat := 0
  fallbacks : BitVec 8 := 0
  ver : BitVec 24 := 0
  /-- Version and rollback level of the image checked in each slot. -/
  verA : BitVec 24 := 0
  verB : BitVec 24 := 0
  rbA : Nat := 0
  rbB : Nat := 0
  /-- Staging: the slot, bytes programmed, and the chunk that is being read or programmed. -/
  stageB : Bool := false
  staged : Nat := 0
  chunk : Option Word := none
  chunkRead : Bool := false
  chunkLen : Nat := 0
  chunkLast : Bool := false
  /-- The first 256 bytes of what is being staged: the image's header (Table 12-10). -/
  header : List Byte := []
  /-- Slot of the next staging in recovery (R411). -/
  recNextB : Bool := false
  /-- Activation: command, COMMIT, and whether its step 7 is to follow (R342). -/
  actCmd : Option Word := none
  actCommit : Bool := false
  actRecord : Bool := false
  /-- The steps 7 that are still to be done, oldest first. -/
  updates : List BootUpdate := []
  /-- The boot record in flash (Table 16-4). -/
  recSeq : Word := 0
  recSlotB : Bool := false
  /-- Slots in flash whose staging began and has not passed (R338, R416). -/
  partA : Bool := false
  partB : Bool := false
  /-- Fault-log records held through the pause, at most 256, and how many more were raised (R341); the payloads of the
  DEVPORT_RESET events that wait for its end (R350). -/
  logHeld : List LogRec := []
  logAbsent : Nat := 0
  devHeld : List (List Word) := []
deriving DecidableEq, Repr

/-- BOOT_* registers, the AON clock, and the requests that wait for step 12 (R408–R417). -/
structure Boot where
  fwReady : Bool := false
  recovery : Bool := false
  fallback : Bool := false
  rcOnly : Bool := false
  cause : BitVec 3 := 0
  bootMs : BitVec 16 := 0
  failPorts : BitVec 8 := 0
  failLane1 : BitVec 8 := 0
  failCellar : BitVec 2 := 0
  slotA : Bool := false
  slotB : Bool := false
  rooms : BitVec 8 := 0
  pfail : BitVec 64 := 0
  ways : BitVec 16 := 0
  entries : BitVec 16 := 0
  /-- A restart waits until the die reads 95 °C or less (R446). -/
  hot : Bool := false
  /-- Step 6 has been reached: PCI Express and PD_FAB are up. -/
  up : Bool := false
  /-- A power fail has happened and its restart is awaited (R406). -/
  failed : Bool := false
  /-- AON counts crystal cycles (R408); it runs from the crystal. -/
  xtalWait : Bool := false
  onXtal : Bool := false
  /-- PERST# is asserted (log 9). -/
  perst : Bool := true
  /-- A function-level reset of the physical function is held (R342, R416). -/
  flrHeld : Bool := false
  /-- The check of the other slot is still due (R410). -/
  otherCheck : Bool := false
  /-- What step 11 finds, kept while a recovery waits for its image (R411). -/
  bringPorts : BitVec 8 := 0
  bringLane1 : BitVec 8 := 0
  bringPumps : BitVec 64 := 0
deriving DecidableEq, Repr

/-! ### Device port and tunnel (file 13) -/

/-- Device port states (Table 13-4). -/
inductive DevSt where
  | off | detached | default | address | configured | suspended
deriving DecidableEq, Repr

/-- A tunnel request that has not been answered (R353–R357). -/
structure TunReq where
  pair : Nat
  stream : Nat
  /-- Index in the tunnel's queue; none for a request that ended without an entry. -/
  idx : Option Word
  dw0 : Word
  len : Nat
  setup0 : Word
  setup1 : Word
  /-- OUT data not yet in a cistern page. -/
  feed : List Byte := []
  /-- What the trailer's DW1–DW4 carry, once the request has ended. -/
  ended : Option CplDw := none
deriving DecidableEq, Repr

/-- DEV_* registers and the tunnel engine. -/
structure DevPort where
  en : Bool := false
  tunnel : Bool := false
  ssOff : Bool := false
  looping : Bool := false
  xinst : BitVec 8 := 0
  st : DevSt := .off
  /-- State before the suspend. -/
  was : DevSt := .off
  conn : Option DevSpeed := none
  addr : BitVec 7 := 0
  config : BitVec 8 := 0
  alt1 : Bool := false
  lstate : BitVec 3 := 0
  vbus : Bool := false
  rwe : Bool := false
  wsrcHost : Bool := false
  wsrcDev : Bool := false
  /-- A remote wake that the port has started and no resume has completed yet (R351). -/
  waking : Bool := false
  rstChg : Bool := false
  stChg : Bool := false
  rstE : BitVec 8 := 0
  stE : BitVec 8 := 0
  u1Acc : Bool := true
  u2Acc : Bool := true
  l1Acc : Bool := true
  besl : BitVec 4 := 4
  resets : BitVec 16 := 0
  abandoned : BitVec 16 := 0
  /-- The tunnel's entries, as one queue of XINST (R355). -/
  tq : Queue := { localNo := 64, st := .enabled, log2 := 9 }
  reqs : List TunReq := []
  /-- IN streams under way, IN streams answered NRDY, and OUT streams answered NRDY (R355). -/
  flowing : List (Nat × Nat) := []
  inNrdy : List (Nat × Nat) := []
  outNrdy : List (Nat × Nat) := []
  /-- The loopback test that runs: its command, port and the address used (R360). -/
  loopCmd : Option (Word × Nat × Nat) := none
  /-- Bytes of the test's packets, in both directions. -/
  loopBytes : Nat := 0
deriving DecidableEq, Repr

/-! ### Power channels (file 14) -/

/-- Channel states (Table 14-2). -/
inductive ChanSt where
  | off | unseated | debounce | armed | ramp | on | cooling | lockout
deriving DecidableEq, Repr

/-- One power channel. Times are counted in samples of 100 µs. -/
structure ChanReg where
  en : Bool := false
  st : ChanSt := .off
  seatA : Bool := false
  seatB : Bool := false
  limiting : Bool := false
  cause : BitVec 3 := 0
  trip : Bool := false
  lock : Bool := false
  vgChg : Bool := false
  senseErr : Bool := false
  tripE : BitVec 8 := 0
  lockE : BitVec 8 := 0
  vgE : BitVec 8 := 0
  senseE : BitVec 8 := 0
  count : Nat := 0
  bound : Bool := false
  hubBound : Bool := false
  port : Port := 0
  hubAddr : BitVec 7 := 0
  hubPort : BitVec 8 := 0
  iout : BitVec 16 := 0
  vout : BitVec 16 := 0
  tEst : BitVec 11 := 0x0F0
  tMeas : BitVec 11 := 0
  offLeft : Nat := 10000
  seatLeft : Nat := 0
  /-- What is left of RAMP_MS from the entry to RAMP (R371), and from when limiting in ON with VSRC below 4.4 V began
  (R373). -/
  rampLeft : Nat := 0
  limLeft : Nat := 0
  shorts : BitVec 8 := 0
  thermal : BitVec 8 := 0
  lowVbus : BitVec 8 := 0
  supply : BitVec 8 := 0
  /-- The thermal model of R376: junction over copper, copper over ambient, in kelvin. -/
  dj : Rat := 0
  db : Rat := 0
  /-- The sensor reads out of range (R377); its last valid reading in 0.25 °C. -/
  senseFault : Bool := false
  tNow : Int := 0
  /-- The configuration registers in force since the last ramp (R380, Table 12-7). -/
  cfg : Word := 0xA83278
  retry : Word := 0x3E80A
  tcfg : Word := 0x3C5096
  tmod0 : Word := 0xD6B3214
  tmod1 : Word := 0x4E20190
  hw : Word := 0x64
deriving DecidableEq, Repr

/-- The sixteen channels and the group supplies below 4.5 V. -/
structure Chans where
  regs : Sparse ChanReg := []
  lowA : Bool := false
  lowB : Bool := false
deriving DecidableEq, Repr

/-! ### Power management and always-on logic (file 15) -/

/-- Power states (Table 15-1). -/
inductive PmSt where
  | run | idle | sleep | deep | off
deriving DecidableEq, Repr

/-- A PM_ENTER for SLEEP, DEEP or OFF. -/
structure PmReq where
  target : PmSt
  seq : BitVec 8
  rooms : BitVec 8
  selfRefresh : Bool
  mask : BitVec 9
  /-- PM_PERM when the request began (Table 12-7). -/
  perm : Word := 0
deriving DecidableEq, Repr

/-- PM_REF_ID[k] and PM_REF_CNT[k], and the order of the last charge (R392). -/
structure RefEnt where
  cls : Nat := 0
  index : Nat := 0
  count : Nat := 0
  lastSeq : BitVec 8 := 0
  stamp : Nat := 0
deriving DecidableEq, Repr

/-- A cool-down record of AON (R370): OFF_LEFT in ms, and the rise in 0.5 K. -/
structure CoolRec where
  offMs : Nat := 0
  rise : Nat := 0
deriving DecidableEq, Repr

/-- What firmware keeps in store room 0 (R398). -/
structure Room0 where
  cfg : CfgSets
  gen : BitVec 16
  dirty : Bool
  binds : List (Nat × Bool × Port × BitVec 7 × BitVec 8)
  pp : List Nat
  cnt : BitVec 8 × BitVec 8 × BitVec 8 × BitVec 8
  refs : Sparse RefEnt
  refStamp : Nat
deriving DecidableEq, Repr

/-- What firmware keeps in store room 1 (R398). -/
structure Room1 where
  queues : Sparse Queue
  fences : Sparse Word
  vecs : Sparse MsixVec
deriving DecidableEq, Repr

/-- PM_* registers, the entry that runs, and what PD_AON and PD_STORE hold. -/
structure Pm where
  st : PmSt := .run
  /-- State before the entry, to which a wake from SLEEP returns. -/
  was : PmSt := .run
  /-- Master interval number at the last change of state. -/
  since : Word := 0
  /-- The FAB clock is gated (R387). -/
  gated : Bool := false
  entry : Option PmReq := none
  pend : Option PmReq := none
  seq : BitVec 8 := 0
  wfail : Bool := false
  wfailStep : BitVec 3 := 0
  armed : BitVec 9 := 0
  fired : BitVec 9 := 0
  wtimer : Word := 0
  entries : BitVec 8 := 0
  refusals : BitVec 8 := 0
  aborts : BitVec 8 := 0
  wfailE : BitVec 8 := 0
  gates : Word := 0
  rsel : Fin 8 := 0
  refs : Sparse RefEnt := []
  refStamp : Nat := 0
  /-- Always-on: PM_SCR, the cool-down records, the master interval number of R397. -/
  scr : Sparse Word := []
  cool : Sparse CoolRec := []
  mic : Option Word := none
  /-- Store rooms 2–7 by room × 131,072 + offset; rooms 0 and 1; rooms kept and self-refresh in DEEP. -/
  rooms : Sparse Byte := []
  room0 : Option Room0 := none
  room1 : Option Room1 := none
  kept : BitVec 8 := 0
  srKept : Bool := false
  /-- Events raised in SLEEP, delivered after the wake (R394, R402). -/
  held : List (Nat × Nat × List Word) := []
  /-- What DEEP keeps in the cellar in self-refresh: the fault log (R286, R399). -/
  keptLog : Option (List LogRec × Word × Word) := none
  /-- PE_WAKE_N asserted by AON (R401). -/
  aonWake : Bool := false
deriving DecidableEq, Repr

/-! ### Management interfaces (file 18) -/

/-- JTAG instructions (R441). -/
inductive JtagInstr where
  | bypass | idcode | sample | extest | clamp | highz
deriving DecidableEq, Repr

/-- JTAG, and the die sensor (R438, R441, R446). -/
structure Mgmt where
  ir : JtagInstr := .idcode
  chain : List Bool := []
  /-- Gates held off until the next power-on (R441). -/
  gatesHeld : Bool := false
  /-- Highest die temperature since power-on, signed 0.25 °C. -/
  tHigh : BitVec 16 := 0x8000
deriving DecidableEq, Repr

/-- The power domains that can be switched off, with their clamps (Table 15-6, R400). -/
inductive Domain where
  | fab | hk | pcie | dev | chan | iso | mgt | pmu
  | cel (c : Nat)
  | port (p : Nat)
  | store (r : Nat)
deriving DecidableEq, Repr

/-! ### What the block emits -/

/-- What leaves the block, oldest first in `State.out` (log 2). -/
inductive Out where
  /-- A posted write of bytes, and of dwords, for a function (R37, R53). -/
  | write (fn addr : Nat) (bytes : List Byte)
  | writeDw (fn addr : Nat) (dws : List Word)
  /-- A read; `len` 0 is the barrier read (R54). -/
  | read (fn addr len : Nat)
  | msix (fn v : Nat) (addrLo addrHi data : Word)
  /-- Completions to the host: of a register read, and Unsupported Request (R36). -/
  | readData (v : Word)
  | unsupported (fn : Nat)
  /-- Completion of a mailbox-pane read (R36, Table 2-5). -/
  | readBytes (bytes : List Byte)
  /-- ERR_COR (false) and ERR_NONFATAL (true) messages of AER (R55). -/
  | errMsg (fn : Nat) (nonFatal : Bool)
  | pmPme (fn : Nat)
  | peWake (on : Bool)
  | ltr (need : Bool)
  | l1Request
  | bus (p : Nat) (h : Nat) (pkt : BusPkt)
  /-- Gate of a power channel, and Rp of a Type-C port (R168, R171, R368). -/
  | gate (c : Nat) (on : Bool)
  /-- How the gate is driven: regulated to a current in mA and a slew in mV/ms (R371), fully (R373), and pulled down
  fast (R374). -/
  | gateRamp (c : Nat) (mA mVperMs : Nat)
  | gateFull (c : Nat)
  | gateFast (c : Nat)
  | rp (p : Nat) (on : Bool)
  /-- Device port: data to the upstream host, a control answer, STALL, remote wake (files 13). -/
  | devData (ep stream : Nat) (bytes : List Byte)
  | devControl (bytes : List Byte)
  | devStall
  | devNrdy (dirIn : Bool) (ep stream : Nat)
  | devErdy (dirIn : Bool) (ep stream : Nat)
  | devNak
  /-- Packets of PRBS-31 data of the loopback test on a half of a root port (R360), and the bytes of each. -/
  | loopback (p h : Nat) (dirIn : Bool) (packets bytes : Nat)
  /-- A descriptor with the values of Table 13-2 in the order of its row (log 17). -/
  | devDescriptor (d : Descriptor) (values : List Nat)
  /-- Remote wake: U3 exit with the Function Wake notification that names the interface, or resume K at USB 2.0
  (R351). -/
  | devWake (iface : Nat)
  | devLpmReply (accept : Bool)
  | devAttach (on : Bool)
  /-- SMBus block, not acknowledged, bus released (R438); UART text; JTAG (R441). -/
  | smbus (bytes : List Byte)
  | smbusNack
  | smbusRelease
  | uart (bytes : List Byte)
  | tdo (bits : List Bool)
  | pins (mode : Nat)
  /-- Power sequencing pins (files 15, 16). -/
  | pin (name : String) (on : Bool)
  /-- A domain's switch, and its isolation clamps (R400, Table 15-3). -/
  | power (d : Domain) (on : Bool)
  | clamp (d : Domain) (on : Bool)
  /-- A write to flash, OTP or the boot record (R338, R339). -/
  | flash (what : Nat) (v : Nat)
deriving DecidableEq, Repr

/-! ### The whole state -/

/-- The state of the QH-8160. `pending` is the queue of commands that wait, first in, first out; `out` is what the
block has emitted (log 2); `free` counts the free values taken (log 5). -/
structure State where
  /-- Ordering code L or LT (R2, R3). -/
  isL : Bool := false
  host : HostIf := {}
  funcs : Sparse Func := []
  qe : QueueEngine := {}
  sched : Sched := {}
  ports : Sparse PortReg := []
  iso : Timebase := {}
  cis : Cistern := {}
  sump : Sump := {}
  cfg : CfgSets := {}
  insts : Sparse Inst := []
  glb : Glb := {}
  cmd : CmdProc := {}
  fw : Firmware := {}
  boot : Boot := {}
  dev : DevPort := {}
  chans : Chans := {}
  pm : Pm := {}
  mgmt : Mgmt := {}
  pending : List Instr := []
  out : List Out := []
  free : Nat := 0
deriving DecidableEq, Repr

/-- Why the machine stops: it never does, since the spec gives the block no command that stops it, and a command whose
event has no cause in the state changes nothing (log 3). -/
inductive Fault
deriving DecidableEq, Repr

/-- Why a command has no meaning. -/
inductive Refusal where
  /-- Raised by an arm of `exec` whose command has no meaning yet. Safe. -/
  | notModelled (mnemonic : String)
deriving DecidableEq, Repr

/-- The block right after reset, before the power-on sequence of Table 16-2 has run (log 4). -/
def State.reset : State := {}

end Sys2Proof.Machine
end

