-- ==== Sys2Proof/Machine/Ops.lean ====
section
/-! DEFINITION. The named operations that the meanings share: finite maps and memory, bit fields, the posted path
and the reads, MSI-X causes, events, the fault log, the configuration sets, completions and HEAD. -/

namespace Sys2Proof.Machine

open Sys2Proof

/-- The outcome of a meaning. -/
abbrev Res := Host.Outcome State Fault Refusal

/-- An event whose subject does not exist in the state finds nothing to act on. DESIGN CHOICE (log 3). -/
def noSuch (s : State) : Res := .next s

/-- The state `t` where the command's event can arise; else nothing changes. DESIGN CHOICE (log 3). -/
def when (s : State) (can : Bool) (t : State) : Res := .next (if can then t else s)

/-! ### Finite maps -/

/-- The value at a key. -/
def find {α : Type} : Sparse α → Nat → Option α
  | [], _ => none
  | (k, v) :: m, a => if k = a then some v else find m a

/-- The map with a key set, keys kept in rising order. -/
def insert {α : Type} : Sparse α → Nat → α → Sparse α
  | [], a, x => [(a, x)]
  | (k, v) :: m, a, x =>
    if a < k then (a, x) :: (k, v) :: m else if a = k then (a, x) :: m else (k, v) :: insert m a x

/-- The map without a key. -/
def erase {α : Type} : Sparse α → Nat → Sparse α
  | [], _ => []
  | (k, v) :: m, a => if k = a then erase m a else (k, v) :: erase m a

/-- The value at a key, or the default of an unlisted key. DEDUCED (log 16); DESIGN CHOICE (log 23). -/
def getD {α : Type} (d : α) (m : Sparse α) (a : Nat) : α := (find m a).getD d

/-- Sets a key; the default value is not listed. DEDUCED (log 16). -/
def setD {α : Type} [DecidableEq α] (d : α) (m : Sparse α) (a : Nat) (x : α) : Sparse α :=
  if x = d then erase m a else insert m a x

/-- The canonical form of a map: keys strictly rising. -/
abbrev Sorted {α : Type} (m : Sparse α) : Prop := m.Pairwise (fun x y => x.1 < y.1)

/-- The canonical form of a map with a default: keys rising, and no entry that equals the default. -/
abbrev Canon {α : Type} (d : α) (m : Sparse α) : Prop := Sorted m ∧ ∀ x ∈ m, x.2 ≠ d

/-- The canonical form of byte memory (mailbox panes, store rooms): an unlisted byte reads 0. -/
abbrev Memory.wf (m : Sparse Byte) : Prop := Canon 0 m

/-- Writes consecutive bytes into a byte memory. -/
def writeBytes (m : Sparse Byte) (a : Nat) : List Byte → Sparse Byte
  | [] => m
  | b :: bs => writeBytes (setD 0 m a b) (a + 1) bs

/-! ### Bit fields -/

/-- The field of `n` bits at `lo`. -/
def fld (w : Word) (lo n : Nat) : Nat := (w.toNat >>> lo) % 2 ^ n

/-- Bit `k` of a word. -/
def tst (w : Word) (k : Nat) : Bool := w.getLsbD k

/-- A word built from fields (value, lowest bit). -/
def pack : List (Nat × Nat) → Word
  | [] => 0
  | (v, lo) :: fs => BitVec.ofNat 32 (v <<< lo) ||| pack fs

/-- A Bool as a field value. -/
def b1 (b : Bool) : Nat := if b then 1 else 0

/-- A Nat as a word. -/
def wd (n : Nat) : Word := BitVec.ofNat 32 n

/-- Little-endian bytes of a word (R9). -/
def wordBytes (w : Word) : List Byte :=
  [w.extractLsb' 0 8, w.extractLsb' 8 8, w.extractLsb' 16 8, w.extractLsb' 24 8]

/-- The code of an error kind (Table 2-15). -/
def kindCode : ErrKind → Nat
  | .timeout => 0 | .unsupported => 1 | .abort => 2 | .poisoned => 3 | .ecrc => 4

/-- The unsigned difference of two free-running indices (R67). -/
def idiff (a b : Word) : Nat := (a - b).toNat

/-! ### Free values -/

/-- The next free value (log 5), and the state that has taken it. -/
def takeFree (s : State) : BitVec 32 × State := (Config.freeValue s.free, { s with free := s.free + 1 })

/-! ### Access to the parts of the state -/

def fn (s : State) (i : Nat) : Func := getD {} s.funcs i
def setFn (i : Nat) (f : Func) (s : State) : State := { s with funcs := setD {} s.funcs i f }
def modFn (i : Nat) (g : Func → Func) (s : State) : State := setFn i (g (fn s i)) s
def vec (s : State) (i v : Nat) : MsixVec := getD {} (fn s i).vecs v
def setVec (i v : Nat) (x : MsixVec) (s : State) : State :=
  modFn i (fun f => { f with vecs := setD {} f.vecs v x }) s
def inst (s : State) (i : Nat) : Inst := getD {} s.insts i
def setInst (i : Nat) (x : Inst) (s : State) : State := { s with insts := setD {} s.insts i x }
def modInst (i : Nat) (g : Inst → Inst) (s : State) : State := setInst i (g (inst s i)) s
/-- A queue by its global number; 4,096 names the tunnel engine's entries, which count as one queue (R355). -/
def queue (s : State) (q : Nat) : Option Queue := if q = 4096 then some s.dev.tq else find s.qe.queues q
def setQueue (q : Nat) (x : Queue) (s : State) : State :=
  if q = 4096 then { s with dev := { s.dev with tq := x } }
  else { s with qe := { s.qe with queues := insert s.qe.queues q x } }
def modQueue (q : Nat) (g : Queue → Queue) (s : State) : State :=
  match queue s q with
  | some x => setQueue q (g x) s
  | none => s
def delQueue (q : Nat) (s : State) : State := { s with qe := { s.qe with queues := erase s.qe.queues q } }
def pipe (s : State) (n : Nat) : Option Pipe := find s.sched.pipes n
def setPipe (n : Nat) (x : Pipe) (s : State) : State :=
  { s with sched := { s.sched with pipes := insert s.sched.pipes n x } }
def modPipe (n : Nat) (g : Pipe → Pipe) (s : State) : State :=
  match pipe s n with
  | some x => setPipe n (g x) s
  | none => s
def delPipe (n : Nat) (s : State) : State :=
  { s with sched := { s.sched with pipes := erase s.sched.pipes n } }
def psched (s : State) (p : Nat) : PortSched := getD {} s.sched.ports p
def setPsched (p : Nat) (x : PortSched) (s : State) : State :=
  { s with sched := { s.sched with ports := setD {} s.sched.ports p x } }
def modPsched (p : Nat) (g : PortSched → PortSched) (s : State) : State := setPsched p (g (psched s p)) s
def port (s : State) (p : Nat) : PortReg := getD {} s.ports p
def setPort (p : Nat) (x : PortReg) (s : State) : State := { s with ports := setD {} s.ports p x }
def modPort (p : Nat) (g : PortReg → PortReg) (s : State) : State := setPort p (g (port s p)) s
def halfReg (s : State) (p h : Nat) : HalfReg := if h = 0 then (port s p).h0 else (port s p).h1
def modHalf (p h : Nat) (g : HalfReg → HalfReg) (s : State) : State :=
  modPort p (fun x => if h = 0 then { x with h0 := g x.h0 } else { x with h1 := g x.h1 }) s
def engine (s : State) (p h : Nat) : Engine := if h = 0 then (port s p).e0 else (port s p).e1
def modEngine (p h : Nat) (g : Engine → Engine) (s : State) : State :=
  modPort p (fun x => if h = 0 then { x with e0 := g x.e0 } else { x with e1 := g x.e1 }) s
def ptime (s : State) (p : Nat) : PortTime := getD {} s.iso.ports p
def modPtime (p : Nat) (g : PortTime → PortTime) (s : State) : State :=
  { s with iso := { s.iso with ports := setD {} s.iso.ports p (g (ptime s p)) } }
def xfer (s : State) (x : Nat) : Option Xfer := find s.cis.xfers x
def setXfer (k : Nat) (x : Xfer) (s : State) : State :=
  { s with cis := { s.cis with xfers := insert s.cis.xfers k x } }
def modXfer (k : Nat) (g : Xfer → Xfer) (s : State) : State :=
  match xfer s k with
  | some x => setXfer k (g x) s
  | none => s
def pump (s : State) (n : Nat) : PumpReg := getD {} s.cis.pumps n
def modPump (n : Nat) (g : PumpReg → PumpReg) (s : State) : State :=
  { s with cis := { s.cis with pumps := setD {} s.cis.pumps n (g (pump s n)) } }
def origin (s : State) (k : Nat) : Origin := getD {} s.sump.origins k
def setOrigin (k : Nat) (o : Origin) (s : State) : State :=
  { s with sump := { s.sump with origins := setD {} s.sump.origins k o } }
def modOrigin (k : Nat) (g : Origin → Origin) (s : State) : State := setOrigin k (g (origin s k)) s
def chan (s : State) (c : Nat) : ChanReg := getD {} s.chans.regs c
def setChan (c : Nat) (x : ChanReg) (s : State) : State :=
  { s with chans := { s.chans with regs := setD {} s.chans.regs c x } }
def modChan (c : Nat) (g : ChanReg → ChanReg) (s : State) : State := setChan c (g (chan s c)) s

/-! ### Configuration sets (Table 12-7) -/

/-- The reset value of the configuration-set register at a BAR0 offset. -/
def cfgReset (off : Nat) : Word :=
  if 0x1100 ≤ off ∧ off < 0x1140 then 1
  else if 0x8000 ≤ off ∧ off < 0xA000 then
    (if off % 0x20 = 4 then 0x10006440 else if off % 0x20 = 8 then 0x100000
     else if off % 0x20 = 0xC then 0xFFFF3FF0 else 0)
  else if 0x100100 ≤ off ∧ off < 0x100140 then 0x10
  else if 0x300000 = off then 0x3E802
  else if 0x400000 ≤ off ∧ off < 0x480000 then
    (if off % 0x10000 = 4 then 0x300 else if off % 0x10000 = 0x400 then 0x64 else 0)
  else if off = 0xE08004 then 0x400
  else if off = 0xE08100 then 0x10
  else if 0xE08400 ≤ off ∧ off < 0xE08800 then 0x2000
  else if 0xD00000 ≤ off ∧ off < 0xD10000 then
    (if off % 0x1000 = 0x100 then 0xA83278 else if off % 0x1000 = 0x104 then 0x3E80A
     else if off % 0x1000 = 0x108 then 0x3C5096 else if off % 0x1000 = 0x10C then 0xD6B3214
     else if off % 0x1000 = 0x110 then 0x4E20190 else if off % 0x1000 = 0x114 then 0x64 else 0)
  else if off = 0xF00004 then 0x1FF1E
  else if off = 0xF00008 then 0x3E8
  else 0

/-- A register of a set; an unlisted offset holds its reset value. -/
def setGet (m : Sparse Word) (off : Nat) : Word := (find m off).getD (cfgReset off)

/-- Writes a register of a set, keeping the set canonical. -/
def setPut (m : Sparse Word) (off : Nat) (v : Word) : Sparse Word :=
  if v = cfgReset off then erase m off else insert m off v

/-- The active set's value at a BAR0 offset. -/
def cfg (s : State) (off : Nat) : Word := setGet s.cfg.active off

def cfgModp (s : State) (m : Nat) : Word := cfg s (0x1100 + m * 4)
def cfgPrt (s : State) (p : Nat) : Word := cfg s (0x400004 + p * 0x10000)
def cfgLpm (s : State) (p : Nat) : Word := cfg s (0x400008 + p * 0x10000)
def cfgGroup (s : State) (g : Nat) : Nat := fld (cfg s (0x100100 + g * 4)) 0 8
def cfgLim (s : State) (i : Nat) : Word := cfg s (0x8004 + i * 0x20)
def cfgPlim (s : State) (i : Nat) : Nat := fld (cfg s (0x8008 + i * 0x20)) 0 21
def cfgElim (s : State) (i : Nat) : Word := cfg s (0x800C + i * 0x20)
def cfgIlim (s : State) (i : Nat) : Nat := fld (cfg s (0xE08400 + i * 4)) 0 14

/-! ### What leaves the block -/

/-- Emits something that is no TLP. -/
def emit (o : Out) (s : State) : State := { s with out := s.out ++ [o] }

/-- A domain is switched off behind its clamps, or on with its clamps released after its power-good (R400). -/
def switchOff (s : State) (d : Domain) : State := emit (.power d false) (emit (.clamp d true) s)
def switchOn (s : State) (d : Domain) : State := emit (.clamp d false) (emit (.power d true) s)

/-- An item enters a crossing queue toward FAB: a gated clock runs again (R387). -/
def ungate (s : State) : State := { s with pm := { s.pm with gated := false } }

/-- Any TLP brings the link out of L1 (R32). DEDUCED (log 27). -/
def wakeLink (s : State) : State := { s with host := { s.host with l1 := .l0 } }

/-- Emits a TLP; one that becomes due in L1 brings the link out of it (R32, R47). DESIGN CHOICE (log 2). -/
def tlp (o : Out) (s : State) : State := emit o (wakeLink (ungate s))

/-- A completion to a request received from the host, which has itself brought the link out of L1 (R32, R36). -/
def answerTlp (o : Out) (s : State) : State := emit o (wakeLink s)

/-- What the link layer itself signals; every other packet waits for U0 or L0 (R182, R183). -/
def signalling : BusPkt → Bool
  | .lxu | .lgo _ | .lpm _ _ | .busReset | .hotReset | .warmReset | .suspend | .resume => true
  | _ => false

/-- The link of an ENABLED half is in U1 or U2, on its way out of them, or in L1 (R182, R183). -/
def asleep (s : State) (p h : Nat) : Bool :=
  let x := halfReg s p h
  x.st = .enabled && (if h = 0 then x.lstate = 1 || x.lstate = 2 || x.lstate = 8 else x.lstate = 2)

/-- A packet on half `h` of port `p`; one that meets a sleeping link starts the exit and waits (R182, R183).
DESIGN CHOICE (log 2). -/
def bus (p h : Nat) (k : BusPkt) (s : State) : State :=
  if signalling k || !asleep s p h then emit (.bus p h k) s
  else
    let s := if (halfReg s p h).txHeld.isEmpty then emit (.bus p h .resume) s else s
    modHalf p h (fun x => { x with
      txHeld := x.txHeld ++ [k]
      recov := if h = 0 && x.lstate ≠ 8 then x.recov + 1 else x.recov
      lstate := if h = 0 then 8 else x.lstate }) s

/-- An idle period of a half begins: PRT_LPM as it now is holds for it (R190), and changed U1 and U2 timeouts are told
to the unit on half 0 (R182). DEDUCED (log 52). -/
def idleStart (p h : Nat) (s : State) : State :=
  let v := cfgLpm s p
  let x := halfReg s p h
  if x.st != .enabled || v = x.lpm then s
  else
    let s := modHalf p h (fun x => { x with lpm := v }) s
    if h = 0 && fld v 0 16 ≠ fld x.lpm 0 16 then bus p 0 (.timeouts (fld v 0 8) (fld v 8 8)) s else s

/-! ### Instances and device states -/

/-- The instance's gate is set: it is RESETTING (R307). -/
def gated (s : State) (i : Nat) : Bool := (inst s i).st = .resetting

/-- The function is usable: D0 with Bus Master Enable set (R305). -/
def usable (s : State) (i : Nat) : Bool := (fn s i).busMaster && (fn s i).dstate = .d0

/-- Nothing is issued for the instance: it is quiesced (R40) or gated (R307). -/
def quiet (s : State) (i : Nat) : Bool := !usable s i || gated s i

/-! ### Reads and their tags (R37, R38) -/

/-- Tags that no outstanding read holds (R38). -/
def freeTags (s : State) : Nat :=
  (if s.host.tenBit then 512 else 256) - (s.host.reads.filter (fun r => !r.waiting)).length

/-- A tag is free (R38). -/
def tagFree (s : State) : Bool := 0 < freeTags s

/-- Max_Read_Request_Size and Max_Payload_Size in bytes. -/
def mrrs (s : State) : Nat := 128 <<< s.host.mrrs.val
def mps (s : State) : Nat := 128 <<< s.host.mps.val

/-- Bytes that one read may ask for from an address (R39). -/
def readCap (s : State) (a : Nat) : Nat := min (mrrs s - a % mrrs s) (4096 - a % 4096)

/-- Issues a read for a function and records it as outstanding; with every tag in use it waits for one (R37, R38).
DEDUCED (log 112). -/
def issueRead (ref : ReadRef) (i addr len : Nat) (s : State) : State :=
  let go := tagFree s
  let s := if go then tlp (.read i addr len) s else s
  { s with host := { s.host with
    reads := s.host.reads ++ [{ ref := ref, fn := i, addr := addr, len := len, waiting := !go }] } }

/-- The outstanding read that a reference names. -/
def outRead (s : State) (r : ReadRef) : Option OutRead := s.host.reads.find? (fun x => x.ref = r && !x.waiting)

/-- A read of that name is outstanding or waits for a tag. -/
def readOpen (s : State) (r : ReadRef) : Bool := s.host.reads.any (fun x => x.ref = r)

/-- A read that waits for a tag goes out when one is free and its instance is not quiesced (R38, R40). -/
def sendAt (s : State) (k : Nat) : State :=
  match s.host.reads[k]? with
  | some r =>
    if r.waiting && tagFree s && !quiet s r.fn then
      tlp (.read r.fn r.addr r.len) { s with host := { s.host with reads := s.host.reads.set k { r with waiting := false } } }
    else s
  | none => s

/-- The reads that wait for tags, oldest first (R38). DEDUCED (log 112). -/
def sendWaiting (s : State) : State := (List.range s.host.reads.length).foldl sendAt s

/-- A read of a staging chunk (R338). -/
def isStage : ReadRef → Bool
  | .stage _ => true
  | _ => false

/-- Takes a read off the list of outstanding reads; its tag goes to one that waits (R38). -/
def retireRead (r : ReadRef) (s : State) : State :=
  sendWaiting (wakeLink { s with host := { s.host with reads := s.host.reads.eraseP (fun x => x.ref = r && !x.waiting) } })

/-- Discards the reads that `f` names: the answers of those issued are dropped, and those that wait never go out
(R56, R83, R448). -/
def dropReads (f : OutRead → Bool) (s : State) : State :=
  let left := s.host.reads.filter (fun r => !(f r && r.waiting))
  { s with host := { s.host with reads := left.map (fun r => if f r then { r with discard := true } else r) } }

/-! ### Event queues -/

/-- Room in an event queue (R91). -/
def evRoom (x : Queue) : Bool := idiff x.head x.pi < 2 ^ x.log2

/-- The event queue of an instance (R62: at most one). -/
def eventQueue (s : State) (i : Nat) : Option (Nat × Queue) :=
  s.qe.queues.find? (fun kv => kv.2.isEvent && kv.2.owner = i)

/-! ### MSI-X and moderation (R41–R48) -/

/-- An event that was counted as a cause of the vector in D3 is about to be written (R40, R48): the message stays behind
it (R18). With the event queue full it goes at once. DESIGN CHOICE (log 135). -/
def causeHeld (s : State) (i v : Nat) : Bool :=
  match eventQueue s i with
  | some (_, x) => x.vector = v && x.st = .enabled && evRoom x && x.waiting.any (fun e => e.caused)
  | none => false

/-- R43: the conditions under which a due vector sends. -/
def canSend (s : State) (i v : Nat) : Bool :=
  !(vec s i v).masked && (fn s i).msixEnable && !(fn s i).funcMask && usable s i && !gated s i && !causeHeld s i v

/-- Sends the message of a pending vector if R43 allows, and clears the pending bit. -/
def trySend (i v : Nat) (s : State) : State :=
  let x := vec s i v
  if x.pending && canSend s i v then
    tlp (.msix i v x.addrLo x.addrHi x.data) (setVec i v { x with pending := false } s)
  else s

/-- Sends every pending message of a function that R43 allows, in the order of the vectors' numbers.
DESIGN CHOICE (log 2). -/
def sendAll (i : Nat) (s : State) : State := (fn s i).vecs.foldl (fun s kv => trySend i kv.1 s) s

/-- PE_WAKE_N is asserted (R48). -/
def assertWake (s : State) : State :=
  if s.host.peWake then s else emit (.peWake true) { s with host := { s.host with peWake := true } }

/-- PME of a vector that becomes due in D3 (R48). -/
def pme (i : Nat) (s : State) : State :=
  let f := fn s i
  let s' := setFn i { f with pmeStatus := true } s
  if !f.pmeEnable then s'
  else if f.dstate = .d3cold then assertWake s'
  else if f.pmeStatus then s else tlp (.pmPme i) s'

/-- due(v) of R42. -/
def due (i v : Nat) (s : State) : State :=
  let s := setVec i v { vec s i v with cnt := 0, timer := false, pending := true } s
  if (fn s i).dstate = .d0 then trySend i v s else pme i s

/-- The moderation profile of a vector (R42). -/
def profile (s : State) (v : Nat) : Word := cfgModp s (v % 16)

/-- on_cause(v) of R42. -/
def cause (i v : Nat) (s : State) : State :=
  let p := profile s v
  let x := vec s i v
  let n := x.cnt + 1
  if fld p 8 16 = 0 then due i v (setVec i v { x with cnt := n } s)
  else
    let s := setVec i v { x with cnt := n, timer := true } s
    if n ≥ max (fld p 0 8) 1 then due i v s else s

/-! ### Fault log (R286) -/

/-- Writes a fault-log record; the ring overwrites its oldest. -/
def logPush (kind : Nat) (interval : Word) (pay : List Word) (s : State) : State :=
  let r : LogRec := { kind := kind, seq := s.sump.logSeq, interval := interval, pay := pay }
  let l := s.sump.log ++ [r]
  let l := if s.sump.logCap.toNat < l.length then l.drop (l.length - s.sump.logCap.toNat) else l
  { s with sump := { s.sump with log := l, logSeq := s.sump.logSeq + 1 } }

/-- A fault-log record is raised: written at once, or held through an activation pause, up to 256 of them (R341). -/
def logRec (kind : Nat) (pay : List Word) (s : State) : State :=
  if !s.cmd.paused then logPush kind s.iso.mic pay s
  else if s.fw.logHeld.length < 256 then
    { s with fw := { s.fw with logHeld := s.fw.logHeld ++ [{ kind := kind, seq := 0, interval := s.iso.mic, pay := pay }] } }
  else { s with fw := { s.fw with logAbsent := s.fw.logAbsent + 1 } }

/-! ### Index cells, completions, events -/

/-- STATE (Table 3-2); FENCE_HOLD reads 0 in the cell. -/
def stateWord (x : Queue) (inCell : Bool) : Word :=
  pack [((match x.st with | .disabled => 0 | .enabled => 1 | .draining => 2 | .stopped => 3), 0),
    (b1 (x.fenceHold && !inCell), 2), (b1 (x.errCell && x.st = .stopped), 3),
    ((if x.st = .stopped then x.errKind.toNat else 0), 4), (x.lost.toNat, 8), (x.gen.toNat, 16)]

/-- Writes STATE to the cell (R66, R68), unless the instance is quiet (R40, R307) or its reset forbids it until the next
enable (R309). DEDUCED (log 37). -/
def writeState (q : Nat) (s : State) : State :=
  match queue s q with
  | some x =>
    if gated s x.owner || x.cellMute then s
    else if quiet s x.owner then setQueue q { x with stDirty := true } s
    else tlp (.writeDw x.owner (x.cell + 12) [stateWord x true]) (setQueue q { x with stDirty := false } s)
  | none => s

/-- Writes HEAD or TAIL to the cell. -/
def writeHead (q : Nat) (s : State) : State :=
  match queue s q with
  | some x => if quiet s x.owner then s else tlp (.writeDw x.owner (x.cell + 8) [x.head]) s
  | none => s

/-- Address of the slot of an index (R64, R67). -/
def slotAddr (x : Queue) (i : Word) : Nat := x.ring + (i.toNat % 2 ^ x.log2) * (if x.isEvent then 32 else 64)

/-- The 32 bytes of an event as dwords (Table 3-7). -/
def evDws (e : Ev) : List Word :=
  pack [(e.code, 0), (e.seq.toNat, 16)] :: e.interval :: (e.pay ++ List.replicate (6 - e.pay.length) 0)

/-- Writes one event: the slot, TAIL, the cause (R91). -/
def writeEvent (q : Nat) (e : Ev) (s : State) : State :=
  match queue s q with
  | some x =>
    let s := tlp (.writeDw x.owner (slotAddr x x.head) (evDws e)) s
    let s := setQueue q { x with head := x.head + 1, fetch := x.fetch + 1 } s
    let s := writeHead q s
    if e.caused then trySend x.owner x.vector s else cause x.owner x.vector s
  | none => s

/-- Writes waiting events while there is room, then EVQ_LOST if events were lost (R93). -/
def flushEvents : Nat → Nat → State → State
  | 0, _, s => s
  | n + 1, q, s =>
    match queue s q with
    | some x =>
      if x.isEvent && x.st = .enabled && evRoom x && !quiet s x.owner then
        match x.waiting with
        | e :: es => flushEvents n q (writeEvent q e (setQueue q { x with waiting := es } s))
        | [] =>
          if x.lostSince = 0 then s
          else writeEvent q { code := 0x02, seq := x.seq, interval := s.iso.mic, pay := [x.lostSince] }
            (setQueue q { x with seq := x.seq + 1, lostSince := 0 } s)
      else s
    | none => s

/-- Raises an event for an instance (R91–R94); in SLEEP it is delivered after the wake (R394, R402), and takes SEQ and
INTERVAL then. DESIGN CHOICE (log 136). -/
def event (i : Nat) (code : Nat) (pay : List Word) (s : State) : State :=
  if s.pm.st = .sleep then { s with pm := { s.pm with held := s.pm.held ++ [(i, code, pay)] } }
  else
  let s := ungate s
  match eventQueue s i with
  | none => s
  | some (q, x) =>
    if x.st != .enabled || 16 ≤ x.waiting.length then
      writeState q (setQueue q { x with seq := x.seq + 1, lost := x.lost + 1, lostSince := x.lostSince + 1 } s)
    else
      let d3 := (fn s i).dstate != .d0
      let e : Ev := { code := code, seq := x.seq, interval := s.iso.mic, pay := pay, caused := d3 }
      let s := setQueue q { x with seq := x.seq + 1, waiting := x.waiting ++ [e] } s
      let s := if d3 then cause i x.vector s else s
      flushEvents 17 q s

/-- Raises an event for a list of instances, each once. -/
def events (is : List Nat) (code : Nat) (pay : List Word) (s : State) : State :=
  is.dedup.foldl (fun s i => event i code pay s) s

/-- QUEUE_STATE (R96, Table 3-8). DW3 shows FENCE_HOLD as QE_QST does. DESIGN CHOICE (log 113). -/
def queueStateEvent (q : Nat) (s : State) : State :=
  match queue s q with
  | some x => events [x.owner, 0] 0x01 [pack [(q, 0), (x.localNo, 16)], stateWord x false, x.head] s
  | none => s

/-! ### Completions -/

/-- DW12–DW15 of a completion (Table 4-6). -/
def Cpl.dws (c : Cpl) : CplDw :=
  { d12 := pack [(c.status, 0), (c.errinfo, 8)], d13 := c.actual, d14 := c.interval, d15 := wd c.offset
    atWrite := c.atWrite }

/-- The master stamp of R124, taken when the completion is written. -/
def Cpl.atMaster (c : Cpl) : Cpl := { c with atWrite := true }

/-- The dwords as they are written: the master stamp of R124 is taken now. -/
def CplDw.written (c : CplDw) (s : State) : CplDw :=
  if c.atWrite then { c with d14 := s.iso.mic, d15 := wd s.iso.pos, atWrite := false } else c

/-- The completed entries from HEAD on without a gap (R78). -/
def doneRun (h : Word) : List Ent → List Ent
  | [] => []
  | e :: es => if e.idx = h ∧ e.st = .done then e :: doneRun (h + 1) es else []

/-- Issues the completion writes of ended entries (R78); nothing while the instance is quiet. -/
def writeCpls (q : Nat) (x : Queue) : List Ent → State → List Ent × State
  | [], s => ([], s)
  | e :: es, s =>
    match e.st with
    | .ended c =>
      let c := c.written s
      let s := tlp (.writeDw x.owner (slotAddr x e.idx + 48) [c.d12, c.d13, c.d14, c.d15]) s
      let r := writeCpls q x es s
      ({ e with st := .done } :: r.1, r.2)
    | _ =>
      let r := writeCpls q x es s
      (e :: r.1, r.2)

/-- A cause for each completed entry with IOC set (R80). -/
def iocCauses (x : Queue) : List Ent → State → State
  | [], s => s
  | e :: es, s => iocCauses x es (if tst e.dw[0] 8 then cause x.owner x.vector s else s)

/-- A tunnel request is the oldest of its stream that is not answered. -/
def tunFirst (s : State) (r : TunReq) : Bool :=
  (s.dev.reqs.find? (fun y => y.pair = r.pair && y.stream = r.stream)) = some r

/-- The 32 bytes of a trailer (Table 13-6). DESIGN CHOICE (log 77). -/
def trailer (r : TunReq) (c : CplDw) : List Byte :=
  let d0 := (r.dw0 &&& 0xFF03FFFF) ||| 0x00800000
  ([d0, c.d12 &&& 0xFFFF, c.d13, c.d14, c.d15 &&& 0x3FFF, 0, 0, ~~~d0].map wordBytes).flatten

/-- Remote wake, once for a suspend, if the host has enabled it (R351). DEDUCED (log 75). -/
def remoteWake (iface : Nat) (s : State) : State :=
  if s.dev.st = .suspended && s.dev.rwe && !s.dev.waking then
    emit (.devWake iface) { s with dev := { s.dev with waking := true } }
  else s

/-- Data or a trailer has become ready on a stream (R351, R355): a suspended port wakes its host, and another one sends
ERDY if the stream's selection was answered NRDY. DEDUCED (log 75). -/
def tunErdy (pair stream : Nat) (s : State) : State :=
  if s.dev.st = .suspended then remoteWake 1 s
  else if s.dev.inNrdy.contains (pair, stream) then
    emit (.devErdy true pair stream)
      { s with dev := { s.dev with inNrdy := s.dev.inNrdy.filter (· ≠ (pair, stream)) } }
  else s

/-- Places of the entry store in use. -/
def storeUsed (s : State) : Nat :=
  s.dev.tq.ents.length + (s.qe.queues.map (fun kv => (kv.2.ents.filter (fun e => e.st != .done)).length)).sum

/-- Places used by queues other than queue 0, and by an instance. -/
def storeOther (s : State) : Nat :=
  s.dev.tq.ents.length +
    ((s.qe.queues.filter (fun kv => kv.1 ≠ 0)).map (fun kv => (kv.2.ents.filter (fun e => e.st != .done)).length)).sum
def storeInst (s : State) (i : Nat) : Nat :=
  (if s.dev.tq.owner = i then s.dev.tq.ents.length else 0) + ((s.qe.queues.filter (fun kv => kv.2.owner = i && kv.1 ≠ 0)).map
    (fun kv => (kv.2.ents.filter (fun e => e.st != .done)).length)).sum

/-- Free places that a queue may use: 16 are kept for queue 0 (R74); MAX_ENT of the instance (R295).
DEDUCED (log 35). -/
def storeFree (s : State) (q : Nat) (x : Queue) : Nat :=
  if q = 0 then 16384 - s.boot.entries.toNat - storeUsed s
  else min (min (16368 - s.boot.entries.toNat - storeOther s) (16384 - s.boot.entries.toNat - storeUsed s))
    (fld (cfgElim s x.owner) 0 15 - storeInst s x.owner)

/-- A stream takes another request (R355): it holds fewer than four, fewer than 512 are in progress, and the entry store
has a place for it under MAX_ENT (R74, R295). DEDUCED (log 76). -/
def tunRoom (s : State) (pair stream : Nat) : Bool :=
  (s.dev.reqs.filter (fun r => r.pair = pair && r.stream = stream)).length < 4 && s.dev.reqs.length < 512 &&
    s.dev.tq.ents.length < 512 && 0 < storeFree s 4096 s.dev.tq

/-- Streams whose requests were answered NRDY and have room again are told by ERDY (R355). -/
def tellRoom (s : State) : State :=
  s.dev.outNrdy.foldl (fun s k => if tunRoom s k.1 k.2 then
    emit (.devErdy false k.1 k.2) { s with dev := { s.dev with outNrdy := s.dev.outNrdy.filter (· ≠ k) } } else s) s

/-- The bytes of IN data that a request's transfer carried before its trailer. -/
def tunSent (r : TunReq) (c : CplDw) : Nat :=
  let op := fld r.dw0 8 8
  if op = 3 || op = 5 || (op = 1 && tst r.setup0 7) then c.d13.toNat else 0

/-- Sends the trailer of an ended request that heads its stream, and the zero-length packet of a transfer of a multiple
of 1,024 B (R354). DESIGN CHOICE (log 77). -/
def sendTrailer (r : TunReq) (c : CplDw) (s : State) : State :=
  let key := (r.pair, r.stream)
  let s := emit (.devData r.pair r.stream (trailer r c)) s
  let s := if (tunSent r c + 32) % 1024 = 0 then emit (.devData r.pair r.stream []) s else s
  tellRoom { s with dev := { s.dev with reqs := s.dev.reqs.erase r, flowing := s.dev.flowing.filter (· ≠ key) } }

/-- A request with its trailer ready: sent when the parent's IN transfer is under way, else told by ERDY. -/
def offerTrailer (r : TunReq) (s : State) : State :=
  match r.ended with
  | some c =>
    if !tunFirst s r then s
    else if s.dev.flowing.contains (r.pair, r.stream) then sendTrailer r c s
    else tunErdy r.pair r.stream s
  | none => s

/-- The ended entries of the tunnel's queue become trailers (R356). -/
def publishTunnel (s : State) : State :=
  let done := s.dev.tq.ents.filterMap (fun e => match e.st with | .ended c => some (e.idx, c.written s) | _ => none)
  let s := { s with dev := { s.dev with
    tq := { s.dev.tq with ents := s.dev.tq.ents.filter (fun e => !done.any (fun d => d.1 = e.idx)) }
    reqs := s.dev.reqs.map (fun r => match done.find? (fun d => r.idx = some d.1) with
      | some d => { r with ended := some d.2 }
      | none => r) } }
  tellRoom <| done.foldl (fun s d => match s.dev.reqs.find? (fun r => r.idx = some d.1) with
    | some r => offerTrailer r s
    | none => s) s

/-- The word that an entry leaves takes the entry's stamp when that is written (R124). -/
def stampWord (es : List Ent) (s : State) (z : Word × (Nat × Nat × Nat) × Cpl) : Word × (Nat × Nat × Nat) × Cpl :=
  match z.2.2.atWrite, (es.find? (fun e => e.idx + 1 = z.1)).map (fun (e : Ent) => e.st) with
  | true, some (.ended c) =>
    (z.1, z.2.1, { z.2.2 with interval := (c.written s).d14, offset := (c.written s).d15.toNat, atWrite := false })
  | _, _ => z

/-- Completion writes, HEAD, causes (R18, R78, R80). -/
def publish (q : Nat) (s : State) : State :=
  if q = 4096 then publishTunnel s
  else
  match queue s q with
  | some x =>
    if quiet s x.owner || x.isEvent then s
    else
      let r := writeCpls q x x.ents s
      let run := doneRun x.head r.1
      let s := setQueue q { x with ents := r.1.drop run.length, head := x.head + wd run.length
                                   chainEnds := x.chainEnds.map (stampWord x.ents s) } r.2
      tellRoom (if run.isEmpty then s else iocCauses x run (writeHead q s))
  | none => s

/-- No entry of a draining queue is still running (R84). -/
def drained (x : Queue) : Bool := x.ents.all (fun e => e.st = .done)

/-- Ends an entry with given dwords (R78): the completion waits for `publish`. -/
def endEntDw (q : Nat) (i : Word) (c : CplDw) (s : State) : State :=
  modQueue q (fun x => { x with ents := x.ents.map (fun e => if e.idx = i then { e with st := .ended c } else e) }) s

/-- The end of a drain (R84): final HEAD, STATE, QUEUE_STATE, and the command's reply; QE_QFETCH reads HEAD from then
on. DEDUCED (log 37); DESIGN CHOICE (log 114). -/
def drainEnd (q : Nat) (s : State) : State :=
  match queue s q with
  | some x =>
    if x.st = .draining && drained x && !quiet s x.owner then
      let s := setQueue q { x with st := .disabled, gen := x.gen + 1, ents := [], fetch := x.head,
                                   drainCmd := none, fenceHold := false } s
      let s := queueStateEvent q (writeState q (writeHead q s))
      match x.drainCmd with
      | some c => publish 0 (endEntDw 0 c { d12 := 0, d13 := x.head, d14 := wd (x.gen + 1).toNat, d15 := 0 } s)
      | none => s
    else s
  | none => s

/-- Everything that a queue owes after entries have ended. -/
def flush (q : Nat) (s : State) : State := drainEnd q (publish q s)

/-- An entry of a queue. -/
def ent (s : State) (q : Nat) (i : Word) : Option Ent :=
  match queue s q with
  | some x => x.ents.find? (fun e => e.idx = i)
  | none => none

/-- Changes an entry of a queue. -/
def modEnt (q : Nat) (i : Word) (g : Ent → Ent) (s : State) : State :=
  modQueue q (fun x => { x with ents := x.ents.map (fun e => if e.idx = i then g e else e) }) s

/-- Ends an entry with a completion, and publishes (R78). -/
def complete (q : Nat) (i : Word) (c : Cpl) (s : State) : State := flush q (endEntDw q i c.dws s)

/-! ### Host bus errors (R55, R60) -/

/-- The error of AER that a host bus error is reported as (Table 2-8). -/
def aerOf : ErrKind → AerErr
  | .timeout => .completionTimeout | .unsupported => .unsupportedRequest | .abort => .completerAbort
  | .poisoned => .poisoned | .ecrc => .ecrc

/-- The status bit of an error. DESIGN CHOICE (log 111). -/
def Aer.set (a : Aer) : AerErr → Aer
  | .completionTimeout => { a with completionTimeout := true }
  | .unsupportedRequest => { a with unsupportedRequest := true }
  | .completerAbort => { a with completerAbort := true }
  | .poisoned => { a with poisoned := true }
  | .ecrc => { a with ecrc := true }
  | .unexpectedCompletion => { a with unexpectedCompletion := true }

/-- AER of a function records an error, non-fatal or advisory non-fatal as Tables 2-5 and 2-8 give, and reports it where
system software lets it. DESIGN CHOICE (log 111). -/
def aerMark (i : Nat) (e : AerErr) (advisory : Bool) (s : State) : State :=
  let f := fn s i
  let a := f.aer.set e
  let hd := (List.range 4).map (fun k => Config.freeValue (s.free + k))
  let a := { a with advisory := a.advisory || advisory, first := some (f.aer.first.getD e)
                    header := if f.aer.first.isSome then a.header else hd }
  let s := setFn i { f with aer := a } { s with free := if f.aer.first.isSome then s.free else s.free + 4 }
  if advisory then (if f.corReport then tlp (.errMsg i false) s else s)
  else if f.nfReport then tlp (.errMsg i true) s else s

/-- Records a host bus error in HI_HERR, the fault log and AER. -/
def hostError (i : Nat) (k : ErrKind) (source : Nat) (addr : Nat) (s : State) : State :=
  let h := s.host
  let e := h.herrEdges + 1
  let h := if h.herrValid then { h with herrEdges := e }
    else { h with herrEdges := e, herrValid := true, herrInst := BitVec.ofNat 8 i,
                  herrKind := BitVec.ofNat 3 (kindCode k), herrSource := BitVec.ofNat 4 source,
                  herrAddr := BitVec.ofNat 64 (addr / 4 * 4) }
  let s := { s with host := h }
  let s := aerMark i (aerOf k) (k = .unsupported || k = .abort) s
  logRec 0x31 [wd (addr / 4 * 4), wd (addr / 2 ^ 32),
    pack [(i, 0), (1, 8), (kindCode k, 9), (source, 12), (e.toNat, 16)], 0, 0] s

/-! ### Stamps (R124, R220, R223) -/

/-- BIT ticks since the start of a port's present interval (R220): LAG ticks after the master interval's start. -/
def portElapsed (s : State) (p : Nat) : Nat :=
  idiff s.iso.mic (ptime s p).tickMic * 15360 + s.iso.pos - (ptime s p).lag16 / 16

/-- Position in a port's interval, in port ticks: a trimmed port's tick lasts (15,360 + TRIM / 16) / 15,360 BIT ticks
(R223, R231). -/
def portPos (s : State) (p : Nat) : Nat :=
  min 15359 (portElapsed s p * 245760 / ((245760 : Int) + (ptime s p).trim).toNat)

/-- Fills a completion's stamp from a port's interval counter. -/
def Cpl.atPort (c : Cpl) (s : State) (p : Nat) : Cpl :=
  { c with interval := (ptime s p).num, offset := portPos s p }

end Sys2Proof.Machine
end

