-- ==== Sys2Proof/Machine/Flags.lean ====
section
/-! DEFINITION. The W1C flags of the root ports, the timebase and the sump with their edge counters (R12, R283,
Table 10-4): a setting by hardware sets the flag and advances its counter, whether the flag was 0 or 1. -/

namespace Sys2Proof.Machine

/-- The flags of PRT_SC (Table 6-14) and PRT_WSRC (Table 6-16). -/
inductive HFlag where
  | csc | pec | prc | plc | dgc | err | host | unit
deriving DecidableEq, Repr

/-- Sets a flag of one half and advances its edge counter. -/
def raise (f : HFlag) (x : HalfReg) : HalfReg :=
  match f with
  | .csc => { x with csc := true, cscE := x.cscE + 1 }
  | .pec => { x with pec := true, pecE := x.pecE + 1 }
  | .prc => { x with prc := true, prcE := x.prcE + 1 }
  | .plc => { x with plc := true, plcE := x.plcE + 1 }
  | .dgc => { x with dgc := true, dgcE := x.dgcE + 1 }
  | .err => { x with err := true, errE := x.errE + 1 }
  | .host => { x with wHost := true, hostE := x.hostE + 1 }
  | .unit => { x with wUnit := true, unitE := x.unitE + 1 }

/-- Sets several flags. -/
def raises (fs : List HFlag) (x : HalfReg) : HalfReg := fs.foldl (fun x f => raise f x) x

/-- The state codes of Table 6-3. -/
def stCode : HalfSt → Nat
  | .poweredOff => 0 | .disconnected => 1 | .disabled => 2 | .resetting => 3
  | .enabled => 4 | .suspended => 5 | .resuming => 6

/-- PRT_SC after the change (Table 6-14); the request bits read 0. -/
def prtSc (x : HalfReg) : Word :=
  pack [(stCode x.st, 0),
    (b1 x.ccs, 3), (x.speed.toNat, 9), (b1 x.csc, 12), (b1 x.pec, 13), (b1 x.prc, 14), (b1 x.plc, 15),
    (b1 x.dgc, 16), (b1 x.err, 17)]

/-- A write's W1C bits to PRT_SC (R10). -/
def clearSc (v : Word) (x : HalfReg) : HalfReg :=
  { x with csc := x.csc && !tst v 12, pec := x.pec && !tst v 13, prc := x.prc && !tst v 14,
           plc := x.plc && !tst v 15, dgc := x.dgc && !tst v 16, err := x.err && !tst v 17 }

/-- ISO_ST.LOCK_CHG with LOCK_E. -/
def raiseLock (t : Timebase) : Timebase := { t with lockChg := true, lockE := t.lockE + 1 }

/-- ISO_ST.RANGE_ERR with RANGE_E. -/
def raiseRange (t : Timebase) : Timebase := { t with rangeErr := true, rangeE := t.rangeE + 1 }

/-- FLT_STAT.OVERFLOW with OVF_E. -/
def raiseOverflow (u : Sump) : Sump := { u with overflow := true, ovfE := u.ovfE + 1 }

/-- FLT_STAT.MEM_UE with UE_E. -/
def raiseMemUe (u : Sump) : Sump := { u with memUe := true, ueE := u.ueE + 1 }

/-- PRT_TC.TC_CHG with TC_E, and PRT_TC.VBUS_CHG with VB_E. -/
def raiseTc (x : PortReg) : PortReg := { x with tcChg := true, tcE := x.tcE + 1 }
def raiseVb (x : PortReg) : PortReg := { x with vbusChg := true, vbE := x.vbE + 1 }

end Sys2Proof.Machine
end

