-- ==== Sys2Proof/Machine/Capacity.lean ====
section
/-! DEFINITION. What the fuses and the parts in service allow: ports, channels, pipes, pumps; the capability registers
and CAPACITY_CHANGE (R3–R5, R27, R28, R423–R426); the end of a pump channel's removal (R332). -/

namespace Sys2Proof.Machine

open Sys2Proof

/-- Ports and channels that the fuses allow (R3). DESIGN CHOICE (log 24). -/
def portFused (s : State) (p : Nat) : Bool := p < (if s.isL then 4 else 8)
/-- DESIGN CHOICE (log 24). -/
def chanFused (s : State) (c : Nat) : Bool := c < (if s.isL then 8 else 16)
/-- DESIGN CHOICE (log 24). -/
def maxInst (s : State) : Nat := if s.isL then 63 else 255
/-- DESIGN CHOICE (log 24). -/
def fusedPipes (s : State) : Nat := if s.isL then 0x40000 else 0x100000

/-- Port p is present and in service. -/
def portUp (s : State) (p : Nat) : Bool := portFused s p && (port s p).inService

/-- PD_CHAN is powered, channel c present (R383), and channels are in service (R411). -/
def chanUp (s : State) (c : Nat) : Bool :=
  chanFused s c && s.boot.up && !s.boot.recovery && s.pm.st != .deep && s.pm.st != .off

/-! ### Capability registers and CAPACITY_CHANGE (R27, R424, R426) -/

/-- A bit mask of the indices below `n` that satisfy `f`. -/
def maskOf (n : Nat) (f : Nat → Bool) : Nat := ((List.range n).map (fun k => if f k then 2 ^ k else 0)).sum

def celReg (s : State) (c : Nat) : CelReg := if c = 0 then s.glb.c0 else s.glb.c1
def modCel (c : Nat) (g : CelReg → CelReg) (s : State) : State :=
  { s with glb := if c = 0 then { s.glb with c0 := g s.glb.c0 } else { s.glb with c1 := g s.glb.c1 } }

/-- Pipe capacity in service (R5, R28). -/
def pipeCap (s : State) : Nat :=
  if s.glb.c0.inSvc && s.glb.c1.inSvc then fusedPipes s
  else if s.glb.c0.inSvc || s.glb.c1.inSvc then fusedPipes s / 2 else 0

def glbFuse (s : State) : Word :=
  pack [(maskOf 8 (portFused s), 0), (maskOf 16 (chanFused s), 8), (maxInst s, 24)]
def glbFpipe (s : State) : Word := wd (fusedPipes s)
/-- The six registers read 0 until step 12 (R424). -/
def afterReady (s : State) (w : Word) : Word := if s.boot.fwReady then w else 0
def glbCport (s : State) : Word :=
  afterReady s (pack [(maskOf 8 (portUp s), 0), (maskOf 8 (fun p => portFused s p && (port s p).h0.lane1Fail), 8)])
def glbCpipe (s : State) : Word := afterReady s (wd (pipeCap s))
def pumpUp (s : State) (n : Nat) : Bool := (pump s n).st != .off
def glbCpumpLo (s : State) : Word := afterReady s (wd (maskOf 32 (pumpUp s)))
def glbCpumpHi (s : State) : Word := afterReady s (wd (maskOf 32 (fun n => pumpUp s (32 + n))))
def glbCcel (s : State) : Word :=
  afterReady s (pack [(b1 s.glb.c0.inSvc, 0), (b1 s.glb.c1.inSvc, 1), (s.glb.sizeGib.toNat, 4), (s.glb.celRate.toNat, 16)])
def glbCmisc (s : State) : Word :=
  afterReady s (pack [(16384 - s.boot.entries.toNat, 0), (8192 - s.sump.cisRet.toNat, 16)])

/-- The eight capability registers in their order (R423). -/
def capRegs (s : State) : List Word :=
  [glbFuse s, glbFpipe s, glbCport s, glbCpipe s, glbCpumpLo s, glbCpumpHi s, glbCcel s, glbCmisc s]

/-- CAPACITY_CHANGE (Table 17-9). RESOURCE 5 changes no capability register and sets no CAP_CHG (R426). -/
def capEvent (res : Nat) (returned failed : Bool) (ix : Nat) (s : State) : State :=
  event 0 0x03 [pack [(res, 0), (b1 returned, 4), (b1 failed, 5), (ix, 8)],
    glbCport s, glbCpipe s, glbCcel s, glbCpumpLo s, glbCpumpHi s] s

/-- A change of the capacity in service (R27, R426). DESIGN CHOICE (log 22). -/
def capChange (res : Nat) (returned failed : Bool) (ix : Nat) (s : State) : State :=
  capEvent res returned failed ix { s with glb := { s.glb with capChg := true, capE := s.glb.capE + 1 } }

/-- The reply to a command of queue 0 (R316, R319): DW12 with STATUS and DETAIL, then DW13–DW15. -/
def reply (idx : Word) (status detail : Nat) (a b c : Word) (s : State) : State :=
  flush 0 (endEntDw 0 idx { d12 := pack [(status, 0), (detail, 8)], d13 := a, d14 := b, d15 := c } s)

/-- PORT_SERVICE (Table 6-7). -/
def portServiceEvent (p : Nat) (ret off : Bool) (result closed : Nat) (s : State) : State :=
  event 0 0x22 [pack [(p, 0), (b1 ret, 8), (b1 off, 9), (result, 16)], wd closed] s

/-- Steps 5 to 7 of a port's removal follow once the last of its pipes has closed (Table 6-5): its charge is free, its
domain is switched off where asked, and the command is answered. -/
def portRemoved (p : Port) (s : State) : State :=
  match (port s p).removing with
  | some (i, down, n) =>
    if s.sched.pipes.any (fun kv => kv.2.port = p) then s
    else
      let s := modPort p (fun x => { x with powered := !down, removing := none }) (if down then switchOff s (.port p) else s)
      let s := modPsched p (fun y => { y with freed := [] }) s
      reply i 0 0 0 (wd n) 0 (portServiceEvent p false down 0 n (capChange 1 false false p s))
  | none => s

/-- A pump channel whose removal has reached PAUSED goes OFF, and its command is answered (Table 9-2, R331, R332). -/
def pumpOff (n : Nat) (s : State) : State :=
  match (pump s n).removing with
  | some c =>
    if (pump s n).st = .paused then
      let s := modPump n (fun p => { p with st := .off, removing := none, job := none, staged := 0 }) s
      reply c 0 0 0 0 0 (capChange 3 false false n s)
    else s
  | none => s

end Sys2Proof.Machine
end

