-- ==== Sys2Proof/Machine/Operands.lean ====
section
/-! DEFINITION. The operand forms: the fields of an entry (Tables 4-1 to 4-5), the charges of Table 5-4, the pages
and the reshuffle mapping of R118–R121 and R253. -/

namespace Sys2Proof.Machine

open Sys2Proof

/-! ### Entry fields (Table 4-1) -/

def eOp (d : Slot) : Nat := fld d[0] 0 8
def eIoc (d : Slot) : Bool := tst d[0] 8
/-- BAR acts on the entries that may write host memory (R100); one that wrote nothing has no barrier read. -/
def eBar (d : Slot) : Bool := tst d[0] 9 && (eOp d = 1 || eOp d = 3 || eOp d = 5 || eOp d = 7 || eOp d = 8)
/-- CHAIN acts on CONTROL, BULK and INTR entries (R108). -/
def eChain (d : Slot) : Bool := tst d[0] 10 && 1 ≤ eOp d && eOp d ≤ 5
def eShortOk (d : Slot) : Bool := tst d[0] 11
/-- The high class (R100, R245). -/
def eUrg (d : Slot) : Bool := eOp d = 6 || eOp d = 7 || (tst d[0] 12 && 1 ≤ eOp d && eOp d ≤ 8)
def ePipe (d : Slot) : Nat := fld d[1] 0 20
def eStream (d : Slot) : Nat := fld d[2] 0 16
def eBuf (d : Slot) : Nat := d[3].toNat + d[4].toNat * 2 ^ 32
def eDst (d : Slot) : Nat := d[6].toNat + d[7].toNat * 2 ^ 32
/-- LEN, cut to 0x4000_0000 (R101). -/
def eLen (d : Slot) : Nat := min (fld d[5] 0 31) 0x40000000
def eZlp (d : Slot) : Bool := (eOp d = 2 || eOp d = 4) && tst d[8] 0
/-- Direction of the data (R102). -/
def eIn (d : Slot) : Bool := if eOp d = 1 then tst d[6] 7 else eOp d = 3 || eOp d = 5 || eOp d = 7
/-- SET_ADDRESS setup packet (R103). -/
def eSetAddress (d : Slot) : Bool := eOp d = 1 && fld d[6] 0 8 = 0 && fld d[6] 8 8 = 5
/-- Opcode, pipe and stream, which every follower of a chain repeats (R108); STREAM counts on every endpoint.
DESIGN CHOICE (log 115). -/
def eSig (d : Slot) : Nat × Nat × Nat := (eOp d, ePipe d, eStream d)
def eStart (d : Slot) : Word := d[8]
def eFrames (d : Slot) : Nat := max (fld d[9] 0 16) 1
def eFrameBytes (d : Slot) : Nat := max (fld d[9] 16 14) 1
def eAsap (d : Slot) : Bool := tst d[9] 31
def eRate (d : Slot) : Nat := d[10].toNat
def eSrcFix (d : Slot) : Bool := eOp d = 8 && tst d[8] 0
def eDstFix (d : Slot) : Bool := eOp d = 8 && tst d[8] 1
def eFixWidth (d : Slot) : Nat := match fld d[8] 2 2 with | 1 => 8 | 2 => 64 | _ => 4

/-! ### Reshuffle (R118–R121) -/

/-- MODE, with 5–7 acting as 0; honoured on BULK, ISO and incrementing PUMP_COPY (Tables 4-2, 4-4). -/
def rMode (d : Slot) : Nat :=
  let m := fld d[11] 0 3
  if 4 < m then 0
  else if eOp d = 8 then (if eSrcFix d || eDstFix d then 0 else m)
  else if eOp d = 2 || eOp d = 3 || eOp d = 6 || eOp d = 7 then m else 0
def rSsize (d : Slot) : Nat := fld d[11] 3 2 + 1
def rCount (d : Slot) : Nat := fld d[11] 6 6 + 1
def rStride (d : Slot) : Nat := fld d[11] 12 20 * 64
/-- Channel reshuffle (modes 1, 2) or bit-plane reshuffle (3, 4). -/
def rPlanes (d : Slot) : Bool := 3 ≤ rMode d
/-- The destination is the planar side (R119). -/
def rToPlanar (d : Slot) : Bool := if eOp d = 8 then rMode d = 2 || rMode d = 4 else eIn d
/-- Interleaved bytes of one frame (channels) or of one group of eight samples (planes). -/
def rUnit (d : Slot) : Nat := if rPlanes d then 8 * rSsize d else rSsize d * rCount d
/-- Units in one block (R253): ⌊4,096 / (SSIZE × COUNT)⌋ frames, or ⌊4,096 / SSIZE⌋ samples in groups of eight. -/
def rBlock (d : Slot) : Nat := if rPlanes d then 4096 / rSsize d / 8 else 4096 / (rSsize d * rCount d)
/-- Whole units of the entry (R121). -/
def rUnits (d : Slot) : Nat := eLen d / rUnit d
/-- Bytes of one planar run of `n` units. -/
def rRun (d : Slot) (n : Nat) : Nat := if rPlanes d then n else n * rSsize d
/-- Address of planar run `j` from unit `u0`, for planar base `base` (R120). -/
def rAddr (d : Slot) (base j u0 : Nat) : Nat := base + j * rStride d + rRun d u0
/-- Where the bytes left over lie: after the end of planar buffer 0 (R121). -/
def rRest (d : Slot) (base : Nat) : Nat := base + rRun d (rUnits d)

/-- Bit `p` of sample `n` in interleaved bytes. -/
def sampleBit (ssize : Nat) (bs : List Byte) (n p : Nat) : Bool :=
  if p < 8 * ssize then (bs.getD (n * ssize + p / 8) 0).getLsbD (p % 8) else false

/-- The planar bytes of run `j` in `n` interleaved units (R120). -/
def toRun (d : Slot) (bs : List Byte) (n j : Nat) : List Byte :=
  if rPlanes d then
    (List.range n).map fun g => (List.range 8).foldl
      (fun b k => b ||| (if sampleBit (rSsize d) bs (g * 8 + k) j then BitVec.ofNat 8 (2 ^ k) else 0)) 0
  else
    (List.range (n * rSsize d)).map fun k =>
      bs.getD ((k / rSsize d * rCount d + j) * rSsize d + k % rSsize d) 0

/-- The interleaved bytes of `n` units from planar runs (R120). -/
def fromRuns (d : Slot) (runs : Sparse (List Byte)) (n : Nat) : List Byte :=
  let run := fun j => (find runs j).getD []
  (List.range (n * rUnit d)).map fun k =>
    if rPlanes d then
      let smp := k / rSsize d
      (List.range 8).foldl (fun b t =>
        let p := k % rSsize d * 8 + t
        if p < rCount d && ((run p).getD (smp / 8) 0).getLsbD (smp % 8) then b ||| BitVec.ofNat 8 (2 ^ t) else b) 0
    else
      let smp := k / rSsize d
      (run (smp % rCount d)).getD (smp / rCount d * rSsize d + k % rSsize d) 0

/-! ### Charges (Table 5-4) -/

/-- ⌈payload × 7/6⌉ -/
def stuffed (n : Nat) : Nat := (n * 7 + 5) / 6

/-- Charge of one packet at a speed code of Table 5-1. -/
def pktCharge (speed n : Nat) : Nat :=
  match speed with
  | 4 => stuffed n + 64
  | 5 => stuffed n + 16
  | 6 => 8 * (stuffed n + 16)
  | _ => n + 32

/-- The handshake charge. -/
def hsCharge (speed : Nat) : Nat := match speed with | 4 => 64 | 5 => 16 | 6 => 128 | _ => 32

/-- Charge of one packet of a pipe; behind a translator the high-speed charge of its splits is added.
PRESUMED (log 44). -/
def pipeCharge (x : Pipe) (n : Nat) : Nat :=
  pktCharge x.speed n + (if x.split then 64 + (stuffed n + 64) else 0)

/-- Bytes per period and periodic limit of a speed. -/
def budget (speed : Nat) : Nat :=
  match speed with | 0 => 62500 | 1 => 125000 | 2 => 151515 | 3 => 303030 | 4 => 7500 | 5 => 1500 | 6 => 1500 | _ => 0
def perLimit (speed : Nat) : Nat :=
  match speed with | 0 => 56250 | 1 => 112500 | 2 => 136363 | 3 => 272727 | 4 => 6000 | 5 => 1350 | 6 => 1350 | _ => 0

/-- Charge of `n` bytes in packets of `mps`, by the charge of one packet (R147). -/
def packetsCharge (f : Nat → Nat) (mps n : Nat) : Nat :=
  if mps = 0 then f 0 else n / mps * f mps + (if n % mps = 0 then 0 else f (n % mps))

/-- Charge of `n` bytes of a pipe in packets of MPS (R147). -/
def bytesCharge (x : Pipe) (n : Nat) : Nat := packetsCharge (pipeCharge x) x.mps n

/-- The half a pipe runs on (R163). -/
def pHalf (x : Pipe) : Nat := if x.speed ≤ 3 then 0 else 1
/-- Index of an interval room: half 0 OUT, half 0 IN, half 1 (R146). -/
def roomIx (half : Nat) (dirIn : Bool) : Nat := if half = 0 then (if dirIn then 1 else 0) else 2
/-- Periodic and isochronous pipes. -/
def periodic (x : Pipe) : Bool := x.kind = .interrupt || x.kind = .iso

/-- The toggle of a control transfer's status stage: DATA1 on half 1, with no ping due; half 0 keeps its sequence number
(R206). -/
def statusSeq (x : Pipe) : BitVec 5 := if pHalf x = 0 then x.seq else 1

/-! ### Periodic split transactions (R147, R148, R151, R213) -/

/-- Bytes of a translator's frame that a split pipe's ADMIT takes (R147). -/
def ttBytes (x : Pipe) : Nat := packetsCharge (pktCharge x.speed) x.mps x.admitBytes

/-- Microframe of the frame in which a split transaction starts: its place in the budget of 188 B per microframe
(R148). -/
def ttUframe (x : Pipe) : Nat := x.ttPos / 188

/-- Start-splits of one transaction: an isochronous OUT payload goes in parts of at most 188 B (R213). -/
def ssCount (x : Pipe) : Nat := if x.kind = .iso && !x.dirIn then max 1 ((x.admitBytes + 187) / 188) else 1

/-- Microframes of the complete-splits, counted from that of the first start-split. PRESUMED (log 44). -/
def csSlots (x : Pipe) : List Nat :=
  if x.kind = .iso then
    (if x.dirIn then (List.range (1 + (x.admitBytes + 187) / 188)).map (· + 2) else [])
  else [2, 3, 4]

/-- The slot in which a periodic pipe is due: for a split pipe the one of its first start-split (R143, R148, R151). -/
def dueSlot (x : Pipe) : Nat :=
  if x.split then (x.phase + ttUframe x) % 2 ^ x.periodLog2 else x.phase

/-- The slots that a periodic pipe charges, with the charge in each (R147). PRESUMED (log 44). -/
def slotCharges (x : Pipe) : List (Nat × Nat) :=
  (dueSlot x, bytesCharge x x.admitBytes) ::
    (if x.split then
      ((List.range (ssCount x - 1)).map (fun k => (k + 1, pktCharge 4 188)) ++
        (csSlots x).map (fun k => (k, pktCharge 4 (if x.dirIn then min x.admitBytes 188 else 0)))).map
        (fun (e : Nat × Nat) => ((dueSlot x + e.1) % 2 ^ x.periodLog2, e.2))
    else [])

/-! ### Lists -/

/-- Position of the set bit of an element in a list, or none. -/
def setNth {α : Type} (l : List α) (n : Nat) (f : α → α) : List α := l.modify n f

end Sys2Proof.Machine
end

