-- ==== Sys2Proof/Machine/Transfer.lean ====
section
/-! DEFINITION. Shared operations on pipes and active transfers: the ready lists, cistern pages and pools, chains,
the start and the end of a transfer, and the entries that wait behind it (files 04, 05, 09). -/

namespace Sys2Proof.Machine

open Sys2Proof

/-! ### Ready lists (R137, R139) -/

def listOf (s : State) (p g : Nat) : List Nat := getD [] (psched s p).lists g
def setList (p g : Nat) (l : List Nat) (s : State) : State :=
  modPsched p (fun x => { x with lists := setD [] x.lists g l }) s

/-- Asks the cellar for a context that is not in the cache (R152, R155). DEDUCED (log 46). -/
def needCtx (n : Nat) (s : State) : State :=
  if s.sched.cache.any (fun c => c.1 = n) || s.sched.overflow.contains n || s.sched.fills.contains n then s
  else { s with sched := { s.sched with fills := s.sched.fills ++ [n], cmiss := s.sched.cmiss + 1 } }

/-- Links an asynchronous pipe at the head or the tail of its list; a periodic pipe waits in the wheel.
DEDUCED (log 46). -/
def link (n : Nat) (atHead : Bool) (s : State) : State :=
  match pipe s n with
  | some x =>
    if periodic x || x.kind = .streamEp then s
    else
      let l := (listOf s x.port x.group).filter (· ≠ n)
      needCtx n (setList x.port x.group (if atHead then n :: l else l ++ [n]) s)
  | none => s

/-- Lowers a room's periodic pending charge by what a pipe still held of it (R145, R146). -/
def lowerPend (n : Nat) (x : Pipe) (c : Nat) (s : State) : State :=
  let c := min c x.pend
  modPsched x.port (fun y => { y with
      pendChg := y.pendChg.modify (roomIx (pHalf x) x.dirIn) (fun r => r - c) })
    (modPipe n (fun z => { z with pend := z.pend - c }) s)

/-- Takes a pipe out of the periodic class; its unused charge leaves the pending charge (R145). -/
def dropKlass (n : Nat) (s : State) : State :=
  match pipe s n with
  | some x =>
    if (psched s x.port).klass.contains n then
      modPsched x.port (fun y => { y with klass := y.klass.filter (· ≠ n) }) (lowerPend n x x.pend s)
    else s
  | none => s

/-- Takes a pipe out of its ready list and its periodic class. -/
def unlink (n : Nat) (s : State) : State :=
  match pipe s n with
  | some x => dropKlass n (setList x.port x.group ((listOf s x.port x.group).filter (· ≠ n)) s)
  | none => s

/-- Unlinks a pipe and records why (R137), and in which order pipes blocked (R150). -/
def blockPipe (n why : Nat) (s : State) : State :=
  let s := unlink n s
  let st := s.sched.stamp
  modPipe n (fun x => { x with block := why, placed := if periodic x then x.placed else st })
    { s with sched := { s.sched with stamp := st + 1 } }

/-- Clears BLOCK and links the pipe again at the tail of its list (R137). -/
def unblock (n why : Nat) (s : State) : State :=
  match pipe s n with
  | some x => if x.block = why && x.state = .ready then link n false (setPipe n { x with block := 0 } s) else s
  | none => s

/-- Pipes in a state of affairs, in identifier order. -/
def pipesWhere (s : State) (f : Pipe → Bool) : List Nat := (s.sched.pipes.filter (fun kv => f kv.2)).map Prod.fst

/-! ### Pools (R138, R239–R242) -/

def activeCount (s : State) : Nat := s.cis.xfers.length
def instActive (s : State) (i : Nat) : Nat := (s.cis.xfers.filter (fun kv => kv.2.inst = i)).length
def instShared (s : State) (i : Nat) : Nat :=
  (s.cis.xfers.map (fun kv => if kv.2.inst = i then kv.2.shared else 0)).sum

/-- Reads of an ended transfer that are still outstanding keep its LOADING pages, and with them its place (Table 9-1).
-/
def placeHeld (s : State) (k : Nat) : Bool :=
  s.host.reads.any (fun r => match r.ref with | .pump pl _ => pl = k | _ => false)

/-- The lowest free place from `k` on, among so many. -/
def freeFrom (s : State) : Nat → Nat → Option Nat
  | 0, _ => none
  | f + 1, k => if (xfer s k).isNone && !placeHeld s k then some k else freeFrom s f (k + 1)

/-- The lowest of the 4,096 places that is free (R138, R239). -/
def freePlace (s : State) : Option Nat := freeFrom s 4096 0

/-- A new transfer may start (R138, R239, and MAX_ACT of R295). -/
def canStart (s : State) (i : Nat) (full : Bool) : Bool :=
  activeCount s < (if full then 4096 else 3584) && instActive s i < fld (cfgLim s i) 16 13 && (freePlace s).isSome

/-- The page allotment of a pipe (R240). -/
def pipeAllot (p : Pipe) : Nat :=
  if p.kind = .iso then min 255 (max p.pages (2 * ((p.admitBytes + p.mps - 1) / max p.mps 1))) else p.pages

/-- The page allotment of a transfer (R240). -/
def allot (s : State) (x : Xfer) : Nat :=
  match x.pipe.bind (pipe s) with
  | some p => pipeAllot p
  | none => 64

def ownPages (x : Xfer) : Nat := 2 + x.shared
def emptyPages (x : Xfer) : Nat := ownPages x - x.pages.length

/-! ### Chains (R108–R111) -/

/-- The attached entries of a chain from an index on, and whether its end is known. -/
def chainFrom (sig : Nat × Nat × Nat) : Word → List Ent → List Ent × Bool
  | _, [] => ([], false)
  | i, e :: es =>
    if e.idx ≠ i then chainFrom sig i es
    else if e.st = .reading || e.st = .fetched then ([], false)
    else if eSig e.dw ≠ sig then ([], true)
    else if eChain e.dw then
      let r := chainFrom sig (i + 1) es
      (e :: r.1, r.2)
    else ([e], true)

/-- The present chain of a transfer; it ends before an entry that an acknowledged halt has ended (R260).
DEDUCED (log 99). -/
def chainOf (s : State) (x : Xfer) : List Ent × Bool :=
  match queue s x.q, ent s x.q x.idx with
  | some y, some e =>
    if e.st = .attached then
      let c := chainFrom (if x.type = .copy then eSig e.dw else x.sig) x.idx y.ents
      match x.brk with
      | some i => (c.1.takeWhile (fun e => e.idx ≠ i), true)
      | none => c
    else ([], false)
  | _, _ => ([], false)

/-- Bytes of the transfer that its attached entries hold, and whether that is all (R105). -/
def total (s : State) (x : Xfer) : Nat × Bool :=
  let c := chainOf s x
  (x.base + (c.1.map (fun e => eLen e.dw)).sum, c.2)

/-- The present entry of a transfer. -/
def curEnt (s : State) (x : Xfer) : Option Ent := ent s x.q x.idx

/-- Index of the entry whose job a transfer runs (R245): an OUT chain is loaded one entry after the other, ahead of the
bus. DEDUCED (log 99). -/
def jobIdx (x : Xfer) : Word := if x.type = .out then x.jidx else x.idx

/-- Bytes of a chain before the entry of its job. -/
def jobBase (x : Xfer) : Nat := if x.type = .out then x.jbase else x.base

/-- The entry of a transfer's job, once it is attached, and where it begins (R245). -/
def jobEnt (s : State) (x : Xfer) : Option (Ent × Nat) :=
  ((chainOf s x).1.find? (fun e => e.idx = jobIdx x)).map (fun e => (e, jobBase x))

/-- A job is of the high class: its pipe is isochronous or its entry has URG set (R100, R245). -/
def highJob (s : State) (x : Xfer) : Bool :=
  x.iso || match jobEnt s x with | some (e, _) => eUrg e.dw | none => x.urg

/-- The transfer's present entry has started (R83). -/
def markStarted (q : Nat) (i : Word) (s : State) : State :=
  modEnt q i (fun e => { e with started := e.started || e.st = .attached }) s

/-! ### Shared pages (R241, R242) -/

/-- Shared pages that the pool and the instance's limit leave a request (R241). -/
def poolLeft (s : State) (i : Nat) (high : Bool) : Nat :=
  let rsv := if high then 0 else min (fld (cfg s 0xE08004) 0 14) 8192
  min (s.cis.sharedFree - rsv) (cfgIlim s i - instShared s i)

/-- Shared pages that a request for `n` is granted (R241). -/
def grantable (s : State) (x : Xfer) (n : Nat) : Nat :=
  min (min n (allot s x - ownPages x)) (poolLeft s x.inst (highJob s x))

/-- Takes shared pages for a transfer; a request met in part is counted (R241). DEDUCED (log 109). -/
def takeShared (k n : Nat) (s : State) : State :=
  match xfer s k with
  | some x =>
    let want := min n (allot s x - ownPages x)
    let g := grantable s x n
    let free := s.cis.sharedFree - g
    let s := setXfer k { x with shared := x.shared + g } s
    { s with cis := { s.cis with sharedFree := free, low := min s.cis.low free,
                                 deny := if g < want then s.cis.deny + 1 else s.cis.deny } }
  | none => s

/-- Gives shared pages of a transfer back to the pool. -/
def giveShared (k n : Nat) (s : State) : State :=
  match xfer s k with
  | some x =>
    let n := min n x.shared
    let s := setXfer k { x with shared := x.shared - n } s
    { s with cis := { s.cis with sharedFree := s.cis.sharedFree + n } }
  | none => s

/-! ### Jobs in the class queues (R245, R246) -/

/-- The bytes that have arrived in a page without a gap from its start. -/
def prefixBytes : Nat → Sparse (List Byte) → List Byte
  | _, [] => []
  | pos, (a, bs) :: m => if a = pos then bs ++ prefixBytes (pos + bs.length) m else []

/-- Bytes that stand in a job's pages without a gap from a stream position. A copy writes what has arrived of a page
whose last read is outstanding (the 54 bytes of Table 9-4). -/
def availFrom : Nat → List Page → List Byte
  | _, [] => []
  | pos, p :: ps =>
    let bs := prefixBytes p.off p.segs
    if p.off ≤ pos && pos < p.off + p.len then
      bs.drop (pos - p.off) ++ (if bs.length = p.len then availFrom (p.off + p.len) ps else [])
    else if p.off + p.len ≤ pos then availFrom pos ps else []

/-- Packet length of a job's pages: MPS, or 1 KiB for a copy; an interrupt packet to a unit carries at most the bytes
admitted for an interval (R107). DESIGN CHOICE (log 122). -/
def pageCap (s : State) (x : Xfer) : Nat :=
  match x.pipe.bind (pipe s) with
  | some p => max (if p.kind = .interrupt && !p.dirIn then min p.mps p.admitBytes else p.mps) 1
  | none => 1024

/-- Stream position at which the opened pages of an ISO_OUT entry end. -/
def isoTop (x : Xfer) : Nat := x.pages.foldl (fun m p => max m (p.off + p.len)) x.inPos

/-- Service intervals of an ISO_OUT entry are still to be loaded (R113). -/
def cutsLeft (s : State) (x : Xfer) : Bool :=
  !x.iso || x.ldLeft ≠ 0 || (curEnt s x).any (fun e => x.ldIvl < eFrames e.dw)

/-- The job has movable work (R245), or an error that waits for a channel to halt (R256): a page to drain into its
entry's buffer, or bytes of it to read with a page for them and room for a read (R247). -/
def movable (s : State) (x : Xfer) : Bool :=
  if x.latched.isSome && x.ending.isNone then true else
  match jobEnt s x with
  | none => false
  | some (e, b) =>
    let fin := b + eLen e.dw
    let drain := x.wrPos < fin && (x.pages.any (fun p => p.st = .full || p.st = .draining) ||
      !(availFrom x.wrPos x.pages).isEmpty)
    let part : Bool := if x.iso then x.inPos < isoTop x else x.inPos % pageCap s x ≠ 0
    let load := x.inPos < fin && cutsLeft s x && (0 < emptyPages x || part) && x.ending.isNone && x.reads.length < 128
    match x.type with
    | .inp => drain
    | .out => load
    | .copy => drain || load

/-- Loads the OUT data of a tunnel request into EMPTY pages, with the device port in the place of the pump (R355). -/
def feedTunnel : Nat → Nat → State → State
  | 0, _, s => s
  | fuel + 1, k, s =>
    match xfer s k with
    | some x =>
      if x.type != .out || emptyPages x = 0 then s
      else
        match s.dev.reqs.find? (fun r => r.idx = some x.idx) with
        | some r =>
          let n := min (pageCap s x) (min r.feed.length ((total s x).1 - x.inPos))
          if n = 0 then s
          else
            let g : Page := { off := x.inPos, len := n, st := .full, segs := [(x.inPos, r.feed.take n)] }
            let s := setXfer k { x with pages := x.pages ++ [g], inPos := x.inPos + n, wrPos := x.wrPos + n } s
            let s := { s with dev := { s.dev with reqs := s.dev.reqs.map (fun y =>
              if y.idx = some x.idx then { y with feed := y.feed.drop n } else y) } }
            feedTunnel fuel k s
        | none => s
    | none => s

/-- The pages that are not kept turn EMPTY; shared ones go back under R242. -/
def dropPages (k : Nat) (kept : Page → Bool) (s : State) : State :=
  match xfer s k with
  | some x =>
    let keep := x.pages.filter kept
    let gone := x.pages.length - keep.length
    let s := setXfer k { x with pages := keep } s
    if gone = 0 then s
    else
      let st := (x.pipe.bind (pipe s)).map (·.state)
      let busy := (x.pipe.isNone || st = some .ready || st = some .active) && x.ending.isNone
      let s := if busy && x.inPos < (total s x).1 then s else giveShared k gone s
      match x.pipe with | some n => unblock n 1 s | none => s
  | none => s

/-- The pages below a stream position turn EMPTY (R242, R244). -/
def turnPages (k pos : Nat) (s : State) : State := dropPages k (fun p => pos < p.off + p.len) s

/-- IN data of the tunnel request that heads its stream: sent when the parent's transfer is under way, else told by
ERDY (R354, R355). -/
def tunnelOffer (k : Nat) (s : State) : State :=
  match xfer s k with
  | some x =>
    if x.q ≠ 4096 || x.type != .inp then s
    else
      match s.dev.reqs.find? (fun r => r.idx = some x.idx) with
      | some r =>
        let bs := (availFrom x.wrPos x.pages).take ((total s x).1 - x.wrPos)
        if bs.isEmpty || !tunFirst s r then s
        else if s.dev.flowing.contains (r.pair, r.stream) then
          let s := emit (.devData r.pair r.stream bs) s
          turnPages k (x.wrPos + bs.length) (setXfer k { x with wrPos := x.wrPos + bs.length } s)
        else tunErdy r.pair r.stream s
      | none => s
  | none => s

/-- Puts a job at the tail of its class queue when it has movable work and no channel; a tunnel request has no job. -/
def queueJob (k : Nat) (s : State) : State :=
  match xfer s k with
  | some x =>
    if x.q = 4096 then
      let s := tunnelOffer k (feedTunnel 512 k s)
      match x.pipe with | some n => unblock n 1 s | none => s
    else if x.chan.isSome || !movable s x || s.cis.high.contains k || s.cis.norm.contains k then s
    else if highJob s x then { s with cis := { s.cis with high := s.cis.high ++ [k] } }
    else { s with cis := { s.cis with norm := s.cis.norm ++ [k] } }
  | none => s

/-- Takes a job off its channel; the staging buffer is given up unwritten (R256). -/
def unbind (k : Nat) (s : State) : State :=
  match xfer s k with
  | some x =>
    match x.chan with
    | some c =>
      let s := setXfer k { x with chan := none, moved := 0 } s
      pumpOff c <| modPump c (fun y => { y with
        job := none, staged := 0, preempted := false
        st := match y.st with
          | .run => .idle
          | .pausing => .paused
          | .halted => if y.pause then .paused else .idle
          | o => o }) s
    | none => s
  | none => s

/-- Takes a job out of the class queues. -/
def dequeueJob (k : Nat) (s : State) : State :=
  { s with cis := { s.cis with high := s.cis.high.filter (· ≠ k), norm := s.cis.norm.filter (· ≠ k),
                               reqs := s.cis.reqs.filter (fun r => r.place ≠ k) } }

/-- An OUT job has loaded all that its entry asks for: its last page is FULL (R258). -/
def jobLoaded (s : State) (x : Xfer) : Bool :=
  x.type = .out && x.reads.isEmpty && x.rdN = 0 &&
  match jobEnt s x with
  | some (e, b) => b + eLen e.dw ≤ x.inPos || !cutsLeft s x
  | none => false

/-- An OUT job that has loaded its entry is done with its channel, also while that pauses (R258), and the next entry's
job follows in a chain (R245). -/
def nextJob : Nat → Nat → State → State
  | 0, _, s => s
  | fuel + 1, k, s =>
    match xfer s k with
    | some x =>
      if jobLoaded s x then
        let s := dequeueJob k (unbind k s)
        match jobEnt s x with
        | some (e, b) =>
          if eChain e.dw then nextJob fuel k (modXfer k (fun x => { x with jidx := x.jidx + 1, jbase := b + eLen e.dw }) s)
          else s
        | none => s
      else s
    | none => s

/-- A job that is bound and has neither movable work nor a read outstanding leaves its channel (R246). -/
def settleJob (k : Nat) (s : State) : State :=
  let s := nextJob 512 k s
  match xfer s k with
  | some x =>
    match x.chan with
    | some c => if (pump s c).st = .run && !movable s x && x.reads.isEmpty then unbind k s else s
    | none => queueJob k s
  | none => s

/-! ### Bursts in the engines -/

/-- The descriptor of a pipe in its engine. -/
def descOf (s : State) (n : Nat) : Option (Pipe × Desc) :=
  match pipe s n with
  | some x => match (engine s x.port (pHalf x)).descs.find? (fun d => d.pipe = n) with
    | some d => some (x, d)
    | none => none
  | none => none

def modDesc (n : Nat) (g : Desc → Desc) (s : State) : State :=
  match pipe s n with
  | some x => modEngine x.port (pHalf x)
      (fun e => { e with descs := e.descs.map (fun d => if d.pipe = n then g d else d) }) s
  | none => s

/-! ### Replies that wait for a pipe, and the end of a close (R134, R157) -/

/-- The state codes of Table 5-2; a CLOSED pipe has no record. -/
def pipeCode : PState → Nat
  | .idle => 1 | .ready => 2 | .active => 3 | .parked => 4 | .stopped => 5 | .halted => 6 | .held => 7 | .closing => 8

/-- STATE of a pipe's context. -/
def stateOf (s : State) (n : Nat) : Nat := match pipe s n with | some x => pipeCode x.state | none => 0

/-- The reply of a stop or a close (Table 12-5): DW13 has STATE after, and nothing for a close. A command that names a
stream endpoint is answered with the last of its streams, with the endpoint's STATE. -/
def replyStop (n code : Nat) (c : Word) (s : State) : State :=
  if s.sched.pipes.any (fun kv => kv.2.cmds.contains c) then s
  else
    match ent s 0 c with
    | some e =>
      let m := fld e.dw[2] 0 20
      let v := if fld e.dw[0] 0 8 = 0x91 then 0 else if m = n then code else stateOf s m
      publish 0 (endEntDw 0 c { d12 := 0, d13 := wd v, d14 := 0, d15 := 0 } s)
    | none => s

/-- Replies to the commands that wait for a pipe, with the state it has reached (R157). -/
def replyPipe (n : Nat) (code : Nat) (s : State) : State :=
  match pipe s n with
  | some x => x.cmds.foldl (fun s c => replyStop n code c s) (setPipe n { x with cmds := [], stopping := false } s)
  | none => s

/-- Forgets the context of a closed pipe. -/
def dropCtx (n : Nat) (s : State) : State :=
  { s with sched := { s.sched with cache := s.sched.cache.filter (fun c => c.1 ≠ n),
                                   overflow := s.sched.overflow.filter (· ≠ n),
                                   fills := s.sched.fills.filter (· ≠ n) } }

/-- The LTR message that the opening or closing of isochronous pipes calls for (R31). -/
def ltrUpdate (s : State) : State :=
  let need := s.sched.pipes.any (fun kv => kv.2.kind = .iso)
  if need = s.host.ltrNeed then s else tlp (.ltr need) { s with host := { s.host with ltrNeed := need } }

/-- A closing stream endpoint goes with the last of its streams. -/
def closeEndpoint (x : Pipe) (s : State) : State :=
  match pipe s x.link with
  | some e =>
    if x.kind = .stream && e.kind = .streamEp && e.state = .closing &&
        !s.sched.pipes.any (fun kv => kv.2.kind = .stream && kv.2.link = x.link) then dropCtx x.link (delPipe x.link s)
    else s
  | none => s

/-- A periodic pipe of the half is open (R184). -/
def periodicOpen (s : State) (p h : Nat) : Bool :=
  s.sched.pipes.any (fun kv => periodic kv.2 && kv.2.port.val = p && pHalf kv.2 = h)

/-- Deletes a pipe whose entries have been ended: charge freed at the next tick, context dropped (R148); the last
periodic pipe of a half lets a new idle period begin (R184). -/
def erasePipe (n : Nat) (s : State) : State :=
  match pipe s n with
  | some x =>
    let s := unlink n s
    let s := if periodic x then modPsched x.port (fun y => { y with freed := y.freed ++ [x] }) s else s
    let s := modEngine x.port (pHalf x) (fun e => { e with retry := e.retry.filter (· ≠ n) }) s
    let s := ltrUpdate (closeEndpoint x (dropCtx n (delPipe n s)))
    portRemoved x.port (if periodic x && !periodicOpen s x.port (pHalf x) then idleStart x.port (pHalf x) s else s)
  | none => s

/-! ### Barrier reads and ends of entries (R18, R54) -/

/-- Ends an entry: the barrier read goes first when BAR is honoured and the entry wrote data, to the dword of its last
data write (R54). -/
def endEntry (q : Nat) (i : Word) (c : Cpl) (wrote : Option Nat) (s : State) : State :=
  match ent s q i, queue s q, wrote with
  | some e, some x, some a =>
    if eBar e.dw then
      let s := modEnt q i (fun e => { e with st := .barrier c.dws a }) s
      if quiet s x.owner then s else issueRead (.barrier (Fin.ofNat 4096 q) i) x.owner a 0 s
    else complete q i c s
  | _, _, _ => complete q i c s

/-- Removes an entry from its pipe. -/
def detach (n : Nat) (q : Nat) (i : Word) (s : State) : State :=
  modPipe n (fun x => { x with ents := x.ents.filter (fun r => r ≠ ⟨q, i⟩) }) s

/-- The stamp of a transfer's completions (R124). -/
def Xfer.stamp (x : Xfer) (c : Cpl) : Cpl :=
  if x.stamped then { c with interval := x.stampN, offset := x.stampO, atWrite := false } else c.atMaster

/-- The transfer's last bus packet ends now; isochronous entries keep the stamp of their first packet (R124, R235). -/
def stampNow (k : Nat) (s : State) : State :=
  match xfer s k with
  | some x =>
    if x.iso then s
    else setXfer k { x with stamped := true, stampN := (ptime s x.port).num, stampO := portPos s x.port } s
  | none => s

/-- The bus side of a transfer has reached a stream position with the packet that ends now (R124): its end is kept while
it may be the last packet of an entry. -/
def markPacket (k pos : Nat) (s : State) : State :=
  match xfer s k with
  | some x =>
    let fin := match curEnt s x with | some e => x.base + eLen e.dw | none => x.base
    setXfer k { x with marks := x.marks.filter (fun m => fin ≤ m.1) ++
      [(pos, (ptime s x.port).num, portPos s x.port)] } s
  | none => s

/-- The stamp of an entry of a chain that ends at a stream position: that of the packet which reached it (R109, R124).
-/
def Xfer.stampAt (x : Xfer) (pos : Nat) (c : Cpl) : Cpl :=
  match x.marks.find? (fun m => pos ≤ m.1) with
  | some m => { c with interval := m.2.1, offset := m.2.2 }
  | none => x.stamp c

/-- Frees the place of a transfer with everything it holds (R242). -/
def freeXfer (k : Nat) (s : State) : State :=
  match xfer s k with
  | some x =>
    let s := dequeueJob k (unbind k s)
    let s := giveShared k x.shared s
    let loading := x.pages.filter (fun p => p.st = .loading)
    let last := fun (p : Page) => (x.reads.filter (fun r => r.off < p.off + p.len && p.off < r.off + r.len)).getLast?
    let held := fun (num : Nat) => (loading.filter (fun p => (last p).map (·.num) = some num)).length
    let tag := s.host.reads.foldl (fun (a : List OutRead × Nat) r => match r.ref with
      | .pump pl num =>
        if pl = k then
          let n := min (held num) a.2
          (a.1 ++ [{ r with discard := true, pages := n }], a.2 - n)
        else (a.1 ++ [r], a.2)
      | _ => (a.1 ++ [r], a.2)) ([], x.shared)
    let reads := tag.1
    let s := { s with cis := { s.cis with sharedFree := s.cis.sharedFree - (x.shared - tag.2) } }
    { s with cis := { s.cis with xfers := erase s.cis.xfers k }, host := { s.host with reads := reads } }
  | none => s

/-! ### Starting what stands at a pipe's head -/

/-- Creates an active transfer at a place (R138); SCH_ACTIVE.PEAK follows. -/
def newXfer (k : Nat) (y : Xfer) (s : State) : State :=
  let s := setXfer k y s
  let a := activeCount s
  { s with sched := { s.sched with peak := if s.sched.peak.toNat < a then BitVec.ofNat 13 a else s.sched.peak } }

/-- Creates the active transfer of a pipe's head entry (R138). -/
def activate (n : Nat) (x : Pipe) (r : EntRef) (d : Slot) (s : State) : State :=
  match freePlace s with
  | some k =>
    modPipe n (fun x => { x with x := some k, stage := 0, repeats := 0, leftPkts := 0 })
      (newXfer k { type := if eIn d then .inp else .out, inst := x.inst, q := r.q, pipe := some n, idx := r.idx,
                   jidx := r.idx, urg := eUrg d, iso := x.kind = .iso, port := x.port, sig := eSig d } s)
  | none => s

/-- The rank of a transfer's request among those that arrive in one cycle (R241): isochronous pipes, URG jobs, lower
port, pipes before copies, lower pipe or queue. A copy, which has no port, comes behind every port. DEDUCED (log 109).
-/
def reqRank (s : State) (x : Xfer) : Nat :=
  let c := b1 x.pipe.isNone
  (((b1 (!x.iso) * 2 + b1 (!highJob s x)) * 16 + (if x.pipe.isNone then 8 else x.port.val)) * 2 + c) * 2 ^ 20 +
    x.pipe.getD x.q

/-- Puts a request behind those that came before it, and among those of its own tick in the order of R241. -/
def placeReq (r : PageReq) : List PageReq → List PageReq
  | [] => [r]
  | a :: as => if a.mic = r.mic && a.pos = r.pos && r.rank < a.rank then r :: a :: as else a :: placeReq r as

/-- A bound OUT job or copy asks for one shared page for each of at most `m` pages that it loads ahead, as long as its
entry has bytes not yet loaded (R241). DEDUCED (log 109). -/
def askPages (m k : Nat) (s : State) : State :=
  match xfer s k, (xfer s k).bind (jobEnt s) with
  | some x, some (e, b) =>
    let need := if x.type != .inp && (x.chan.isSome || x.q = 4096) && x.ending.isNone then
      (b + eLen e.dw - x.inPos + pageCap s x - 1) / pageCap s x else 0
    let mine := (s.cis.reqs.filter (fun r => r.place = k)).length
    let n := min m (min (need - emptyPages x) (allot s x - ownPages x) - mine)
    let r : PageReq := { place := k, pages := 1, mic := s.iso.mic, pos := s.iso.pos, rank := reqRank s x }
    { s with cis := { s.cis with reqs := (List.replicate n r).foldl (fun l r => placeReq r l) s.cis.reqs } }
  | _, _ => s

/-- The request at the head of the queue is answered (R241). DEDUCED (log 109). -/
def grantPages (r : PageReq) (s : State) : State :=
  let s := { s with cis := { s.cis with reqs := s.cis.reqs.tail } }
  let s := queueJob r.place (takeShared r.place r.pages s)
  match (xfer s r.place).bind (·.pipe) with
  | some n => unblock n 1 s
  | none => s

/-- Every request that came before is answered: each takes one FAB cycle (R241). DEDUCED (log 109). -/
def grantAll (s : State) : State := s.cis.reqs.foldl (fun s r => grantPages r s) s

/-- The head entry needs no bus traffic: a CONTROL entry with a SET_ADDRESS setup packet (R103), or a BULK_IN or INTR_IN
of total length 0 (R105). -/
def headIdle (s : State) (r : EntRef) : Bool :=
  match queue s r.q, ent s r.q r.idx with
  | some y, some e =>
    let c := chainFrom (eSig e.dw) r.idx y.ents
    eSetAddress e.dw || ((eOp e.dw = 3 || eOp e.dw = 5) && c.2 && (c.1.map (fun e => eLen e.dw)).sum = 0)
  | _, _ => false

/-- The status of a transfer that ended short, before the entry in which it ended is asked for SHORT_OK (R109).
DEDUCED (log 39). -/
def shortEnd : Nat := 0x101

/-- SHORT, or OK where the entry in which the transfer ended has SHORT_OK set (R109). DEDUCED (log 39). -/
def Cpl.judged (c : Cpl) (d : Slot) : Cpl :=
  if c.status = shortEnd then { c with status := if eShortOk d then 0 else 1 } else c

/-- What the followers of an entry that ended a transfer complete with: its own status after a short end (R109) and
where Table 5-2 gives every entry one status, ABORTED otherwise, with the ERRINFO of Table 4-8. -/
def followCpl (c : Cpl) : Cpl :=
  if c.status ≤ 1 || c.status = shortEnd || c.status = 5 || c.status = 6 || c.status = 7 || c.status = 10 then
    { c with actual := 0 }
  else if c.status = 8 then { c with status := 7, actual := 0 }
  else { c with status := 7, errinfo := 2, actual := 0 }

/-- What the followers complete with that are attached after the transfer's end (R110): as R109 gives it, since no row
of Table 5-2 meets an entry that is not attached. DEDUCED (log 39). -/
def lateCpl (c : Cpl) : Cpl :=
  let f := followCpl c
  if f.status = 5 || f.status = 6 || f.status = 10 then { f with status := 7, errinfo := 2 } else f

/-- The next index of a chain whose transfer has ended is not attached yet: word is left for it (R110). -/
def leaveWord (q : Nat) (i : Word) (sig : Nat × Nat × Nat) (c : Cpl) (s : State) : State :=
  modQueue q (fun y => { y with chainEnds := y.chainEnds.filter (fun z => z.1 ≠ i) ++ [(i, sig, c)] }) s

/-- Completes the followers of an ended chain (R109, R110), and leaves word for those not yet attached. -/
def endFollowers (n : Option Nat) (q : Nat) (sig : Nat × Nat × Nat) (c : Cpl) : List Ent → State → State
  | [], s => s
  | e :: es, s =>
    let s := match n with | some n => detach n q e.idx s | none => s
    let s := if es.isEmpty && eChain e.dw then leaveWord q (e.idx + 1) sig (lateCpl c) s else s
    endFollowers n q sig c es (complete q e.idx c s)

/-- Completes a head entry that needs no bus traffic, with its followers (R103, R105, R109). -/
def endIdle (n : Nat) (r : EntRef) (s : State) : State :=
  match queue s r.q, ent s r.q r.idx with
  | some y, some e => endFollowers (some n) r.q (eSig e.dw) (Cpl.atMaster { status := 0 }) ((chainFrom (eSig e.dw) r.idx y.ents).1) s
  | _, _ => s

/-- A READY pipe with no entry left is IDLE (Table 5-2). -/
def emptied (n : Nat) (s : State) : State :=
  match pipe s n with
  | some x => if x.state = .ready && x.ents.isEmpty && x.x.isNone then
      setPipe n { x with state := .idle, block := 0 } (unlink n s) else s
  | none => s

/-- Completes the entries at a pipe's head that need no bus traffic (R103, R105), and starts the job of an OUT transfer
whose first entry has come to the head of a READY or ACTIVE pipe (R138). -/
def startHead : Nat → Nat → State → State
  | 0, _, s => s
  | fuel + 1, n, s =>
    match pipe s n with
    | some x =>
      match x.x, x.ents with
      | none, r :: _ =>
        if (x.state != .ready && x.state != .active) then s
        else if headIdle s r then startHead fuel n (emptied n (endIdle n r s))
        else
          match ent s r.q r.idx with
          | some e =>
            if eOp e.dw = 2 || eOp e.dw = 4 || eOp e.dw = 6 then
              if canStart s x.inst (periodic x) then
                match freePlace s with
                | some k => askPages 255 k (queueJob k (activate n x r e.dw s))
                | none => s
              else blockPipe n 4 s
            else s
          | none => s
      | _, _ => s
    | none => s

/-- As many entries at the head as need no bus traffic, and the job behind them. -/
def startHeads (n : Nat) (s : State) : State :=
  startHead ((match pipe s n with | some x => x.ents.length | none => 0) + 1) n s

/-- Next state of a pipe whose transfer has ended: the next entry, or IDLE. -/
def nextHead (n : Nat) (s : State) : State :=
  match pipe s n with
  | some x =>
    match x.state with
    | .ready => if x.ents.isEmpty then emptied n s else startHeads n s
    | .active => startHeads n s
    | _ => s
  | none => s

/-- A pipe's error count returns to 0, and its place in the retry store is free (R196). -/
def clearErrs (n : Nat) (s : State) : State :=
  match pipe s n with
  | some x => modEngine x.port (pHalf x) (fun e => { e with retry := e.retry.filter (· ≠ n) })
      (setPipe n { x with errs := 0 } s)
  | none => s

/-- The bus side of a transfer leaves its pipe: the burst is over, the chain's entries go, and the next entry stands at
the head (R104–R106, R134). What is still in its pages drains without the pipe. -/
def detachXfer (k : Nat) (s : State) : State :=
  match xfer s k with
  | some x =>
    match x.pipe.bind (fun n => (pipe s n).map (fun y => (n, y))) with
    | some (n, y) =>
      if y.x = some k then
        let mine := (chainOf s x).1.map (fun (e : Ent) => EntRef.mk x.q e.idx)
        let s := modDesc n (fun d => { d with isOver := d.isOver || d.onWire }) s
        nextHead n (clearErrs n (modPipe n (fun y => { y with
          x := none, ents := y.ents.filter (fun r => !mine.contains r), stage := 0, leftPkts := 0, repeats := 0
          lastIso := if y.kind = .iso && y.isv.begun then some y.isv.slot else y.lastIso
          isv := {}, ended := true }) s))
      else s
    | none => s
  | none => s

/-- The close of a CLOSING pipe ends when its burst and its transfers have ended: the other entries are ABORTED (R134).
DEDUCED (log 110). -/
def closeDone (n : Nat) (s : State) : State :=
  match pipe s n with
  | some x =>
    if x.state = .closing && x.x.isNone && (descOf s n).isNone && !x.splitOut &&
        !s.cis.xfers.any (fun kv => kv.2.pipe = some n) then
      let s := x.ents.foldl (fun s r =>
        complete r.q r.idx (x.gone.getD { status := 7, errinfo := 3 }).atMaster (detach n r.q r.idx s)) s
      erasePipe n (replyPipe n 0 s)
    else s
  | none => s

/-! ### The end of a transfer -/

/-- The entries of a transfer end: the present one with what was moved of it, its followers after it (R109, R110).
DEDUCED (log 39); DEDUCED (log 40). -/
def endChain (x : Xfer) (pos : Nat) (c : Cpl) (chain : List Ent) (s : State) : State :=
  match chain with
  | e :: es =>
    let c := { c.judged e.dw with actual := wd (pos - x.base) }
    let c := if c.status = 8 && !e.started && pos = x.base then { c with status := 7 } else c
    let s := match x.pipe with | some n => detach n x.q e.idx s | none => s
    let s := if es.isEmpty && eChain e.dw && x.brk.isNone then
      leaveWord x.q (e.idx + 1) (eSig e.dw) (lateCpl c) s else s
    let s := endEntry x.q e.idx c x.lastW s
    endFollowers x.pipe x.q (eSig e.dw) (followCpl c) es s
  | [] => leaveWord x.q x.idx x.sig (if c.status = 8 || lateCpl c ≠ followCpl c then lateCpl c else { c with actual := 0 }) s

/-- The place of a transfer stays taken while its last entry waits for its barrier read (R54, R239). -/
def keepPlace (k : Nat) (x : Xfer) (s : State) : State :=
  match (ent s x.q x.idx).map (fun (e : Ent) => e.st) with
  | some (.barrier _ _) =>
    setXfer k { type := .inp, inst := x.inst, q := x.q, pipe := none, idx := x.idx, urg := x.urg, bar := true } s
  | _ => s

/-- The end of a transfer, without what may start in its place. -/
def dropXfer (k : Nat) (c : Cpl) (s : State) : State :=
  match xfer s k with
  | some x =>
    let pos := match x.type with | .out => x.ackPos | _ => x.wrPos
    let chain := (chainOf s x).1
    let s := keepPlace k x (endChain x pos c chain (freeXfer k (detachXfer k s)))
    match x.pipe with | some n => closeDone n s | none => s
  | none => s

/-- One PUMP_COPY that waits for a place becomes an active transfer (R239); with LEN 0 it has nothing to move and ends
at once. -/
def startCopy (r : EntRef) (s : State) : State :=
  match ent s r.q r.idx, queue s r.q with
  | some e, some y =>
    match canStart s y.owner (eUrg e.dw), freePlace s with
    | true, some k =>
      let s := { s with cis := { s.cis with copyWait := s.cis.copyWait.filter (· ≠ r) } }
      let s := newXfer k { type := .copy, inst := y.owner, q := r.q, pipe := none, idx := r.idx, urg := eUrg e.dw } s
      if eLen e.dw = 0 then dropXfer k (Cpl.atMaster { status := 0 }) s else askPages 255 k (queueJob k s)
    | _, _ => s
  | _, _ => { s with cis := { s.cis with copyWait := s.cis.copyWait.filter (· ≠ r) } }

/-- Transfers that waited for a place start (R137, R239): the pipes, then the copies in their order, each tried.
DEDUCED (log 116). -/
def retryBlocked (s : State) : State :=
  let s := (pipesWhere s (fun x => x.block = 4)).foldl (fun s n => startHeads n (unblock n 4 s)) s
  s.cis.copyWait.foldl (fun s r => startCopy r s) s

/-- Ends a transfer with its bus-side status: the present entry, its followers, the place (R109, R242). -/
def endXfer (k : Nat) (c : Cpl) (s : State) : State := retryBlocked (dropXfer k c s)

/-- The barrier read of a transfer's last entry has returned: its place and its reserved pages are free (R239). -/
def freeBarrier (q : Nat) (i : Word) (s : State) : State :=
  match s.cis.xfers.find? (fun kv => kv.2.bar && kv.2.q = q && kv.2.idx = i) with
  | some (k, _) => retryBlocked { s with cis := { s.cis with xfers := erase s.cis.xfers k } }
  | none => s

/-- The queue of a transfer drains, or its request is cut (R83, R356): what waits for an entry is discarded. -/
def draining (s : State) (x : Xfer) : Bool :=
  x.cut || match queue s x.q with | some q => q.st = .draining | none => false

/-- The transfer's pipe is HELD: no entry of it completes until the hold ends, unless its queue drains (R125). -/
def onHold (s : State) (x : Xfer) : Bool :=
  (x.pipe.bind (pipe s)).any (fun p => p.state = .held) && !draining s x

/-- A control transfer before its data stage completes no entry: its setup packet is the head entry's (R108). -/
def beforeData (s : State) (x : Xfer) : Bool :=
  x.ending.isNone && (x.pipe.bind (pipe s)).any (fun p => p.kind = .control && p.stage = 0)

/-- A burst of the transfer runs: the scheduler has dispatched the entry that it now serves (R83). -/
def inBurst (s : State) (k : Nat) (x : Xfer) : Bool :=
  match x.pipe with
  | some n => (pipe s n).bind (·.x) = some k && (descOf s n).any (fun d => d.2.onWire && !d.2.isOver)
  | none => false

/-- Completes the entries of a chain whose buffers are used up while the transfer goes on (R109). A short packet that
ends exactly at the end of a buffer leaves that entry OK; the next one is SHORT, or OK with its own SHORT_OK.
DEDUCED (log 40); DESIGN CHOICE (log 117). -/
def passEntries : Nat → Nat → State → State
  | 0, _, s => s
  | fuel + 1, k, s =>
    match xfer s k with
    | some x =>
      match curEnt s x with
      | some e =>
        let pos := match x.type with | .out => x.ackPos | _ => x.wrPos
        let len := eLen e.dw
        let closed := (chainOf s x)
        if e.st = .attached && eChain e.dw && x.base + len ≤ pos && (1 < closed.1.length || !closed.2) &&
            !onHold s x && !beforeData s x then
          let c : Cpl := x.stampAt (x.base + len) { status := 0, actual := wd len }
          let s := match x.pipe with
            | some n => modPipe n (fun p => { p with ended := true }) (detach n x.q x.idx s)
            | none => s
          let s := endEntry x.q x.idx c x.lastW s
          let s := if x.base + len < x.inPos then markStarted x.q (x.idx + 1) s else s
          let s := if x.type = .out then s else dequeueJob k (unbind k s)
          passEntries fuel k (modXfer k (fun x => { x with base := x.base + len, idx := x.idx + 1, lastW := none }) s)
        else s
      | none => s
    | none => s

/-- The last packet of an ended transfer runs past its attached entries, and a follower may still come for the rest
(R111). -/
def straddles (s : State) (x : Xfer) : Bool :=
  let t := total s x
  x.type = .inp && !t.2 && t.1 < x.inPos && !draining s x && x.pages != []

/-- What is left to do once pages have been written or acknowledged: entries passed, the transfer ended, the job
unbound. -/
def progress (k : Nat) (s : State) : State :=
  let s := passEntries 512 k (tunnelOffer k s)
  match xfer s k with
  | some x =>
    let s := if inBurst s k x then markStarted x.q x.idx s else s
    if onHold s x then settleJob k s
    else
    match x.ending with
    | some c =>
      let wait := straddles s x
      let s := if wait then s else detachXfer k s
      if x.type = .out || (!wait && ((availFrom x.wrPos x.pages).isEmpty || (total s x).1 ≤ x.wrPos)) then endXfer k c s
      else settleJob k s
    | none => if x.type = .copy && (total s x).1 ≤ x.wrPos then endXfer k (Cpl.atMaster { status := 0 }) s
        else settleJob k s
  | none => s

/-- An abandoned tunnel request: nobody takes its IN data any more (R356). -/
def tunGone (s : State) (x : Xfer) : Bool := x.q = 4096 && !s.dev.reqs.any (fun r => r.idx = some x.idx)

/-- The bus side of a transfer ends with a status, unless it has ended; FULL pages are written first (R194, R216). -/
def endBus (k : Nat) (c : Cpl) (s : State) : State :=
  match xfer s k with
  | some x =>
    let pages := if x.type = .inp && !tunGone s x then x.pages else []
    progress k (setXfer k { x with ending := some (x.ending.getD (x.stamp c)), pages := pages } s)
  | none => s

/-- Ends every attached entry of a pipe (Table 5-2): the started transfer with one status, the others with another.
DEDUCED (log 110). -/
def endAll (n : Nat) (started other : Cpl) (s : State) : State :=
  match pipe s n with
  | some x =>
    let mine := match x.x.bind (xfer s) with
      | some y => (chainOf s y).1.map (fun (e : Ent) => EntRef.mk y.q e.idx)
      | none => []
    let rest := x.ents.filter (fun r => !mine.contains r)
    let s := rest.foldl (fun s r => complete r.q r.idx other.atMaster (detach n r.q r.idx s)) s
    match x.x with
    | some k => endBus k started s
    | none => s
  | none => s

end Sys2Proof.Machine
end

