-- ==== Sys2Proof/Machine/Attach.lean ====
section
/-! DEFINITION. Attaching fetched entries to their pipes and jobs (R77, R103, R106, R108–R111, R130, R133, R134,
R448). -/

namespace Sys2Proof.Machine

open Sys2Proof

/-- The opcode and direction fit the pipe (Table 4-9). -/
def opFits (d : Slot) (x : Pipe) : Bool :=
  match eOp d with
  | 1 => x.kind = .control
  | 2 => (x.kind = .bulk || x.kind = .stream) && !x.dirIn
  | 3 => (x.kind = .bulk || x.kind = .stream) && x.dirIn
  | 4 => x.kind = .interrupt && !x.dirIn
  | 5 => x.kind = .interrupt && x.dirIn
  | 6 => x.kind = .iso && !x.dirIn
  | 7 => x.kind = .iso && x.dirIn
  | _ => false

/-- The pipe that PIPE and STREAM select (R106, R133); none when no open pipe of the instance answers to them. An entry
that names a stream's own pipe goes to it, whatever its STREAM. DESIGN CHOICE (log 118). -/
def resolve (s : State) (i : Nat) (d : Slot) : Option Nat :=
  match pipe s (ePipe d) with
  | some x =>
    if x.inst ≠ i then none
    else if x.kind = .streamEp then
      (if 1 ≤ eStream d && eStream d ≤ x.streams then some (x.link + eStream d - 1) else none)
    else some (ePipe d)
  | none => none

/-- The pipe's transfer waits for this entry (R111). -/
def waitsFor (s : State) (x : Pipe) (r : EntRef) (d : Slot) : Bool :=
  match x.x.bind (xfer s) with
  | some y => y.q = r.q && y.idx = r.idx && y.sig = eSig d
  | none => false

/-- The index before it is on the pipe and its chain goes on with this entry (R108). -/
def follows (s : State) (x : Pipe) (r : EntRef) (d : Slot) : Bool :=
  match ent s r.q (r.idx - 1) with
  | some e => eChain e.dw && eSig e.dw = eSig d && x.ents.contains ⟨r.q, r.idx - 1⟩
  | none => false

/-- Where an entry goes in its pipe's order: a chain's follower behind the chain, else at the tail (R77, R111). -/
def placeRef (s : State) (x : Pipe) (r : EntRef) (d : Slot) : List EntRef :=
  let prev : EntRef := ⟨r.q, r.idx - 1⟩
  if waitsFor s x r d then r :: x.ents
  else if follows s x r d then
    let a := x.ents.takeWhile (· ≠ prev)
    a ++ prev :: r :: x.ents.drop (a.length + 1)
  else x.ents ++ [r]

/-- The part of a page that lies below a stream position. -/
def cutPage (pos : Nat) (g : Page) : Page :=
  { g with len := min g.len (pos - g.off), segs := g.segs.map (fun t => (t.1, t.2.take (pos - t.1))) }

/-- Data beyond the end of the chain is discarded (R126): the bytes that fit are written. -/
def cutPages (k pos : Nat) (s : State) : State :=
  modXfer k (fun y => { y with pages := (y.pages.filter (fun g => g.off < pos)).map (cutPage pos)
                               inPos := min y.inPos pos }) s

/-- The end of a transfer's chain has become known, and nothing is left to carry on the bus (R105, R108, R111, R126,
Table 4-9). DEDUCED (log 38). -/
def chainKnown (k : Nat) (s : State) : State :=
  match xfer s k with
  | some y =>
    let t := total s y
    let babble : Cpl := y.stamp { status := 3, errinfo := 1 }
    let halt := fun (n : Nat) (s : State) =>
      if ((pipe s n).bind (·.x)) = some k then modPipe n (fun z => { z with state := .halted }) (unlink n s) else s
    if y.ending.isSome then
      (if t.2 && t.1 < y.inPos && y.type = .inp then
        progress k (modXfer k (fun y => { y with ending := some babble })
          (cutPages k t.1 (match y.pipe with | some n => halt n s | none => s)))
       else progress k s)
    else
    match y.pipe.bind (fun n => (pipe s n).map (fun x => (n, x))) with
    | some (n, x) =>
      let pos := if y.type = .out then y.ackPos else y.inPos
      let last := (chainOf s y).1.getLast?
      if !t.2 || pos < t.1 || y.iso then s
      else if x.kind = .control then
        if x.stage = 1 then unblock n 1 (modPipe n (fun z => { z with stage := 2, seq := statusSeq z }) s) else s
      else if y.type = .out then
        match last with
        | some e => if t.1 = 0 || (eZlp e.dw && t.1 % max x.mps 1 = 0) then unblock n 1 s else endBus k { status := 0 } s
        | none => endBus k { status := 0 } s
      else if t.1 < pos && last.isSome then endBus k babble (halt n (cutPages k t.1 s))
      else endBus k { status := 0 } s
    | none => s
  | none => s

/-- The transfers whose chain an index ends or goes on: it is the one they wait for, or it follows or belongs to the
attached part of their chain. -/
def chainsAt (s : State) (q : Nat) (i : Word) (f : Xfer → Bool) : List Nat :=
  (s.cis.xfers.filter (fun kv => kv.2.q = q && kv.2.type != .copy && f kv.2 && (kv.2.idx = i ||
    (chainOf s kv.2).1.any (fun e => e.idx = i || (e.idx = i - 1 && eChain e.dw))))).map Prod.fst

/-- An entry or an ERDY at the same time as the acceptance of a stop is a ready-and-cancel collision (R154). Which of
those that come in the port interval of the stop come at the same time is a free value. DESIGN CHOICE (log 107). -/
def readyCancel (n : Nat) (x : Pipe) (s : State) : State :=
  if x.stoppedAt = some (ptime s x.port).num && s.iso.running then
    let v := takeFree s
    if v.1.getLsbD 0 then
      modPipe n (fun y => { y with rdycans := y.rdycans + 1 })
        { v.2 with sched := { v.2.sched with rdycan := v.2.sched.rdycan + 1 } }
    else v.2
  else s

/-- An entry arrives at its pipe (Table 5-2, "entry attached"). -/
def pipeAttach (n : Nat) (r : EntRef) (d : Slot) (s : State) : State :=
  match pipe s n with
  | some x =>
    let x := { x with ents := placeRef s x r d }
    let s := needCtx n s
    match x.state with
    | .closing => complete r.q r.idx (Cpl.atMaster { status := 7, errinfo := 3 }) s
    | .idle => startHeads n (link n false (setPipe n { x with state := .ready } s))
    | w =>
      let s := if w = .stopped || x.stopping then readyCancel n x s else s
      let s := modPipe n (fun y => { y with ents := x.ents, rdyLatch := y.rdyLatch || decide (w = .stopped) }) s
      let s := if w = .ready || w = .active then startHeads n s else s
      match x.x with
      | some k => unblock n 1 (progress k (askPages 255 k s))
      | none => s
  | none => s

/-- A PUMP_COPY becomes an active transfer of its own, or waits for a place (R239). -/
def attachCopy (q : Nat) (i : Word) (s : State) : State :=
  retryBlocked { s with cis := { s.cis with copyWait := s.cis.copyWait ++ [⟨q, i⟩] } }

/-- What an entry is attached to: its pipe, its job, or nothing (Tables 4-2, 4-9). The followers of a chain whose first
entry ends here each have their own outcome. DESIGN CHOICE (log 119). -/
def attachOp (q : Nat) (x : Queue) (e : Ent) (s : State) : State :=
  let d := e.dw
  let bad : Cpl → State → State := fun c s => complete q e.idx c.atMaster s
  match eOp d with
  | 0x0B => bad { status := 0 } s
  | 0x09 => s
  | 0x0A => modQueue q (fun y => { y with fenceHold := true }) s
  | 0x08 => attachCopy q e.idx s
  | op =>
    if op = 0 || 0x0B < op then bad { status := 4, errinfo := 0xFF } s
    else
      match resolve s x.owner d with
      | none => bad { status := 5, errinfo := 3 } s
      | some n =>
        match pipe s n with
        | none => bad { status := 5, errinfo := 3 } s
        | some p =>
          let r : EntRef := ⟨q, e.idx⟩
          if !opFits d p then bad { status := 4, errinfo := 0xFF } s
          else pipeAttach n r d (modEnt q e.idx (fun e => { e with pipe := some n, att := (ptime s p.port).num }) s)

/-- The entry at an index goes on the chain of a transfer whose bus side has ended: it waits for that end (R109,
R110). -/
def goesOn (s : State) (k q : Nat) (i : Word) : Bool :=
  match xfer s k with
  | some y => y.q = q && (y.idx = i || (chainOf s y).1.any (fun e => e.idx = i - 1 && eChain e.dw))
  | none => false

/-- Attaches one entry of a submission queue. A chain that it does not go on ends as if the CHAIN before it were clear
(Table 4-9). DEDUCED (log 38); DEDUCED (log 39). -/
def attach (q : Nat) (x : Queue) (e : Ent) (s : State) : State :=
  let d := e.dw
  let word := x.chainEnds.find? (fun z => z.1 = e.idx && z.2.1 = eSig d)
  let s := modEnt q e.idx (fun e => { e with st := .attached }) s
  let s := (chainsAt s q e.idx (fun y => y.sig ≠ eSig d)).foldl (fun s k => chainKnown k s) s
  let s := modQueue q (fun y => { y with chainEnds := y.chainEnds.filter (fun z => z.1 ≠ e.idx) }) s
  match word with
  | some (_, sig, c) =>
    let c := c.judged d
    complete q e.idx c (if eChain d then leaveWord q (e.idx + 1) sig (lateCpl c) s else s)
  | none =>
    let drained := (chainsAt s q e.idx (fun y => y.sig = eSig d && y.ending.isSome)).filter (fun k => goesOn s k q e.idx)
    let s := if drained.isEmpty then attachOp q x e s else s
    (chainsAt s q e.idx (fun y => y.sig = eSig d)).foldl (fun s k => chainKnown k s) s

/-- The next entry to attach: the first that is not attached, if its read has returned and no fence holds (R77). -/
def nextAttach (x : Queue) : Option Ent :=
  if x.fenceHold then none
  else
    match x.ents.find? (fun e => e.st = .reading || e.st = .fetched) with
    | some e => if e.st = .fetched then some e else none
    | none => none

/-- Attaches fetched entries in index order (R77), also on a STOPPED queue (R448). Commands of queue 0 wait for the
command processor. DESIGN CHOICE (log 137). -/
def attachAll : Nat → Nat → State → State
  | 0, _, s => s
  | fuel + 1, q, s =>
    if q = 0 then s
    else
      match queue s q with
      | some x =>
        if x.st != .enabled && x.st != .stopped then s
        else match nextAttach x with
          | some e => attachAll fuel q (attach q x e s)
          | none => s
      | none => s

end Sys2Proof.Machine
end

