-- ==== Sys2Proof/Machine/Queues.lean ====
section
/-! DEFINITION. The queue engine's commands (file 03): doorbells, cell and entry reads, fetch turns, fences, the event
queues' poll, and the enabling and disabling of queue 0. -/

namespace Sys2Proof.Machine

open Sys2Proof

/-- Issues a cell read of a queue (R66). -/
def cellRead (q : QueueId) (s : State) : State :=
  match queue s q with
  | some x => issueRead (.cell q) x.owner x.cell 16 s
  | none => s

/-- A cell read of the queue is outstanding, or waits for a tag. -/
def cellOut (s : State) (q : QueueId) : Bool := readOpen s (.cell q)

/-- A dropped doorbell (R63, Table 3-3). -/
def dropDoorbell (s : State) : State := { s with qe := { s.qe with dbdrop := s.qe.dbdrop + 1 } }

/-- The event queue is full and an event waits (R92); an EVQ_LOST that is due counts as one. DESIGN CHOICE (log 120). -/
def evBlocked (x : Queue) : Bool := x.isEvent && !evRoom x && (!x.waiting.isEmpty || x.lostSince ≠ 0)

/-- A doorbell of a queue (R71, R92, R307, Table 3-3). DEDUCED (log 37). -/
def ring (q : QueueId) (s : State) : State :=
  match queue s q with
  | none => dropDoorbell s
  | some x =>
    if x.st != .enabled || gated s x.owner then dropDoorbell s
    else if x.isEvent && !evBlocked x then s
    else if cellOut s q || quiet s x.owner then setQueue q { x with merged := true } s
    else cellRead q s

/-- The global queue that a tenant's local number is bound to (R62). -/
def localQueue (s : State) (i j : Nat) : Option Nat :=
  (s.qe.queues.find? (fun kv => kv.2.owner = i && kv.2.localNo = j && i ≠ 0)).map Prod.fst

/-- The function answers memory requests (Tables 2-5, 2-6). -/
def answers (s : State) (i : Nat) : Bool := (fn s i).memEnable && (fn s i).dstate = .d0

/-- The function exists: the physical one, or a virtual one of an instance that is not ABSENT. -/
def exists' (s : State) (i : Nat) : Bool := i = 0 || (inst s i).st != .absent

/-- A virtual function that is enabled (R301, R305). -/
def vfOn (s : State) (i : Nat) : Bool :=
  i ≠ 0 && s.host.vfEnable && i ≤ s.host.numVfs && (inst s i).st != .absent

/-- DOORBELL_WRITE, behind the crossing queue. -/
def doorbell (d : Doorbell) (s : State) : State :=
  match d with
  | .manager q => if answers s 0 then ring q (wakeLink (ungate s)) else answerTlp (.unsupported 0) s
  | .tenant i j =>
    if !answers s i then answerTlp (.unsupported i) s
    else match localQueue s i j with
      | some q => ring (Fin.ofNat 4096 q) (wakeLink (ungate s))
      | none => dropDoorbell (wakeLink (ungate s))

/-- A queue goes to STOPPED (Table 3-3). -/
def stopQueue (q : Nat) (cell : Bool) (k : ErrKind) (s : State) : State :=
  match queue s q with
  | some x =>
    if x.st = .enabled then
      let s := setQueue q { x with st := .stopped, errCell := cell, errKind := BitVec.ofNat 3 (kindCode k),
                                   merged := false } s
      queueStateEvent q (writeState q s)
    else s
  | none => s

/-- What follows the end of a cell read: the merged doorbell's read (R71). -/
def afterCell (q : QueueId) (s : State) : State :=
  match queue s q with
  | some x =>
    if x.merged && x.st = .enabled && !quiet s x.owner then
      cellRead q (setQueue q { x with merged := false } s)
    else s
  | none => s

/-- INDEX_CELL_READ_RETURN (R66, R71, R72, Table 3-3); an error on a read that a disable discarded is still recorded
(R55), one on a read that a reset discarded is not (R56). -/
def cellReturn (q : QueueId) (r : OutRead) (a : CellAnswer) (s : State) : State :=
  let s := retireRead (.cell q) s
  match a with
  | .error k =>
    let s := if r.silent then s else hostError r.fn k 2 r.addr s
    if r.discard then afterCell q s else stopQueue q true k s
  | .data dw0 =>
    if r.discard then afterCell q s
    else
      match queue s q with
      | some x =>
        if x.st = .enabled || x.st = .stopped then
          afterCell q (flushEvents 17 q (setQueue q { x with pi := dw0 } s))
        else s
      | none => s

def execIndexCellReadReturn (q : QueueId) (a : CellAnswer) (s : State) : Res :=
  match outRead s (.cell q) with
  | some r => .next (cellReturn q r a s)
  | none => noSuch s

/-- EVQ_POLL_TIMER (R92). -/
def canPoll (s : State) (q : QueueId) : Bool :=
  match queue s q with
  | some x => x.st = .enabled && evBlocked x && !cellOut s q && !quiet s x.owner
  | none => false

def execEvqPollTimer (q : QueueId) (s : State) : Res := when s (canPoll s q) (cellRead q s)

/-! ### Fetch (R73–R76) -/

/-- limit(p) of R73. -/
def piLimit (x : Queue) : Word := if 2 ^ x.log2 < idiff x.pi x.head then x.head + wd (2 ^ x.log2) else x.pi

/-- Entries that may be fetched now (R73). -/
def fetchable (x : Queue) : Nat :=
  min (idiff (piLimit x) x.fetch) (2 ^ x.log2 - idiff x.fetch x.head)

/-- Entries of the next turn (R74). -/
def turnSize (s : State) (q : Nat) (x : Queue) : Nat :=
  min (min x.burst (fetchable x))
    (min (512 - (x.ents.filter (fun e => e.st != .done)).length) (storeFree s q x))

/-- Eligible for a fetch turn (R75). -/
def eligible (s : State) (q : Nat) (x : Queue) : Bool :=
  !x.isEvent && x.st = .enabled && !quiet s x.owner && 0 < turnSize s q x

/-- next_turn() of R75: the queues with their new cur, and the choice. -/
def nextTurn (s : State) : Option Nat :=
  let el := s.qe.queues.filter (fun kv => eligible s kv.1 kv.2)
  (el.foldl (fun (best : Option (Nat × Int)) kv =>
    let c := kv.2.cur + kv.2.weight
    match best with
    | some (_, b) => if b < c then some (kv.1, c) else best
    | none => some (kv.1, c)) none).map Prod.fst

/-- The turn's accounts (R75). -/
def turnAccounts (s : State) (w : Nat) : Sparse Queue :=
  let tot := ((s.qe.queues.filter (fun kv => eligible s kv.1 kv.2)).map (fun kv => (kv.2.weight : Int))).sum
  s.qe.queues.map fun kv =>
    if eligible s kv.1 kv.2 then
      (kv.1, { kv.2 with cur := kv.2.cur + kv.2.weight - (if kv.1 = w then tot else 0) })
    else kv

/-- The first free place from `p` on, round the store. DEDUCED (log 36). -/
def freeStore (used : List Nat) : Nat → Nat → Nat
  | 0, p => p
  | n + 1, p => if used.contains p then freeStore used n ((p + 1) % 16384) else p

/-- The places of the entry store that entries hold, those of the tunnel's queue among them (R74, R355). -/
def placesUsed (s : State) : List Nat :=
  (s.qe.queues.map (fun kv => (kv.2.ents.filter (fun e => e.st != .done)).map (·.place))).flatten ++
    s.dev.tq.ents.map (·.place)

/-- Takes places for the entries of a read; which free place is a free value (R74). DEDUCED (log 36). -/
def reserve (q : Nat) : Nat → Word → State → State
  | 0, _, s => s
  | n + 1, i, s =>
    let f := takeFree s
    let used := placesUsed s
    let e : Ent := { idx := i, place := freeStore used used.length (f.1.toNat % 16384),
                     dw := Vector.replicate 12 0, st := .reading }
    reserve q n (i + 1) (modQueue q (fun x => { x with ents := x.ents ++ [e], fetch := i + 1 }) f.2)

/-- The reads of `n` contiguous slots from index `i`, cut as R39 lays down. -/
def slotReads (q : Nat) (x : Queue) : Nat → Nat → Word → State → State
  | 0, _, _, s => s
  | fuel + 1, n, i, s =>
    let m := min n (readCap s (slotAddr x i) / 64)
    if m = 0 then s
    else slotReads q x fuel (n - m) (i + wd m) (issueRead (.entries (Fin.ofNat 4096 q) i) x.owner (slotAddr x i) (64 * m) s)

/-- Takes places for `n` contiguous slots from index `i`, and reads them. -/
def readSlots (q : Nat) (x : Queue) (n : Nat) (i : Word) (s : State) : State := slotReads q x n n i (reserve q n i s)

/-- One fetch turn of a queue; slots that run past the end of the ring take two reads (R74). -/
def fetchTurn (q : Nat) (x : Queue) (n : Nat) (s : State) : State :=
  let s := { s with qe := { s.qe with queues := turnAccounts s q } }
  let a := min n (2 ^ x.log2 - x.fetch.toNat % 2 ^ x.log2)
  let s := readSlots q x a x.fetch s
  if n = a then s else readSlots q x (n - a) (x.fetch + wd a) s

def execFetchTurn (s : State) : Res :=
  match nextTurn s with
  | some q =>
    match queue s q with
    | some x => when s (tagFree s) (fetchTurn q x (turnSize s q x) s)
    | none => noSuch s
  | none => noSuch s

/-- Fills the places of a read with what it returned. -/
def fill (first : Word) (slots : List Slot) (e : Ent) : Ent :=
  let k := idiff e.idx first
  if k < slots.length && e.st = .reading then
    { e with dw := slots.getD k (Vector.replicate 12 0), st := .fetched }
  else e

/-- A failed entry read (R448): everything from the failing index on is discarded and the queue stops. The lowest
failing index is the first that the read names. DESIGN CHOICE (log 121). -/
def fetchFail (q : QueueId) (first : Word) (k : ErrKind) (s : State) : State :=
  match queue s q with
  | some x =>
    let keep := x.ents.filter (fun e => idiff e.idx x.head < idiff first x.head)
    let s := setQueue q { x with ents := keep, fetch := if idiff first x.head < idiff x.fetch x.head then first
                                                          else x.fetch } s
    let s := dropReads (fun r => match r.ref with
      | .entries q' i => q' = q && idiff first x.head < idiff i x.head
      | _ => false) s
    stopQueue q false k (attachAll 512 q (tellRoom s))
  | none => s

/-- ENTRY_FETCH_RETURN (R55, R73, R77, R83, R448). -/
def fetchReturn (q : QueueId) (first : Word) (r : OutRead) (a : FetchAnswer) (s : State) : State :=
  let s := retireRead (.entries q first) s
  match a with
  | .error k =>
    if r.silent then s
    else
      let s := hostError r.fn k 1 r.addr s
      if r.discard then s else fetchFail q first k s
  | .data slots =>
    if r.discard then s
    else attachAll 512 q (modQueue q (fun x => { x with ents := x.ents.map (fill first slots) }) s)

def execEntryFetchReturn (q : QueueId) (first : Word) (a : FetchAnswer) (s : State) : Res :=
  match outRead s (.entries q first) with
  | some r =>
    let ok := match a with | .data slots => slots.length * 64 = r.len | .error _ => true
    when s ok (fetchReturn q first r a s)
  | none => noSuch s

/-! ### Barrier reads (R54) -/

def barrierReturn (q : QueueId) (i : Word) (r : OutRead) (err : Option ErrKind) (s : State) : State :=
  let s := retireRead (.barrier q i) s
  if r.discard then s
  else
    match ent s q i with
    | some e =>
      match e.st with
      | .barrier c _ =>
        match err with
        | none => freeBarrier q i (flush q (endEntDw q i c s))
        | some k => freeBarrier q i (flush q (endEntDw q i { c with d12 := pack [(9, 0), (kindCode k + 3 * 16, 8)] }
            (hostError r.fn k 3 r.addr s)))
      | _ => s
    | none => s

def execBarrierReadReturn (q : QueueId) (i : Word) (err : Option ErrKind) (s : State) : Res :=
  match outRead s (.barrier q i) with
  | some r => .next (barrierReturn q i r err s)
  | none => noSuch s

/-! ### Fences (R87–R90) -/

def fenceGet (s : State) (i j : Nat) : Word := getD 0 s.qe.fences (i * 64 + j)
def fenceSet (i j : Nat) (v : Word) (s : State) : State :=
  { s with qe := { s.qe with fences := setD 0 s.qe.fences (i * 64 + j) v } }

/-- An attached fence entry of the given opcode, its queue's owner and its counter. -/
def fenceEnt (s : State) (q : QueueId) (i : Word) (op : Nat) : Option (Nat × Nat × Ent) :=
  match queue s q, ent s q i with
  | some x, some e =>
    if e.st = .attached && eOp e.dw = op && q.val ≠ 0 then some (x.owner, fld e.dw[8] 0 6, e) else none
  | _, _ => none

/-- The completion of every entry below an index has been issued (R88). -/
def belowDone (s : State) (q : QueueId) (i : Word) : Bool :=
  match queue s q with
  | some x => (x.ents.takeWhile (fun e => e.idx ≠ i)).all (fun e => e.st = .done)
  | none => false

def execFenceSignal (q : QueueId) (i : Word) (s : State) : Res :=
  match fenceEnt s q i 0x09 with
  | some (o, j, _) => when s (belowDone s q i)
      (complete q i (Cpl.atMaster { status := 0 }) (fenceSet o j (fenceGet s o j + 1) s))
  | none => noSuch s

/-- The value is reached: signed difference (R88, R90). -/
def reached (ctr v : Word) : Bool := 0 ≤ (ctr - v).toInt

def execFenceWaitSatisfied (q : QueueId) (i : Word) (s : State) : Res :=
  match fenceEnt s q i 0x0A with
  | some (o, j, e) => when s (reached (fenceGet s o j) e.dw[9])
      (attachAll 512 q (complete q i (Cpl.atMaster { status := 0 })
        (modQueue q (fun x => { x with fenceHold := false }) s)))
  | none => noSuch s

/-! ### Enable and disable (R82–R86, R98) -/

/-- Enables a DISABLED queue (Table 3-3): FETCH = HEAD, cell read, STATE written. -/
def enableQueue (q : QueueId) (s : State) : State :=
  match queue s q with
  | some x =>
    let s := setQueue q { x with st := .enabled, fetch := x.head, ents := [], cur := 0, errCell := false,
                                 fenceHold := false, merged := quiet s x.owner || cellOut s q,
                                 chainEnds := [], cellMute := false } s
    let s := if quiet s x.owner || cellOut s q then s else cellRead q s
    flushEvents 17 q (writeState q s)
  | none => s

/-- Discards what has not started (R83), ends what has, and drains (R84). `stop` ends the bus side of a pipe. -/
def disableQueue (q : QueueId) (cmd : Option Word) (stop : State → State) (s : State) : State :=
  match queue s q with
  | some x =>
    let low := (x.ents.find? (fun e => e.st = .reading)).map (·.idx)
    let s := dropReads (fun r => match r.ref with
      | .entries q' _ => q' = q
      | .cell q' => q' = q
      | _ => false) s
    let s := setQueue q { x with st := .draining, drainCmd := cmd, merged := false, fenceHold := false,
                                 fetch := low.getD x.fetch, lost := x.lost + BitVec.ofNat 8 x.waiting.length,
                                 lostSince := x.lostSince + wd x.waiting.length, waiting := [] } s
    flush q (stop (writeState q s))
  | none => s

end Sys2Proof.Machine
end

