-- ==== Sys2Proof/Machine/Access.lean ====
section
/-! DEFINITION. Register windows (R418, Table 17-1), blocks that are off (R282), and the guard that every register
write from the host passes (R36). -/

namespace Sys2Proof.Machine

open Sys2Proof

/-- The block code of the window that a BAR0 offset lies in (Table 17-1). -/
def blockOf (a : Nat) : Option Nat :=
  if a < 0x3000 then some 0x01
  else if a < 0x4000 then some 0x08
  else if a < 0x5000 then some 0x04
  else if 0x8000 ≤ a ∧ a < 0xA000 then some 0x01
  else if 0x80000 ≤ a ∧ a < 0x100000 then some 0x02
  else if 0x100000 ≤ a ∧ a < 0x300000 then some 0x03
  else if 0x300000 ≤ a ∧ a < 0x400000 then some 0x06
  else if 0x400000 ≤ a ∧ a < 0x480000 then some (0x10 + (a - 0x400000) / 0x10000)
  else if 0xC00000 ≤ a ∧ a < 0xD00000 then some 0x05
  else if 0xD00000 ≤ a ∧ a < 0xD10000 then some (0x20 + (a - 0xD00000) / 0x1000)
  else if 0xE00000 ≤ a ∧ a < 0xE04000 then some (0x40 + (a - 0xE00000) / 0x100)
  else if 0xE08000 ≤ a ∧ a < 0xE10000 then some 0x0B
  else if 0xF00000 ≤ a ∧ a < 0xF80000 then some 0x07
  else if 0xF80000 ≤ a ∧ a < 0x1000000 then some 0x09
  else none

/-- The block code, when the access at an offset reaches a block that is off (R282, R346, R404, R418, R419, R425).
DEDUCED (log 147). -/
def offCode (s : State) (a : Nat) : Option Nat :=
  match blockOf a with
  | none => none
  | some b =>
    let isOff : Bool :=
      if 0x10 ≤ b && b < 0x18 then !portUp s (b - 0x10)
      else if 0x20 ≤ b && b < 0x30 then !chanUp s (b - 0x20)
      else if 0x40 ≤ b then (pump s (b - 0x40)).st = .off
      else if b = 0x04 then !s.glb.c0.inSvc && !s.glb.c1.inSvc && !(a = 0x4000 || a = 0x4004)
      else if b = 0x05 then (s.boot.recovery || !s.dev.en) && !(a = 0xC00000 || a = 0xC00004)
      else if b = 0x07 then 0xF20000 ≤ a && a < 0xF40000 && tst (wd s.boot.rooms.toNat) s.pm.rsel.val
      else false
    if isOff then some b else none

/-- FLT_ACCOFF and FLT_ACCINFO (Table 10-10). -/
def accOff (u : Sump) : Word := pack [(u.accAddr.toNat, 0), (u.accBlock.toNat, 24)]
def accInfo (u : Sump) : Word :=
  pack [(u.accInst.toNat, 0), (b1 u.accWrite, 8), (u.accSource.toNat, 9), (b1 u.accValid, 16), (u.accCount.toNat, 24)]

def srcCode : AccSource → Nat
  | .pcie => 0 | .firmware => 1 | .smbus => 2

/-- An access to a block that is off (R282): counted; recorded and told when VALID is clear. -/
def offAccess (b a : Nat) (write : Bool) (i : Nat) (src : AccSource) (s : State) : State :=
  let u := s.sump
  let u := { u with accCount := u.accCount + 1 }
  if u.accValid then { s with sump := u }
  else
    let u := { u with accAddr := BitVec.ofNat 24 a, accBlock := BitVec.ofNat 8 b, accInst := BitVec.ofNat 8 i,
                      accWrite := write, accSource := BitVec.ofNat 2 (srcCode src), accValid := true }
    let s := { s with sump := u }
    logRec 0x10 [accOff u, accInfo u, 0, 0, 0] (event 0 0x11 [accOff u, accInfo u, 0, 0] s)

/-- A register write from the host to a BAR0 offset: Unsupported Request while the function does not answer, dropped
and counted while the block is off, else performed (R36, R282). DEDUCED (log 32). -/
def regWrite (a : Nat) (f : State → State) (s : State) : State :=
  if !answers s 0 then answerTlp (.unsupported 0) s
  else
    let s := wakeLink (ungate s)
    match offCode s a with
    | some b => offAccess b a true 0 .pcie s
    | none => f s

/-- An access to a block that is off (R282): the manager's over PCI Express, or one of the firmware or of SMBus. -/
def offBlock (b a : Nat) (write : Bool) (src : AccSource) (s : State) : State :=
  let s := offAccess b a write 0 src (ungate (if src = .pcie then wakeLink s else s))
  if write || src != .pcie then s else answerTlp (.readData (wd (0xBAD00000 + b))) s

end Sys2Proof.Machine
end

