-- ==== Sys2Proof/Machine/Sump.lean ====
section
/-! DEFINITION. The sump (file 10): reports, walks, probes, origins, echoes, merges, release and drop. -/

namespace Sys2Proof.Machine

open Sys2Proof

/-! ### Topology (R266) -/

def unitAt (s : State) (p a : Nat) : Option Unit := find (port s p).units a

/-- The hubs on the path to a unit, tier 1 first, each with its port toward the unit. -/
def pathTo (s : State) (p : Nat) : Nat → Nat → List (Nat × Nat)
  | 0, _ => []
  | n + 1, a =>
    match unitAt s p a with
    | some u => if u.parent = 0 then [] else pathTo s p n u.parent ++ [(u.parent, u.hubPort)]
    | none => []

/-- The unit's tier-1 ancestor, itself when it is directly on the port. -/
def tier1Of (s : State) (p a : Nat) : Nat :=
  match pathTo s p 6 a with
  | (h, _) :: _ => h
  | [] => a

/-- A unit lies at or below an origin (R270, R273). -/
def covers (s : State) (o : Origin) (p h a : Nat) : Bool :=
  o.mode != .free && o.port.val = p &&
    match o.kind with
    | 0 => o.mode = .held || o.half.val = h
    | 1 => o.half.val = h && (a = o.addr || (pathTo s p 6 a).any (fun x => x.1 = o.addr))
    | _ => o.half.val = h && (pathTo s p 6 a).contains (o.addr, o.hubPort)

/-- The origin that a unit lies under. -/
def originOver (s : State) (p h a : Nat) : Option Nat :=
  (s.sump.origins.find? (fun kv => covers s kv.2 p h a)).map Prod.fst

/-- The pipe is suspect: a walk of its port half covers its subtree (R269). -/
def suspect (s : State) (x : Pipe) : Bool :=
  match find s.sump.walks (x.port.val * 2 + pHalf x) with
  | some w => tier1Of s x.port x.addr = w.tier1
  | none => false

/-! ### Events and log of origins (R286, R287) -/

/-- DEDUCED (log 105). -/
def originPay (k cause pipes absorbed : Nat) (o : Origin) : List Word :=
  [pack [(cause, 0), (k, 8), (o.kind, 16), (o.port.val, 20), (o.half.val, 23)], pack [(o.addr, 0), (o.hubPort, 8)],
   wd o.route, wd pipes, if cause = 2 then wd absorbed else wd o.echo, pack [(o.firstSt, 0), (o.firstEi, 8)]]

/-- Posts an ORIGIN event to the manager and to each instance concerned, and logs it. DEDUCED (log 105). -/
def originEvent (k cause absorbed : Nat) (o : Origin) (s : State) : State :=
  let tot := (o.insts.map Prod.snd).sum
  let s := event 0 0x10 (originPay k cause tot absorbed o) s
  let s := (o.insts.filter (fun kv => kv.1 ≠ 0)).foldl
    (fun s kv => event kv.1 0x10 (originPay k cause kv.2 absorbed o) s) s
  logRec cause ((originPay k cause tot absorbed o).take 5) s

/-- An origin with no pipe left held frees (Table 10-2). -/
def freeIfEmpty (k : Nat) (s : State) : State :=
  let o := origin s k
  if o.mode = .held && o.held = 0 && !o.sweeping then setOrigin k {} (originEvent k 5 0 o s) else s

/-! ### Pipes that halt, are held, and leave the hold -/

/-- A CLOSING pipe whose burst has ended at the sump: its started entry ends, and then the close (Table 5-2, R134). -/
def closeEnded (n : Nat) (x : Pipe) (c : Cpl) (s : State) : State :=
  closeDone n (match x.x with | some k => endBus k c s | none => s)

/-- "No origin": the entry completes with its error and the pipe halts; a control pipe runs on after STALL (R104,
R195, R207), and an isochronous pipe always (R115). A pipe of a resetting instance stays STOPPED (R311); a CLOSING pipe
closes (R134). DEDUCED (log 48); DESIGN CHOICE (log 140). -/
def haltPipe (n status errinfo : Nat) (s : State) : State :=
  match pipe s n with
  | some x =>
    if gated s x.inst then s
    else if x.state = .closing then
      closeEnded n x (Cpl.atPort { status := status, errinfo := errinfo } s x.port) s
    else
      let on := (x.kind = .control && status = 2) || x.kind = .iso
      let stop := x.stopping
      let s := unlink n s
      let s := modPipe n (fun y => { y with
        state := if on then (if stop then .stopped else .ready) else .halted
        errs := 0, stopping := false, rdyLatch := y.rdyLatch || (on && stop) }) s
      let s := match x.x with
        | some k => endBus k (Cpl.atPort { status := status, errinfo := errinfo } s x.port) s
        | none => s
      let s := match pipe s n with
        | some y =>
          if y.state = .ready then (if y.ents.isEmpty then setPipe n { y with state := .idle } s else link n false s)
          else s
        | none => s
      if stop then replyPipe n (if on then 5 else 6) s else s
  | none => s

/-- Sets a pipe to HELD under an origin (Table 5-2, R270); a CLOSING pipe whose burst has ended closes.
DEDUCED (log 48). -/
def holdPipe (k n : Nat) (s : State) : State :=
  match pipe s n with
  | some x =>
    if x.state = .closing && (descOf s n).isNone then
      closeEnded n x (Cpl.atPort { status := 8, errinfo := 3 } s x.port) s
    else if x.state = .held || x.state = .halted || x.state = .closing || gated s x.inst then s
    else
      let s := unlink n s
      let was := if x.state = .active then .ready else x.state
      let s := modPipe n (fun y => { y with state := .held, was := was, origin := k }) s
      let s := modOrigin k (fun o => { o with held := o.held + 1,
                                              insts := setD 0 o.insts x.inst (getD 0 o.insts x.inst + 1) }) s
      if x.stopping then replyPipe n 7 (modPipe n (fun y => { y with stopping := false }) s) else s
  | none => s

/-- A pipe leaves HELD (R270, R271): FLT_OHELD falls. -/
def leaveHeld (n : Nat) (s : State) : State :=
  match pipe s n with
  | some x =>
    if x.state = .held then freeIfEmpty x.origin (modOrigin x.origin (fun o => { o with held := o.held - 1 }) s)
    else s
  | none => s

/-- The transfers of a pipe whose bus side had ended before the pipe was HELD complete once the hold is over (R125). -/
def unholdXfers (n : Nat) (s : State) : State :=
  (s.cis.xfers.filter (fun kv => kv.2.pipe = some n)).foldl (fun s kv => progress kv.1 s) s

/-- A report's pipe closes with its half (Table 6-3, R273), or as the close that runs on it has it; with a burst still
in its engine it closes at the burst's end. -/
def closeGone (n : Nat) (s : State) : State :=
  match pipe s n with
  | some x =>
    if (descOf s n).isSome then s
    else
      let c := x.gone.getD (Cpl.atPort { status := 5, errinfo := 2 } s x.port)
      let s := modPipe n (fun y => { y with state := .closing, gone := some c }) (unlink n (leaveHeld n s))
      erasePipe n (replyPipe n 0 (endAll n c c (unholdXfers n s)))
  | none => s

/-- A report whose entry's queue drains ends that entry with its own error, also when its pipe is held (R83, R86, R201).
-/
def drainReport (r : Report) (s : State) : State :=
  match (pipe s r.pipe).bind (·.x) with
  | some k =>
    match xfer s k with
    | some y =>
      if draining s y && y.ending.isNone then
        endBus k (Cpl.atPort { status := r.status, errinfo := r.errinfo } s r.port) s else s
    | none => s
  | none => s

/-- An echo (R272): under a HELD origin its pipe is held, under a CLOSED one it closes with its half (R273). -/
def echo (k : Nat) (r : Report) (s : State) : State :=
  let s := modOrigin k (fun o => { o with echo := min (o.echo + 1) 0xFFFFFFFF }) s
  match (origin s k).mode with
  | .held => if r.stale then s else drainReport r (holdPipe k r.pipe s)
  | .closed => if r.stale then s else closeGone r.pipe s
  | .free => s

/-- The sump answers "no origin" to a report; the pipe of an instance that was reset meanwhile stays as the reset left
it (R311). -/
def noFault (r : Report) (s : State) : State := if r.stale then s else haltPipe r.pipe r.status r.errinfo s

/-- Pipes counted by their instances. -/
def owners (s : State) (ns : List Nat) : Sparse Nat :=
  ns.foldl (fun m n => match pipe s n with
    | some x => setD 0 m x.inst (getD 0 m x.inst + 1)
    | none => m) []

/-- Counts by instance, added. -/
def addOwners (a b : Sparse Nat) : Sparse Nat := a.foldl (fun m kv => setD 0 m kv.1 (getD 0 m kv.1 + kv.2)) b

/-! ### Recording and merging (R270, R273, R276) -/

/-- Moves everything held under an origin to another (R276). DEDUCED (log 105). -/
def mergeInto (k j : Nat) (s : State) : State :=
  let o := origin s j
  let moved := pipesWhere s (fun x => x.state = .held && x.origin = j)
  let is := owners s moved
  let s := moved.foldl (fun s n => modPipe n (fun x => { x with origin := k }) s) s
  let s := modOrigin k (fun t => { t with
    held := t.held + o.held, echo := min (t.echo + o.echo) 0xFFFFFFFF
    insts := addOwners o.insts t.insts }) s
  let s := setOrigin j {} s
  originEvent k 2 j { origin s k with insts := is } s

/-- The unit of one origin lies at or below another. -/
def below (s : State) (o j : Origin) : Bool :=
  j.mode = .held && j.port = o.port &&
    match j.kind with
    | 0 => false
    | 1 => covers s o j.port j.half j.addr
    | _ => covers s o j.port j.half j.addr && j.addr ≠ o.addr ||
        o.kind = 1 && j.addr = o.addr && j.half = o.half

/-- A free general entry (R273). -/
def freeGeneral (s : State) : Option Nat := (List.range 248).find? (fun k => (origin s k).mode = .free)

/-- Records an origin in entry `k`, absorbs the origins below it and sweeps its pipes (R270, R276). -/
def recordAt (k : Nat) (o : Origin) (s : State) : State :=
  let s := setOrigin k { o with mode := .held, sweeping := true } s
  let under := (s.sump.origins.filter (fun kv => kv.1 ≠ k && below s (origin s k) kv.2)).map Prod.fst
  let s := under.foldl (fun s j => mergeInto k j s) s
  (pipesWhere s (fun x => covers s (origin s k) x.port (pHalf x) x.addr)).foldl (fun s n => holdPipe k n s) s

/-- A walk has returned a hub or hub-port origin (R270, R273): an echo where an origin already covers the unit (R277).
-/
def recordOrigin (o : Origin) (r : Report) (s : State) : State :=
  match originOver s r.port r.half r.addr with
  | some k => echo k r s
  | none =>
    match freeGeneral s with
    | some k => drainReport r (recordAt k o s)
    | none =>
      let s := { s with sump := raiseOverflow s.sump }
      drainReport r (recordAt (248 + o.port.val) { o with kind := 0, addr := 0, hubPort := 0, route := 0 } s)

/-- A half left service and closed pipes (R273); `insts` counts them by instance. Under a HELD port origin they are
echoes of it. -/
def portOrigin (p : Port) (h : Half) (status errinfo n : Nat) (insts : Sparse Nat) (s : State) : State :=
  let k := 248 + p.val
  if n = 0 then s
  else if (origin s k).mode = .held then
    modOrigin k (fun o => { o with echo := min (o.echo + n) 0xFFFFFFFF, insts := addOwners insts o.insts }) s
  else
    let o : Origin := { mode := .closed, kind := 0, port := p, half := h, echo := n, insts := insts,
                        firstSt := status, firstEi := errinfo }
    originEvent k 1 0 o (setOrigin k o s)

/-- A walk finds its half no longer ENABLED (R267, R273): an echo of an origin that stands, else the port origin is
recorded; the report's pipe closes. DEDUCED (log 103). -/
def portWalk (r : Report) (s : State) : State :=
  let k := 248 + r.port.val
  match pipe s r.pipe with
  | some x =>
    if (origin s k).mode != .free || r.stale then echo k r s
    else portOrigin r.port r.half r.status r.errinfo 1 [(x.inst, 1)] (closeGone r.pipe s)
  | none => if (origin s k).mode = .free then s else echo k r s

/-! ### Walks (R267–R269) -/

/-- A walk needs no walk report: the pipe is judged at once (Table 10-1). -/
def walks (r : Report) : Bool := (r.status = 4 && r.errinfo ≠ 3 && r.errinfo ≠ 0xFF) || (r.status = 3 && r.errinfo = 3)

/-- Judges a report when no walk of its half runs (R265, R267, R272); an echo counts although its pipe has closed. -/
def judge (r : Report) (s : State) : State :=
  match pipe s r.pipe with
  | some x =>
    if x.state = .held then echo x.origin r s
    else
      match originOver s r.port r.half r.addr with
      | some k => echo k r s
      | none =>
        if !walks r then noFault r s
        else if (halfReg s r.port r.half).st != .enabled then portWalk r s
        else
          match pathTo s r.port 6 r.addr with
          | [] => noFault r s
          | path =>
            let w : Walk := { report := r, path := path, tier1 := tier1Of s r.port r.addr }
            let key := r.port.val * 2 + r.half.val
            { s with sump := { s.sump with walks := insert s.sump.walks key w } }
  | none =>
    match originOver s r.port r.half r.addr with
    | some k => echo k r s
    | none => s

/-- A report arrives (R265, R267, R269): while a walk of its half runs it waits in the intake if it calls for a walk
or its pipe is suspect; any other is answered at once. DEDUCED (log 103). -/
def report (r : Report) (s : State) : State :=
  match find s.sump.walks (r.port.val * 2 + r.half.val) with
  | some _ =>
    match pipe s r.pipe with
    | some x => if x.state = .held then echo x.origin r s
        else if walks r || suspect s x then { s with sump := { s.sump with intake := s.sump.intake ++ [r] } }
        else judge r s
    | none => { s with sump := { s.sump with intake := s.sump.intake ++ [r] } }
  | none => judge r s

/-- The walk of a port half ends: its waiting reports are judged against the result. -/
def endWalk (key : Nat) (s : State) : State :=
  let s := { s with sump := { s.sump with walks := erase s.sump.walks key } }
  let mine := s.sump.intake.filter (fun r => r.port.val * 2 + r.half.val = key)
  let s := { s with sump := { s.sump with
    intake := s.sump.intake.filter (fun r => r.port.val * 2 + r.half.val ≠ key) } }
  mine.foldl (fun s r => report r s) s

/-- The hub port counts as sound (R267). -/
def linkOk (h : Half) : ProbeAnswer → Bool
  | .noAnswer => false
  | .status c e u o l => if h = 1 then c && e && !u && !o else c && !o && l ≤ 2

/-- The reporting unit's origin record: what has failed at a hub (R267). -/
def originOf (s : State) (w : Walk) (hub hubPort : Nat) (isPort : Bool) : Origin :=
  { kind := if isPort then 2 else 1, port := w.report.port, half := w.report.half, addr := hub,
    hubPort := if isPort then hubPort else 0,
    route := match unitAt s w.report.port hub with | some u => if u.half = 0 then u.route else 0 | none => 0,
    firstSt := w.report.status, firstEi := w.report.errinfo }

/-- A walk has found the path sound (R267): the fault is the unit's own, unless an origin has come to cover the unit
meanwhile, whose echo the report is (R272). -/
def noOrigin (r : Report) (s : State) : State :=
  match originOver s r.port r.half r.addr with
  | some k => echo k r s
  | none => noFault r s

/-- What a probe's end does while the half is ENABLED (R267, R268). -/
def probeEnd (key : Nat) (w : Walk) (a : ProbeAnswer) (s : State) : State :=
  match w.path with
  | [] => endWalk key (noOrigin w.report s)
  | (hub, hp) :: rest =>
    match a with
    | .noAnswer => endWalk key (recordOrigin (originOf s w hub hp false) w.report s)
    | _ =>
      if !linkOk w.report.half a then endWalk key (recordOrigin (originOf s w hub hp true) w.report s)
      else if rest.isEmpty then endWalk key (noOrigin w.report s)
      else { s with sump := { s.sump with walks := insert s.sump.walks key { w with path := rest, probing := false } } }

/-! ### SWEEP_COMPLETE (R270) -/

/-- The pipes now held under an origin. -/
def heldUnder (s : State) (k : Nat) : List Nat := pipesWhere s (fun x => x.state = .held && x.origin = k)

/-- The sweep has ended: the waiting reports under the origin are echoes, and the event goes to the manager and to each
instance that owns a held pipe (R270, R287). DEDUCED (log 105). -/
def sweepEnd (k : Nat) (s : State) : State :=
  let o := origin s k
  let mine := s.sump.intake.filter (fun r => covers s o r.port r.half r.addr)
  let s := { s with sump := { s.sump with
    intake := s.sump.intake.filter (fun r => !covers s o r.port r.half r.addr) } }
  let s := mine.foldl (fun s r => echo k r s) s
  let s := originEvent k 1 0 { origin s k with insts := owners s (heldUnder s k) } s
  freeIfEmpty k (modOrigin k (fun o => { o with sweeping := false }) s)

def execSweepComplete (k : Fn) (s : State) : Res :=
  when s ((origin s k).mode = .held && (origin s k).sweeping) (sweepEnd k s)

/-! ### Release and drop (R274, R275) -/

/-- A stray ERDY (Table 5-2). -/
def stray (s : State) : State := { s with sched := { s.sched with stray := s.sched.stray + 1 } }

/-- The state that a held pipe returns to, ERDY_PEND honoured as in that state (Table 5-2). -/
def releasePipe (n : Nat) (s : State) : State :=
  let s := clearErrs n s
  unholdXfers n <| match pipe s n with
  | some x =>
    match x.was with
    | .ready =>
      let s := if x.erdyPend then stray s else s
      if x.ents.isEmpty then setPipe n { x with state := .idle, erdyPend := false } s
      else startHeads n (link n false (setPipe n { x with state := .ready, erdyPend := false } s))
    | .idle =>
      let s := if x.erdyPend && x.kind != .stream then stray s else s
      let x := { x with erdyPend := x.erdyPend && decide (x.kind = PKind.stream) }
      if x.ents.isEmpty then setPipe n { x with state := .idle } s
      else startHeads n (link n false (setPipe n { x with state := .ready } s))
    | .parked =>
      if x.erdyPend then
        if x.ents.isEmpty then setPipe n { x with state := .idle, erdyPend := false, waitErdy := false } s
        else startHeads n
          (link n false (setPipe n { x with state := .ready, erdyPend := false, waitErdy := false } s))
      else setPipe n { x with state := .parked } s
    | w => setPipe n { x with state := w, rdyLatch := x.rdyLatch || (w = .stopped && x.erdyPend) } s
  | none => s

/-- ORIGIN_RELEASE of a HELD origin (R274). -/
def releaseOrigin (k : Nat) (s : State) : State :=
  let o := origin s k
  let s := (heldUnder s k).foldl (fun s n => releasePipe n s) s
  originEvent k 3 0 o (setOrigin k {} s)

/-- ORIGIN_DROP of a HELD origin (R275). -/
def dropOrigin (k : Nat) (s : State) : State :=
  let o := origin s k
  let s := (heldUnder s k).foldl (fun s n =>
    let s := clearErrs n (modPipe n (fun x => { x with state := .idle, leftPkts := 0 }) s)
    unholdXfers n (endAll n { status := 10, errinfo := k } { status := 10, errinfo := k } s)) s
  originEvent k 4 0 o (setOrigin k {} s)

/-- A CLOSED origin is freed (Table 10-2). -/
def freeClosed (k : Nat) (s : State) : State :=
  let o := origin s k
  originEvent k 5 0 o (setOrigin k {} s)

/-! ### Memory errors (R278, Table 10-3) -/

/-- MEM_ERR (R278, Table 10-6). -/
def memErrEvent (where' kind a b i : Nat) (s : State) : State :=
  let pay := [pack [(where', 0), (kind, 4)], wd a, wd b, wd i, 0]
  logRec (match kind with | 0 => 0x20 | 1 => 0x21 | _ => 0x22) pay (event 0 0x12 pay s)

/-- The memory whose corrected errors counter `c` counts (Table 10-6): the cistern, the chip's memories, a cellar
channel. The chip's one counter is named by the context cache. DEDUCED (log 106). -/
def ceWhere (c : Nat) : Nat := if c < 2 then c else 2 + c

/-- Counter `c` of corrected errors advances: 0 the cistern, 1 the chip, 2 and 3 the cellar channels. -/
def stepCe (c : Nat) (u : Sump) : Sump :=
  match c with
  | 0 => { u with cisCe := u.cisCe + 1 }
  | 1 => { u with chipCe := u.chipCe + 1 }
  | 2 => { u with cel0Ce := u.cel0Ce + 1 }
  | _ => { u with cel1Ce := u.cel1Ce + 1 }

/-- Corrected errors are counted; CE_THRESH of one counter within a second post MEM_ERR (R278). -/
def countCe (c : Nat) : Nat → State → State
  | 0, s => s
  | n + 1, s =>
    let u := s.sump
    let t := (getD [] u.ceTimes c).filter (fun m => idiff s.iso.mic m < 8000) ++ [s.iso.mic]
    let hit : Bool := u.ceThresh.toNat ≠ 0 && u.ceThresh.toNat ≤ t.length
    let s := { s with sump := { stepCe c u with ceTimes := setD [] u.ceTimes c (if hit then [] else t) } }
    countCe c n (if hit then memErrEvent (ceWhere c) 0 0 0 0 s else s)

end Sys2Proof.Machine
end

