-- ==== Sys2Proof/Machine/Scheduler.lean ====
section
/-! DEFINITION. The pipe scheduler (file 05): what a dispatch carries, deficit round robin, the periodic class, the
context cache, admission, the decision and the port tick. -/

namespace Sys2Proof.Machine

open Sys2Proof

/-! ### What a dispatch carries (R136) -/

/-- A burst as planned: packets, payload bytes, direction, shared pages to ask for. -/
structure Plan where
  count : Nat
  bytes : Nat
  dirIn : Bool
  take : Nat := 0
  /-- No packet fits the bytes that the pipe may still move in this interval (R107, R145). -/
  capped : Bool := false
  /-- The interval admits more packets than there are pages (R114). -/
  starved : Bool := false
deriving DecidableEq, Repr

/-- The entry at a pipe's head that the next burst serves. -/
def headEnt (s : State) (x : Pipe) : Option Ent :=
  match x.x.bind (xfer s) with
  | some y => curEnt s y
  | none => match x.ents with
    | r :: _ => ent s r.q r.idx
    | [] => none

/-- Leading FULL pages of a job, in packet order; for ISO_OUT those of the interval being served. -/
def fullRun (x : Pipe) (y : Xfer) : List Page :=
  y.pages.takeWhile (fun p => p.st = .full && (x.kind != .iso || p.ivl = x.isv.done))

/-- Bytes that a periodic pipe may still move in this interval (R107, R145). -/
def capLeft (x : Pipe) : Nat := x.admitBytes - x.carried

/-- IN packets that a burst may ask for, of a transfer that still takes `rem` bytes (R107, R114, R145): whole packets
within ADMIT; a pipe whose ADMIT is less than MPS asks for one, with ADMIT 0 for none. DESIGN CHOICE (log 122). -/
def inWant (x : Pipe) (rem : Nat) : Nat :=
  let all := (rem + x.mps - 1) / max x.mps 1
  if !periodic x then all
  else if rem ≤ capLeft x then all
  else if x.kind = .iso then (capLeft x + x.mps - 1) / max x.mps 1
  else if x.admitBytes < x.mps then (if x.carried = 0 && 0 < x.admitBytes then 1 else 0)
  else capLeft x / max x.mps 1

/-- The leading pages of an OUT pipe whose packets fit the bytes that it may still move (R107, R145). -/
def outFit (x : Pipe) : Nat → List Page → List Page
  | _, [] => []
  | n, g :: gs => if periodic x && n < g.len then [] else g :: outFit x (n - g.len) gs

/-- A closing zero-length packet is due on an OUT transfer (R105). -/
def zlpDue (s : State) (x : Pipe) (y : Xfer) : Bool :=
  let t := total s y
  let last := (chainOf s y).1.getLast?
  y.type = .out && t.2 && y.ackPos = t.1 && y.pages.isEmpty && x.kind != .iso && x.kind != .control &&
    (t.1 = 0 || (match last with | some e => eZlp e.dw && t.1 % max x.mps 1 = 0 | none => false))

/-- Bytes of the transfer at a pipe's head, and whether its end is known (R105, R110). -/
def headTotal (s : State) (x : Pipe) : Nat × Bool :=
  match x.x.bind (xfer s), x.ents with
  | some y, _ => total s y
  | none, r :: _ =>
    match queue s r.q, ent s r.q r.idx with
    | some q, some e =>
      let c := chainFrom (eSig e.dw) r.idx q.ents
      ((c.1.map (fun (e : Ent) => eLen e.dw)).sum, c.2)
    | _, _ => (0, true)
  | none, [] => (0, true)

/-- What a burst of a pipe would carry now; a transfer that waits for its chain's next entry goes on (R111). -/
def plan (s : State) (x : Pipe) : Option Plan :=
  let y? := x.x.bind (xfer s)
  let e? := headEnt s x
  if (y?.isNone && e?.isNone) || y?.any (fun y => y.ending.isSome) then none
  else
    let isIn := match y? with | some y => y.type = .inp | none => e?.any (fun e => eIn e.dw)
    let y : Xfer := y?.getD { type := if isIn then .inp else .out, inst := x.inst, q := 0, pipe := none, idx := 0,
                              urg := e?.any (fun e => eUrg e.dw), iso := x.kind = .iso }
    let tot := headTotal s x
    let lim := if pHalf x = 1 then 1 else if x.leftPkts = 0 then x.maxBurst + 1 else min x.leftPkts (x.maxBurst + 1)
    if x.kind = .control && x.stage = 0 then some { count := 1, bytes := 8, dirIn := false }
    else if x.kind = .control && x.stage = 2 then
      some { count := 1, bytes := 0, dirIn := tot.1 = 0 || !isIn }
    else if isIn then
      let rem := if tot.2 then tot.1 - y.inPos else lim * x.mps
      let want := min lim (inWant x rem)
      let empty := emptyPages y
      let ask := min (want - empty) (pipeAllot x - ownPages y)
      let take := min ask (poolLeft s x.inst (x.kind = .iso || e?.any (fun e => eUrg e.dw)))
      let free := if ownPages y + take = 2 then min (empty + take) 1 else empty + take
      let n := min want free
      some { count := n, bytes := min rem (n * x.mps), dirIn := true, take := ask
             capped := want = 0 && rem ≠ 0, starved := n < want }
    else
      match y? with
      | none => some { count := 0, bytes := 0, dirIn := false }
      | some y =>
        if zlpDue s x y then some { count := 1, bytes := 0, dirIn := false }
        else
          let run := outFit x (capLeft x) (fullRun x y)
          let n := min lim run.length
          let n := if ownPages y = 2 then min n 1 else n
          some { count := n, bytes := ((run.take n).map (·.len)).sum, dirIn := false
                 capped := run.isEmpty && !(fullRun x y).isEmpty }

/-- Charge of a planned burst (Table 5-4). -/
def planCharge (x : Pipe) (p : Plan) : Nat :=
  if p.bytes = 0 then p.count * pipeCharge x 0
  else (p.count - 1) * pipeCharge x x.mps + pipeCharge x (p.bytes - (p.count - 1) * x.mps)

/-- A half in service carries traffic: ENABLED, and not about to suspend (Table 6-4). -/
def askable (s : State) (p h : Nat) : Bool :=
  (port s p).inService && (halfReg s p h).st = .enabled && !(halfReg s p h).suspending

/-- A descriptor takes a place of its engine: a split transaction only while a split of it is out (R191, R202).
DEDUCED (log 45). -/
def placed (d : Desc) : Bool := !(d.onWire && d.csplit && !d.csOut && !d.isOver)

/-- The half of a pipe can take a descriptor: ENABLED, in service, a free place (R174, R191). -/
def halfRoom (s : State) (p h : Nat) : Bool :=
  (port s p).inService && (halfReg s p h).st = .enabled && !(halfReg s p h).suspending &&
    ((engine s p h).descs.filter placed).length < (if h = 0 then 32 else 4)

/-- Streams: another stream of the endpoint is current, or is being selected (R150). DEDUCED (log 47). -/
def streamBusy (s : State) (x : Pipe) : Bool :=
  x.kind = .stream &&
    match pipe s x.link with
    | some e => (e.curStream ≠ 0 && e.curStream ≠ x.streams) ||
        s.sched.pipes.any (fun kv =>
          kv.2.kind = .stream && kv.2.link = x.link && kv.2.state = .active && kv.2.streams ≠ x.streams)
    | none => false

/-- Two asynchronous splits are outstanding in the translator (R151). -/
def splitBusy (s : State) (x : Pipe) : Bool :=
  x.split && !periodic x &&
    2 ≤ (s.sched.pipes.filter (fun kv => kv.2.splitOut && kv.2.port = x.port && kv.2.ttHub = x.ttHub &&
      kv.2.ttPort = x.ttPort && !periodic kv.2)).length

/-- Why a linked pipe cannot be dispatched for a reason of its own (R137); 0 when it can. -/
def whyBlock (s : State) (x : Pipe) : Nat :=
  if quiet s x.inst then 3
  else if streamBusy s x || splitBusy s x then 2
  else match plan s x with
    | none => 1
    | some p =>
      if x.x.isNone && !canStart s x.inst (periodic x) then 4
      else if p.count = 0 then 1 else 0

/-- A CONTROL entry is in progress on a hub's control pipe (R268): one whose transfer has ended at an error and that
awaits the sump's answer is not. -/
def hubEntry (s : State) (w : Walk) (hub n : Nat) (x : Pipe) : Bool :=
  x.kind = .control && x.addr = hub && (x.state = .active || x.state = .ready) && x.x.isSome && w.report.pipe ≠ n &&
    !s.sump.intake.any (fun r => r.pipe = n)

/-- The entry that a walk's next probe waits for goes on although its pipe is suspect (R268). DEDUCED (log 103). -/
def awaited (s : State) (n : Nat) (x : Pipe) : Bool :=
  match find s.sump.walks (x.port.val * 2 + pHalf x) with
  | some w => !w.probing && w.path.head?.any (fun h => hubEntry s w h.1 n x)
  | none => false

/-- The hold marks of a HELD origin cover the pipe's unit (R270). -/
def marked (s : State) (x : Pipe) : Bool :=
  s.sump.origins.any (fun kv => kv.2.mode = .held && covers s kv.2 x.port (pHalf x) x.addr)

/-- The context is at hand and nothing outside the pipe holds it back (R137, R155, R191, R269, R270). -/
def ready (s : State) (n : Nat) (x : Pipe) : Bool :=
  x.state = .ready && !x.stopping &&
  (s.sched.cache.any (fun c => c.1 = n) || s.sched.overflow.contains n) && halfRoom s x.port (pHalf x) &&
  (!suspect s x || awaited s n x) && !marked s x

/-- Room left for an asynchronous dispatch (R146). -/
def fitsRoom (s : State) (p ix chg : Nat) : Bool :=
  let y := psched s p
  y.pendChg.getD ix 0 ≤ y.room.getD ix 0 - chg

/-! ### Dispatch (R136, R191, R197, R202) -/

/-- A pipe is due in the slot so many intervals ahead (R143, R152). -/
def dueIn (s : State) (x : Pipe) (ahead : Nat) : Bool :=
  periodic x && ((ptime s x.port).num.toNat + ahead) % 32768 % 2 ^ x.periodLog2 = dueSlot x

/-- Pinned contexts (R152). -/
def pinned (s : State) (n : Nat) : Bool :=
  match pipe s n with
  | some x => x.state = .active || (psched s x.port).klass.contains n || dueIn s x 1 || dueIn s x 2 || x.kind = .iso
  | none => false

/-- Puts a context into its set, where the least recently dispatched unpinned one makes room (R152). -/
def intoSet (n : Nat) (s : State) : Option State :=
  let set := s.sched.cache.filter (fun c => c.1 % 4096 = n % 4096)
  if set.length < 16 then some { s with sched := { s.sched with cache := s.sched.cache ++ [(n, false)] } }
  else (set.find? (fun c => !pinned s c.1)).map (fun c =>
    { s with sched := { s.sched with cache := s.sched.cache.filter (· ≠ c) ++ [(n, false)] } })

/-- Makes room in the pin overflow, which holds 2,048 contexts: one that is pinned no longer returns to its set (R152).
DEDUCED (log 46). -/
def roomOver (s : State) : State :=
  if s.sched.overflow.length < 2048 then s
  else match s.sched.overflow.find? (fun n => !pinned s n) with
    | some n =>
      let s := { s with sched := { s.sched with overflow := s.sched.overflow.filter (· ≠ n) } }
      (intoSet n s).getD s
    | none => s

/-- A context of the cache becomes pinned: beyond twelve pinned ways of its set it goes to the overflow (R152).
DEDUCED (log 46). -/
def pin (n : Nat) (s : State) : State :=
  let set := s.sched.cache.filter (fun c => c.1 % 4096 = n % 4096 && pinned s c.1)
  if set.any (fun c => c.1 = n) && 12 < set.length then
    let s := roomOver s
    if s.sched.overflow.length < 2048 then
      { s with sched := { s.sched with cache := s.sched.cache.filter (fun c => c.1 ≠ n)
                                       overflow := s.sched.overflow ++ [n] } }
    else s
  else s

/-- Marks a context as just dispatched (R152). -/
def touch (n : Nat) (s : State) : State :=
  let c := s.sched.cache
  let c := if c.any (fun e => e.1 = n) then c.filter (fun e => e.1 ≠ n) ++ [(n, true)] else c
  pin n { s with sched := { s.sched with cache := c } }

/-- Subtracts a charge from an interval room. -/
def chargeRoom (p ix : Nat) (c : Int) (s : State) : State :=
  modPsched p (fun y => { y with room := y.room.modify ix (fun r => r - c) }) s

/-- A pipe's packet on its half; a low-speed unit behind a full-speed hub directly on the port is reached with PRE
(R202). -/
def busOut (x : Pipe) (k : BusPkt) (s : State) : State :=
  let s := if pHalf x = 1 && x.speed = 6 && (halfReg s x.port 1).speed = 5 then bus x.port 1 .pre s else s
  bus x.port (pHalf x) k s

/-- The first `m` FULL pages of a job turn SENT (Table 9-1). -/
def markSent (x : Pipe) (y : Xfer) (m : Nat) : Xfer :=
  let r := (y.pages.takeWhile (fun g => g.st = .sent)).length
  let m := min (fullRun x { y with pages := y.pages.drop r }).length m
  { y with pages := y.pages.mapIdx (fun i g => if r ≤ i && i < r + m then { g with st := .sent } else g) }

/-- OUT data packets from the first FULL pages of a job, numbered on from those already sent (R198); of an isochronous
one behind a translator the first 188 B (R213). -/
def sendPages (x : Pipe) (k m : Nat) (s : State) : State :=
  match xfer s k with
  | some y =>
    let r := (y.pages.takeWhile (fun g => g.st = .sent)).length
    let run := fullRun x { y with pages := y.pages.drop r }
    let st := if x.kind = .stream then x.streams else 0
    let seq := fun i => if pHalf x = 0 then (x.seq.toNat + r + i) % 32 else (x.seq.toNat % 2 + r + i) % 2
    let part := fun (bs : List Byte) => if x.split && x.kind = .iso then bs.take 188 else bs
    let s := (run.take m).zipIdx.foldl (fun s g =>
      busOut x (.data x.addr x.ep (seq g.2) st (part ((g.1.segs.map Prod.snd).flatten))) s) s
    setXfer k (markSent x y m) s
  | none => s

/-- The OUT pipes that use PING: high-speed bulk, and control OUT data stages (R204). -/
def pings (s : State) (x : Pipe) : Bool :=
  x.speed = 4 && !x.split && ((x.kind = .bulk && !x.dirIn) ||
    (x.kind = .control && x.stage = 1 && (x.x.bind (xfer s)).any (fun y => y.type = .out)))

/-- Start-splits of an isochronous OUT packet: 188 B to a microframe (R213). -/
def ssParts (len : Nat) : Nat := max 1 ((len + 187) / 188)

/-- The part of an isochronous OUT payload that a start-split carries (R213): all, begin, mid or end. -/
def ssPart (x : Pipe) (parts left : Nat) : Nat :=
  if x.kind != .iso || x.dirIn then 0
  else if parts = 1 then 1 else if left + 1 = parts then 2 else if left = 0 then 4 else 3

/-- The packet that an isochronous split pipe has on its way to the translator. -/
def ssPacket (s : State) (x : Pipe) : List Byte :=
  match (x.x.bind (xfer s)).bind (fun y => y.pages.find? (fun g => g.st = .sent)) with
  | some g => (g.segs.map Prod.snd).flatten
  | none => []

/-- The packets with which a burst starts on the wire; on half 0 at most NumP of the unit's last ACK (R197, R198, R206,
R212). The first packet of an isochronous entry gives its stamp (R124, R235). -/
def sendBurst (n : Nat) (x : Pipe) (pl : Plan) (numP : Nat) (s : State) : State :=
  let h := pHalf x
  let st := if x.kind = .stream then x.streams else 0
  let setup : Bool := x.kind = .control && x.stage = 0
  let status : Bool := x.kind = .control && x.stage = 2
  let x := if setup && h = 0 then { x with seq := 0 } else x
  let s := modPipe n (fun y => { y with seq := x.seq }) s
  let s := match x.x with
    | some k => modXfer k (fun y => if y.iso && !y.stamped then
        { y with stampN := (ptime s x.port).num, stampO := portPos s x.port } else y) s
    | none => s
  let s := if x.split then busOut x (.startSplit x.ttHub x.ttPort x.addr x.ep (ssPart x (ssParts pl.bytes) (ssParts pl.bytes - 1))) s else s
  if setup then
    match headEnt s x with
    | some e => busOut x (.setup x.addr x.ep e.dw[6] e.dw[7]) s
    | none => s
  else if status then busOut x (.status x.addr x.ep pl.dirIn) s
  else if pl.dirIn then
    (if h = 0 then busOut x (.inAck x.addr x.ep x.seq.toNat pl.count st) s else busOut x (.inTok x.addr x.ep) s)
  else if pings s x && x.seq.getLsbD 1 then busOut x (.ping x.addr x.ep) s
  else if pl.bytes = 0 then busOut x (.data x.addr x.ep (if h = 0 then x.seq.toNat else x.seq.toNat % 2) st []) s
  else
    let m := if h = 0 then min pl.count numP else pl.count
    match x.x with
    | some k => modDesc n (fun d => { d with sent := m }) (sendPages x k m s)
    | none => s

/-- Bytes of charge that still fit before the end of the microframe, or of the frame at full and low speed, less the
guard (R203). DEDUCED (log 41). -/
def frameLeft (s : State) (p : Nat) : Nat :=
  if (halfReg s p 1).speed = 4 then (15360 - portPos s p) * 7500 / 15360 - 64
  else ((8 - (ptime s p).num.toNat % 8) * 15360 - portPos s p) * 1500 / 122880 - 16

/-- Two pipes belong to the same endpoint of one unit. -/
def sameEndpoint (x y : Pipe) : Bool := x.addr = y.addr && x.ep = y.ep && x.dirIn = y.dirIn

/-- A descriptor has a packet on the wire; a split transaction between its splits has none (R212). -/
def onBus (d : Desc) : Bool := d.onWire && (!d.csplit || d.csOut)

/-- A burst may put packets on the wire (Table 7-1, R203): 16 at once on half 0, each to a different endpoint; one
transaction on half 1, which ends before the guard. A transaction that waits for its complete-split holds no wire.
DEDUCED (log 41); DEDUCED (log 42). -/
def wireFree (s : State) (x : Pipe) (chg : Nat) : Bool :=
  let busy := (engine s x.port (pHalf x)).descs.filter onBus
  if pHalf x = 0 then
    busy.length < 16 && busy.all (fun d => match pipe s d.pipe with | some y => !sameEndpoint x y | none => true)
  else busy.isEmpty && chg ≤ frameLeft s x.port

/-- The split of a periodic transaction puts nothing else on the wire: no handshake answers it (R213). -/
def ssDone (n : Nat) (x : Pipe) (s : State) : State :=
  if x.split && periodic x then
    modDesc n (fun d => { d with csplit := true, csAt := (ptime s x.port).num }) s
  else if x.split then modDesc n (fun d => { d with csAt := (ptime s x.port).num }) s else s

/-- A burst that waits in its engine starts, when its pipe still runs, its instance is not quiesced and the wire is free
(R40, R191, R203). -/
def startDesc (p h : Nat) (d : Desc) (s : State) : State :=
  match pipe s d.pipe with
  | some x =>
    if !d.onWire && x.state = .active && !x.stopping && (port s p).inService && (halfReg s p h).st = .enabled &&
        !(halfReg s p h).suspending && !quiet s x.inst then
      match plan s { x with leftPkts := d.count } with
      | some pl =>
        if !wireFree s x (planCharge x { pl with count := d.count }) then s else
        ssDone d.pipe x (sendBurst d.pipe x { pl with count := d.count } d.numP (modEngine p h (fun e => { e with
          descs := e.descs.map (fun c => if c.pipe = d.pipe then { c with onWire := true } else c) }) s))
      | none => s
    else s
  | none => s

/-- The high-speed charge of a descriptor's next split (R203): of what it carries. -/
def splitCharge (s : State) (x : Pipe) : Nat :=
  if x.kind = .iso && !x.dirIn then
    pktCharge 4 (min 188 ((ssPacket s x).length - 188 * (ssParts (ssPacket s x).length - x.splits.length)))
  else
    match plan s { x with leftPkts := 1 } with
    | some pl => if pl.dirIn then pktCharge 4 (min pl.bytes 188) else 64
    | none => 64

/-- A split that goes out is a dispatch of its own (R202): it counts in BURSTS, and needs a place in the engine, which a
transaction holds only while a split of it is out. DEDUCED (log 45). -/
def splitDispatch (n : Nat) (x : Pipe) (s : State) : State :=
  modPipe n (fun y => { y with
    splits := y.splits.tail, bursts := y.bursts + 1, lastService := (ptime s x.port).num }) s

/-- The next split of a transaction goes out in its microframe (R212, R213): a complete-split from the microframe after
the start-split on, one in each; a periodic one in the microframe placed at admission and in no other; or the next part
of an isochronous OUT payload. A transaction none of whose placed complete-splits is left goes unanswered.
PRESUMED (log 44). -/
def startSplitOf (p : Nat) (d : Desc) (s : State) : State :=
  match pipe s d.pipe with
  | some x =>
    if !(d.onWire && d.csplit && !d.csOut && !d.isOver && !gated s x.inst && askable s p 1) then s
    else
      let at' := idiff (ptime s p).num d.csAt
      let left := x.splits.filter (fun k => at' ≤ k)
      let x := if periodic x && !(x.kind = .iso && !x.dirIn) then { x with splits := left } else x
      let s := setPipe d.pipe x s
      let due : Bool := if periodic x then x.splits.head?.any (fun k => k ≤ at') else 0 < at'
      if periodic x && x.splits.isEmpty then
        (if x.kind = .iso && !x.dirIn then s else modDesc d.pipe (fun c => { c with csOut := true }) s)
      else if !(due && halfRoom s p 1 && wireFree s x (splitCharge s x)) then s
      else if x.kind = .iso && !x.dirIn then
        let bs := ssPacket s x
        let parts := ssParts bs.length
        let i := parts - x.splits.length
        let s := busOut x (.startSplit x.ttHub x.ttPort x.addr x.ep (ssPart x parts (x.splits.length - 1)))
          (splitDispatch d.pipe x s)
        busOut x (.data x.addr x.ep (x.seq.toNat % 2) 0 ((bs.drop (188 * i)).take 188)) s
      else
        busOut x (.completeSplit x.ttHub x.ttPort x.addr x.ep) (modDesc d.pipe (fun c => { c with
          csOut := true, csAt := if periodic x then c.csAt else (ptime s p).num }) (splitDispatch d.pipe x s))
  | none => s

/-- The splits that are due, and the bursts that wait in a half's engine, oldest first. DEDUCED (log 41). -/
def startNext (p h : Nat) (s : State) : State :=
  let s := if h = 1 then (engine s p 1).descs.foldl (fun s d => startSplitOf p d s) s else s
  (engine s p h).descs.foldl (fun s d => startDesc p h d s) s

/-- Dispatches a pipe's burst: the transfer becomes active, pages are taken, the room and the deficit are charged.
PRESUMED (log 44); DEDUCED (log 109). -/
def dispatch (n : Nat) (x : Pipe) (pl : Plan) (fromGroup : Option Nat) (s : State) : State :=
  let p := x.port.val
  let h := pHalf x
  let chg := planCharge x pl
  let s := setList p x.group ((listOf s p x.group).filter (· ≠ n)) s
  let s := match x.x, x.ents with
    | none, r :: _ => match ent s r.q r.idx with
      | some e => activate n x r e.dw s
      | none => s
    | _, _ => s
  let s := match (pipe s n).bind (·.x) with
    | some k =>
      let s := if pl.take = 0 then s else takeShared k pl.take s
      let s := match xfer s k with
        | some y => markStarted y.q y.idx (setXfer k { y with starved := pl.starved } s)
        | none => s
      if x.kind = .control && !pl.dirIn then askPages 255 k (queueJob k s) else s
    | none => s
  let s := modPipe n (fun y => { y with
    state := .active, block := 0, bursts := y.bursts + 1, lastService := (ptime s p).num, ended := false
    splitOut := y.split
    splits := if !y.split || !periodic y then [] else if y.kind = .iso && !y.dirIn then
      (List.range (ssParts pl.bytes - 1)).map (· + 1) else csSlots y
    sstate := if y.kind = .stream && y.sstate ≠ 2 then 1 else y.sstate }) s
  let ix := roomIx h pl.dirIn
  let s := lowerPend n x chg (chargeRoom p ix chg s)
  let s := match fromGroup with
    | some g => modPsched p (fun y => { y with deficit := setD 0 y.deficit g (getD 0 y.deficit g - chg) }) s
    | none => s
  let wire := wireFree s x chg
  let d : Desc := { pipe := n, count := pl.count, charged := chg, onWire := wire, room := ix, group := fromGroup
                    numP := pl.count }
  let s := modEngine p h (fun e => { e with descs := e.descs ++ [d], retry := e.retry.filter (· ≠ n) }) s
  let s := touch n s
  match pipe s n with
  | some x => if wire then ssDone n x (sendBurst n x pl pl.count s) else s
  | none => s

/-! ### Choosing (R139, R140, R145) -/

/-- What a search of a list finds: the first dispatchable pipe; pipes with a reason of their own are unlinked. -/
def pickList (s : State) : List Nat → State × Option (Nat × Pipe × Plan)
  | [] => (s, none)
  | n :: ns =>
    match pipe s n with
    | some x =>
      match whyBlock s x with
      | 0 => match plan s x with
        | some pl => if ready s n x then (s, some (n, x, pl)) else pickList s ns
        | none => pickList s ns
      | b => pickList (blockPipe n b s) ns
    | none => pickList s ns

/-- The quantum of a group (R140). -/
def quantum (s : State) (g : Nat) : Int := cfgGroup s g * 1024

/-- pick_async of R140: rounds left, the state, and whether a group of nonzero weight had a dispatchable pipe. -/
def pickAsync (p : Nat) : Nat → State → Bool → State × Bool × Option (Nat × Pipe × Plan × Nat)
  | 0, s, seen => (s, seen, none)
  | fuel + 1, s, seen =>
    let y := psched s p
    let g := y.cursor
    let l := listOf s p g
    let turn := fun (s : State) => modPsched p (fun y => { y with turnOpen := false, cursor := (g + 1) % 16 }) s
    if 0 < cfgGroup s g && !l.isEmpty then
      let s := if y.turnOpen then s else
        modPsched p (fun y => { y with
          turnOpen := true
          deficit := setD 0 y.deficit g (min (getD 0 y.deficit g + quantum s g) (quantum s g)) }) s
      let r := pickList s (l.take 4)
      match r.2 with
      | some (n, x, pl) =>
        let fit := fitsRoom r.1 p (roomIx (pHalf x) pl.dirIn) (planCharge x pl)
        if 0 < getD 0 (psched r.1 p).deficit g && fit then (r.1, true, some (n, x, pl, g))
        else pickAsync p fuel (turn r.1) (seen || fit)
      | none => pickAsync p fuel (turn r.1) seen
    else
      let s := if l.isEmpty then modPsched p (fun y => { y with deficit := setD 0 y.deficit g 0 }) s else s
      pickAsync p fuel (turn s) seen

/-- Scavengers: groups of weight 0 in group order, one dispatch per group in turn (R139). -/
def pickScav (p : Nat) : List Nat → State → State × Option (Nat × Pipe × Plan)
  | [], s => (s, none)
  | g :: gs, s =>
    if cfgGroup s g = 0 then
      let r := pickList s ((listOf s p g).take 4)
      match r.2 with
      | some (n, x, pl) =>
        if fitsRoom r.1 p (roomIx (pHalf x) pl.dirIn) (planCharge x pl) then
          (modPsched p (fun y => { y with scavenger := (g + 1) % 16 }) r.1, some (n, x, pl))
        else pickScav p gs r.1
      | none => pickScav p gs r.1
    else pickScav p gs s

/-- The first dispatchable pipe of the periodic class whose OFFSET has come (R145). -/
def pickPeriodic (p : Nat) (s : State) : List Nat → State × Option (Nat × Pipe × Plan)
  | [] => (s, none)
  | n :: ns =>
    match pipe s n with
    | some x =>
      if portPos s p < x.offset || x.state != .ready then pickPeriodic p s ns
      else match whyBlock s x with
        | 0 => match plan s x with
          | some pl => if ready s n x then (s, some (n, x, pl)) else pickPeriodic p s ns
          | none => pickPeriodic p s ns
        | b => pickPeriodic p (if (plan s x).any (·.capped) then dropKlass n s
            else modPipe n (fun x => { x with block := b }) s) ns
    | none => pickPeriodic p s ns

/-- The charges of a probe, with its data stage, or of a request without one: each stage to the room of its own
direction on half 0, to the shared room on half 1 (R146, R268, R322). -/
def requestCharge (s : State) (p h : Nat) (data : Option Nat) : List (Nat × Nat) :=
  if h = 0 then
    match data with
    | some n => [(0, pktCharge 0 8 + pktCharge 0 0), (1, pktCharge 0 n)]
    | none => [(0, pktCharge 0 8), (1, pktCharge 0 0)]
  else
    let v := (halfReg s p 1).speed.toNat
    [(2, pktCharge v 8 + (data.map (pktCharge v)).getD 0 + pktCharge v 0)]

/-- SPEED of the UNIT_ADDRESS that runs on a half. -/
def addrSpeed (s : State) (p h : Nat) : Nat :=
  match (engine s p h).setAddr with
  | some (i, _) => match ent s 0 i with | some e => fld e.dw[3] 16 3 | none => 7
  | none => 7

/-- The translator through which a SET_ADDRESS goes (R322): SPEED 5 or 6 with TT_HUB nonzero. -/
def setSplit (s : State) (p h : Nat) : Option (Nat × Nat) :=
  match (engine s p h).setAddr with
  | some (i, _) =>
    match ent s 0 i with
    | some e => if (fld e.dw[3] 16 3 = 5 || fld e.dw[3] 16 3 = 6) && fld e.dw[3] 19 7 ≠ 0
        then some (fld e.dw[3] 19 7, fld e.dw[5] 0 8) else none
    | none => none
  | none => none

/-- The charges of a SET_ADDRESS (R146, R322): on half 1 at its unit's speed, with each split's high-speed charge behind
a translator (Table 5-4). -/
def setCharge (s : State) (p h : Nat) : List (Nat × Nat) :=
  let v := addrSpeed s p h
  if h = 1 && (v = 5 || v = 6) then
    let sp := fun n => if (setSplit s p h).isSome then 64 + (stuffed n + 64) else 0
    [(2, pktCharge v 8 + sp 8 + pktCharge v 0 + sp 0)]
  else requestCharge s p h none

/-- A probe waits for the CONTROL entry in progress on the hub's control pipe (R268). -/
def hubBusy (s : State) (p h : Nat) (w : Walk) (hub : Nat) : Bool :=
  s.sched.pipes.any (fun kv => kv.2.port.val = p && pHalf kv.2 = h && hubEntry s w hub kv.1 kv.2)

/-- The walk of a port half whose probe can be dispatched now. -/
def probeReady (s : State) (p h : Nat) : Option (Walk × Nat × Nat) :=
  match find s.sump.walks (p * 2 + h) with
  | some w =>
    match w.path with
    | (hub, hp) :: _ =>
      if !w.probing && askable s p h && !hubBusy s p h w hub &&
          (requestCharge s p h (some 4)).all (fun c => fitsRoom s p c.1 c.2) then some (w, hub, hp) else none
    | [] => none
  | none => none

/-- Dispatches a probe (R268). -/
def sendProbe (p h : Nat) (w : Walk) (hub hp : Nat) (s : State) : State :=
  let s := (requestCharge s p h (some 4)).foldl (fun s c => chargeRoom p c.1 c.2 s) s
  let s := { s with sump := { s.sump with walks := insert s.sump.walks (p * 2 + h) { w with probing := true } } }
  bus p h (.probe hub hp) s

/-- A SET_ADDRESS of the half that can be dispatched now (R322). -/
def setReady (s : State) (p h : Nat) : Option Nat :=
  let e := engine s p h
  match e.setAddr with
  | some (_, a) => if !e.setSent && askable s p h &&
      (setCharge s p h).all (fun c => fitsRoom s p c.1 c.2) then some a else none
  | none => none

/-- ROUTE and PARENT_PORT of the UNIT_ADDRESS that runs (R166). -/
def setRoute (s : State) (p h : Nat) : Nat × Nat :=
  match (engine s p h).setAddr with
  | some (i, _) =>
    match ent s 0 i with
    | some e => (fld e.dw[4] 0 20, fld e.dw[3] 8 8)
    | none => (0, 0)
  | none => (0, 0)

/-- Dispatches a SET_ADDRESS to address 0, with the command's route string or hub port (R166, R322). -/
def sendSet (p h a : Nat) (s : State) : State :=
  let s := (setCharge s p h).foldl (fun s c => chargeRoom p c.1 c.2 s) s
  let s := match setSplit s p h with
    | some (hub, hp) => bus p h (.startSplit hub hp 0 0 0) s
    | none => s
  let r := setRoute s p h
  bus p h (.setAddress a (if h = 0 then r.1 else 0) (if h = 0 then 0 else r.2))
    (modEngine p h (fun e => { e with setSent := true }) s)

/-- The port requests a decision (R153): a half with a free place, and a linked pipe, a due periodic pipe a
probe or a SET_ADDRESS. -/
def requests (s : State) (p : Nat) : Bool :=
  (halfRoom s p 0 || halfRoom s p 1) &&
    (!(psched s p).klass.isEmpty || !(psched s p).lists.isEmpty || (probeReady s p 0).isSome ||
      (probeReady s p 1).isSome || (setReady s p 0).isSome || (setReady s p 1).isSome)

/-- The port whose request is served next, by round robin among those that request a decision (R153). -/
def turnPort (s : State) : Option Nat := ((List.range 8).map (fun i => (i + s.sched.rr) % 8)).find? (requests s)

/-- The contexts of the first four pipes of each ready list are prefetched (R152). -/
def prefetch (p : Nat) (s : State) : State :=
  (List.range 16).foldl (fun s g => ((listOf s p g).take 4).foldl (fun s n => needCtx n s) s) s

/-- One decision of the scheduler for a port (R139, R140, R145, R153, R268). Among a waiting probe and a waiting
SET_ADDRESS of both halves the spec names no order: probes go first, and half 0 before half 1. DESIGN CHOICE (log 143).
-/
def decide' (p : Nat) (s : State) : State :=
  let s := grantAll s
  let s := prefetch p { s with sched := { s.sched with dec := s.sched.dec + 1, rr := (p + 1) % 8 } }
  let a := pickPeriodic p s (psched s p).klass
  match a.2 with
  | some (n, x, pl) => dispatch n x pl none a.1
  | none =>
    let s := a.1
    match probeReady s p 0, probeReady s p 1, setReady s p 0, setReady s p 1 with
    | some (w, hub, hp), _, _, _ => sendProbe p 0 w hub hp s
    | none, some (w, hub, hp), _, _ => sendProbe p 1 w hub hp s
    | none, none, some a, _ => sendSet p 0 a s
    | none, none, none, some a => sendSet p 1 a s
    | none, none, none, none =>
      let b := pickAsync p 16 s false
      match b.2.2 with
      | some (n, x, pl, g) => dispatch n x pl (some g) b.1
      | none =>
        if b.2.1 then b.1
        else
          let k := (psched b.1 p).scavenger
          let c := pickScav p ((List.range 16).map (fun i => (i + k) % 16)) b.1
          match c.2 with
          | some (n, x, pl) => dispatch n x pl none c.1
          | none => c.1

/-! ### Context cache (R152, R155) -/

/-- A context arrives: into its set, evicting the least recently dispatched unpinned one, or into the overflow.
DEDUCED (log 46). -/
def fillCtx (n : Nat) (s : State) : State :=
  let set := s.sched.cache.filter (fun c => c.1 % 4096 = n % 4096)
  let s := { s with sched := { s.sched with fills := s.sched.fills.filter (· ≠ n) } }
  let spill := fun (s : State) =>
    let s := roomOver s
    if s.sched.overflow.length < 2048 then { s with sched := { s.sched with overflow := s.sched.overflow ++ [n] } } else s
  if pinned s n && 12 ≤ (set.filter (fun c => pinned s c.1)).length then spill s
  else (intoSet n s).getD (spill s)

/-! ### Admission (R147, R148) -/

/-- Speed at which the half of a pipe runs, for limits and rooms (R144, R180). -/
def halfSpeed (s : State) (p h : Nat) : Nat := (halfReg s p h).speed.toNat

/-- The x1 rate of the same generation (R180). -/
def x1Speed (v : Nat) : Nat := match v with | 1 => 0 | 3 => 2 | o => o

/-- The limit that admission uses: x1 with ADMIT_X1 set; after the loss of lane 1 the x1 limit holds from the next tick
on (R180). -/
def admitLimit (s : State) (p h : Nat) : Nat :=
  if h = 0 then
    let v := (psched s p).oldSpeed.getD (halfSpeed s p 0)
    perLimit (if tst (cfgPrt s p) 5 then x1Speed v else v)
  else perLimit (halfSpeed s p h)

/-- The periodic pipes of a port whose charge counts: those open, with their owner, and those closed since the last tick
(R148). -/
def admitted (s : State) (p : Nat) : List (Option Nat × Pipe) :=
  (s.sched.pipes.filter (fun kv => periodic kv.2 && kv.2.port.val = p)).map (fun kv => (some kv.2.inst, kv.2)) ++
    (psched s p).freed.map (fun x => (none, x))

/-- Admitted charges of a room: period, slot, charge and owner (R148). -/
def loads (s : State) (p ix : Nat) : List (Nat × Nat × Nat × Option Nat) :=
  (((admitted s p).filter (fun a => roomIx (pHalf a.2) a.2.dirIn = ix)).map
    (fun a => (slotCharges a.2).map (fun c => (a.2.periodLog2, c.1, c.2, a.1)))).flatten

/-- Admitted charge of a slot. -/
def slotLoad (l : List (Nat × Nat × Nat × Option Nat)) (slot : Nat) : Nat :=
  ((l.filter (fun e => slot % 2 ^ e.1 = e.2.1)).map (fun e => e.2.2.1)).sum

/-- The load of the most loaded due slot of a phase. -/
def phaseLoad (l : List (Nat × Nat × Nat × Option Nat)) (log2 phase : Nat) : Nat :=
  let m := l.foldl (fun m e => max m e.1) log2
  ((List.range (2 ^ (m - log2))).map (fun i => slotLoad l (phase + i * 2 ^ log2))).foldl max 0

/-- SCH_PLOAD, SCH_PLOADI, SCH_PLOADU: the most loaded slot of a room. -/
def peakLoad (s : State) (p ix : Nat) : Nat := phaseLoad (loads s p ix) 0 0

/-- The phase chosen at open (R148): the one whose due slots, by `load`, would carry the least, the lowest among
equals. -/
def choosePhase (load : Nat → Nat) (log2 step : Nat) : Nat :=
  let cands := ((List.range (2 ^ log2)).filter (fun f => f % step = 0))
  (cands.foldl (fun (b : Option (Nat × Nat)) f =>
    let v := load f
    match b with
    | some (_, w) => if v < w then some (f, v) else b
    | none => some (f, v)) none).elim 0 Prod.fst

/-- Pipes of a port due in the fullest slot of a phase, for the limit of 1,024 (R147). -/
def slotCount (s : State) (p log2 phase : Nat) : Nat :=
  phaseLoad ((s.sched.pipes.filter (fun kv => periodic kv.2 && kv.2.port.val = p)).map
    (fun kv => (kv.2.periodLog2, dueSlot kv.2, 1, none))) log2 phase

/-- The periodic pipes of a pipe's translator (R147). -/
def ttPipes (s : State) (x : Pipe) : List Pipe :=
  ((admitted s x.port).map Prod.snd).filter (fun y => y.split && y.ttHub = x.ttHub && y.ttPort = x.ttPort)

/-- A translator's admitted charge per frame (R147). -/
def ttLoad (s : State) (x : Pipe) : Nat :=
  phaseLoad ((ttPipes s x).map (fun y => (y.periodLog2 - 3, y.phase / 8, ttBytes y, none))) (x.periodLog2 - 3) (x.phase / 8)

/-- Two split pipes are due in a common frame. -/
def meets (x y : Pipe) : Bool :=
  let m := 2 ^ min (x.periodLog2 - 3) (y.periodLog2 - 3)
  x.phase / 8 % m = y.phase / 8 % m

/-- The place of a split pipe in the frames of its translator: the first that no transaction of a common frame takes,
or the last of the frame when no gap takes it in one piece (R147, R148). PRESUMED (log 44). -/
def ttPlace (s : State) (x : Pipe) : Nat :=
  let l := (ttPipes s x).filter (meets x)
  let free := (0 :: l.map (fun y => y.ttPos + ttBytes y)).filter (fun a =>
    l.all (fun y => a + ttBytes x ≤ y.ttPos || y.ttPos + ttBytes y ≤ a))
  min (1157 - ttBytes x) (free.foldl min (l.foldl (fun m y => max m (y.ttPos + ttBytes y)) 0))

/-- Pinned isochronous contexts fit (R147, R152). -/
def pinRoom (s : State) (n : Nat) : Bool :=
  let iso := s.sched.pipes.filter (fun kv => kv.2.kind = .iso)
  (iso.filter (fun kv => kv.1 % 4096 = n % 4096)).length < 12 || s.sched.overflow.length < 2048

/-- R147: the pipe, with its phase and its place in its translator set, is admitted. -/
def admits (s : State) (n : Nat) (x : Pipe) : Bool :=
  let p := x.port.val
  let ix := roomIx (pHalf x) x.dirIn
  (slotCharges x).all (fun c => phaseLoad (loads s p ix) x.periodLog2 c.1 + c.2 ≤ admitLimit s p (pHalf x)) &&
  slotCount s p x.periodLog2 (dueSlot x) < 1024 &&
  (!x.split || ttLoad s x + ttBytes x ≤ 1157) &&
  (x.kind != .iso || pinRoom s n)

/-! ### Isochronous service (R113–R115, R233–R236) -/

/-- The status of an isochronous entry (R113–R115, Table 4-8): missed intervals before an overrun, an overrun before a
short end. DESIGN CHOICE (log 123). -/
def isoCpl (x : Pipe) (y : Option Xfer) (e : Ent) : Cpl :=
  let got := match y with | some y => (match y.type with | .out => y.ackPos | _ => y.inPos) | none => 0
  let ovr := (y.map (·.overrun)).getD 0
  if x.isv.missed ≠ 0 then { status := 0x0B, errinfo := min x.isv.missed 255 }
  else if ovr ≠ 0 then { status := 0x0C, errinfo := ovr }
  else if eOp e.dw = 7 && got < eLen e.dw && !eShortOk e.dw then { status := 1 }
  else { status := 0 }

/-- The end of an isochronous entry whose last due slot is that of its service: its transfer ends, or it had none
(R115). -/
def endIso (n : Nat) (x : Pipe) (r : EntRef) (e : Ent) (s : State) : State :=
  let c := isoCpl x (x.x.bind (xfer s)) e
  let s := modPipe n (fun z => { z with lastIso := some x.isv.slot }) s
  match x.x with
  | some k => endBus k c s
  | none => nextHead n (modPipe n (fun z => { z with isv := {} }) (complete r.q r.idx c.atMaster (detach n r.q r.idx s)))

/-- The bytes that R113 sends in the next interval of an ISO_OUT entry, `adm` admitted, and the accumulator after it. -/
def isoCut (adm : Nat) (x : Xfer) (e : Ent) : Nat × Word :=
  let fb := eFrameBytes e.dw
  let cap := adm / fb * fb
  let acc := x.ldAcc + wd (eRate e.dw)
  let want := if eRate e.dw = 0 then cap else acc.toNat / 65536 * fb
  let n := min (min want cap) (eLen e.dw - x.inPos)
  (n, if eRate e.dw = 0 then x.ldAcc else acc - wd (n / fb * 65536))

/-- Opens the bytes of intervals for loading until one is due at or after interval `done`: what is left of an interval
that has passed is passed over, and an interval whose cut is 0 bytes is noted (R113, R115). -/
def nextCut (adm done : Nat) : Nat → Xfer → Ent → Xfer
  | 0, x, _ => x
  | f + 1, x, e =>
    let x := if x.ldIvl ≤ done then { x with inPos := x.inPos + x.ldLeft, ldLeft := 0 } else x
    if x.ldLeft ≠ 0 || eLen e.dw ≤ x.inPos || eFrames e.dw ≤ x.ldIvl then x
    else
      let c := isoCut adm x e
      nextCut adm done f { x with
        ldAcc := c.2, ldIvl := x.ldIvl + 1, ldLeft := c.1, zeros := if c.1 = 0 then x.zeros ++ [x.ldIvl] else x.zeros } e

/-- An ISO_OUT transfer with the intervals opened that its pipe's place in the entry asks for. -/
def openCuts (s : State) (x : Xfer) (e : Ent) : Xfer :=
  match x.pipe.bind (pipe s) with
  | some p => if x.iso && x.type = .out then nextCut p.admitBytes p.isv.done 65536 x e else x
  | none => x

/-- No byte of an ISO_OUT entry is due in the interval being served (R113): the cut is 0. -/
def nothingDue (x : Pipe) (y : Option Xfer) : Bool :=
  match y with
  | some y => y.type = .out && y.zeros.contains x.isv.done
  | none => false

/-- The service interval that has just passed is settled (R115): missed when it moved nothing of what was due. A pipe
that does not run settles it once it does. -/
def closeInterval (n : Nat) (s : State) : State :=
  match pipe s n with
  | some x =>
    match x.ents with
    | [] => s
    | r :: _ =>
      match ent s r.q r.idx with
      | none => s
      | some e =>
        if !x.isv.serving || (x.state != .ready && x.state != .active) then s
        else
          let y := (x.x.bind (xfer s)).map (fun y => openCuts s y e)
          let done := x.isv.done + 1
          let v := { x.isv with
            serving := false, done := done
            missed := if x.isv.moved || nothingDue x y then x.isv.missed else x.isv.missed + 1 }
          let x := { x with isv := v }
          let s := setPipe n x s
          match x.x, y with
          | some k, some y =>
            let s := setXfer k { y with zeros := y.zeros.filter (fun i => done ≤ i) } s
            let s := if y.type = .out then dropPages k (fun g => done ≤ g.ivl) s else s
            let y := (xfer s k).getD y
            if eFrames e.dw ≤ done || (eLen e.dw ≤ y.inPos && (y.type = .inp || y.pages.isEmpty)) then endIso n x r e s
            else askPages 255 k (queueJob k s)
          | _, _ => if eFrames e.dw ≤ done then endIso n x r e s else s
  | none => s

/-- An entry may be served in slot `now` (R233): attached in time, its START reached. -/
def inTime (e : Ent) (now : Word) : Bool :=
  if eOp e.dw = 6 then 2 ≤ (now - e.att).toInt else 1 ≤ (now - e.att).toInt

/-- A due slot `now` opens for an entry whose turn has not begun (R233): the due slots of its span that have passed, and
the due slots since the previous entry, count as missed. -/
def beginIso (x : Pipe) (e : Ent) (now : Word) : IsoServ :=
  let step := 2 ^ x.periodLog2
  if eAsap e.dw then
    { begun := true, serving := true, slot := now
      missed := match x.lastIso with | some w => idiff now w / step - 1 | none => 0 }
  else
    let passed := idiff now (eStart e.dw) / step
    let done := min passed (eFrames e.dw)
    { begun := true, serving := true, done := done, missed := done
      slot := if passed < eFrames e.dw then now else now - wd ((passed + 1 - eFrames e.dw) * step) }

/-- The due slot `now` of an isochronous pipe: its head entry begins or goes on. Due slots in which the pipe did not run
are lost to an entry that had begun; an entry whose whole span has passed ends, and the next one takes the slot. -/
def openInterval : Nat → Nat → Word → State → State
  | 0, _, _, s => s
  | fuel + 1, n, now, s =>
    match pipe s n with
    | some x =>
      match x.ents with
      | [] => s
      | r :: _ =>
        match ent s r.q r.idx with
        | none => s
        | some e =>
          if x.state != .ready && x.state != .active then s
          else if x.isv.begun then
            let lost := min (idiff now x.isv.slot / 2 ^ x.periodLog2 - 1) (eFrames e.dw - x.isv.done)
            let v := { x.isv with done := x.isv.done + lost, missed := x.isv.missed + lost
                                  slot := x.isv.slot + wd (lost * 2 ^ x.periodLog2) }
            if eFrames e.dw ≤ v.done then openInterval fuel n now (endIso n { x with isv := v } r e (setPipe n { x with isv := v } s))
            else setPipe n { x with isv := { v with serving := true, moved := false, slot := now } } s
          else if !(if eAsap e.dw then inTime e now else 0 ≤ (now - eStart e.dw).toInt) then s
          else
            let x := { x with isv := beginIso x e now }
            let s := setPipe n x s
            if eFrames e.dw ≤ x.isv.done && !eAsap e.dw then openInterval fuel n now (endIso n x r e s)
            else if eLen e.dw = 0 then endIso n x r e s
            else if !eAsap e.dw && !inTime e now then closeInterval n s
            else s
    | none => s

/-! ### The port's tick (R143, R144, R220, R221, R231) -/

/-- The TRIM of a port's next interval (R231, R232): in MODE 1 it moves toward the clamped target; in MODE 2 it brings
LAG toward 0 at no more than the clamp rate; a TRIM beyond a lowered LIMIT moves down to it. With LIMIT 0 a port
returns at one sixteenth a interval. DESIGN CHOICE (log 124). -/
def nextTrim (s : State) (p : Nat) (t : PortTime) (lag : Int) : Int :=
  let lim : Int := min (fld (cfg s (0x300100 + p * 0x10)) 8 7) 64
  let slow : Bool := t.since % 16 = 15
  let toward := fun (g : Int) =>
    if !slow then t.trim else if t.trim < g then t.trim + 1 else if g < t.trim then t.trim - 1 else t.trim
  if t.mode = 2 then
    let rate := max lim 1
    let g := if lag ≤ 15360 * 8 then -(min lag rate) else min (15360 * 16 - lag) rate
    if rate < t.trim.natAbs && g.natAbs = rate then toward g else g
  else toward (max (-lim) (min lim t.target))

/-- A port's interval ends (R231, R232): LAG advances by its TRIM, and the TRIM of the next interval is set. -/
def trimStep (s : State) (p : Nat) (t : PortTime) : PortTime × Bool :=
  if t.mode = 0 then (t, false)
  else
    let l : Int := t.lag16 + t.trim
    let lag := l % (15360 * 16)
    let t := { t with trim := nextTrim s p t lag, since := t.since + 1, lag16 := lag.toNat
                      skew := if l < 0 then t.skew + 1 else if 15360 * 16 ≤ l then t.skew - 1 else t.skew }
    if t.mode = 2 && t.lag16 = 0 then ({ t with mode := 0, trim := 0 }, true) else (t, false)

/-- TIMEBASE (R237, Table 8-4). -/
def timebaseEvent (cause : Nat) (port : Option Nat) (old : LockSt) (s : State) : State :=
  let code : LockSt → Nat := fun l => match l with | .free => 0 | .acquiring => 1 | .locked => 2 | .holdover => 3
  let t := s.iso
  let is := (s.sched.pipes.filter (fun kv => kv.2.kind = .iso &&
    (match port with | some p => kv.2.port.val = p | none => true))).map (fun kv => kv.2.inst)
  events (0 :: is) 0x04 [pack [(cause, 0), (port.getD 0, 8), (code old, 12), (code t.lock, 14)],
    (if t.anchValid then t.anchN else 0), (if t.anchValid then t.anchPh.zeroExtend 32 else 0),
    t.afreq.zeroExtend 32] s

/-- Delta of an ITP (R221): the time since the interval's start, in the units of USB 3.2, 7,500 to an interval.
PRESUMED (log 125). -/
def itpDelta (s : State) (p : Nat) : Nat := portPos s p * 7500 / 15360

/-- The interval start packets of one half (R221, Table 8-1): an ITP that falls due while the link leaves U1 or U2 waits
for U0. -/
def startPacket (p h : Nat) (num : Word) (s : State) : State :=
  let x := halfReg s p h
  if x.st != .enabled || x.suspending || (h = 1 && x.lstate = 2) then s
  else if h = 0 then
    (if x.lstate = 0 then bus p 0 (.itp (num.toNat % 16384) (itpDelta s p)) s
     else if x.lstate = 8 then modHalf p 0 (fun x => { x with itpDue := true }) s else s)
  else
    let f := num.toNat / 8 % 2048
    if x.speed = 4 then bus p 1 (.sof f) s
    else if num.toNat % 8 ≠ 0 then s
    else if x.speed = 5 then bus p 1 (.sof f) s
    else if x.speed = 6 then bus p 1 .keepAlive s
    else s

/-- The room of half 1 goes on over a tick: at full and low speed it spans a frame of eight slots (R146). -/
def frameGoesOn (s : State) (p : Nat) (num : Word) : Bool :=
  (halfSpeed s p 1 = 5 || halfSpeed s p 1 = 6) && num.toNat % 8 ≠ 0

/-- Rooms of a new interval (R144, R146). -/
def newRoom (s : State) (p : Nat) (num : Word) : List Int :=
  let v := fun h => if (halfReg s p h).st = .enabled then budget (halfSpeed s p h) else 0
  let old := (psched s p).room
  let b : Int := v 1
  [(v 0 : Int), (v 0 : Int),
   if frameGoesOn s p num then old.getD 2 0 else b]

/-- Inserts a pipe into the class by bucket, later placements behind (R143). -/
def bucketInsert (key : Nat → Nat × Nat) (n : Nat) : List Nat → List Nat
  | [] => [n]
  | m :: ms =>
    let a := key n
    let b := key m
    if a.1 < b.1 || (a.1 = b.1 && a.2 < b.2) then n :: m :: ms else m :: bucketInsert key n ms

/-- The due pipes of a port's slot, in bucket order (R143). -/
def duePipes (s : State) (p : Nat) (num : Word) : List Nat :=
  let due := (s.sched.pipes.filter (fun kv => periodic kv.2 && kv.2.port.val = p &&
    num.toNat % 32768 % 2 ^ kv.2.periodLog2 = dueSlot kv.2)).map Prod.fst
  let key := fun n => match pipe s n with | some x => (x.offset / 1024, x.placed) | none => (0, 0)
  due.foldl (fun l n => bucketInsert key n l) []

/-- The interval number and the trim of a port at its tick (R220, R231): the first tick after power-on or return takes
the master number, with LAG and SKEW 0. DEDUCED (log 56). -/
def portNumber (p : Nat) (s : State) : State :=
  let old := ptime s p
  let t := if old.load then
      let t := { old with num := s.iso.mic, lag16 := 0, skew := 0, load := false }
      if t.mode = 2 then ({ t with mode := 0, trim := 0 }, true) else (t, false)
    else trimStep s p { old with num := old.num + 1 }
  let s := modPtime p (fun _ => { t.1 with tickMic := s.iso.mic }) s
  if t.2 then timebaseEvent 0x0A (some p) s.iso.lock s else s

/-- A pipe is taken into its port's periodic class with the charge of ADMIT bytes (R144). -/
def served (s : State) (n : Nat) : Bool :=
  match pipe s n with
  | some x => x.state = .ready && (x.kind != .iso || x.isv.serving)
  | none => false

/-- A burst of the loopback test (R360): its packets and the bytes of each, the largest MPS of the speed; high and full
speed have no bursts. -/
def loopBurst (speed : Nat) : Nat × Nat :=
  match speed with | 4 => (1, 512) | 5 | 6 => (1, 64) | _ => (16, 1024)

/-- Bursts of a charge that a room takes now as asynchronous work (R146). -/
def roomBursts (s : State) (p ix c : Nat) : Nat :=
  (((psched s p).room.getD ix 0 - (psched s p).pendChg.getD ix 0) / (c : Int)).toNat

/-- Sends `n` bursts of the loopback test in a direction, charged to a room. -/
def loopSend (p h ix n : Nat) (dirIn : Bool) (b : Nat × Nat) (c : Nat) (s : State) : State :=
  if n = 0 then s
  else
    let s := chargeRoom p ix (n * c : Nat) s
    emit (.loopback p h dirIn (n * b.1) b.2) { s with dev := { s.dev with loopBytes := s.dev.loopBytes + n * b.1 * b.2 } }

/-- Steps 3 and 4 of R360: what the room of an interval takes in both directions. The port has no other unit.
DESIGN CHOICE (log 79). -/
def loopTraffic (p : Nat) (s : State) : State :=
  match s.dev.loopCmd with
  | some (_, q, a) =>
    match if q = p then unitAt s p a else none with
    | some u =>
      let h := u.half.val
      let v := halfSpeed s p h
      let b := loopBurst v
      let c := b.1 * pktCharge v b.2
      if h = 0 then loopSend p 0 1 (roomBursts s p 1 c) true b c (loopSend p 0 0 (roomBursts s p 0 c) false b c s)
      else
        let n := roomBursts s p 2 c
        loopSend p 1 2 (n / 2) true b c (loopSend p 1 2 ((n + 1) / 2) false b c s)
    | none => s
  | none => s

/-- What the tick of a port does in FAB (R143–R146, R152). -/
def fabTick (p : Nat) (num : Word) (s : State) : State :=
  let s := (pipesWhere s (fun x => x.kind = .iso && x.port.val = p)).foldl (fun s n => closeInterval n s) s
  let due := duePipes s p num
  let s := due.foldl (fun s n =>
    let st := s.sched.stamp
    modPipe n (fun x => { x with carried := 0, placed := st }) { s with sched := { s.sched with stamp := st + 1 } }) s
  let s := due.foldl (fun s n => match pipe s n with
    | some x => if x.kind = .iso then openInterval (x.ents.length + 1) n num s else s
    | none => s) s
  let s := (pipesWhere s (fun x => x.port.val = p)).foldl (fun s n => modPipe n (fun x => { x with pend := 0 }) s) s
  let kl := due.filter (served s)
  let s := kl.foldl (fun s n => modPipe n (fun x => { x with pend := bytesCharge x x.admitBytes }) s) s
  let s := modPsched p (fun y => { y with
    klass := kl, freed := [], oldSpeed := none, room := newRoom s p num
    pendChg := [0, 1, 2].map (fun ix => ((kl.map (fun n => match pipe s n with
      | some x => if roomIx (pHalf x) x.dirIn = ix then (x.pend : Int) else 0
      | none => 0)).sum)) }) s
  let s := modEngine p 0 (fun e => { e with descs := e.descs.map (fun d => { d with oldRoom := true }) }) s
  let s := if frameGoesOn s p num then s else
    modEngine p 1 (fun e => { e with descs := e.descs.map (fun d => { d with oldRoom := true }) }) s
  let s := startNext p 1 (startNext p 0 s)
  (pipesWhere s (fun x => x.port.val = p && (dueIn s x 1 || dueIn s x 2))).foldl (fun s n => pin n (needCtx n s)) s

/-- Slots that have passed while FAB was gated: each of their pipes is placed anew, as one of a due slot that is not
served (R387, Table 5-2). -/
def replaceDue (p : Nat) (num : Word) (s : State) : State :=
  (duePipes s p num).foldl (fun s n =>
    let st := s.sched.stamp
    modPipe n (fun x => { x with placed := st }) { s with sched := { s.sched with stamp := st + 1 } }) s

/-- The slot pointer comes up to the port's interval number (R387); no period is longer than 32,768 slots. -/
def catchUp (p : Nat) (s : State) : State :=
  match if s.pm.gated then none else (psched s p).passed with
  | some n =>
    let num := (ptime s p).num
    let k := min 32768 (idiff num n)
    let s := (List.range k).foldl (fun s i => replaceDue p (num - wd (k - i)) s) (modPsched p (fun y => { y with passed := none }) s)
    fabTick p num s
  | none => s

/-- Every port's slot pointer comes up (R387). -/
def catchAll (s : State) : State := (List.range 8).foldl (fun s p => catchUp p s) s

/-- A port's interval: its number, the packets that start on its buses, and the tick in FAB, which a gated clock keeps
for later (R220, R387). -/
def portTick (p : Nat) (s : State) : State :=
  let s := portNumber p s
  let num := (ptime s p).num
  let s := startPacket p 1 num (startPacket p 0 num s)
  if s.pm.gated then
    modPsched p (fun y => { y with passed := some (y.passed.getD num), freed := [], oldSpeed := none }) s
  else loopTraffic p (if (psched s p).passed.isSome then catchUp p s else fabTick p num s)

def execPortIntervalTick (p : Port) (s : State) : Res :=
  when s (s.iso.running && (port s p).inService) (portTick p s)

end Sys2Proof.Machine
end

