-- ==== Sys2Proof/Machine/Engine.lean ====
section
/-! DEFINITION. The transaction engines (file 07): packets, handshakes, errors and retries, withdrawal, streams,
splits, the end of a burst, and what a drain and a close do to a pipe. -/

namespace Sys2Proof.Machine

open Sys2Proof

/-- A charge beyond what the dispatch paid: to the room of its interval and to the group's deficit at once (R140,
R193). -/
def chargeMore (n c : Nat) (s : State) : State :=
  match descOf s n with
  | some (x, d) =>
    let s := if d.oldRoom then s else chargeRoom x.port d.room c s
    let s := match d.group with
      | some g => modPsched x.port (fun y => { y with deficit := setD 0 y.deficit g (getD 0 y.deficit g - c) }) s
      | none => s
    modDesc n (fun d => { d with charged := d.charged + c }) s
  | none => s

/-- A packet of the half is still on the wire. -/
def wireBusy (s : State) (p h : Nat) : Bool := (engine s p h).descs.any (fun d => onBus d && !d.isOver)

/-- Signalling that ends a half's traffic follows the packets on the wire (R175, R217). -/
def signal (p h : Nat) (k : BusPkt) (s : State) : State :=
  if wireBusy s p h then modHalf p h (fun x => { x with sigDue := x.sigDue ++ [k] }) s else bus p h k s

/-- The wire of a half is free: the signalling that waited for it begins. -/
def sendSignals (p h : Nat) (s : State) : State :=
  if wireBusy s p h then s
  else
    let l := (halfReg s p h).sigDue
    if l.isEmpty then s else l.foldl (fun s k => bus p h k s) (modHalf p h (fun x => { x with sigDue := [] }) s)

/-- Settles a burst's charge (R140, R193): what was charged and not used goes back to the group's deficit, kept at
most one quantum, and to the room that paid, while its interval runs; a periodic pipe of the class still has it pending
(R145). The descriptor leaves the engine. -/
def settleBurst (n : Nat) (s : State) : State :=
  match descOf s n with
  | some (x, d) =>
    let p := x.port.val
    let back : Int := (d.charged : Int) - d.used
    let s := modEngine p (pHalf x) (fun e => { e with descs := e.descs.filter (fun d => d.pipe ≠ n) }) s
    let s := if (engine s p (pHalf x)).descs.isEmpty then idleStart p (pHalf x) s else s
    let s := sendSignals p (pHalf x) s
    let s := if d.oldRoom then s else
      let s := chargeRoom p d.room (-back) s
      if periodic x && (psched s p).klass.contains n then
        modPsched p (fun y => { y with pendChg := y.pendChg.modify d.room (fun r => r + back.toNat) })
          (modPipe n (fun y => { y with pend := y.pend + back.toNat }) s)
      else s
    match d.group with
    | some g => if cfgGroup s g = 0 then s else modPsched p (fun y => { y with
        deficit := setD 0 y.deficit g (min (getD 0 y.deficit g + back) (quantum s g)) }) s
    | none => s
  | none => s

/-! ### Streams and translators (R150, R151, R208–R210) -/

/-- An ERDY that was kept while another stream had the endpoint: the pipe is linked at its list's head (R210). -/
def erdyHonoured (n : Nat) (s : State) : State :=
  match pipe s n with
  | some y =>
    if !y.ents.isEmpty && (y.state = .ready || y.state = .parked) then
      startHeads n
        (link n true (setPipe n { y with state := .ready, block := 0, erdyPend := false, waitErdy := false } s))
    else s
  | none => s

/-- The stream pipes of an endpoint that blocked while it was busy are linked in the order they blocked, and those that
kept an ERDY at their lists' heads (R150, R210), these in identifier order. DESIGN CHOICE (log 144). -/
def freeStreams (ep : Nat) (s : State) : State :=
  let key := fun n => match pipe s n with | some y => (y.placed, n) | none => (0, n)
  let blocked := (pipesWhere s (fun y => y.kind = .stream && y.link = ep && y.block = 2)).foldl
    (fun l n => bucketInsert key n l) []
  (pipesWhere s (fun y => y.kind = .stream && y.link = ep && y.erdyPend)).foldl (fun s n => erdyHonoured n s)
    (blocked.foldl (fun s n => unblock n 2 s) s)

/-- The endpoint's current stream is idle: CUR_STREAM 0, blocked stream pipes linked (R150, R209).
DEDUCED (log 47). -/
def streamIdle (ep : Nat) (s : State) : State :=
  match pipe s ep with
  | some x =>
    freeStreams ep (if x.curStream = 0 then s else
      modPipe (x.link + x.curStream - 1) (fun y => { y with sstate := if y.sstate = 2 then 0 else y.sstate })
        (setPipe ep { x with curStream := 0 } s))
  | none => s

/-- A stream becomes current (R208): the unit has moved data on it. -/
def streamCurrent (n : Nat) (x : Pipe) (s : State) : State :=
  if x.kind != .stream then s
  else
    match pipe s x.link with
    | some e =>
      if e.curStream = x.streams then s
      else modPipe n (fun y => { y with sstate := 2, selects := y.selects + 1 })
        (setPipe x.link { e with curStream := x.streams } s)
    | none => s

/-- A stream's burst has ended without the unit's having made it current: it is idle again (R211), and others may be
chosen. -/
def streamDone (n : Nat) (x : Pipe) (s : State) : State :=
  let s := modPipe n (fun y => { y with sstate := if y.sstate = 1 then 0 else y.sstate }) s
  match pipe s x.link with
  | some e => if e.curStream = 0 then freeStreams x.link s else s
  | none => s

/-- A split transaction has ended: a pipe of its translator that waited is linked (R137, R151). -/
def freeTt (x : Pipe) (s : State) : State :=
  if !x.split || periodic x then s
  else (pipesWhere s (fun y => y.split && y.block = 2 && y.port = x.port && y.ttHub = x.ttHub && y.ttPort = x.ttPort)).foldl
    (fun s n => unblock n 2 s) s

/-! ### How a burst ends (Table 5-2) -/

/-- How a burst ended. -/
inductive BurstEnd where
  /-- Normally, or after a short packet. -/
  | normal
  /-- Withdrawn by the unit (R199). -/
  | withdrawn
  /-- Answered NAK (R202). -/
  | nak
  /-- After an error whose retry lies outside the dispatch (R196). -/
  | retry
  /-- Cut at its current packet by a stop, a close, a drain or a quiesced instance (R40, R83, Table 5-2). -/
  | cut
  /-- Cut by the loss of lane 1 at the last acknowledged packet (R180). -/
  | lane
  /-- Withdrawn from the engine before its first packet (R192). -/
  | unsent
deriving DecidableEq, Repr

/-- SENT pages become FULL again, to be resent (Table 9-1). -/
def unsend (y : Xfer) : Xfer :=
  { y with pages := y.pages.map (fun g => if g.st = .sent then { g with st := .full } else g) }

/-- Puts a pipe in the retry store; a full store evicts the oldest place (R196). -/
def retryStore (n : Nat) (x : Pipe) (s : State) : State :=
  let e := engine s x.port 1
  match e.retry.filter (· ≠ n) with
  | o :: rest =>
    if 256 ≤ rest.length + 1 then
      modEngine x.port 1 (fun e => { e with retry := rest ++ [n], rstoreOvf := e.rstoreOvf + 1 })
        (modPipe o (fun y => { y with errs := 0 }) s)
    else modEngine x.port 1 (fun e => { e with retry := o :: rest ++ [n] }) s
  | [] => modEngine x.port 1 (fun e => { e with retry := [n] }) s

/-- A job that is drained leaves a channel that pauses, which stays paused without it (Table 9-2).
DEDUCED (log 102). -/
def unpause (k : Nat) (s : State) : State :=
  match ((xfer s k).bind (·.chan)).map (pump s) with
  | some c => if c.st = .pausing || c.st = .paused then unbind k s else s
  | none => s

/-- The drain of an entry's queue ends its transfer once no packet is on the wire (R83), and so does an acknowledged
halt (R260). DEDUCED (log 102). -/
def drainCheck (n : Nat) (s : State) : State :=
  match (pipe s n).bind (·.x) with
  | some k =>
    match xfer s k with
    | some y =>
      if y.ending.isSome then progress k (if draining s y then unpause k s else s)
      else if draining s y then endBus k { status := 8, errinfo := 1 } (unpause k s) else s
    | none => s
  | none => s

/-- What becomes of a stream when a burst of it has ended (R208, R209). DEDUCED (log 47). -/
def streamAfter (n : Nat) (x : Pipe) (how : BurstEnd) (s : State) : State :=
  if x.kind != .stream then s
  else if how = .withdrawn || (x.ents.isEmpty && x.x.isNone) ||
      (x.ended && s.sched.pipes.any (fun kv => kv.2.kind = .stream && kv.2.link = x.link && kv.2.block = 2)) then
    streamDone n x (streamIdle x.link s)
  else streamDone n x s

/-- A stream whose last entry has ended with its burst, as by a disable, is current no more (R209). -/
def streamEmpty (n : Nat) (x : Pipe) (s : State) : State :=
  if x.kind = .stream && (pipe s n).all (fun y => y.ents.isEmpty && y.x.isNone) &&
      (pipe s x.link).any (fun e => e.curStream = x.streams) then streamIdle x.link s else s

/-- The state of an ACTIVE pipe after its burst (Table 5-2, R157). -/
def burstState (n : Nat) (x : Pipe) (how : BurstEnd) (s : State) : State :=
  if x.stopping then
    let s := dropKlass n s
    replyPipe n 5 (modPipe n (fun y => { y with
      state := .stopped, rdyLatch := true, stopping := false, waitErdy := y.waitErdy || how = .withdrawn }) s)
  else if how = .withdrawn then
    let s := dropKlass n s
    if x.erdyPend then
      (if x.ents.isEmpty && x.x.isNone then modPipe n (fun y => { y with state := .idle, erdyPend := false }) s
       else startHeads n (link n false (modPipe n (fun y => { y with state := .ready, erdyPend := false }) s)))
    else modPipe n (fun y => { y with state := .parked, waitErdy := true }) s
  else if x.ents.isEmpty && x.x.isNone then modPipe n (fun y => { y with state := .idle }) (dropKlass n s)
  else
    let s := link n (how = .retry) (modPipe n (fun y => { y with state := .ready }) s)
    let s := if periodic x && (how = .nak || how = .retry || x.admitBytes ≤ x.carried) then dropKlass n s else s
    startHeads n s

/-- The entries of a CLOSING pipe whose burst has ended (Table 5-2): ABORTED_PARTIAL for what had started, or what the
close of a whole half gives them (R174, R217). -/
def burstClosed (n : Nat) (x : Pipe) (s : State) : State :=
  match x.gone, x.x with
  | some c, _ => endAll n c c s
  | none, some k => endBus k { status := 8, errinfo := 3 } s
  | none, none => s

/-- The burst of a pipe has ended and its charge is settled. An error count above 0 goes to the retry store (R196).
DEDUCED (log 41); DEDUCED (log 108). -/
def finishBurst (n : Nat) (how : BurstEnd) (s : State) : State :=
  match descOf s n with
  | none => s
  | some (x, d) =>
    let left := match how with | .unsent => x.leftPkts | .withdrawn | .lane => d.count - d.carried | _ => 0
    let s := settleBurst n s
    let s := match x.x with | some k => modXfer k unsend s | none => s
    let s := modPipe n (fun y => { y with leftPkts := left, splitOut := false, splits := [] }) s
    let s := if pHalf x = 1 && x.errs ≠ 0 then retryStore n x s else s
    let s := freeTt x (streamAfter n x how s)
    let s := match x.state with
      | .active => burstState n x how s
      | .closing => burstClosed n x s
      | _ => s
    startNext x.port (pHalf x) (streamEmpty n x (closeDone n (drainCheck n s)))

/-- A burst that is cut before its first packet is withdrawn, its whole charge returned (R192): its pipe stops or
closes, or its instance is quiesced (R40). DEDUCED (log 108). -/
def withdrawUnsent (n : Nat) (s : State) : State :=
  match descOf s n with
  | some (x, d) =>
    if !d.onWire && (x.stopping || x.state = .closing || quiet s x.inst) then finishBurst n .unsent s else s
  | none => s

/-- All that an ISO_OUT entry sends in an interval has been sent (R113): its pipe has nothing more to carry there
(R145). -/
def cutSent (ivl : Nat) (y : Xfer) : Bool :=
  y.pages.all (fun g => g.ivl ≠ ivl) && (ivl + 1 < y.ldIvl || (y.ldIvl = ivl + 1 && y.ldLeft = 0))

/-- ISO_OUT packets of a burst count as sent at its end (R113, R234). -/
def isoOutSent (n : Nat) (x : Pipe) (s : State) : State :=
  match x.x with
  | some k =>
    match xfer s k with
    | some y =>
      if x.kind = .iso && y.type = .out then
        let sent := y.pages.filter (fun g => g.st = .sent)
        let b := (sent.map (·.len)).sum
        let s := dropPages k (fun g => g.st ≠ .sent)
          (setXfer k { y with ackPos := y.ackPos + b, stamped := y.stamped || 0 < b } s)
        let s := modPipe n (fun z => { z with
          carried := z.carried + b, isv := { z.isv with moved := z.isv.moved || 0 < b } }) s
        let s := modDesc n (fun d => { d with carried := d.count, used := d.charged }) s
        let s := if ((xfer s k).any (cutSent x.isv.done)) then dropKlass n s else s
        if (total s y).1 ≤ y.inPos && sent.length = y.pages.length then closeInterval n s else s
      else s
    | none => s
  | none => s

/-- A burst is to end at its current packet: its pipe stops, closes or is held, its queue drains, its instance is
quiesced (R40, R83, Table 5-2). -/
def cutDue (s : State) (x : Pipe) : Bool :=
  x.stopping || x.state != .active || quiet s x.inst ||
  match x.x.bind (xfer s) with
  | some y => y.ending.isSome || draining s y
  | none => false

/-- The engine may report the burst ended: it is over, it is cut while no split of it is outstanding (R214), or it
carries ISO_OUT (R113), all its parts sent (R213). -/
def burstDue (s : State) (x : Pipe) (d : Desc) : Bool :=
  d.isOver || (cutDue s x && !(x.split && d.onWire)) ||
  (x.kind = .iso && !x.dirIn && d.onWire && x.splits.isEmpty)

def burstEnd (n : Nat) (x : Pipe) (d : Desc) (s : State) : State :=
  let s := if d.onWire then isoOutSent n x s else s
  finishBurst n (if !d.onWire then .unsent else if d.withdrawn then .withdrawn else if d.isOver || x.kind = .iso then .normal
    else .cut) s

def execBurstEnd (n : PipeId) (s : State) : Res :=
  match descOf s n with
  | some (x, d) => when s (burstDue s x d) (burstEnd n x d s)
  | none => noSuch s

/-! ### Errors (R195, R196) -/

/-- The packet that ends now is the transfer's last so far (R124). -/
def stampPipe (x : Pipe) (s : State) : State := match x.x with | some k => stampNow k s | none => s

/-- A stream whose burst ended with STALL or an error is current no more (R211). DEDUCED (log 48). -/
def streamFailed (n : Nat) (x : Pipe) (s : State) : State :=
  if x.kind != .stream then s
  else
    match pipe s x.link with
    | some e => streamDone n x (if e.curStream = x.streams then streamIdle x.link s else s)
    | none => s

/-- Ends the burst at an error that goes to the sump (R195, R265); nothing is written until the sump answers.
DEDUCED (log 48). -/
def errorOut (n : Nat) (x : Pipe) (status errinfo : Nat) (s : State) : State :=
  let s := modPipe n (fun y => { y with
    leftPkts := 0, errs := 0, repeats := 0, splitOut := false, splits := [] }) (stampPipe x s)
  let s := settleBurst n s
  let s := match x.x with | some k => modXfer k unsend s | none => s
  let s := freeTt x (streamFailed n x s)
  let h : Half := if pHalf x = 0 then 0 else 1
  startNext x.port h.val (closeDone n
    (report { pipe := n, port := x.port, half := h, addr := x.addr, status := status, errinfo := errinfo
              stale := gated s x.inst } s))

/-- Sends again what the engine was carrying: the packets from the first unacknowledged one, as many as the unit's last
NumP allows (R195, R198). -/
def resend (n : Nat) (d : Desc) (s : State) : State :=
  let s := match (pipe s n).bind (·.x) with | some k => modXfer k unsend s | none => s
  match pipe s n with
  | some x =>
    match plan s { x with leftPkts := d.count - d.carried } with
    | some pl => ssDone n x (sendBurst n x { pl with count := d.count - d.carried } d.numP s)
    | none => s
  | none => s

/-- The handshake for a passing IN packet. -/
def sendAck (x : Pipe) (seq : BitVec 5) (numP : Nat) (retry : Bool) (s : State) : State :=
  if x.kind = .iso then s else busOut x (.ack x.addr x.ep (if pHalf x = 0 then seq.toNat else 0) numP retry) s

/-- The next transaction of half 1 is this descriptor's, ahead of the others (R196, R204); one that the guard of R203
holds back waits for the next microframe. -/
def sendNow (n : Nat) (x : Pipe) (d : Desc) (chg : Nat) (s : State) : State :=
  if chg ≤ frameLeft s x.port then resend n d s
  else
    let s := match x.x with | some k => modXfer k unsend s | none => s
    modEngine x.port 1 (fun e =>
      let own := (e.descs.filter (fun c => c.pipe = n)).map (fun c => { c with onWire := false })
      { e with descs := own ++ e.descs.filter (fun c => c.pipe ≠ n) }) s

/-- A retry on half 1 (R196), charged again (R193). -/
def retryNow (n : Nat) (x : Pipe) (d : Desc) (again : Nat) (s : State) : State :=
  sendNow n x { d with csplit := false, csOut := false } again
    (modDesc n (fun d => { d with csplit := false, csOut := false }) (chargeMore n again s))

/-- The charge of the next try of a burst's packet (R193, R196): that of what it carries, or of PING (R204). -/
def tryCharge (s : State) (x : Pipe) : Nat :=
  let s := match x.x with | some k => modXfer k unsend s | none => s
  if pings s x && x.seq.getLsbD 1 then hsCharge x.speed
  else
    match plan s { x with leftPkts := 1 } with
    | some pl => planCharge x { pl with count := 1 }
    | none => pipeCharge x x.mps

/-- A packet may be tried again in this burst: the burst does not end at its current packet, and the half carries
traffic (R40, R174, R175, Table 6-4). -/
def mayRetry (s : State) (x : Pipe) : Bool := !cutDue s x && askable s x.port (pHalf x)

/-- One error of Table 7-2 on a packet. `cost` is the charge of the failed try; half 0 answers a failed IN packet with
an ACK with Retry, and sends its request again for every other error; a unit whose last NumP is 0 has withdrawn the
burst (R198). An isochronous packet is not tried again in its interval (R114). DEDUCED (log 43). -/
def busError (n : Nat) (x : Pipe) (d : Desc) (errinfo cost : Nat) (retryAck : Bool) (s : State) : State :=
  let s := modDesc n (fun d => { d with used := d.used + cost, csOut := false }) (stampPipe x s)
  if x.kind = .iso then dropKlass n (modDesc n (fun d => { d with isOver := true }) s)
  else if x.state = .closing then modDesc n (fun d => { d with isOver := true }) s
  else if 2 ≤ x.errs then
    errorOut n x 4 errinfo (modEngine x.port (pHalf x) (fun e => { e with xerrs := e.xerrs + 1 }) s)
  else
    let s := modPipe n (fun y => { y with errs := y.errs + 1 }) s
    let s := modEngine x.port (pHalf x) (fun e => { e with retries := e.retries + 1 }) s
    let again := tryCharge s x
    if !mayRetry s x then finishBurst n .retry s
    else if pHalf x = 0 then
      (if retryAck then sendAck x x.seq (d.count - d.carried) true s
       else if d.numP = 0 then modDesc n (fun d => { d with isOver := true, withdrawn := true }) s
       else resend n d s)
    else if if periodic x then !x.split && again ≤ frameLeft s x.port else fitsRoom s x.port 2 again then
      retryNow n x d again s
    else finishBurst n .retry s

/-! ### DATA_PACKET_RECEIVED (R194, R197, R205, R114, R126) -/

/-- A checked packet of `bs` goes into a page of the transfer (R194). -/
def acceptData (n k : Nat) (bs : List Byte) (s : State) : State :=
  match xfer s k with
  | some y =>
    let g : Page := { off := y.inPos, len := bs.length, st := .full, segs := [(y.inPos, bs)] }
    let y := { y with
      pages := if bs.isEmpty then y.pages else y.pages ++ [g], inPos := y.inPos + bs.length
      stamped := true }
    let s := markPacket k y.inPos (stampNow k (setXfer k y s))
    modPipe n (fun z => { z with
      carried := z.carried + bs.length, errs := 0, repeats := 0, isv := { z.isv with moved := true } }) s
  | none => s

/-- The sequence number or toggle after a passing packet (R197, R205). -/
def nextSeq (x : Pipe) : BitVec 5 := if pHalf x = 0 then x.seq + 1 else x.seq ^^^ 1

/-- How a control transfer ends with its status stage: an IN data stage that moved less than its length ended short
(R102, Table 4-7). -/
def controlEnd (s : State) (k : Nat) : Cpl :=
  match xfer s k with
  | some y =>
    let t := total s y
    { status := if y.type = .inp && !(t.2 && t.1 ≤ y.inPos) then shortEnd else 0 }
  | none => { status := 0 }

/-- An isochronous packet that has passed (R114): LEN is filled, or data is lost beyond LEN (ERRINFO 0x01), or the
pump left too few pages for what the interval admits (0x02). DEDUCED (log 126). -/
def isoData (n k : Nat) (d : Desc) (fits full done : Bool) (s : State) : State :=
  let s := modXfer k (fun y => { y with overrun :=
    if !fits then 1 else if y.overrun = 0 && y.starved && full && d.carried + 1 = d.count && !done then 2 else y.overrun }) s
  let s := queueJob k s
  if done then closeInterval n s else s

/-- A packet that has passed every check. -/
def goodData (n k : Nat) (x : Pipe) (d : Desc) (pkt : InPacket) (s : State) : State :=
  match xfer s k with
  | none => s
  | some y =>
    let t := total s y
    let rem := t.1 - y.inPos
    let len := pkt.data.length
    let fits := !t.2 || len ≤ rem
    let bs := if fits then pkt.data else pkt.data.take rem
    let bs := if x.kind = .iso then bs.take (capLeft x) else bs
    let short := len < x.mps
    let done := t.2 && t.1 ≤ y.inPos + bs.length
    let carried := d.carried + 1
    let s := streamCurrent n x s
    let s := acceptData n k bs s
    let s := modPipe n (fun z => { z with seq := nextSeq x }) s
    let stop := short || done || carried = d.count || pkt.eob || pHalf x = 1 || cutDue s x
    let s := modDesc n (fun d => { d with
      carried := carried, used := d.used + pipeCharge x len, isOver := stop, csOut := false
      withdrawn := pkt.eob && !short && !done && carried < d.count }) s
    let s := sendAck x (nextSeq x) (if stop then 0 else d.count - carried) false s
    if x.kind = .iso then isoData n k d fits (x.mps ≤ len) done s
    else if !fits then errorOut n x 3 1 s
    else if x.kind = .control then
      if x.stage = 2 then endBus k (controlEnd s k) s
      else if short || done then
        queueJob k (modPipe n (fun z => { z with stage := 2, seq := statusSeq z }) s)
      else queueJob k s
    else if short || done then
      endBus k { status := if done then 0 else shortEnd } s
    else progress k (queueJob k s)

/-- A repeated toggle on half 1 (R205): acknowledged and discarded; the third in a row ends the burst. -/
def repeatData (n : Nat) (x : Pipe) (cost : Nat) (s : State) : State :=
  let s := sendAck x x.seq 0 false (modDesc n (fun d => { d with used := d.used + cost, csOut := false }) (stampPipe x s))
  if 2 ≤ x.repeats then
    errorOut n x 4 3 (modEngine x.port 1 (fun e => { e with xerrs := e.xerrs + 1 }) s)
  else
    modDesc n (fun d => { d with isOver := true }) (modPipe n (fun y => { y with repeats := y.repeats + 1 }) s)

/-- A data packet of an IN burst (Table 7-2). An isochronous packet longer than MPS is taken up to MPS.
An interrupt packet longer than the bytes that its interval still admits is one that is longer than allowed (R107,
R131). DESIGN CHOICE (log 122); DESIGN CHOICE (log 127). -/
def dataPacket (n k : Nat) (x : Pipe) (d : Desc) (pkt : InPacket) (s : State) : State :=
  let h := pHalf x
  let cost := pipeCharge x pkt.data.length
  if !pkt.crcOk then
    busError n x d 1 cost true s
  else if !pkt.typeOk then busError n x d 4 cost false s
  else if x.kind = .iso && x.split && pkt.more then
    let s := modDesc n (fun d => { d with
      part := d.part ++ pkt.data, used := d.used + pktCharge 4 pkt.data.length, csOut := false, isOver := x.splits.isEmpty }) s
    if x.splits.isEmpty then s else startNext x.port 1 s
  else if x.kind = .iso then
    let pkt := { pkt with data := d.part ++ pkt.data }
    goodData n k x d (if x.mps < pkt.data.length then { pkt with data := pkt.data.take x.mps } else pkt) s
  else if h = 0 && pkt.seq % 32 = (x.seq - 1).toNat then
    sendAck x x.seq (d.count - d.carried) false (modDesc n (fun d => { d with used := d.used + cost }) s)
  else if h = 0 && pkt.seq % 32 ≠ x.seq.toNat then busError n x d 3 cost true s
  else if h = 1 && pkt.seq % 2 ≠ (x.seq &&& 1).toNat then repeatData n x cost s
  else if x.mps < pkt.data.length || (x.kind = .interrupt && capLeft x < pkt.data.length) then errorOut n x 3 2 (modDesc n (fun d => { d with used := d.used + cost }) s)
  else goodData n k x d pkt s

/-- The unit can answer: a packet of the burst is on the wire, and the burst is not over. -/
def live (d : Desc) : Bool := onBus d && !d.isOver

/-- The pipe is receiving in the present stage. -/
def receiving (s : State) (x : Pipe) : Bool :=
  match x.x.bind (xfer s) with
  | some y =>
    if x.kind = .control then
      (x.stage = 1 && y.type = .inp) || (x.stage = 2 && pHalf x = 1 && (y.type = .out || (total s y).1 = 0))
    else y.type = .inp
  | none => false

def execDataPacketReceived (n : PipeId) (pkt : InPacket) (s : State) : Res :=
  match descOf s n with
  | some (x, d) =>
    match x.x with
    | some k => when s (live d && receiving s x && (!x.split || d.csplit))
        (dataPacket n k x d pkt s)
    | none => noSuch s
  | none => noSuch s

/-! ### ACK_RECEIVED (R198, R204, R206, R212) -/

/-- The bytes of a transfer's acknowledged packets are all there are: the data stage or the transfer ends. -/
def outDone (n k : Nat) (x : Pipe) (s : State) : State :=
  match xfer s k with
  | some y =>
    let t := total s y
    if x.kind = .control then
      (if t.2 && t.1 ≤ y.ackPos then modPipe n (fun z => { z with stage := 2, seq := statusSeq z }) s else s)
    else if t.2 && t.1 ≤ y.ackPos && !(zlpDue s x y) then endBus k { status := 0 } s
    else progress k s
  | none => s

/-- Packets that the NumP of the unit's last ACK lets out (R198), unless the burst ends at its current packet. -/
def fillWindow (n : Nat) (s : State) : State :=
  match descOf s n with
  | some (x, d) =>
    let m := min (d.count - d.carried) d.numP - d.sent
    match x.x with
    | some k => if pHalf x = 0 && !d.isOver && !cutDue s x && 0 < m then
        modDesc n (fun d => { d with sent := d.sent + m }) (sendPages x k m s) else s
    | none => s
  | none => s

/-- The first SENT packet is acknowledged, or the zero-length one. -/
def ackPacket (n k : Nat) (x : Pipe) (d : Desc) (a : Ack) (s : State) : State :=
  match xfer s k with
  | none => s
  | some y =>
    let sent := y.pages.head?
    let len := match sent with | some g => if g.st = .sent then g.len else 0 | none => 0
    let zlp : Bool := match sent with | some g => g.st != .sent | none => true
    let y := { y with ackPos := y.ackPos + len }
    let s := markPacket k y.ackPos (stampNow k (setXfer k y s))
    let s := if zlp then s else turnPages k y.ackPos s
    let s := streamCurrent n x s
    let s := modPipe n (fun z => { z with seq := nextSeq x, errs := 0, carried := z.carried + len }) s
    let carried := d.carried + 1
    let t := total s y
    let fin := carried = d.count || pHalf x = 1
    let s := modDesc n (fun d => { d with
      carried := carried, used := d.used + pipeCharge x len, isOver := fin || cutDue s x || (a.numP = 0 && pHalf x = 0)
      numP := a.numP, sent := d.sent - 1, csOut := false
      withdrawn := !fin && a.numP = 0 && pHalf x = 0 && y.ackPos < t.1 }) s
    if zlp then endBus k { status := 0 } s else fillWindow n (outDone n k x s)

/-- An ACK to the setup stage (R206). -/
def ackSetup (n k : Nat) (x : Pipe) (s : State) : State :=
  match xfer s k with
  | some y =>
    let t := total s y
    let s := stampNow k s
    let s := modPipe n (fun z => { z with
      stage := if t.2 && t.1 = 0 then 2 else 1, seq := if pHalf x = 0 then 0 else 1, errs := 0 }) s
    modDesc n (fun d => { d with carried := 1, used := d.used + pipeCharge x 8, isOver := true, csOut := false }) s
  | none => s

/-- The charge of the packets that an ACK with Retry has repeated (R193): all that stand unacknowledged, or the one of a
setup, a status stage or a zero-length packet. -/
def sentCharge (s : State) (k : Nat) (x : Pipe) : Nat :=
  if x.kind = .control && x.stage = 0 then pipeCharge x 8
  else if x.kind = .control && x.stage = 2 then pipeCharge x 0
  else
    let sent := (((xfer s k).map (·.pages)).getD []).filter (fun g => g.st = .sent)
    if sent.isEmpty then pipeCharge x 0 else (sent.map (fun g => pipeCharge x g.len)).sum

def ackReceived (n k : Nat) (x : Pipe) (d : Desc) (a : Ack) (s : State) : State :=
  if !a.allowed then busError n x d 4 (hsCharge x.speed) false s
  else if x.split && !d.csplit then
    modDesc n (fun d => { d with csplit := true, isOver := d.isOver || !askable s x.port 1 || gated s x.inst }) s
  else if a.retry then
    busError n x { d with numP := a.numP } 1 (sentCharge s k x) false (modDesc n (fun d => { d with numP := a.numP }) s)
  else if x.kind = .control && x.stage = 0 then ackSetup n k x s
  else if x.kind = .control && x.stage = 2 then
    endBus k (controlEnd s k) (stampNow k
      (modDesc n (fun d => { d with carried := 1, used := d.used + pipeCharge x 0, isOver := true, csOut := false }) s))
  else if pings s x && x.seq.getLsbD 1 then
    let s := chargeMore n (hsCharge x.speed) (modDesc n (fun d => { d with used := d.used + hsCharge x.speed }) s)
    let s := modPipe n (fun z => { z with seq := z.seq &&& 1 }) s
    sendNow n x d (tryCharge s { x with seq := x.seq &&& 1 }) s
  else ackPacket n k x d a s

/-- An acknowledgement can come: the pipe is sending in the present stage, or its translator answers. -/
def sending (s : State) (x : Pipe) (d : Desc) : Bool :=
  (x.split && !d.csplit) ||
  match x.x.bind (xfer s) with
  | some y =>
    if x.kind = .control then
      x.stage = 0 || (x.stage = 1 && y.type = .out) ||
        (x.stage = 2 && (pHalf x = 0 || (y.type = .inp && (total s y).1 ≠ 0)))
    else y.type = .out && x.kind != .iso
  | none => false

def execAckReceived (n : PipeId) (a : Ack) (s : State) : Res :=
  match descOf s n with
  | some (x, d) =>
    match x.x with
    | some k => when s (live d && sending s x d) (ackReceived n k x d a s)
    | none => noSuch s
  | none => noSuch s

/-! ### NRDY, ERDY, STALL, NAK, NYET, ERR, timeouts -/

/-- NRDY withdraws the burst (R199, R208). -/
def nrdy (n : Nat) (x : Pipe) (s : State) : State :=
  let s := modDesc n (fun d => { d with used := d.used + hsCharge x.speed, withdrawn := true }) (stampPipe x s)
  let s := modPipe n (fun y => { y with nrdys := y.nrdys + 1 }) s
  let s := if x.kind = .stream && x.sstate = 1 then
      modPipe n (fun y => { y with sstate := 3, rejects := y.rejects + 1 }) s else s
  finishBurst n .withdrawn s

def execNrdyReceived (n : PipeId) (s : State) : Res :=
  match descOf s n with
  | some (x, d) => when s (live d && pHalf x = 0 && x.kind != .iso) (nrdy n x s)
  | none => noSuch s

/-- An ERDY that is kept in ERDY_PEND; a second one before the pipe is dispatched is dropped (R160), and so is one for a
pipe that is halted or closing (Table 5-2). DEDUCED (log 47). -/
def erdyKept (n : Nat) (x : Pipe) (s : State) : State :=
  match x.state with
  | .halted | .closing => stray s
  | w =>
    let s := if w = .stopped || x.stopping then readyCancel n x s else s
    if x.erdyPend then stray s
    else modPipe n (fun y => { y with erdyPend := true, rdyLatch := y.rdyLatch || decide (w = .stopped) }) s

/-- ERDY of a pipe without streams, and of a stream's pipe once it is chosen (Table 5-2, R154, R160). -/
def erdyPipe (n : Nat) (x : Pipe) (atHead : Bool) (s : State) : State :=
  match x.state with
  | .idle => if x.kind = .stream then erdyKept n x s else stray s
  | .ready => if x.kind = .stream && atHead then link n true s else stray s
  | .parked =>
    if x.ents.isEmpty then setPipe n { x with state := .idle, waitErdy := false, erdyPend := x.kind = .stream } s
    else startHeads n (link n atHead (setPipe n { x with state := .ready, waitErdy := false } s))
  | _ => erdyKept n x s

/-- ERDY naming a stream of an endpoint (R150, R208, R210): one that finds no entry is answered NoStream; a second one
before the dispatch is dropped (R160); while another stream has the endpoint it is kept; otherwise the stream is current
and its pipe at the head of its list. DEDUCED (log 47). -/
def erdyStream (ep : Nat) (e : Pipe) (st : Nat) (s : State) : State :=
  let n := e.link + st - 1
  if st = 0 || e.streams < st then bus e.port 0 (.noStream e.addr e.ep) s
  else
    match pipe s n with
    | none => bus e.port 0 (.noStream e.addr e.ep) s
    | some x =>
      let y := { x with lastErdy := (ptime s e.port).num, sstate := if x.sstate = 3 then 0 else x.sstate }
      if x.ents.isEmpty then
        let z := { y with rejects := y.rejects + 1 }
        bus e.port 0 (.noStream e.addr e.ep) (erdyPipe n z false (setPipe n z s))
      else
        let other := e.curStream ≠ 0 && e.curStream ≠ st ||
          s.sched.pipes.any (fun kv => kv.2.kind = .stream && kv.2.link = ep && kv.2.state = .active && kv.1 ≠ n)
        let s := setPipe n y s
        if x.erdyPend || (x.state = .ready && x.sstate = 2 && e.curStream = st) then stray s
        else if other || (x.state != .ready && x.state != .parked) then erdyKept n y s
        else
          let z := { y with sstate := 2, selects := x.selects + 1 }
          erdyPipe n z true (setPipe n z (setPipe ep { e with curStream := st } s))

/-- DEDUCED (log 47). -/
def erdy (n stream : Nat) (s : State) : State :=
  match pipe s n with
  | some x => if x.kind = .streamEp then erdyStream n x stream s else erdyPipe n x false s
  | none => stray s

def execErdyReceived (n : PipeId) (stream : Nat) (s : State) : Res := .next (erdy n stream (ungate s))

/-- STALL (R104, R207): goes to the sump without a walk. DEDUCED (log 48). -/
def stall (n : Nat) (x : Pipe) (s : State) : State :=
  errorOut n x 2 (if x.kind = .control then x.stage + 1 else 0)
    (modDesc n (fun d => { d with used := d.used + hsCharge x.speed, csOut := false }) s)

def execStallReceived (n : PipeId) (s : State) : Res :=
  match descOf s n with
  | some (x, d) => when s (live d && x.kind != .iso && (!x.split || d.csplit)) (stall n x s)
  | none => noSuch s

/-- NAK (R202, R204, R206, R212). DEDUCED (log 45). -/
def nak (n : Nat) (x : Pipe) (d : Desc) (s : State) : State :=
  if x.kind = .control && x.stage = 0 && (!x.split || d.csplit) then
    busError n x d 4 (hsCharge x.speed) false (modPipe n (fun y => { y with nrdys := y.nrdys + 1 }) s)
  else
    let s := modDesc n (fun d => { d with used := d.used + hsCharge x.speed }) (stampPipe x s)
    let s := modPipe n (fun y => { y with nrdys := y.nrdys + 1, seq := if pings s x then y.seq ||| 2 else y.seq }) s
    finishBurst n .nak s

def execNakReceived (n : PipeId) (s : State) : Res :=
  match descOf s n with
  | some (x, d) => when s (live d && pHalf x = 1 && x.kind != .iso) (nak n x d s)
  | none => noSuch s

/-- NYET (R204, R212, R213): the data counts as carried and the pipe pings; or the next complete-split follows in its
microframe, and after the last placed one an interrupt transaction has failed. To any other transaction it is a
handshake that is not allowed (Table 7-2). DEDUCED (log 45). -/
def nyet (n k : Nat) (x : Pipe) (d : Desc) (s : State) : State :=
  if x.split then
    let s := modDesc n (fun d => { d with used := d.used + hsCharge x.speed, csOut := false })
      (chargeMore n (hsCharge x.speed) s)
    if periodic x && x.splits.isEmpty then
      (if x.kind = .iso then modDesc n (fun d => { d with isOver := true }) s else busError n x d 2 0 false s)
    else if askable s x.port 1 && !gated s x.inst then startNext x.port 1 s
    else modDesc n (fun d => { d with isOver := true }) s
  else if !pings s x || x.seq.getLsbD 1 then busError n x d 4 (hsCharge x.speed) false s
  else
    let s := ackPacket n k x d { numP := 1, retry := false, allowed := true } s
    modPipe n (fun y => if pings s y then { y with seq := y.seq ||| 2 } else y) s

def execNyetReceived (n : PipeId) (s : State) : Res :=
  match descOf s n with
  | some (x, d) =>
    match x.x with
    | some k => when s (live d && pHalf x = 1 && (x.kind != .iso || x.dirIn) && (!x.split || d.csplit)) (nyet n k x d s)
    | none => noSuch s
  | none => noSuch s

def execHubErrReceived (n : PipeId) (s : State) : Res :=
  match descOf s n with
  | some (x, d) => when s (live d && x.split && d.csplit) (busError n x d 5 (hsCharge x.speed) false s)
  | none => noSuch s

def execResponseTimeout (n : PipeId) (s : State) : Res :=
  match descOf s n with
  | some (x, d) => when s (live d && !(x.kind = .iso && !x.dirIn))
      (busError n x d 2 (hsCharge x.speed) false s)
  | none => noSuch s

/-- SPLIT_CLOSE_TIMEOUT (R214): the close of a pipe with a split outstanding ends 2 ms after its acceptance. -/
def splitClose (n : Nat) (s : State) : State :=
  let s := settleBurst n s
  let s := match pipe s n with | some x => freeTt x (modPipe n (fun y => { y with splitOut := false }) s) | none => s
  let c := ((pipe s n).bind (·.gone)).getD { status := 8, errinfo := 3 }
  match (pipe s n).bind (·.x) with
  | some k => closeDone n (endBus k c s)
  | none => closeDone n s

def execSplitCloseTimeout (n : PipeId) (s : State) : Res :=
  match pipe s n with
  | some x => when s (x.state = .closing && x.split && x.splitOut) (splitClose n s)
  | none => noSuch s

/-! ### Closing and draining -/

/-- Closes a pipe (Table 5-2): its started entry and the others end, its burst is withdrawn. Where the half still
carries the packet on the wire to its end (`soft`), the pipe is CLOSING until then (R174, R185, R217). DEDUCED (log
110). -/
def closePipe (n : Nat) (soft : Bool) (started other : Cpl) (s : State) : State :=
  let s := unlink n (leaveHeld n s)
  let wait := soft && (descOf s n).any (fun d => onBus d.2 && !d.2.isOver)
  let before := ((pipe s n).filter (fun x => x.state = .closing)).bind (·.gone)
  let other := before.getD other
  let started := before.getD started
  let s := unholdXfers n (modPipe n (fun x => { x with state := .closing, gone := some other }) s)
  if wait then s
  else
    let s := settleBurst n s
    let s := match pipe s n with
      | some x =>
        let s := modPipe n (fun x => { x with splitOut := false, splits := [] }) s
        if x.splitOut then freeTt x s else s
      | none => s
    let s := match (pipe s n).bind (·.x) with | some k => modXfer k unsend s | none => s
    erasePipe n (replyPipe n 0 (endAll n started other s))

/-- A page that a chain's early end has cut is complete with what it holds (Table 9-1). -/
def refill (g : Page) : Page :=
  { g with st := if g.st = .loading && (g.segs.map (fun t => t.2.length)).sum = g.len then .full else g.st }

/-- A halt is acknowledged in an entry of an OUT chain that the bus has not reached (R109, R260): that entry ends with
the error and its followers are ABORTED; the entries before it are carried to their end. DEDUCED (log 99). -/
def breakChain (k : Nat) (x : Xfer) (c : Cpl) (s : State) : State :=
  match (chainOf s x).1.dropWhile (fun e => e.idx ≠ x.jidx) with
  | e :: es =>
    let s := { s with host := { s.host with reads := s.host.reads.map (fun r => match r.ref with
      | .pump pl _ => if pl = k then { r with discard := true } else r
      | _ => r) } }
    let s := modXfer k (fun y => { y with
      brk := some x.jidx, reads := [], runs := [], rdN := 0, rdRun := 0, rdOff := 0, pages := y.pages.map refill })
      (cutPages k x.jbase (unbind k s))
    let s := match x.pipe with | some n => detach n x.q e.idx s | none => s
    let s := complete x.q e.idx c s
    let s := if es.isEmpty && eChain e.dw then leaveWord x.q (e.idx + 1) (eSig e.dw) (lateCpl c) s else s
    progress k (endFollowers x.pipe x.q (eSig e.dw) (followCpl c) es
      (match x.pipe with | some n => unblock n 1 s | none => s))
  | [] => s

/-- The end of a halted job (R260): the entry completes HOST_BUS_ERR, once any packet on the wire has ended.
DEDUCED (log 102). DEDUCED (log 99). -/
def ackJob (k : Nat) (p : PumpReg) (s : State) : State :=
  match xfer s k with
  | some x =>
    let c := x.stamp { status := 9, errinfo := p.kind.toNat + (if p.errAfterZero then 128 else 0) }
    if x.type = .out && x.jidx ≠ x.idx && x.ending.isNone then breakChain k x c s
    else
    match x.pipe.bind (fun n => (descOf s n).map (fun d => (n, d))) with
    | some (n, y, d) =>
      if y.x ≠ some k then endXfer k c s
      else if d.onWire then modXfer k (fun x => { x with ending := some c }) (unbind k s)
      else endXfer k c (finishBurst n .unsent s)
    | none => endXfer k c s
  | none => s

/-- A drain ends a pipe's transfer at once where no packet of it is on the wire (R83); a burst that waits for the wire
leaves its engine; one whose bus side has ended drains what it holds. DEDUCED (log 108). -/
def drainBurst (n k : Nat) (s : State) : State :=
  if ((pipe s n).bind (·.x)) ≠ some k then progress k (unpause k s)
  else
    match descOf s n with
    | some (_, d) => if d.onWire then s else finishBurst n .unsent s
    | none => drainCheck n s

/-- Ends the started transfer of a draining queue's entry, unless a packet of it is on the wire (R83). -/
def drainXfer (k : Nat) (s : State) : State :=
  match xfer s k with
  | some y =>
    match y.chan.map (pump s) with
    | some c =>
      if c.st = .halted then ackJob k c s
      else if y.type = .copy then endXfer k (Cpl.atMaster { status := 8, errinfo := 1 }) s
      else match y.pipe with
        | some n => drainBurst n k s
        | none => s
    | none =>
      match y.pipe with
      | some n => drainBurst n k s
      | none => endXfer k (Cpl.atMaster { status := 8, errinfo := 1 }) s
  | none => s

/-- What a disable does to the entries of a queue (R83). DEDUCED (log 40). -/
def drainEntries (q : Nat) (s : State) : State :=
  match queue s q with
  | none => s
  | some x =>
    let mine := s.cis.xfers.filter (fun kv => kv.2.q = q && !kv.2.bar)
    let live := (mine.filter (fun kv =>
      (match curEnt s kv.2 with | some e => e.started || kv.2.base < kv.2.inPos | none => true)))
    let keep := (live.map (fun kv => (chainOf s kv.2).1.map (fun (e : Ent) => e.idx))).flatten
    let unstarted := (mine.filter (fun kv => !(live.map Prod.fst).contains kv.1)).map Prod.fst
    let gone := x.ents.filter (fun e => !keep.contains e.idx &&
      (match e.st with | .reading => true | .fetched => true | .attached => q ≠ 0 | _ => false))
    let s := unstarted.foldl (fun s k =>
      let n := (xfer s k).bind (·.pipe)
      let s := freeXfer k s
      match n with | some n => modPipe n (fun p => if p.x = some k then { p with x := none } else p) s | none => s) s
    let s := gone.foldl (fun s e => match e.pipe with
      | some n => detach n q e.idx s
      | none => s) s
    let at' := (gone.filterMap (·.pipe)).eraseDups
    let s := { s with cis := { s.cis with copyWait := s.cis.copyWait.filter (fun r => r.q ≠ q) } }
    let s := modQueue q (fun y => { y with ents := y.ents.filter (fun e => !(gone.map (·.idx)).contains e.idx) }) s
    let s := at'.foldl (fun s n => nextHead n s) s
    tellRoom (retryBlocked (live.foldl (fun s kv => drainXfer kv.1 s) s))

/-! ### Queue 0 (R82, R98, R321) -/

/-- QE_ADM_CTL as written: LOG2_DEPTH is stored while queue 0 is DISABLED. -/
def admDepth (v : Word) (s : State) : State := modQueue 0 (fun x => { x with log2 := fld v 0 5 }) s

def admState (s : State) : QState := match queue s 0 with | some x => x.st | none => .disabled

/-- ADMIN_QUEUE_ENABLE (R82, R98): from DISABLED with LOG2_DEPTH 4–16; dropped in every other state. -/
def adminEnable (v : Word) (s : State) : State :=
  if admState s != .disabled then s
  else if 4 ≤ fld v 0 5 && fld v 0 5 ≤ 16 then enableQueue 0 (admDepth v s)
  else s

def execAdminQueueEnable (v : Word) (s : State) : Res := 
  .next (regWrite 0x80020 (adminEnable v) s)

/-- ADMIN_QUEUE_DISABLE (R82, R83, R321): ENABLED and STOPPED drain; other states drop the write. -/
def adminDisable (v : Word) (s : State) : State :=
  match admState s with
  | .disabled => admDepth v s
  | .enabled | .stopped => disableQueue 0 none (drainEntries 0) s
  | .draining => s

def execAdminQueueDisable (v : Word) (s : State) : Res :=
  .next (regWrite 0x80020 (adminDisable v) s)

end Sys2Proof.Machine
end

