-- ==== Sys2Proof/Machine/PortOps.lean ====
section
/-! DEFINITION. What the root ports share (file 06): PORT_CHANGE and PORT_WAKE, the closing of a half's pipes, the
freeing of addresses, the moves of Table 6-3, and port power. -/

namespace Sys2Proof.Machine

open Sys2Proof

/-- PRT_CFG in force: SS_MAX, HS_MAX and CONN hold from the port's power-on to the next (R190). DEDUCED (log 49). -/
def portCfg (s : State) (p : Nat) : Word := if (port s p).vbusOk then (port s p).cfg else cfgPrt s p
/-- CONN: a Type-C receptacle (R168). -/
def typeC (s : State) (p : Nat) : Bool := tst (portCfg s p) 0
def ssMax (s : State) (p : Nat) : Nat := fld (portCfg s p) 1 2
def hsOff (s : State) (p : Nat) : Bool := tst (portCfg s p) 4
def ssOff (s : State) (p : Nat) : Bool := tst (cfgPrt s p) 3
def compEn (s : State) (p : Nat) : Bool := tst (cfgPrt s p) 6
def trainTries (s : State) (p : Nat) : Nat := max 1 (fld (cfgPrt s p) 8 4)

/-! ### Events (R189) -/

/-- Instances of the units directly on a half, the manager first (R189). -/
def directInsts (s : State) (p h : Nat) : List Nat :=
  0 :: ((port s p).units.filter (fun kv => kv.2.half.val = h && kv.2.parent = 0)).map (fun kv => kv.2.inst)

/-- PORT_CHANGE (Table 6-7). -/
def portChange (p h : Nat) (is : List Nat) (old cause closed : Nat) (s : State) : State :=
  let x := halfReg s p h
  events is 0x20 [pack [(p, 0), (h, 8), (old, 16), (stCode x.st, 20), (cause, 24)], prtSc x, wd closed] s

/-- The instance that owns the unit a Function Wake names (R189). -/
def wakeOwner (s : State) (p h : Nat) (fw : Bool) : List Nat :=
  match unitAt s p (halfReg s p h).wAddr.toNat with
  | some u => if fw then [u.inst] else []
  | none => []

/-- PORT_WAKE (Table 6-7): the sources of the resume, and the address of a Function Wake. -/
def portWake (p h : Nat) (is : List Nat) (host unit' fw aband failed : Bool) (s : State) : State :=
  let a := if fw then (halfReg s p h).wAddr.toNat else 0
  events (is ++ wakeOwner s p h fw) 0x21 [pack [(p, 0), (h, 8), (b1 host, 16), (b1 unit', 17), (b1 fw, 18), (b1 aband, 19),
    (b1 failed, 20), (a, 24)]] s

/-- PORT_WAKE of the resume that runs. -/
def resumeWake (p h : Nat) (is : List Nat) (aband failed : Bool) (s : State) : State :=
  let x := halfReg s p h
  portWake p h is x.rsHost x.rsUnit (x.rsUnit && x.fwake) aband failed s

/-! ### Addresses (R166) and pipes (R174) -/

/-- The designated unit of ISO_PCFG[p] loses its address: the port leaves MODE 1 (R232). -/
def leaveMode1 (p : Nat) (s : State) : State :=
  if (ptime s p).mode = 1 then
    timebaseEvent 0x09 (some p) s.iso.lock (modPtime p (fun t => { t with mode := 2 }) s)
  else s

/-- Frees an address. -/
def freeUnit (p a : Nat) (s : State) : State :=
  match unitAt s p a with
  | some u =>
    let s := modPort p (fun x => { x with units := erase x.units a }) s
    if u.half = 0 && a = fld (cfg s (0x300100 + p * 0x10)) 1 7 then leaveMode1 p s else s
  | none => s

/-- Frees every address of a half. -/
def freeHalf (p h : Nat) (s : State) : State :=
  (((port s p).units.filter (fun kv => kv.2.half.val = h)).map Prod.fst).foldl (fun s a => freeUnit p a s) s

/-- Closes pipes with UNIT_GONE or PORT_RESET (Table 5-2, R174); `soft` where the half still carries the packet on the
wire to its end. -/
def closePipes (ns : List Nat) (soft : Bool) (status errinfo : Nat) (s : State) : State :=
  ns.foldl (fun s n => match pipe s n with
    | some x =>
      let c : Cpl := Cpl.atPort { status := status, errinfo := errinfo } s x.port
      closePipe n soft c c s
    | none => s) s

/-- A SET_ADDRESS that runs ends with its half (R166): the address is free, and the command is answered with the
status that the half's transfers end with. DEDUCED (log 62). -/
def endSet (p : Port) (h : Half) (status : Nat) (s : State) : State :=
  match (engine s p h).setAddr with
  | some (i, a) =>
    let s := modEngine p h (fun e => { e with setAddr := none, setSent := false }) s
    let s := modPort p (fun x => { x with reserved := x.reserved.filter (· ≠ a) }) s
    reply i status 0 0 0 0 s
  | none => s

/-- A half leaves ENABLED, SUSPENDED or RESUMING (R166, R174, R273): its pipes close, with what the port origin records,
a walk of the half ends, its addresses are free. Answers the number of pipes closed. DEDUCED (log 103). -/
def closeHalf (p : Port) (h : Half) (status errinfo : Nat) (s : State) : State × Nat :=
  let ns := pipesWhere s (fun x => x.port = p && pHalf x = h.val)
  let k := 248 + p.val
  let held : Bool := (origin s k).mode = .held
  let insts := owners s (ns.filter (fun n => !held || (pipe s n).any (fun x => x.state != .held || x.origin ≠ k)))
  let s := if held then portOrigin p h status errinfo ns.length insts s else s
  let s := closePipes ns (!(status = 5 && (errinfo = 1 || errinfo = 4))) status errinfo s
  let s := if held then s else portOrigin p h status errinfo ns.length insts s
  let s := match find s.sump.walks (p.val * 2 + h.val) with
    | some w => if (origin s k).mode = .free then s else echo k w.report s
    | none => s
  let s := endWalk (p.val * 2 + h.val) s
  (freeHalf p h (endSet p h status s), ns.length)

/-- DEDUCED (log 103). -/
def probeResult (key : Nat) (w : Walk) (a : ProbeAnswer) (s : State) : State :=
  if (halfReg s w.report.port w.report.half).st != .enabled then endWalk key (portWalk w.report s) else probeEnd key w a s

def execProbeResult (p : Port) (h : Half) (a : ProbeAnswer) (s : State) : Res :=
  match find s.sump.walks (p.val * 2 + h.val) with
  | some w => when s w.probing (probeResult (p.val * 2 + h.val) w a s)
  | none => noSuch s

/-! ### Moves of Table 6-3 -/

/-- What a half's registers hold on entry to a state: PLS, CCS, SPEED, LSTATE and LANES (Tables 6-14, 6-15). A unit that
connects or is reset is told the timeouts of PRT_LPM anew (R182). DEDUCED (log 51). -/
def settleHalf (h : Half) (st : HalfSt) (x : HalfReg) : HalfReg :=
  let x := { x with st := st, suspending := false, wakeWith := false, rsHost := false, rsUnit := false }
  match st with
  | .poweredOff => { x with ccs := false, speed := 7, lanes := 0, lstate := (if h = 0 then 4 else 13), itpDue := false,
                            txHeld := [], sigDue := [], lpm := 0, tries := 0 }
  | .disconnected => { x with ccs := false, speed := 7, lanes := 0, lstate := (if h = 0 then 5 else 13),
                              itpDue := false, txHeld := [], sigDue := [], lpm := 0, tries := 0 }
  | .disabled => { x with lanes := 0, lstate := (if h = 0 then 4 else 0), itpDue := false, txHeld := [], lpm := 0 }
  | .resetting => { x with lstate := (if h = 0 then 11 else 12), itpDue := false, txHeld := [], lpm := 0 }
  | .enabled => { x with ccs := true, lstate := 0 }
  | .suspended => { x with lstate := 3 }
  | .resuming => { x with lstate := (if h = 0 then 8 else 3)
                          recov := if h = 0 && x.lstate ≠ 8 then x.recov + 1 else x.recov }

/-- The half has left ENABLED while a walk of it stands between two probes: the walk returns the port origin (R273). -/
def leaveWalk (p : Port) (h : Half) (s : State) : State :=
  match find s.sump.walks (p.val * 2 + h.val) with
  | some w => if w.probing then s else endWalk (p.val * 2 + h.val) (portWalk w.report s)
  | none => s

/-- The port origin that names this half is freed when the half is ENABLED again (Table 10-2). -/
def reachEnabled (p : Port) (h : Half) (s : State) : State :=
  let o := origin s (248 + p.val)
  if o.mode = .closed && o.half = h then freeClosed (248 + p.val) s else s

/-- One move of Table 6-3: pipes closed with a status, flags, PORT_CHANGE with a cause (0: none). -/
def goHalf (p : Port) (h : Half) (st : HalfSt) (fs : List HFlag) (cause : Nat) (close : Option (Nat × Nat))
    (s : State) : State :=
  let old := halfReg s p h
  let is := directInsts s p h
  let r := match close with
    | some (status, errinfo) => closeHalf p h status errinfo s
    | none => (s, 0)
  let s := modHalf p h (fun x => raises fs (settleHalf h st x)) r.1
  let s := if st = .enabled then idleStart p h (reachEnabled p h s) else leaveWalk p h s
  if cause = 0 then s else portChange p h is (stCode old.st) cause r.2 s

/-! ### Port power (R170) -/

/-- The conditions of R170. -/
def powerDue (s : State) (p : Nat) : Bool :=
  let x := port s p
  x.pp && (!typeC s p || (x.attached && x.channel.isSome)) &&
    match x.channel with
    | some c => (chan s c).st = .on
    | none => true

/-- A half meets port power: POWERED_OFF to DISCONNECTED, unless SS_OFF keeps half 0 off (Tables 6-3, 6-11).
DEDUCED (log 56). -/
def halfOn (p : Port) (h : Half) (s : State) : State :=
  if (halfReg s p h).st = .poweredOff && !(h = 0 && ssOff s p) then goHalf p h .disconnected [] 0x09 none s else s

/-- Power lost (Table 6-3); `ei` is the ERRINFO of UNIT_GONE. -/
def halfOff (p : Port) (h : Half) (ei : Nat) (s : State) : State :=
  match (halfReg s p h).st with
  | .poweredOff => s
  | .disconnected => goHalf p h .poweredOff [] 0x0A none s
  | .disabled => goHalf p h .poweredOff [.csc] 0x0A none s
  | .resetting => goHalf p h .poweredOff [.prc, .csc] 0x0A none s
  | .enabled | .suspended => goHalf p h .poweredOff [.csc, .pec] 0x0A (some (5, ei)) s
  | .resuming =>
    goHalf p h .poweredOff [.csc, .pec] 0x0A (some (5, ei)) (resumeWake p h (directInsts s p h) true false s)

/-- Port power follows R170; a change sets VBUS_CHG and moves both halves of a port in service. DEDUCED (log 49). -/
def portPower (p : Port) (detach : Bool) (s : State) : State :=
  let on := powerDue s p
  if on = (port s p).vbusOk then s
  else
    let c := cfgPrt s p
    let s := modPort p (fun x => raiseVb { x with vbusOk := on, cfg := c }) s
    if !portUp s p then s
    else if on then halfOn p 1 (halfOn p 0 s)
    else halfOff p 1 (if detach then 1 else 4) (halfOff p 0 (if detach then 1 else 4) s)

end Sys2Proof.Machine
end

