-- ==== Sys2Proof/Machine/Channels.lean ====
section
/-! DEFINITION. Power channels (file 14): the states of Table 14-2, ramps, trips, the cool gate, the thermal model,
and what a channel tells its port. -/

namespace Sys2Proof.Machine

open Sys2Proof

/-! ### Configuration in force since the last ramp (R380, Table 12-7) -/

def chCfg (s : State) (c off : Nat) : Word := cfg s (0xD00000 + c * 0x1000 + off)

/-- The configuration a ramp starts with. DEDUCED (log 54). -/
def takeChCfg (s : State) (c : Nat) (x : ChanReg) : ChanReg :=
  { x with cfg := chCfg s c 0x100, retry := chCfg s c 0x104, tcfg := chCfg s c 0x108,
           tmod0 := chCfg s c 0x10C, tmod1 := chCfg s c 0x110, hw := chCfg s c 0x114 }

/-- SEAT_MS, RETRIES and OFF_MS as they act (Table 14-8); times in samples of 100 µs. DEDUCED (log 54). -/
def seatTime (x : ChanReg) : Nat := min 500 (max 10 (fld x.cfg 8 9)) * 10
/-- DEDUCED (log 54). -/
def retries (x : ChanReg) : Nat := fld x.retry 0 8
/-- DEDUCED (log 53); DEDUCED (log 54). -/
def offMs (x : ChanReg) : Nat := min 60000 (max 1000 (fld x.retry 8 16))

/-- I_LIM in mA, SLEW in mV/ms, and RAMP_MS in samples of 100 µs, as they act (R371, Table 14-8). DEDUCED (log 54). -/
def iLim (x : ChanReg) : Nat := min 240 (max 4 (fld x.cfg 0 8)) * 25
/-- DEDUCED (log 54). -/
def slew (x : ChanReg) : Nat := max 1 (fld x.cfg 22 3) * 250
/-- DEDUCED (log 54). -/
def rampTime (x : ChanReg) : Nat := min 20 (max 1 (fld x.cfg 17 5)) * 10

/-! ### Registers (Tables 14-5 to 14-7) -/

def chStCode : ChanSt → Nat
  | .off => 0 | .unseated => 1 | .debounce => 2 | .armed => 3 | .ramp => 4 | .on => 5 | .cooling => 6 | .lockout => 7

/-- The gate is driven (R371, R373), unless EXTEST has forced it off (R441). -/
def gateOn (s : State) (x : ChanReg) : Bool := (x.st = .ramp || x.st = .on) && !s.mgmt.gatesHeld

def chBind (x : ChanReg) : Word :=
  pack [(b1 x.bound, 0), (b1 x.hubBound, 1), (x.port.val, 2), (x.hubAddr.toNat, 8), (x.hubPort.toNat, 16)]
def chMeas (x : ChanReg) : Word := pack [(x.iout.toNat, 0), (x.vout.toNat, 16)]
def chTemp (x : ChanReg) : Word := pack [(x.tEst.toNat, 0), (x.tMeas.toNat, 16)]
def chCnt (x : ChanReg) : Word :=
  pack [(x.shorts.toNat, 0), (x.thermal.toNat, 8), (x.lowVbus.toNat, 16), (x.supply.toNat, 24)]

/-! ### Events (R382) -/

/-- The manager, and the instance that owns the unit at the binding's place. -/
def chanInsts (s : State) (x : ChanReg) : List Nat :=
  if !x.bound then [0]
  else 0 :: ((port s x.port).units.filter (fun kv =>
    if x.hubBound then kv.2.parent = x.hubAddr.toNat && kv.2.hubPort = x.hubPort.toNat && kv.2.parent ≠ 0
    else kv.2.parent = 0)).map (fun kv => kv.2.inst)

/-- CHAN_STATE (Table 14-3), to the instances that own the units at the binding's place when the channel moves. -/
def chanState (is : List Nat) (c : Nat) (old : ChanSt) (s : State) : State :=
  let x := chan s c
  events is 0x40 [pack [(c, 0), (chStCode old, 4), (chStCode x.st, 8), (b1 (x.st = .on), 12),
    (b1 x.seatA, 13), (b1 x.seatB, 14)], chBind x, chMeas x] s

/-! ### Temperature and the cool gate (R369, R376, R377) -/

def sense (x : ChanReg) : Nat := match fld x.tcfg 24 2 with | 3 => 0 | k => k
def tModel (x : ChanReg) : Rat := (BitVec.ofNat 8 (fld x.tcfg 16 8)).toInt + x.db + x.dj
def tUse (x : ChanReg) : Rat :=
  if sense x = 0 || x.senseFault then tModel x else max (tModel x) ((x.tNow : Rat) / 4 + x.dj)
def tTrip (x : ChanReg) : Int := fld x.tcfg 0 8
def tRearm (x : ChanReg) : Int := min (fld x.tcfg 8 8 : Int) (tTrip x - 10)
def coolGate (x : ChanReg) : Bool := x.offLeft = 0 && decide (tUse x ≤ (tRearm x : Rat))

/-! ### Moves of Table 14-2 -/

/-- Port power of a root port that the channel is bound to follows the channel (R170, R375, R381). -/
def tellPort (x : ChanReg) (s : State) : State := if x.bound && !x.hubBound then portPower x.port false s else s

/-- One move: the gate, VG_CHG, port power, and CHAN_STATE on entry to ARMED, ON and UNSEATED and on exit from ON. -/
def goChan (c : Nat) (st : ChanSt) (g : ChanReg → ChanReg) (s : State) : State :=
  let x := chan s c
  let y : ChanReg := { g x with st := st, limiting := (if st = .ramp || st = .on then (g x).limiting else false) }
  let vg : Bool := (x.st = .on) ≠ (st = .on)
  let y := if vg then { y with vgChg := true, vgE := y.vgE + 1 } else y
  let s := setChan c y s
  let s := if gateOn s x = gateOn s y then s else emit (.gate c (gateOn s y)) s
  let s := if !gateOn s y then s
    else if st = .on then emit (.gateFull c) s
    else emit (.gateRamp c (iLim y) (slew y)) s
  let is := chanInsts s y
  let s := if vg then tellPort y s else s
  if st ≠ x.st && (st = .armed || st = .on || st = .unseated || x.st = .on) then chanState is c x.st s else s

/-- Permission to ramp (R366). -/
def permission (s : State) (c : Nat) : Bool :=
  let x := chan s c
  x.en && !(if c < 8 then s.chans.lowA else s.chans.lowB) &&
    (!(x.bound && !x.hubBound) ||
      ((port s x.port).pp && (!typeC s x.port || (port s x.port).attached)))

/-- Entry to RAMP (R371). -/
def startRamp (c : Nat) (g : ChanReg → ChanReg) (s : State) : State :=
  goChan c .ramp (fun x => let y := takeChCfg s c (g x); { y with rampLeft := rampTime y }) s

/-- Permission has changed (R366): ARMED ramps, RAMP and ON go back to ARMED through the normal off path, and ramp again
if the port's present PRT_CFG.CONN gives permission. -/
def recheck (c : Nat) (s : State) : State :=
  let x := chan s c
  if x.st = .armed && permission s c then startRamp c id s
  else if (x.st = .ramp || x.st = .on) && x.en && !permission s c then
    let s := goChan c .armed id s
    if permission s c then startRamp c id s else s
  else s

/-- Rechecks the channel bound to a port. -/
def recheckPort (p : Nat) (s : State) : State :=
  match (port s p).channel with
  | some c => recheck c s
  | none => s

/-- The seat debounce starts (R367). -/
def tryDebounce (c : Nat) (s : State) : State :=
  let x := chan s c
  if x.st = .unseated && x.seatA && x.seatB && coolGate x then
    goChan c .debounce (fun x => { x with seatLeft := seatTime x }) s
  else s

/-- CH_CTL.EN written (Table 14-2). -/
def writeEn (c : Nat) (on : Bool) (s : State) : State :=
  let x := chan s c
  let s := setChan c { x with en := on } s
  if on then (if x.st = .off then goChan c .unseated id s else s)
  else
    match x.st with
    | .off => s
    | .ramp | .cooling | .lockout => goChan c .off (fun x => { x with count := 0 }) s
    | .unseated | .debounce | .armed | .on => goChan c .off (fun x => { x with seatLeft := 0 }) s

/-- CLR (Table 14-2): the retry count 0, ignored in RAMP and ON; LOCKOUT ends in ARMED. -/
def clrChan (c : Nat) (s : State) : State :=
  match (chan s c).st with
  | .ramp | .on => s
  | .lockout => recheck c (goChan c .armed (fun x => { x with count := 0 }) s)
  | .off | .unseated | .debounce | .armed | .cooling => modChan c (fun x => { x with count := 0 }) s

/-- A write of CH_CTL: EN is stored, then CLR acts. -/
def writeChCtl (c : Nat) (v : Word) (s : State) : State :=
  let s := writeEn c (tst v 0) s
  if tst v 1 then clrChan c s else s

def chBase (c : Nat) : Nat := 0xD00000 + c * 0x1000

def execChannelEnable (c : Chan) (v : Word) (s : State) : Res :=
  .next (regWrite (chBase c) (writeChCtl c v) s)
def execChannelDisable (c : Chan) (v : Word) (s : State) : Res :=
  .next (regWrite (chBase c) (writeChCtl c v) s)
def execChannelClr (c : Chan) (v : Word) (s : State) : Res :=
  .next (regWrite (chBase c) (writeChCtl c v) s)

/-! ### Trips (R378) -/

/-- CH_ST.CAUSE (Table 14-6). -/
def tripCode : TripCause → Nat
  | .short => 1 | .thermal => 2 | .lowVbus => 3 | .supply => 4

/-- A cause's counter advances (Table 14-7). -/
def countCause (x : ChanReg) (k : TripCause) : ChanReg :=
  match k with
  | .short => { x with shorts := x.shorts + 1 }
  | .thermal => { x with thermal := x.thermal + 1 }
  | .lowVbus => { x with lowVbus := x.lowVbus + 1 }
  | .supply => { x with supply := x.supply + 1 }

/-- Limiting in ON with VSRC below 4.4 V (R373). -/
def limitLow (x : ChanReg) : Bool := x.st = .on && x.limiting && x.vout.toNat < 4400

/-- A cause that may be found beside another in one cycle: the temperature and the times are the channel's own. -/
def causeHolds (x : ChanReg) : TripCause → Bool
  | .short | .supply => true
  | .thermal => decide ((tTrip x : Rat) ≤ tUse x)
  | .lowVbus => (x.st = .ramp && x.rampLeft = 0) || (limitLow x && x.limLeft = 0)

/-- A trip: gate off, CAUSE with the lowest code, TRIP, the counter of every cause found (R380), OFF_LEFT, CHAN_TRIP,
COOLING. DEDUCED (log 53). -/
def trip (c : Nat) (k : TripCause) (found : List TripCause) (s : State) : State :=
  let ks := [TripCause.short, .thermal, .lowVbus, .supply].filter (fun z =>
    z = k || (found.contains z && causeHolds (chan s c) z))
  let n := ((ks.map tripCode).head?).getD (tripCode k)
  let x := ks.foldl countCause (chan s c)
  let y : ChanReg := { x with cause := BitVec.ofNat 3 n, trip := true, tripE := x.tripE + 1, offLeft := offMs x * 10 }
  let last : Bool := n ≠ 4 && retries x ≤ x.count
  let s := if gateOn s x then (if n = 1 then emit (.gateFast c) (emit (.gate c false) s) else emit (.gate c false) s) else s
  let is := chanInsts s x
  let s := events is 0x41 [pack [(c, 0), (n, 4), (b1 (n ≠ 4), 7), (x.count, 8), (b1 last, 16)],
    chMeas x, chTemp x, wd (offMs x), chBind x] s
  let on : Bool := x.st = .on
  let y : ChanReg := { y with
    st := .cooling, limiting := false, vgChg := y.vgChg || on, vgE := (if on then y.vgE + 1 else y.vgE) }
  let s := setChan c y s
  if on then chanState is c .on (tellPort y s) else s

def execHardShort (c : Chan) (found : List TripCause) (s : State) : Res :=
  when s (gateOn s (chan s c)) (trip c .short found s)
/-- RAMP_MS is counted from the entry to RAMP (R371). -/
def execRampTimeout (c : Chan) (found : List TripCause) (s : State) : Res :=
  when s ((chan s c).st = .ramp && (chan s c).rampLeft = 0) (trip c .lowVbus found s)
/-- RAMP_MS of limiting without a break (R373). -/
def execOnLimitTimeout (c : Chan) (found : List TripCause) (s : State) : Res :=
  when s (limitLow (chan s c) && (chan s c).limLeft = 0) (trip c .lowVbus found s)
def execVbusGoodReached (c : Chan) (s : State) : Res :=
  when s ((chan s c).st = .ramp && !s.mgmt.gatesHeld)
    (goChan c .on (fun x => { x with limLeft := rampTime x }) s)

/-! ### Seats (R367, R379) -/

/-- A seat pin reads open. DEDUCED (log 53). -/
def seatOpen (c : Nat) (a b : Bool) (s : State) : State :=
  let x := chan s c
  let s := setChan c { x with seatA := a, seatB := b } s
  match x.st with
  | .off | .unseated => s
  | .debounce | .armed | .on => goChan c .unseated (fun x => { x with seatLeft := 0 }) s
  | .ramp | .cooling | .lockout => goChan c .unseated (fun x => { x with count := 0 }) s

def execSeatOpen (c : Chan) (a b : Bool) (s : State) : Res :=
  when s (chanUp s c && !(a && b) && ((chan s c).seatA != a || (chan s c).seatB != b)) (seatOpen c a b s)

/-- Both seat pins read closed. -/
def seatClose (c : Nat) (s : State) : State :=
  tryDebounce c (modChan c (fun x => { x with seatA := true, seatB := true }) s)

def execSeatClose (c : Chan) (s : State) : Res :=
  when s (chanUp s c && !((chan s c).seatA && (chan s c).seatB)) (seatClose c s)

/-- SEAT_MS have elapsed: ARMED, and RAMP when permission holds. -/
def execSeatDebounceExpiry (c : Chan) (s : State) : Res :=
  when s ((chan s c).st = .debounce && (chan s c).seatLeft = 0)
    (recheck c (goChan c .armed id s))

/-! ### Supply (R366) -/

def setLow (g : Fin 2) (low : Bool) (s : State) : State :=
  { s with chans := if g = 0 then { s.chans with lowA := low } else { s.chans with lowB := low } }
def isLow (s : State) (g : Fin 2) : Bool := if g = 0 then s.chans.lowA else s.chans.lowB
/-- The channels of a group: VSUPA serves C0–C7, VSUPB C8–C15. -/
def groupOf (g : Fin 2) : List Nat := (List.range 8).map (fun k => g.val * 8 + k)

def execSupplyLow (g : Fin 2) (s : State) : Res :=
  when s (chanUp s (g.val * 8) && !isLow s g)
    ((groupOf g).foldl (fun s c =>
      if (chan s c).st = .ramp || (chan s c).st = .on then trip c .supply [] s else s) (setLow g true s))
def execSupplyRestored (g : Fin 2) (s : State) : Res :=
  when s (chanUp s (g.val * 8) && isLow s g)
    ((groupOf g).foldl (fun s c => recheck c s) (setLow g false s))

/-! ### The cool gate (R369, Table 14-2) -/

/-- CHAN_LOCKOUT's field has no code for 256 attempts: a free value there. DEDUCED (log 148). -/
def coolOpen (c : Nat) (s : State) : State :=
  let x := chan s c
  match x.st with
  | .cooling =>
    if x.cause.toNat ≠ 4 && retries x ≤ x.count then
      let s := goChan c .lockout (fun x => { x with lock := true, lockE := x.lockE + 1 }) s
      let x := chan s c
      let f := takeFree s
      let made := if x.count < 255 then 1 + x.count else f.1.toNat % 256
      events (chanInsts s x) 0x42 [pack [(c, 0), (made, 8)], chBind x, chCnt x] f.2
    else if permission s c then
      startRamp c (fun x => { x with count := if x.cause.toNat = 4 then x.count else x.count + 1 }) s
    else goChan c .armed id s
  | _ => tryDebounce c s

def execCoolGateOpen (c : Chan) (s : State) : Res :=
  when s (chanUp s c && coolGate (chan s c)) (coolOpen c s)

/-! ### The sample of 100 µs (R363, R367, R370, R373, R376, R377) -/

/-- R376, with RSH in 0.1 mΩ, RJ and RB in 0.1 K/W, TAU_J in 0.1 ms and TAU_B in ms. -/
def heat (x : ChanReg) (m : ChanSample) : ChanReg :=
  let i : Rat := (m.iout.toNat : Rat) / 1000
  let drop : Rat := ((m.vsup : Rat) - (m.vout.toNat : Rat)) / 1000 - i * ((fld x.hw 0 10 : Nat) : Rat) / 10000
  let p : Rat := i * drop
  let dj := x.dj + (p * (((fld x.tmod0 0 8 : Nat) : Rat) / 10) - x.dj) / ((fld x.tmod0 8 8 : Nat) : Rat)
  let db := x.db + (p * (((fld x.tmod1 0 12 : Nat) : Rat) / 10) - x.db) / (10 * ((fld x.tmod1 12 20 : Nat) : Rat))
  { x with dj := dj, db := db }

/-- A sensor reading outside −45 °C to 210 °C (R377), in units of 0.25 °C. PRESUMED (log 55). -/
def badSense (x : ChanReg) (m : ChanSample) : Bool := sense x ≠ 0 && (m.tmeas < -180 || 840 < m.tmeas)

/-- A number of units: exact where it is one, else the one below or above (log 8). -/
def inUnits (v : Rat) : Int := if v.den = 1 then v.num else v.floor + (if Config.roundUp v then 1 else 0)

/-- The cool-down record that AON keeps (R370). -/
def coolRec (x : ChanReg) : CoolRec :=
  { offMs := (x.offLeft + 9) / 10, rise := min 255 (inUnits (2 * (x.dj + x.db))).toNat }

/-- CH_TEMP.T_EST of a temperature; the spec states no reading of one that its eleven bits do not hold.
DEDUCED (log 148). -/
def tEstOf (t : Rat) (s : State) : BitVec 11 :=
  let v := inUnits (4 * t)
  if -1024 ≤ v && v ≤ 1023 then BitVec.ofInt 11 v else (Config.freeValue s.free).extractLsb' 0 11

/-- LIMITING shows a driven gate with IOUT at I_LIM (R373). PRESUMED (log 55). -/
def sampleChan (c : Nat) (m : ChanSample) (s : State) : State :=
  let x := chan s c
  let bad := badSense x m
  let onset := bad && !x.senseFault
  let x := heat { x with
    iout := m.iout, vout := m.vout, offLeft := x.offLeft - 1
    seatLeft := (if x.st = .debounce then x.seatLeft - 1 else x.seatLeft)
    limiting := gateOn s x && iLim x ≤ m.iout.toNat
    rampLeft := (if x.st = .ramp then x.rampLeft - 1 else x.rampLeft)
    senseFault := bad, tNow := (if bad then x.tNow else m.tmeas)
    senseErr := x.senseErr || onset, senseE := (if onset then x.senseE + 1 else x.senseE) } m
  let x := { x with
    limLeft := (if limitLow x then x.limLeft - 1 else rampTime x)
    tEst := tEstOf (tModel x) s
    tMeas := (if sense x = 0 then 0 else BitVec.ofInt 11 x.tNow) }
  let s := setChan c x { s with free := s.free + 1 }
  let s := { s with pm := { s.pm with cool := setD {} s.pm.cool c (coolRec x) } }
  let s := if onset then
      events (chanInsts s x) 0x43 [pack [(c, 0), (if m.tmeas < -180 then 1 else 2, 4)], wd m.rawTmp.toNat] s
    else s
  if gateOn s x && decide ((tTrip x : Rat) ≤ tUse x) then trip c .thermal m.found s else tryDebounce c s

def execThermalModelUpdate (c : Chan) (m : ChanSample) (s : State) : Res :=
  when s (chanUp s c) (sampleChan c m s)

end Sys2Proof.Machine
end

