-- ==== Sys2Proof/Machine/Pumps.lean ====
section
/-! DEFINITION. The cistern and the pumps (file 09): shared pages, binding, reads, the outbound path, reshuffle
blocks, pause, halts and their acknowledgement; and the reads that time out (R55). -/

namespace Sys2Proof.Machine

open Sys2Proof

/-! ### SHARED_PAGE_GRANT (R241) -/

def execSharedPageGrant (s : State) : Res :=
  match s.cis.reqs with
  | r :: _ => .next (grantPages r s)
  | [] => noSuch s

/-! ### Binding (R246, R256) -/

def classQueue (s : State) (high : Bool) : List Nat := if high then s.cis.high else s.cis.norm

/-- A channel serves its own class; when every channel of the other class is out of service, the lowest-numbered
channel serves both (Table 16-5). -/
def serves (s : State) (n : Nat) (high : Bool) : Bool :=
  decide (n < 8) = high ||
  ((List.range 64).all (fun m => decide (m < 8) != high || (pump s m).st = .off) &&
    (List.range 64).find? (fun m => (pump s m).st != .off) = some n)

/-- The lowest-numbered IDLE channel with PAUSE clear that serves a class (R246). -/
def idleChan (s : State) (high : Bool) : Option Nat :=
  (List.range 64).find? (fun n => serves s n high && (pump s n).st = .idle && !(pump s n).pause)

/-- The job at the head of a class queue, instances that are quiesced passed over (R256). -/
def headJob (s : State) (high : Bool) : Option Nat :=
  (classQueue s high).find? (fun k => match xfer s k with | some x => !quiet s x.inst | none => false)

/-- PUMP_HALT (R263) with its fault-log record. -/
def haltEvent (n : Nat) (x : Xfer) (s : State) : State :=
  let p := pump s n
  let loc := match queue s x.q with | some q => q.localNo | none => 0
  let pay := [pack [(n, 0), (x.inst, 8), (p.kind.toNat, 16), (b1 p.errAfterZero, 20)],
    wd p.errAddr.toNat, wd (p.errAddr.toNat / 2 ^ 32), pack [(x.q, 0), (loc, 16)], jobIdx x]
  logRec 0x30 pay (events [0, x.inst] 0x05 pay s)

/-- A channel halts with an error latched (R259). -/
def haltChan (n : Nat) (x : Xfer) (addr kind : Nat) (zero : Bool) (s : State) : State :=
  let s := modPump n (fun p => { p with
    st := .halted, errAddr := BitVec.ofNat 64 addr, kind := BitVec.ofNat 3 kind, errAfterZero := zero
    halts := p.halts + 1 }) s
  haltEvent n x s

/-- A channel takes a job; the slice is the one in force now (Table 12-7). DEDUCED (log 109). -/
def bind (n k : Nat) (x : Xfer) (s : State) : State :=
  let s := dequeueJob k s
  let x := { x with chan := some n, moved := 0, latched := none }
  let s := setXfer k x s
  let g := max (fld (cfg s 0xE08100) 0 8) 1
  let s := modPump n (fun p => { p with st := .run, job := some k, staged := 0, preempted := false, slice := g }) s
  let s := match curEnt s x with | some e => setXfer k (openCuts s x e) s | none => s
  askPages 255 k s

/-- The class whose queue a channel takes its next job from: the high one first. -/
def nextClass (s : State) (n : Nat) : Bool := serves s n true && (!serves s n false || (headJob s true).isSome)

def execJobBind (n : Pump) (s : State) : Res :=
  match headJob s (nextClass s n) with
  | some k =>
    match xfer s k with
    | some x => when s (idleChan s (nextClass s n) = some n.val)
        (match x.latched with
          | some (a, kd, z) => haltChan n x a kd z (bind n k x s)
          | none => settleJob k (bind n k x s))
    | none => noSuch s
  | none => noSuch s

/-- The job has used its slice and another of its class waits (R246). -/
def sliceUsed (s : State) (x : Xfer) : Bool :=
  x.chan.any (fun c => (pump s c).slice * 1024 ≤ x.moved) && !(classQueue s (highJob s x)).isEmpty

def expire (k : Nat) (high : Bool) (s : State) : State :=
  let s := unbind k s
  if high then { s with cis := { s.cis with high := s.cis.high ++ [k] } }
  else { s with cis := { s.cis with norm := s.cis.norm ++ [k] } }

def execSliceExpiry (n : Pump) (s : State) : Res :=
  match (pump s n).job with
  | some k =>
    match xfer s k with
    | some x => when s ((pump s n).st = .run && sliceUsed s x && x.reads.isEmpty)
        (expire k (highJob s x) s)
    | none => noSuch s
  | none => noSuch s

/-! ### Reads (R247, R248, R252, R253) -/

/-- Bytes that the job's EMPTY pages still take. -/
def pageRoom (s : State) (x : Xfer) : Nat :=
  let c := pageCap s x
  emptyPages x * c + (if x.inPos % c = 0 then 0 else c - x.inPos % c)

/-- A read that a job would issue: host address, length, stream offset or run. -/
structure Want where
  addr : Nat
  len : Nat
  off : Nat
  run : Option Nat := none
deriving DecidableEq, Repr

/-- Pages opened for stream bytes `[a, a + n)` (Table 9-1: EMPTY to LOADING). -/
def openPages (s : State) (x : Xfer) (n : Nat) : List Page :=
  let c := pageCap s x
  let t := total s x
  if x.iso then
    (List.range ((x.inPos + n - isoTop x + c - 1) / c)).map fun i =>
      { off := isoTop x + i * c, len := min c (x.inPos + x.ldLeft - (isoTop x + i * c)), st := .loading
        ivl := x.ldIvl - 1 }
  else
    let first := (x.inPos + c - 1) / c
    (List.range ((x.inPos + n + c - 1) / c - first)).map fun i =>
      let o := (first + i) * c
      { off := o, len := if t.2 then min c (t.1 - o) else c, st := .loading }

/-- Opens pages for the stream bytes of an ISO_OUT transfer up to `stop`, interval by interval. -/
def isoFill (s : State) : Nat → Xfer → Ent → Nat → Xfer
  | 0, x, _, _ => x
  | f + 1, x, e, stop =>
    let x := openCuts s x e
    let m := min (min (stop - x.inPos) x.ldLeft) (isoTop x - x.inPos + emptyPages x * pageCap s x)
    if m = 0 then x
    else isoFill s f { x with pages := x.pages ++ openPages s x m, inPos := x.inPos + m, ldLeft := x.ldLeft - m } e stop

/-- A job takes up to `n` bytes of its stream into its pages: it with those pages opened. -/
def fillPages (s : State) (x : Xfer) (e : Ent) (n : Nat) : Xfer :=
  if x.iso then isoFill s 4097 x e (x.inPos + n)
  else
    let m := min n (pageRoom s x)
    { x with pages := x.pages ++ openPages s x m, inPos := x.inPos + m }

/-- Units of the next block of a planar source (R253): what the EMPTY pages take, a unit that they take in part once
they take no whole one; the bytes due in an interval are all read. DESIGN CHOICE (log 128). -/
def blockUnits (s : State) (x : Xfer) (e : Ent) (b : Nat) : Nat :=
  let u := rUnit e.dw
  let pos := x.inPos - b
  let room := (fillPages s x e (rBlock e.dw * u)).inPos - x.inPos
  let n := (pos % u + room) / u
  let n := if room = 0 then 0 else if n = 0 || (x.iso && (pos % u + room) % u ≠ 0) then n + 1 else n
  min (min (rBlock e.dw) (rUnits e.dw - pos / u)) n

/-- Stream position of the next byte that a job asks the host for: in a block, of the block's first. -/
def readAt (x : Xfer) : Nat := if x.rdN = 0 then x.inPos else x.rdPos

/-- The entry whose bytes a job reads next, and where it begins (R245). -/
def readEnt (s : State) (x : Xfer) : Option (Ent × Nat) :=
  (jobEnt s x).filter (fun e => readAt x < e.2 + eLen e.1.dw)

/-- The next read of a job (R252), if it may issue one. -/
def nextRead (s : State) (x : Xfer) : Option Want :=
  match readEnt s x with
  | none => none
  | some (e, b) =>
    let d := e.dw
    let done := readAt x - b
    let room := pageRoom s x
    if eSrcFix d then
      let w := eFixWidth d
      if w ≤ room then some { addr := eBuf d / w * w, len := min w (eLen d - done), off := x.inPos } else none
    else if rMode d ≠ 0 && !rToPlanar d && done / rUnit d < rUnits d then
      let u0 := done / rUnit d
      let n := if x.rdN = 0 then blockUnits s x e b else x.rdN
      if n = 0 || rCount d ≤ x.rdRun then none
      else
        let a := rAddr d (eBuf d) x.rdRun u0 + x.rdOff
        some { addr := a, len := min (rRun d n - x.rdOff) (readCap s a), off := x.rdOff, run := some x.rdRun }
    else
      let a := if rMode d ≠ 0 && !rToPlanar d then rRest d (eBuf d) + (done - rUnits d * rUnit d)
        else eBuf d + done
      let take := if x.iso then min x.ldLeft (isoTop x - x.inPos + emptyPages x * pageCap s x) else min (eLen d - done) room
      let n := min take (readCap s a)
      if n = 0 then none else some { addr := a, len := n, off := x.inPos }

/-- A planar block is begun: its units, and the pages that its bytes take (R253, Table 9-1). -/
def openBlock (s : State) (x : Xfer) (e : Ent) (b : Nat) : Xfer :=
  let n := blockUnits s x e b
  let first := b + (x.inPos - b) / rUnit e.dw * rUnit e.dw
  { fillPages s x e (first + n * rUnit e.dw - x.inPos) with rdPos := x.inPos, rdN := n }

/-- Issues a job's next read: its entry has started (R83, R245), and each page that it opens is replaced (R241). -/
def doRead (k : Nat) (x : Xfer) (w : Want) (s : State) : State :=
  let num := s.cis.readSeq
  let r : JobRead := { num := num, off := w.off, len := w.len, addr := w.addr, run := w.run }
  let y : Xfer := match w.run with
    | none => { x with pages := x.pages ++ openPages s x w.len, inPos := x.inPos + w.len,
                       ldLeft := x.ldLeft - w.len, reads := x.reads ++ [r] }
    | some j =>
      match readEnt s x with
      | some (e, b) =>
        let y := if x.rdN = 0 then openBlock s x e b else x
        let fin := rRun e.dw y.rdN ≤ y.rdOff + w.len
        { y with rdRun := if fin then j + 1 else j, rdOff := if fin then 0 else y.rdOff + w.len, reads := y.reads ++ [r] }
      | none => x
  let s := setXfer k y s
  let s := { s with cis := { s.cis with readSeq := num + 1 } }
  let s := markStarted x.q (jobIdx x) s
  askPages (y.pages.length - x.pages.length) k (issueRead (.pump k num) x.inst w.addr w.len s)

/-- A channel may issue a read of its job now (R247, R254, R246). -/
def readJob (s : State) (n : Nat) : Option (Nat × Xfer × Want) :=
  let p := pump s n
  match p.st, p.job with
  | .run, some k =>
    match xfer s k with
    | some x =>
      if x.type = .inp || 128 ≤ x.reads.length || sliceUsed s x || x.ending.isSome || quiet s x.inst then none
      else
        let x := match curEnt s x with | some e => openCuts s x e | none => x  
        (nextRead s x).map (fun w => (k, x, w))
    | none => none
  | _, _ => none

/-- The channel that issues the next read: high class first, then round robin among the normal channels (R248); of
several high-class channels the lowest. DESIGN CHOICE (log 138). -/
def readChan (s : State) : Option Nat :=
  ((List.range 8) ++ (List.range 56).map (fun i => 8 + (i + s.cis.rrRead) % 56)).find?
    (fun n => (readJob s n).isSome)

def pumpRead (n : Nat) (s : State) : State :=
  match readJob s n with
  | some (k, x, w) =>
    let s := if n < 8 then s else { s with cis := { s.cis with rrRead := (n - 8 + 1) % 56 } }
    doRead k x w s
  | none => s

/-- A tag is free for a pump: the queue engine is served first (R38, R247). -/
def pumpTag (s : State) : Bool := 2 ≤ freeTags s || (tagFree s && (nextTurn s).isNone)

def execPumpReadIssue (s : State) : Res :=
  match readChan s with
  | some n => when s (pumpTag s) (pumpRead n s)
  | none => noSuch s

/-! ### Writes (R251, R253) -/

/-- Length of the first write of a host range from `a` to `e` (R251): head, body piece or tail. -/
def firstLen (m a e : Nat) : Nat :=
  if e ≤ a then 0
  else if a % 64 ≠ 0 then min (64 - a % 64) (e - a)
  else if e - a < 64 then e - a
  else min (e / 64 * 64) ((a / m + 1) * m) - a

/-- A host range as its writes (R251). DEDUCED (log 101). -/
def splitRange (m : Nat) : Nat → Nat → List Byte → List (Nat × List Byte)
  | 0, _, _ => []
  | f + 1, a, bs =>
    let n := firstLen m a (a + bs.length)
    if n = 0 then [] else (a, bs.take n) :: splitRange m f (a + n) (bs.drop n)

/-- The write that a job assembles: address, length, the bytes of it at hand, and what its end does: stream bytes
passed, and the block's units and writes handed over. -/
structure Write where
  addr : Nat
  len : Nat
  bytes : List Byte
  adv : Nat
  /-- Stream bytes from the job's position on among which those of the write lie. -/
  span : Nat := 0
  blkN : Nat := 0
  blkDone : Nat := 0
deriving DecidableEq, Repr

/-- The writes of a block of `n` units of a planar destination, in their order (R253). -/
def blockWrites (s : State) (x : Xfer) (e : Ent) (base n : Nat) : List (Nat × List Byte) :=
  let d := e.dw
  let u0 := (x.wrPos - x.base) / rUnit d
  ((List.range (rCount d)).map (fun j => splitRange (mps s) 512 (rAddr d base j u0)
    (toRun d ((availFrom x.wrPos x.pages).take (n * rUnit d)) n j))).flatten

/-- The next write of a job; `early` ends it with the bytes at hand (R255). What is left of a frame or group when a
transfer ends short is written as R121 writes the rest of LEN. DEDUCED (log 101). -/
def nextWrite (s : State) (x : Xfer) (early : Bool) : Option Write :=
  match curEnt s x with
  | none => none
  | some e =>
    let d := e.dw
    let done := x.wrPos - x.base
    let av := (availFrom x.wrPos x.pages).take (eLen d - done)
    if x.type = .out || e.st ≠ .attached || eLen d ≤ done then none
    else if eDstFix d then
      let w := min (eFixWidth d) (eLen d - done)
      some { addr := eDst d / eFixWidth d * eFixWidth d, len := w, bytes := av.take w, adv := w, span := w }
    else
      let base := if x.type = .copy then eDst d else eBuf d
      if rMode d ≠ 0 && rToPlanar d && done / rUnit d < rUnits d then
        let u0 := done / rUnit d
        let n := if x.wrN = 0 then min (min (rBlock d) (rUnits d - u0)) (av.length / rUnit d) else x.wrN
        if n = 0 then
          (if x.ending.isNone then none
           else
            let a := rRest d base + done % rUnit d
            let n := firstLen (mps s) a (a + av.length)
            some { addr := a, len := n, bytes := av.take n, adv := n, span := n })
        else
          let ws := blockWrites s x e base n
          match ws[x.wrDone]? with
          | some (a, bs) =>
            let last := x.wrDone + 1 = ws.length
            some { addr := a, len := bs.length, bytes := bs, adv := if last then n * rUnit d else 0,
                   span := n * rUnit d, blkN := if last then 0 else n, blkDone := if last then 0 else x.wrDone + 1 }
          | none => none
      else
        let a := if rMode d ≠ 0 && rToPlanar d then rRest d base + (done - rUnits d * rUnit d) else base + done
        let stop := if x.type = .copy && !early then a + (eLen d - done) else a + av.length
        let n := firstLen (mps s) a stop
        some { addr := a, len := n, bytes := av.take n, adv := n, span := n }

/-- The data at hand make a whole write, ended early if need be (R255). -/
def fullWrite (s : State) (x : Xfer) : Bool :=
  match nextWrite s x true with
  | some w => w.len ≠ 0 && w.len ≤ w.bytes.length
  | none => false

/-! ### Read completions (R247, R255, R256, R259) -/

/-- Puts bytes of the stream into the pages they belong to; a page that is complete turns FULL. -/
def landIn (off : Nat) (bs : List Byte) (p : Page) : Page :=
  let lo := max off p.off
  let hi := min (off + bs.length) (p.off + p.len)
  if lo < hi then
    let segs := insert p.segs lo ((bs.drop (lo - off)).take (hi - lo))
    { p with segs := segs, st := if (segs.map (fun g => g.2.length)).sum = p.len then .full else p.st }
  else p

/-- Bytes moved are counted for the job's slice and by its channel (R246, PMP_MOVED). DEDUCED (log 100). -/
def countMoved (k n : Nat) (s : State) : State :=
  match xfer s k with
  | some x =>
    let s := setXfer k { x with moved := x.moved + n } s
    match x.chan with
    | some c => modPump c (fun p => { p with moved := p.moved + wd n }) s
    | none => s
  | none => s

/-- Bytes that an OUT job loads count when they arrive; a copy's bytes count when they are written.
DEDUCED (log 100). -/
def countLoaded (k n : Nat) (x : Xfer) (s : State) : State := if x.type = .out then countMoved k n s else s

/-- Lands a read's data in the job's pages; the runs of a block are interleaved once all have arrived (R247, R253). -/
def land (k : Nat) (x : Xfer) (r : JobRead) (bs : List Byte) (s : State) : State :=
  match r.run with
  | none =>
    countLoaded k bs.length x (setXfer k { x with
      pages := x.pages.map (landIn r.off bs)
      wrPos := if x.type = .out then x.wrPos + bs.length else x.wrPos } s)
  | some j =>
    let runs := insert x.runs (j * 65536 + r.off) bs
    match readEnt s x with
    | some (e, b) =>
      let len := rRun e.dw x.rdN
      let all := (runs.map Prod.snd).flatten
      if all.length = rCount e.dw * len && x.rdN ≠ 0 then
        let per := (List.range (rCount e.dw)).map (fun j => (j, (all.drop (j * len)).take len))
        let first := b + (x.rdPos - b) / rUnit e.dw * rUnit e.dw
        let bytes := ((fromRuns e.dw per x.rdN).drop (x.rdPos - first)).take (x.inPos - x.rdPos)
        countLoaded k bytes.length x (setXfer k { x with
          rdN := 0, rdRun := 0, rdOff := 0, runs := [], pages := x.pages.map (landIn x.rdPos bytes)
          wrPos := if x.type = .out then x.wrPos + bytes.length else x.wrPos } s)
      else setXfer k { x with runs := runs } s
    | none => setXfer k { x with runs := runs } s

/-- At removal a bound job goes to the head of its class queue (R257), and the channel goes OFF. -/
def removeDone (n : Nat) (s : State) : State :=
  let p := pump s n
  if p.removing.isNone then s
  else
    match p.job with
    | some k =>
      let s := modPump n (fun p => { p with job := none, staged := 0 })
        (modXfer k (fun x => { x with chan := none, moved := 0 }) s)
      let s := match xfer s k with
        | some x => if !movable s x then s
            else if highJob s x then { s with cis := { s.cis with high := k :: s.cis.high } }
            else { s with cis := { s.cis with norm := k :: s.cis.norm } }
        | none => s
      pumpOff n s
    | none => pumpOff n s

/-- A channel that pauses becomes PAUSED once nothing of its job is in flight (R255); a removal goes on (Table 9-2). -/
def pauseCheck (n : Nat) (s : State) : State :=
  let p := pump s n
  if p.st != .pausing then s
  else
    match p.job.bind (xfer s) with
    | some x =>
      if x.reads.isEmpty && p.staged = 0 && (x.type != .copy || !fullWrite s x) then
        removeDone n (modPump n (fun p => { p with st := .paused }) s)
      else s
    | none => removeDone n (modPump n (fun p => { p with st := .paused }) s)

/-- Bytes of the stream whose reads have been issued (PMP_CNT). -/
def readPos (s : State) (x : Xfer) : Nat :=
  if x.rdN = 0 then x.inPos
  else
    match readEnt s x with
    | some (e, b) =>
      let first := b + (x.rdPos - b) / rUnit e.dw * rUnit e.dw
      min x.inPos (max x.rdPos (first + x.rdRun * rRun e.dw x.rdN + x.rdOff))
    | none => x.inPos

/-- Bytes of a job's entry that are not yet read, or for IN not yet written (PMP_CNT). -/
def jobLeft (s : State) (x : Xfer) : Nat :=
  match jobEnt s x with
  | some (e, b) => b + eLen e.dw - (if x.type = .inp then x.wrPos else readPos s x)
  | none => 0

/-- A read of a job has failed (R256, R259). The address latched is that of the read's first byte.
DESIGN CHOICE (log 139). DEDUCED (log 99). -/
def readFail (k : Nat) (x : Xfer) (r : JobRead) (kind : Nat) (s : State) : State :=
  let zero := decide (jobLeft s x = 0)
  match x.chan with
  | some c =>
    let p := pump s c
    if p.st = .halted then
      (if r.addr < p.errAddr.toNat then
        modPump c (fun p => { p with errAddr := BitVec.ofNat 64 r.addr, kind := BitVec.ofNat 3 kind }) s
       else s)
    else haltChan c x r.addr kind zero s
  | none =>
    let l := match x.latched with
      | some (a, kd, z) => if r.addr < a then (r.addr, kind, zero) else (a, kd, z)
      | none => (r.addr, kind, zero)
    queueJob k (setXfer k { x with latched := some l } s)

def pumpReturn (k num : Nat) (o : OutRead) (a : ReadAnswer) (s : State) : State :=
  let s := retireRead (.pump k num) s
  let s := { s with cis := { s.cis with sharedFree := s.cis.sharedFree + o.pages } }
  if o.silent then s
  else
    let s := match a with | .error e => hostError o.fn e 0 o.addr s | .data _ => s
    if o.discard then s
    else
      match xfer s k with
      | none => s
      | some x =>
        match x.reads.find? (fun r => r.num = num) with
        | none => s
        | some r =>
          let x := { x with reads := x.reads.filter (fun r => r.num ≠ num) }
          let s := setXfer k x s
          match a with
          | .error e => readFail k x r (kindCode e) s
          | .data bs =>
            let s := land k x r bs s
            let s := match x.pipe with | some n => unblock n 1 s | none => s
            match x.chan with
            | some c => pauseCheck c (settleJob k s)
            | none => queueJob k s

def execPumpReadCompletion (place read : Nat) (a : ReadAnswer) (s : State) : Res :=
  match outRead s (.pump place read) with
  | some o =>
    let ok := match a with | .data bs => bs.length = o.len | .error _ => true
    when s ok (pumpReturn place read o a s)
  | none => noSuch s

/-! ### The outbound path (R249) -/

/-- Bytes of the next 64-byte beat of a write (R249). -/
def beat (w : Write) (staged : Nat) : Nat := min (64 - (w.addr + staged) % 64) (w.len - staged)

/-- A channel has a beat ready: its job and its write. A write that a pause ends with the bytes already staged has its
last beat behind it and only waits to be handed over (R254, R255). -/
def beatReady (s : State) (n : Nat) : Option (Nat × Xfer × Write) :=
  let p := pump s n
  match p.job with
  | some k =>
    match xfer s k with
    | some x =>
      let go := match p.st with
        | .run => true
        | .pausing => x.type = .copy || p.staged ≠ 0
        | .halted => x.type = .copy
        | _ => false
      if !go || quiet s x.inst then none
      else
        match nextWrite s x (p.st = .pausing) with
        | some w => if w.len ≠ 0 && p.staged + beat w p.staged ≤ w.bytes.length then some (k, x, w) else none
        | none => none
    | none => none
  | none => none

/-- The channel that the outbound path grants (R249). -/
def beatChan (s : State) : Option Nat :=
  ((List.range 8).map (fun i => (i + s.cis.rrHigh) % 8) ++
    (List.range 56).map (fun i => 8 + (i + s.cis.rrNorm) % 56)).find? (fun n => (beatReady s n).isSome)

/-- A high-class beat pre-empts the normal channels that have a beat ready (R249). DEDUCED (log 109). -/
def preempt (s : State) : State :=
  let hit := ((List.range 56).map (· + 8)).filter (fun n => (beatReady s n).isSome && !(pump s n).preempted)
  let s := hit.foldl (fun s n => modPump n (fun p => { p with preempted := true }) s) s
  { s with cis := { s.cis with preempt := s.cis.preempt + wd hit.length } }

/-- A complete write is handed to the posted queue (R249), and the job moves on; of a write longer than a dword, the
dword of its last byte is the one that a barrier read names (R54). DEDUCED (log 100); DESIGN CHOICE (log 129). -/
def writeOut (n k : Nat) (x : Xfer) (w : Write) (s : State) : State :=
  let s := tlp (.write x.inst w.addr (w.bytes.take w.len)) s
  let s := modPump n (fun p => { p with staged := 0 }) s
  let s := countMoved k w.adv (setXfer k { x with
    wrPos := x.wrPos + w.adv, wrN := w.blkN, wrDone := w.blkDone, lastW := some ((w.addr + w.len - 1) / 4 * 4) } s)
  let s := markStarted x.q x.idx s
  let s := turnPages k (x.wrPos + w.adv) s
  pauseCheck n (progress k s)

/-- One beat of a channel. -/
def pumpBeat (n : Nat) (s : State) : State :=
  match beatReady s n with
  | none => s
  | some (k, x, w) =>
    let s := if n < 8 then preempt { s with cis := { s.cis with rrHigh := (n + 1) % 8 } }
      else { s with cis := { s.cis with rrNorm := (n - 8 + 1) % 56 } }
    let st := (pump s n).staged + beat w (pump s n).staged
    let s := modPump n (fun p => { p with staged := st, preempted := false }) s
    let pages := x.pages.map (fun p =>
      if p.st = .full && p.off < x.wrPos + max w.span 1 then { p with st := .draining } else p)
    let x := { x with pages := pages, wrN := if w.blkDone = 0 && w.blkN = 0 then x.wrN else w.blkN }
    let s := setXfer k x s
    if st = w.len then writeOut n k x w s else s

/-- A pipe whose earlier transfer met an uncorrectable word halts with what it carries now (R279); an isochronous one
runs on (R115). -/
def haltBehind (n : Nat) (s : State) : State :=
  match pipe s n with
  | some x =>
    if gated s x.inst || x.state = .closing || x.state = .held || x.state = .halted || x.kind = .iso then s
    else
      let s := clearErrs n (unlink n (settleBurst n s))
      let s := modPipe n (fun y => { y with state := .halted, stopping := false }) s
      if x.stopping then replyPipe n 6 s else s
  | none => s

/-- An uncorrectable word of a transfer's page, or with `staging` a failed byte of the staging buffer, is counted and
reported (Table 10-3, Table 10-11); a page that fails again is retired (R279). Whether that is a change of capacity
(R27) the spec leaves open: no register names pages in a CAPACITY_CHANGE, and none is posted. DESIGN CHOICE (log 141).
DEDUCED (log 106). -/
def pageUe (k : Nat) (x : Xfer) (staging again : Bool) (s : State) : State :=
  let u := raiseMemUe s.sump
  let u := if staging then { u with chipUe := u.chipUe + 1 }
    else { u with cisUe := u.cisUe + 1, cisRet := if again then u.cisRet + 1 else u.cisRet }
  let s := { s with sump := u }
  let s := if again then { s with cis := { s.cis with sharedFree := s.cis.sharedFree - 1,
                                                      low := min s.cis.low (s.cis.sharedFree - 1) } } else s
  memErrEvent (if staging then 3 else 0) 1 k (x.pipe.getD x.q) x.inst s

/-- An uncorrectable word that a pump meets stops the job (R279). DEDUCED (log 106); DESIGN CHOICE (log 141). -/
def badWord (n k : Nat) (x : Xfer) (staging again : Bool) (s : State) : State :=
  let s := pageUe k x staging again s
  let s := modPump n (fun p => { p with staged := 0 }) s
  let s := setXfer k { x with pages := [], ending := none } s
  match x.pipe with
  | some m =>
    if ((pipe s m).bind (·.x)) = some k then haltPipe m 4 1 (settleBurst m s)
    else haltBehind m (endXfer k (x.stamp { status := 4, errinfo := 1 }) s)
  | none => endXfer k (Cpl.atMaster { status := 4, errinfo := 1 }) s

/-- The outbound path takes a channel's beat, with what the page's words read as (R249, R278, R279). -/
def pumpWrite (n : Nat) (mem : PageAnswer) (s : State) : State :=
  match beatReady s n with
  | some (k, x, _) =>
    match mem with
    | .good => pumpBeat n s
    | .corrected => pumpBeat n (countCe 0 1 s)
    | .uncorrectable again => badWord n k x false again s
    | .staging => badWord n k x true false s
  | none => s

def execPumpWriteIssue (mem : PageAnswer) (s : State) : Res :=
  match beatChan s with
  | some n => .next (pumpWrite n mem s)
  | none => noSuch s

/-! ### PMP_CTL (R254, R260) -/

/-- A HALTED channel is left without its job: IDLE, or PAUSED with PAUSE set, from where a removal goes on.
DEDUCED (log 102). -/
def haltOver (n : Nat) (s : State) : State :=
  pumpOff n (modPump n (fun p => if p.st = .halted then
    { p with st := if p.pause then .paused else .idle, job := none } else p) s)

/-- ACK of a HALTED channel (R260): the entry completes HOST_BUS_ERR and the channel is free. DEDUCED (log 102). -/
def ackHalt (n : Nat) (s : State) : State :=
  let p := pump s n
  if p.st != .halted then s
  else haltOver n (match p.job with | some k => ackJob k p s | none => s)

/-- A write of PMP_CTL.PAUSE (Table 9-2). -/
def setPause (n : Nat) (on : Bool) (s : State) : State :=
  let s := pauseCheck n (modPump n (fun p => { p with
    pause := on
    st := match p.st, on with
      | .idle, true => .paused
      | .run, true => .pausing
      | .pausing, false => .run
      | .paused, false => if p.job.isSome then .run else .idle
      | o, _ => o }) s)
  match (pump s n).job with
  | some k => if (pump s n).st = .run then settleJob k s else s
  | none => s

/-- A write of PMP_CTL (Table 9-6): PAUSE is stored, then ACK acts. -/
def writePmpCtl (n : Nat) (v : Word) (s : State) : State :=
  let s := if tst v 0 = (pump s n).pause then s else setPause n (tst v 0) s
  if tst v 1 then ackHalt n s else s

/-- A write of PMP_CTL from the host; while the channel is OFF the access is recorded (R282) and PAUSE is stored
(Table 9-2). DEDUCED (log 67). -/
def pmpAccess (n : Nat) (v : Word) (s : State) : State :=
  if answers s 0 && (pump s n).st = .off then
    modPump n (fun p => { p with pause := tst v 0 })
      (offAccess (0x40 + n) (0xE00000 + n * 0x100) true 0 .pcie (wakeLink (ungate s)))
  else regWrite (0xE00000 + n * 0x100) (writePmpCtl n v) s

def execPumpPauseSet (n : Pump) (v : Word) (s : State) : Res := when s (tst v 0) (pmpAccess n v s)
def execPumpPauseClear (n : Pump) (v : Word) (s : State) : Res := when s (!tst v 0) (pmpAccess n v s)
def execPumpHaltAck (n : Pump) (v : Word) (s : State) : Res := when s (tst v 1) (pmpAccess n v s)

end Sys2Proof.Machine
end

