-- ==== Sys2Proof/Machine/Instances.lean ====
section
/-! DEFINITION. Instances (file 11): usable and quiesced functions (R40, R305), instance resets and removal
(R306–R312), and the mailboxes (R300–R304). -/

namespace Sys2Proof.Machine

open Sys2Proof

/-! ### Instance states (R305, Table 11-4) -/

def instCode : InstSt → Nat
  | .absent => 0 | .active => 1 | .quiesced => 2 | .resetting => 3
def dCode : DState → Nat
  | .d0 => 0 | .d3hot => 1 | .d3cold => 2

/-- A change of state posts INST_STATE (Table 11-6). -/
def setInstSt (i : Nat) (st : InstSt) (s : State) : State :=
  let old := (inst s i).st
  if old = st then s
  else
    let s := modInst i (fun x => { x with st := st }) s
    let f := fn s i
    event 0 0x61 [pack [(i, 0), (instCode old, 8), (instCode st, 10), (dCode f.dstate, 12), (b1 f.busMaster, 14),
      (b1 f.msixEnable, 15)]] s

/-- The state of an instance that is neither ABSENT nor RESETTING: ACTIVE if usable. -/
def judgeInst (i : Nat) (s : State) : State :=
  match (inst s i).st with
  | .active | .quiesced => if i = 0 then s else setInstSt i (if usable s i then .active else .quiesced) s
  | .absent | .resetting => s

/-! ### Quiesce and resume (R40, R256) -/

/-- A job of a quiesced instance gives up its staging buffer (R256): one that runs or pauses leaves its channel; on a
PAUSED or HALTED channel, where nothing moves, it stays. -/
def quiesceJob (k : Nat) (s : State) : State :=
  match (xfer s k).bind (·.chan) with
  | some c =>
    if (pump s c).st = .run || (pump s c).st = .pausing then unbind k s
    else modPump c (fun p => { p with staged := 0 }) s
  | none => s

/-- The jobs of a quiesced instance stop, and its bursts that wait for the wire leave their engines. -/
def quiesce (i : Nat) (s : State) : State :=
  let s := (s.cis.xfers.filter (fun kv => kv.2.inst = i)).foldl (fun s kv => quiesceJob kv.1 s) s
  (pipesWhere s (fun x => x.inst = i && x.state = .active)).foldl (fun s n => withdrawUnsent n s) s

/-- Barrier reads that the quiesce held back. -/
def reissueBarriers (q : Nat) (x : Queue) (s : State) : State :=
  x.ents.foldl (fun s e =>
    match e.st with
    | .barrier _ a =>
      let r : ReadRef := .barrier (Fin.ofNat 4096 q) e.idx
      if !readOpen s r then issueRead r x.owner a 0 s else s
    | _ => s) s

/-- What one queue held back: barrier reads, completions, STATE, cell reads, events. -/
def resumeQueue (q : Nat) (s : State) : State :=
  match queue s q with
  | some x =>
    let s := flush q (reissueBarriers q x s)
    let s := if x.stDirty then writeState q (writeHead q s) else s
    let s := if q < 4096 && !cellOut s (Fin.ofNat 4096 q) then afterCell (Fin.ofNat 4096 q) s else s
    flushEvents 17 q s
  | none => s

/-- Work resumes where it stopped. -/
def resume (i : Nat) (s : State) : State :=
  let qs := (s.qe.queues.filter (fun kv => kv.2.owner = i)).map Prod.fst
  let s := qs.foldl (fun s q => resumeQueue q s) s
  let s := (s.cis.xfers.filter (fun kv => kv.2.inst = i)).foldl (fun s kv => queueJob kv.1 s) s
  let s := (pipesWhere s (fun x => x.inst = i && x.block = 3)).foldl (fun s n => unblock n 3 s) s
  sendAll i (sendWaiting s)

/-- A change of a function's configuration, with what it does to the instance. -/
def changeFn (i : Nat) (g : Func → Func) (s : State) : State :=
  let was := usable s i
  let s := modFn i g s
  let s := if was && !usable s i && !gated s i then quiesce i s else s
  let s := judgeInst i s
  if gated s i then s else if !was && usable s i then resume i s else sendAll i s

/-! ### Instance reset (R306–R309, Table 11-5) -/

/-- The command in progress on a queue or pipe is answered by the reset (R311: it completes normally).
DEDUCED (log 58). -/
def endDrainCmd (x : Queue) (s : State) : State :=
  match x.drainCmd with
  | some c => reply c 0 0 x.head (wd x.gen.toNat) 0 s
  | none => s

/-- One queue of a resetting instance: DISABLED, entries that have not started removed, waiting events discarded without
counting. DESIGN CHOICE (log 114). -/
def gateQueue (q : Nat) (s : State) : State :=
  match queue s q with
  | some x =>
    let s := endDrainCmd x s
    if x.st = .disabled then setQueue q { x with stDirty := false, cellMute := true } s
    else
      setQueue q { x with
        st := .disabled, waiting := [], merged := false, fenceHold := false, drainCmd := none, chainEnds := []
        errCell := false, stDirty := false, cellMute := true, fetch := x.head, ents := x.ents.filter (fun e => e.started) } s
  | none => s

/-- One pipe of a resetting instance: STOPPED, its descriptor withdrawn unless a packet is on the wire. A close that was
accepted before ends with the reset (R311). DEDUCED (log 58). -/
def gatePipe (n : Nat) (s : State) : State :=
  match pipe s n with
  | some x =>
    let wire := match descOf s n with | some (_, d) => onBus d && !d.isOver | none => false
    let s := unlink n (leaveHeld n s)
    let s := if wire then s else freeTt x (settleBurst n s)
    let s := if x.stopping then replyPipe n 5 s else s
    modPipe n (fun y => { y with
      state := .stopped
      gone := if y.state = .closing then some { status := 7, errinfo := 3 } else none
      stopping := false, block := 0, rdyLatch := false, splitOut := y.splitOut && wire }) s
  | none => s

/-- Reports of an instance's pipes that the sump still has to judge leave those pipes as the reset leaves them (R311).
-/
def staleReports (i : Nat) (s : State) : State :=
  let f := fun (r : Report) => if (pipe s r.pipe).any (fun x => x.inst = i) then { r with stale := true } else r
  { s with sump := { s.sump with
    intake := s.sump.intake.map f
    walks := s.sump.walks.map (fun kv => (kv.1, { kv.2 with report := f kv.2.report })) } }

/-- Outstanding reads of an instance are discarded, and no error on them is recorded (R56); those that wait for a tag
are not issued (R307). -/
def hushReads (i : Nat) (s : State) : State :=
  let left := s.host.reads.filter (fun r => !(r.fn = i && r.waiting))
  { s with host := { s.host with reads := left.map (fun r =>
    if r.fn = i then { r with discard := true, silent := true } else r) } }

/-- Bytes that a tunnel request has moved: sent to the parent for IN, acknowledged by the unit for OUT. -/
def tunMoved (s : State) (r : TunReq) : Nat :=
  match s.cis.xfers.find? (fun kv => kv.2.q = 4096 && r.idx = some kv.2.idx) with
  | some (_, x) => if x.type = .out then x.ackPos else x.wrPos
  | none => 0

/-- The tunnel requests of a resetting export instance end with INSTANCE_RESET (R356). DEDUCED (log 76). -/
def resetTunnel (i : Nat) (s : State) : State :=
  if s.dev.tq.owner ≠ i || !s.dev.en then s
  else
    let stop : TunReq → TunReq := fun r => match r.ended with
      | some _ => r
      | none => { r with feed := [], ended := some { d12 := 0x0D, d13 := wd (tunMoved s r), d14 := s.iso.mic,
                                                     d15 := wd s.iso.pos } }
    let rs := s.dev.reqs.map stop
    let s := { s with dev := { s.dev with reqs := rs, tq := { s.dev.tq with ents := [] } } }
    rs.foldl (fun s r => offerTrailer r s) s

/-- The gate of R307 with step 3 of Table 11-5. -/
def gateWork (i : Nat) (s : State) : State :=
  let mine := s.qe.queues.filter (fun kv => kv.2.owner = i)
  let all := (mine.map (fun kv => (kv.2.ents.filter (fun e => e.st != .done)).length)).sum
  let s := hushReads i (staleReports i s)
  let s := (s.cis.xfers.filter (fun kv => kv.2.inst = i)).foldl (fun s kv => dequeueJob kv.1 (unbind kv.1 s)) s
  let s := { s with cis := { s.cis with copyWait := s.cis.copyWait.filter (fun r => !(mine.map Prod.fst).contains r.q) } }
  let all := all + (if s.dev.tq.owner = i then s.dev.tq.ents.length else 0)
  let s := resetTunnel i (modInst i (fun x => { x with entsRemoved := all }) s)
  let s := (pipesWhere s (fun x => x.inst = i)).foldl (fun s n => gatePipe n s) s
  tellRoom ((mine.map Prod.fst).foldl (fun s q => gateQueue q s) s)

/-- A reset request of a tenant instance (Table 11-4): acceptance, or a merge with the reset that runs. -/
def resetInst (i cause : Nat) (cmd : Option Word) (thenRemove : Bool) (s : State) : State :=
  let x := inst s i
  if x.st = .resetting then
    setInst i { x with merged := true, remove := x.remove || thenRemove, rstCmds := x.rstCmds ++ cmd.toList } s
  else
    let s := setInst i { x with runCause := cause, merged := false, remove := thenRemove, rstCmds := cmd.toList } s
    gateWork i (setInstSt i .resetting s)

/-- Step 4 for the pipes: no entry attached, LEFT and LEFT_PKTS 0; the charge, SEQ, WAIT_ERDY and ERDY_PEND stay.
DEDUCED (log 58). -/
def clearPipe (n : Nat) (s : State) : State :=
  let s := clearErrs n (settleBurst n s)
  let s := modPipe n (fun x => { x with ents := [], x := none, leftPkts := 0, stage := 0, repeats := 0, splits := [],
                                        splitOut := false, carried := 0, isv := {}, lastIso := none }) s
  match pipe s n with
  | some x =>
    let s := if x.kind = .streamEp && x.curStream ≠ 0 then streamIdle n s else s
    if x.gone.isSome then erasePipe n (replyPipe n 0 s) else s
  | none => s

/-- Step 4 of Table 11-5: started entries, pages, places, fences, vectors. -/
def clearWork (i : Nat) (s : State) : State :=
  let s := (s.cis.xfers.filter (fun kv => kv.2.inst = i)).foldl (fun s kv => freeXfer kv.1 s) s
  let s := hushReads i s
  let s := (pipesWhere s (fun x => x.inst = i)).foldl (fun s n => clearPipe n s) s
  let s := (s.qe.queues.filter (fun kv => kv.2.owner = i)).foldl
    (fun s kv => modQueue kv.1 (fun x => { x with ents := [] }) s) s
  let s := { s with qe := { s.qe with fences := s.qe.fences.filter (fun kv => kv.1 / 64 ≠ i) } }
  let clr : MsixVec → MsixVec := fun v => { v with pending := false, cnt := 0, timer := false }
  modFn i (fun f => { f with vecs := f.vecs.foldl (fun m kv => setD {} m kv.1 (clr kv.2)) [] }) s

/-- Replies to the commands that asked for the reset (R311). DEDUCED (log 58). -/
def resetReplies (cmds : List Word) (cause us : Nat) (s : State) : State :=
  cmds.foldl (fun s c => reply c (if cause = 1 then 0 else 0x0D) 0 (wd us) 0 0 s) s

/-- The end of a reset (step 6 of Table 11-5, R309). DEDUCED (log 57). -/
def endReset (i us : Nat) (s : State) : State :=
  let x := inst s i
  let pipes := (pipesWhere s (fun p => p.inst = i)).length
  let s := retryBlocked (clearWork i s)
  let reads := (s.host.reads.filter (fun r => r.fn = i)).length
  let s := modInst i (fun x => { x with
    paneT2m := [], paneM2t := [], t2m := false, m2t := false, rstDone := true
    rstE := x.rstE + 1
    resets := x.resets + 1, cause := BitVec.ofNat 4 x.runCause, lastUs := BitVec.ofNat 11 us
    rstCmds := [], merged := false, removing := x.remove }) s
  let s := event 0 0x60 [pack [(i, 0), (x.runCause, 8), (b1 x.merged, 12)], wd us, wd x.entsRemoved, wd pipes,
    wd reads] s
  let s := resetReplies x.rstCmds x.runCause us s
  if x.remove then s
  else
    let s := setInstSt i (if usable s i then .active else .quiesced) s
    let s := if x.rstDone then s else cause i 0 s
    if usable s i then resume i s else s

def execInstanceResetEnd (i : Fn) (us : Nat) (s : State) : Res :=
  when s ((inst s i).st = .resetting && !(inst s i).removing) (endReset i us s)

/-! ### Removal (R310) -/

/-- Removal; a reset command that came in its course is answered with it (R311). What the mailbox record of the removed
instance holds when VF Enable is set again. DEDUCED (log 59); DESIGN CHOICE (log 134). -/
def removeInst (i : Nat) (s : State) : State :=
  let s := (pipesWhere s (fun x => x.inst = i)).foldl (fun s n => erasePipe n s) s
  let s := (s.qe.queues.filter (fun kv => kv.2.owner = i)).foldl (fun s kv => delQueue kv.1 s) s
  let s := (List.range 8).foldl (fun s p => modPort p (fun x => { x with
    units := x.units.map (fun kv => if kv.2.inst = i then (kv.1, { kv.2 with inst := 0 }) else kv) }) s) s
  let s := setFn i {} s
  let x := inst s i
  let s := modInst i (fun x => { x with remove := false, removing := false, rstDone := false, rstCmds := [] }) s
  let s := resetReplies x.rstCmds x.runCause x.lastUs.toNat (setInstSt i .absent s)
  if s.host.vfEnable && i ≤ s.host.numVfs then setInstSt i .quiesced s else s

def execInstanceRemovalEnd (i : Fn) (s : State) : Res :=
  when s ((inst s i).st = .resetting && (inst s i).removing) (removeInst i s)

/-! ### VF Enable and function-level resets (R305, R312) -/

/-- VF Enable set: instances 1 to NumVFs become QUIESCED; cleared: each is reset with cause 4 and removed.
DEDUCED (log 59). -/
def writeVfEnable (on : Bool) (n : Nat) (s : State) : State :=
  if on then
    if s.host.vfEnable then s
    else
      let s := { s with host := { s.host with vfEnable := true, numVfs := n } }
      ((List.range n).map (· + 1)).foldl (fun s i => if (inst s i).st = .absent then setInstSt i .quiesced s else s) s
  else if !s.host.vfEnable then { s with host := { s.host with numVfs := n } }
  else
    let m := s.host.numVfs
    let s := { s with host := { s.host with vfEnable := false, numVfs := n } }
    ((List.range m).map (· + 1)).foldl (fun s i =>
      if (inst s i).st = .absent then s
      else resetInst i 4 none true (modFn i (fun f => { f with busMaster := false, msixEnable := false }) s)) s

/-- The physical function's configuration space answers (Table 16-2 step 6, Table 2-6). -/
def cfgUp (s : State) : Bool := s.boot.up && !s.boot.perst && (fn s 0).dstate != .d3cold

def execVfEnableWrite (on : Bool) (n : Fn) (s : State) : Res :=
  when s (cfgUp s && n.val ≤ maxInst s) (writeVfEnable on n (wakeLink s))

/-- A function-level reset of a virtual function: its configuration space and its MSI-X table, and an instance reset
with cause 2. PRESUMED (log 82); DEDUCED (log 84). -/
def vfReset (i : Nat) (s : State) : State :=
  resetInst i 2 none false (modFn i (fun f => { f with
    busMaster := false, msixEnable := false, funcMask := false, dstate := .d0, corReport := false, nfReport := false
    vecs := [] }) s)

def execVfFunctionLevelReset (i : Fn) (s : State) : Res :=
  when s (i.val ≠ 0 && exists' s i && (fn s i).dstate != .d3cold) (vfReset i (wakeLink s))

/-! ### Mailboxes (R300–R304) -/

def dropPane (i : Nat) (s : State) : State := modInst i (fun x => { x with drops := x.drops + 1 }) s

/-- A write to a pane by either side: kept to its owner, dropped and counted otherwise or while the instance resets. -/
def paneWrite (byManager : Bool) (i : Nat) (m2t : Bool) (off : Nat) (bs : List Byte) (s : State) : State :=
  let x := inst s i
  if gated s i || byManager ≠ m2t || (if m2t then x.m2t else x.t2m) then dropPane i s
  else
    let bs := bs.take (256 - off)
    modInst i (fun x => if m2t then { x with paneM2t := writeBytes x.paneM2t off bs }
      else { x with paneT2m := writeBytes x.paneT2m off bs }) s

/-- An access to a mailbox by the manager (BAR2) or by the tenant (its BAR0): Unsupported Request when the function does
not answer; a window of no enabled function drops writes (R301). -/
def mboxAccess (byManager : Bool) (i : Nat) (f : State → State) (s : State) : State :=
  let who := if byManager then 0 else i
  if !answers s who then answerTlp (.unsupported who) s
  else if byManager && !vfOn s i then wakeLink (ungate s)
  else f (wakeLink (ungate s))

def execMailboxPaneWrite (byManager : Bool) (i : Fn) (m2t : Bool) (off : Fn) (bs : List Byte) (s : State) : Res :=
  when s (byManager || (i.val ≠ 0 && exists' s i))
    (if off.val + bs.length ≤ 256 then mboxAccess byManager i (paneWrite byManager i m2t off bs) s
     else answerTlp (.unsupported (if byManager then 0 else i.val)) s)

/-- T2M set (R302): a cause on vector 1 of the physical function when it goes from 0 to 1; its edge counter.
DEDUCED (log 104). -/
def t2mPost (i : Nat) (s : State) : State :=
  let x := inst s i
  if gated s i || x.t2m then s
  else cause 0 1 (setInst i { x with t2m := true, t2mE := x.t2mE + 1 } s)
def t2mAck (i : Nat) (s : State) : State := modInst i (fun x => { x with t2m := false }) s
/-- M2T set (R302): a cause on vector 0 of the virtual function. DEDUCED (log 104). -/
def m2tPost (i : Nat) (s : State) : State :=
  let x := inst s i
  if gated s i || x.m2t then s
  else cause i 0 (setInst i { x with m2t := true, m2tE := x.m2tE + 1 } s)
def m2tAck (i : Nat) (s : State) : State := modInst i (fun x => { x with m2t := false }) s
def rstAck (i : Nat) (s : State) : State := modInst i (fun x => { x with rstDone := false }) s

/-- A tenant has a function. -/
def tenant (s : State) (i : Nat) : Bool := i ≠ 0 && exists' s i

def execMailboxT2mPost (i : Fn) (s : State) : Res :=
  when s (tenant s i) (mboxAccess false i (t2mPost i) s)
def execMailboxT2mAck (i : Fn) (s : State) : Res := .next (mboxAccess true i (t2mAck i) s)
def execMailboxM2tPost (i : Fn) (s : State) : Res := .next (mboxAccess true i (m2tPost i) s)
def execMailboxM2tAck (i : Fn) (s : State) : Res :=
  when s (tenant s i) (mboxAccess false i (m2tAck i) s)
def execRstDoneClear (i : Fn) (s : State) : Res :=
  when s (tenant s i) (mboxAccess false i (rstAck i) s)

end Sys2Proof.Machine
end

