-- ==== Sys2Proof/Machine/Ports.lean ====
section
/-! DEFINITION. Root ports (file 06): the requests of PRT_SC, resets, suspend and resume, connects and disconnects,
Type-C and port power, link power, and the loss of lane 1. -/

namespace Sys2Proof.Machine

open Sys2Proof

def prtBase (p : Nat) : Nat := 0x400000 + p * 0x10000
def scOff (p h : Nat) : Nat := prtBase p + 0x100 + h * 0x100

/-- The port is present, in service, and its half is in the given state. -/
def inState (s : State) (p h : Nat) (st : HalfSt) : Bool := portUp s p && (halfReg s p h).st = st

/-! ### Requests of PRT_SC (R172, Tables 6-3, 6-4) -/

/-- A request that changes nothing advances PRT_CNT.IGNORED. -/
def ignore (n : Nat) (p : Nat) (s : State) : State :=
  modPort p (fun x => { x with ignored := x.ignored + BitVec.ofNat 8 n }) s

/-- A reset starts (R175): what the port signals, and whether it is a warm reset. -/
def startReset (p : Port) (h : Half) (warm : Bool) (close : Option (Nat × Nat)) (s : State) : State :=
  let s := goHalf p h .resetting [] 0 close s
  signal p h (if h = 1 then .busReset else if warm then .warmReset else .hotReset)
    (modHalf p h (fun x => { x with
      warm := warm, recov := if h = 0 && !warm then x.recov + 1 else x.recov }) s)

/-- PR or WPR; on half 1 WPR is treated as PR. -/
def reqReset (p : Port) (h : Half) (wpr : Bool) (s : State) : State :=
  let x := halfReg s p h
  match x.st with
  | .poweredOff | .resetting => ignore 1 p s
  | .disconnected =>
    if h = 0 then modHalf p 0 (fun x => { x with lstate := 5, tries := 0 }) s else ignore 1 p s
  | .disabled => startReset p h true none s
  | .enabled | .suspended => startReset p h wpr (some (6, 0)) s
  | .resuming => startReset p h true (some (6, 0)) (resumeWake p h (directInsts s p h) true false s)

/-- DIS. -/
def reqDisable (p : Port) (h : Half) (s : State) : State :=
  match (halfReg s p h).st with
  | .poweredOff | .disconnected | .resetting | .resuming => ignore 1 p s
  | .disabled => s
  | .enabled | .suspended => goHalf p h .disabled [] 0x05 (some (5, 2)) s

/-- An isochronous pipe of the half is open (R176). -/
def isoOpen (s : State) (p h : Nat) : Bool :=
  s.sched.pipes.any (fun kv => kv.2.kind = .iso && kv.2.port.val = p && pHalf kv.2 = h)

/-- SUSP (R176). -/
def reqSuspend (p : Port) (h : Half) (s : State) : State :=
  let x := halfReg s p h
  match x.st with
  | .suspended => s
  | .enabled =>
    if isoOpen s p h then ignore 1 p s
    else if x.suspending then s
    else signal p h .suspend (modHalf p h (fun x => { x with suspending := true }) s)
  | _ => ignore 1 p s

/-- A resume starts; HOST or UNIT is set (Table 6-3, R178). -/
def startResume (p : Port) (h : Half) (host : Bool) (s : State) : State :=
  let s := goHalf p h .resuming [if host then .host else .unit] 0 none s
  bus p h .resume (modHalf p h (fun x => { x with rsHost := host, rsUnit := !host }) s)

/-- RES. -/
def reqResume (p : Port) (h : Half) (s : State) : State :=
  match (halfReg s p h).st with
  | .suspended => startResume p h true s
  | .resuming => modHalf p h (fun x => raise .host { x with rsHost := true }) s
  | _ => ignore 1 p s

/-- A write of PRT_SC: flags clear, then the first of WPR, PR, DIS, RES, SUSP acts and the others count as ignored;
WPR together with PR is a warm reset. -/
def writeSc (p : Port) (h : Half) (v : Word) (s : State) : State :=
  let s := modHalf p h (clearSc v) s
  let rst : Bool := tst v 4 || tst v 5
  let n := b1 (tst v 4) + b1 (tst v 5) + b1 (tst v 6) + b1 (tst v 8) + b1 (tst v 7)
  let s := ignore (n - 1) p s
  if rst then reqReset p h (tst v 5) s
  else if tst v 6 then reqDisable p h s
  else if tst v 8 then reqResume p h s
  else if tst v 7 then reqSuspend p h s
  else s

def execPortReset (p : Port) (h : Half) (v : Word) (s : State) : Res :=
  .next (regWrite (scOff p h) (writeSc p h v) s)
def execWarmPortReset (p : Port) (h : Half) (v : Word) (s : State) : Res :=
  .next (regWrite (scOff p h) (writeSc p h v) s)
def execPortDisable (p : Port) (h : Half) (v : Word) (s : State) : Res :=
  .next (regWrite (scOff p h) (writeSc p h v) s)
def execPortSuspend (p : Port) (h : Half) (v : Word) (s : State) : Res :=
  .next (regWrite (scOff p h) (writeSc p h v) s)
def execPortResume (p : Port) (h : Half) (v : Word) (s : State) : Res :=
  .next (regWrite (scOff p h) (writeSc p h v) s)

/-! ### Ends of resets, suspends and resumes (Table 6-4) -/

/-- Lanes of a SuperSpeed rate (Table 5-1): 2 for the x2 rates. -/
def lanesOf (speed : Nat) : BitVec 2 := if speed = 1 || speed = 3 then 2 else 1

/-- A rate that PRT_CFG.SS_MAX and lane 1 allow (R181, Table 6-1). -/
def ssAllowed (s : State) (p : Nat) (speed : Nat) : Bool :=
  ssMax s p ≤ (match speed with | 3 => 0 | 2 => 1 | 1 => 2 | _ => 3) &&
    !((port s p).h0.lane1Fail && lanesOf speed = 2)

/-- A speed that half `h` can find at the end of a reset. -/
def speedAllowed (s : State) (p h speed : Nat) : Bool :=
  if h = 0 then speed ≤ 3 && ssAllowed s p speed else speed = 5 || speed = 6 || (speed = 4 && !hsOff s p)

/-- SPEED and LANES of a half. -/
def setSpeed (p h speed : Nat) (s : State) : State :=
  modHalf p h (fun x => { x with speed := BitVec.ofNat 3 speed, lanes := (if h = 0 then lanesOf speed else 0) }) s

def execPortResetComplete (p : Port) (h : Half) (speed : Fin 7) (s : State) : Res :=
  when s (inState s p h .resetting && speedAllowed s p h speed)
    (goHalf p h .enabled [.prc] 0x03 none (setSpeed p h speed s))

/-- A hot reset that misses its bound goes on as a warm reset; the others end DISABLED (Table 6-4). -/
def resetTimeout (p : Port) (h : Half) (s : State) : State :=
  if h = 0 && !(halfReg s p h).warm then bus p 0 .warmReset (modHalf p 0 (fun x => { x with warm := true }) s)
  else goHalf p h .disabled [.prc, .err] 0x04 none s

def execPortResetTimeout (p : Port) (h : Half) (s : State) : Res :=
  when s (inState s p h .resetting) (resetTimeout p h s)

/-- SUSPENDED; a Function Wake that came with the suspend resumes the half at once (R179). -/
def suspendEnd (p : Port) (h : Half) (s : State) : State :=
  let wake := (halfReg s p h).wakeWith
  let s := goHalf p h .suspended [.plc] 0x07 none s
  if wake then startResume p h false s else s

def execSuspendComplete (p : Port) (h : Half) (s : State) : Res :=
  when s (inState s p h .enabled && (halfReg s p h).suspending) (suspendEnd p h s)

/-- ENABLED again, with PORT_CHANGE and PORT_WAKE. -/
def resumeEnd (p : Port) (h : Half) (s : State) : State :=
  let x := halfReg s p h
  let s := goHalf p h .enabled [.plc] 0x08 none s
  portWake p h (directInsts s p h) x.rsHost x.rsUnit (x.rsUnit && x.fwake) false false s

def execResumeComplete (p : Port) (h : Half) (s : State) : Res :=
  when s (inState s p h .resuming) (resumeEnd p h s)

/-- The U3 exit of half 0 fails its bound. -/
def u3Timeout (p : Port) (s : State) : State :=
  let x := halfReg s p 0
  let is := directInsts s p 0 ++ wakeOwner s p 0 (x.rsUnit && x.fwake)
  let s := goHalf p 0 .disabled [.pec, .err] 0x06 (some (5, 2)) s
  portWake p 0 is x.rsHost x.rsUnit (x.rsUnit && x.fwake) false true s

def execU3ExitTimeout (p : Port) (s : State) : Res :=
  when s (inState s p 0 .resuming) (u3Timeout p s)

/-- A unit's wake: a resume, a second source of the one that runs (R178), or the exit from L1. -/
def unitWake (p : Port) (h : Half) (s : State) : State :=
  match (halfReg s p h).st with
  | .suspended => startResume p h false (modHalf p h (fun x => { x with fwake := false }) s)
  | .resuming => modHalf p h (fun x => raise .unit { x with rsUnit := true, fwake := false }) s
  | _ => bus p h .resume s

def execUnitWake (p : Port) (h : Half) (s : State) : Res :=
  when s (inState s p h .suspended || inState s p h .resuming ||
    (h = 1 && inState s p 1 .enabled && (halfReg s p 1).lstate = 2)) (unitWake p h s)

/-- A Function Wake notification (Table 6-3, R179): recorded; PORT_WAKE, at once or after the resume that follows the
suspend that runs. -/
def functionWake (p : Port) (a : BitVec 7) (s : State) : State :=
  let sus := (halfReg s p 0).suspending
  if sus then modHalf p 0 (fun x => raise .unit { x with wakeWith := true, fwake := true, wAddr := a }) s
  else
    portWake p 0 (directInsts s p 0) false true true false false
      (modHalf p 0 (fun x => raise .unit { x with fwake := true, wAddr := a }) s)

def execFunctionWakeNotification (p : Port) (a : BitVec 7) (s : State) : Res :=
  when s (inState s p 0 .enabled) (functionWake p a s)

/-! ### Connect, disconnect, failure (Table 6-3) -/

/-- Training ends at a rate; a unit that asks for Loopback in it takes the link there, with the port as the far end
(Table 6-1): the half has no unit ENABLED. PRESUMED (log 133). -/
def execSsTrainingComplete (p : Port) (speed : Fin 4) (loopback : Bool) (s : State) : Res :=
  when s (inState s p 0 .disconnected && (halfReg s p 0).lstate ≠ 4 && ssAllowed s p speed)
    (if loopback then modHalf p 0 (fun x => { x with lstate := 10, tries := 0 }) s
     else goHalf p 0 .enabled [.csc] 0x01 none (setSpeed p 0 speed s))

/-- Training has failed TRAIN_TRIES times: SS.Disabled, every failed attempt counted. -/
def trainFailed (p : Port) (s : State) : State :=
  let n := max 1 (trainTries s p - (halfReg s p 0).tries)
  let is := directInsts s p 0
  portChange p 0 is 1 0x0B 0 (modHalf p 0 (fun x => raise .err { x with
    lstate := 4, tries := 0, trainFail := x.trainFail + BitVec.ofNat 16 n }) s)

def execTrainingFailed (p : Port) (s : State) : Res :=
  when s (inState s p 0 .disconnected && (halfReg s p 0).lstate ≠ 4) (trainFailed p s)

/-- A Polling timeout: one failed attempt; Compliance mode with COMP_EN, SS.Disabled at the last attempt. -/
def pollingTimeout (p : Port) (s : State) : State :=
  if compEn s p then
    modHalf p 0 (fun x => { x with lstate := 9, tries := x.tries + 1, trainFail := x.trainFail + 1 }) s
  else if trainTries s p ≤ (halfReg s p 0).tries + 1 then trainFailed p s
  else modHalf p 0 (fun x => { x with lstate := 5, tries := x.tries + 1, trainFail := x.trainFail + 1 }) s

def execPollingTimeout (p : Port) (s : State) : Res :=
  when s (inState s p 0 .disconnected && (halfReg s p 0).lstate ≠ 4 && (halfReg s p 0).lstate ≠ 9)
    (pollingTimeout p s)

/-- A pull-up stable for 100 ms: DISABLED, SPEED 5 or 6. -/
def usb2Connect (p : Port) (low : Bool) (s : State) : State :=
  goHalf p 1 .disabled [.csc] 0x01 none
    (modHalf p 1 (fun x => { x with ccs := true, speed := if low then 6 else 5 }) s)

def execUsb2ConnectDebounce (p : Port) (low : Bool) (s : State) : Res :=
  when s (inState s p 1 .disconnected) (usb2Connect p low s)

/-- A disconnect. -/
def disconnect (p : Port) (h : Half) (s : State) : State :=
  match (halfReg s p h).st with
  | .poweredOff | .disconnected => s
  | .disabled => goHalf p h .disconnected [.csc] 0x02 none s
  | .resetting => goHalf p h .disconnected [.prc, .csc] 0x02 none s
  | .enabled | .suspended => goHalf p h .disconnected [.csc, .pec] 0x02 (some (5, 1)) s
  | .resuming =>
    goHalf p h .disconnected [.csc, .pec] 0x02 (some (5, 1)) (resumeWake p h (directInsts s p h) true false s)

def execDisconnectDetected (p : Port) (h : Half) (s : State) : Res :=
  when s (portUp s p && (halfReg s p h).st != .poweredOff && (halfReg s p h).st != .disconnected)
    (disconnect p h s)

/-- SS.Inactive, or a USB 2.0 port error; LINK_ERR counts it (Table 6-18). DEDUCED (log 51). -/
def linkFail (p : Port) (h : Half) (s : State) : State :=
  let s := modHalf p h (fun x => { x with linkErr := x.linkErr + 1 }) s
  let s := goHalf p h .disabled [.pec, .err] 0x06 (some (5, 2)) s
  if h = 0 then modHalf p 0 (fun x => { x with lstate := 6 }) s else s

def execLinkFailure (p : Port) (h : Half) (s : State) : Res :=
  when s (inState s p h .enabled) (linkFail p h s)

/-! ### Type-C and port power (R168–R171) -/

/-- PP written: Rp, the bound channel's permission, port power. DEDUCED (log 49). -/
def writePp (p : Port) (on : Bool) (s : State) : State :=
  if on = (port s p).pp then s
  else
    let s := modPort p (fun x => { x with pp := on }) s
    let s := if typeC s p then emit (.rp p on) s else s
    recheckPort p (portPower p false s)

/-- A write of PRT_TC. -/
def writeTc (p : Port) (v : Word) (s : State) : State :=
  writePp p (tst v 0) (modPort p (fun x => { x with
    tcChg := x.tcChg && !tst v 9, vbusChg := x.vbusChg && !tst v 10 }) s)

def execPortPowerWrite (p : Port) (v : Word) (s : State) : Res := .next (regWrite (prtBase p) (writeTc p v) s)

/-- The band of a CC line that reads `mv` millivolts, coded as CC1; between two bands it keeps the band it had (R168).
-/
def ccBand (old : BitVec 2) (mv : Nat) : BitVec 2 :=
  if mv < 750 then 2 else if 850 ≤ mv && mv ≤ 2450 then 1 else if 2600 < mv then 0 else old

/-- CC1 and CC2 are read: Rp is presented, and the port's logic runs (R168). DEDUCED (log 49). -/
def ccRead (s : State) (p : Nat) : Bool := portFused s p && (port s p).pp && typeC s p

def execCcLevelChange (p : Port) (mv1 mv2 : Nat) (s : State) : Res :=
  when s (portFused s p)
    (modPort p (fun x => { x with ccNow1 := ccBand x.ccNow1 mv1, ccNow2 := ccBand x.ccNow2 mv2 }) s)

/-- An accepted CC condition (Table 6-2): TC_CHG, TYPEC, and what it does to VBUS. -/
def acceptCc (p : Port) (s : State) : State :=
  let x := port s p
  let a := x.ccNow1
  let b := x.ccNow2
  let att : Bool := (a = 1) ≠ (b = 1)
  let flip : Bool := att && b = 1
  let acc : Bool := (a = 1 && b = 1) || (a = 2 && b = 2)
  let s := setPort p (raiseTc { x with cc1 := a, cc2 := b, attached := att, flip := flip, acc := acc }) s
  let s := event 0 0x24 [pack [(p.val, 0), (a.toNat, 8), (b.toNat, 10), (b1 att, 12), (b1 flip, 13), (b1 acc, 14)]] s
  recheckPort p (portPower p (x.attached && !att) s)

def execCcDebounceExpiry (p : Port) (s : State) : Res :=
  when s (ccRead s p && ((port s p).ccNow1 != (port s p).cc1 || (port s p).ccNow2 != (port s p).cc2))
    (acceptCc p s)

/-! ### Link power (R182–R184) -/

/-- U1_TO and U2_TO as they hold for the present idle period (R190). -/
def u1To (s : State) (p : Nat) : Nat := fld (halfReg s p 0).lpm 0 8
def u2To (s : State) (p : Nat) : Nat := fld (halfReg s p 0).lpm 8 8

/-- A burst of the half is in the engine, ready to send (R179). -/
def burstWaits (s : State) (p h : Nat) : Bool := !(engine s p h).descs.isEmpty

/-- The link enters U1 or U2. -/
def enterU (p : Port) (u2 : Bool) (s : State) : State :=
  modHalf p 0 (fun x => if u2 then { x with lstate := 2, u2Ent := x.u2Ent + 1 }
    else { x with lstate := 1, u1Ent := x.u1Ent + 1 }) s

/-- The link is in a state from which it can enter U1 or U2. -/
def awake (s : State) (p : Nat) (u2 : Bool) : Bool :=
  inState s p 0 .enabled && ((halfReg s p 0).lstate = 0 || (u2 && (halfReg s p 0).lstate = 1))

/-- A unit's request (R179, R182, R184): LXU, or the link state. -/
def unitLpm (p : Port) (u2 : Bool) (s : State) : State :=
  if (if u2 then u2To s p else u1To s p) = 0 || periodicOpen s p 0 || burstWaits s p 0 then bus p 0 .lxu s
  else enterU p u2 s

def execU1U2RequestRx (p : Port) (u2 : Bool) (s : State) : Res :=
  when s (awake s p u2) (unitLpm p u2 s)

/-- The port initiates U1 or U2 after its idle time: not with a timeout of 0x00 or 0xFF, nor while a periodic pipe of
the half is open. DEDUCED (log 52). -/
def execLinkIdleTimeout (p : Port) (u2 : Bool) (s : State) : Res :=
  let t := if u2 then u2To s p else u1To s p
  when s (awake s p u2 && t ≠ 0 && t ≠ 0xFF && !periodicOpen s p 0 && !burstWaits s p 0)
    (enterU p u2 (bus p 0 (.lgo (if u2 then 2 else 1)) s))

/-- The LPM transaction to a unit directly on the port (R183). DEDUCED (log 52). -/
def enterL1 (p : Port) (s : State) : State :=
  let c := (halfReg s p 1).lpm
  modHalf p 1 (fun x => { x with lstate := 2, u2Ent := x.u2Ent + 1 }) (bus p 1 (.lpm (fld c 24 4) (tst c 28)) s)

def execLpmIdleTimeout (p : Port) (s : State) : Res :=
  when s (inState s p 1 .enabled && (halfReg s p 1).lstate = 0 && fld (halfReg s p 1).lpm 16 8 ≠ 0 &&
    (port s p).units.any (fun kv => kv.2.half = 1 && kv.2.parent = 0) && !periodicOpen s p 1 && !burstWaits s p 1)
    (enterL1 p s)

/-- U0 or L0 is reached: the ITP that waited, then the packets that waited (R182, R183, R221). -/
def linkAwake (p : Port) (h : Half) (s : State) : State :=
  let x := halfReg s p h
  let s := modHalf p h (fun x => { x with
    lstate := 0, itpDue := false, txHeld := []
    recov := if h = 0 && x.lstate ≠ 8 then x.recov + 1 else x.recov }) s
  let s := if x.itpDue then bus p 0 (.itp ((ptime s p).num.toNat % 16384) (itpDelta s p)) s else s
  idleStart p h (x.txHeld.foldl (fun s k => bus p h k s) s)

def execLinkU0Reached (p : Port) (h : Half) (s : State) : Res :=
  when s (portUp s p && asleep s p h) (linkAwake p h s)

/-! ### Loss of lane 1 (R180) -/

/-- The first slot of a port and room whose admitted charge exceeds the periodic limit of the new rate. -/
def overfull (s : State) (p ix : Nat) : Option Nat :=
  let l := (loads s p ix).filter (fun e => e.2.2.2.isSome)
  (List.range (2 ^ l.foldl (fun m e => max m e.1) 0)).find? (fun k => perLimit (x1Speed (halfSpeed s p 0)) < slotLoad l k)

/-- The most recently opened periodic pipe due in a slot. -/
def lastOpened (s : State) (p ix slot : Nat) : Option Nat :=
  ((s.sched.pipes.filter (fun kv => periodic kv.2 && kv.2.port.val = p && pHalf kv.2 = 0 &&
      roomIx 0 kv.2.dirIn = ix && slot % 2 ^ kv.2.periodLog2 = kv.2.phase)).foldl
    (fun (b : Option (Nat × Nat)) kv => match b with
      | some (_, o) => if o < kv.2.opened then some (kv.1, kv.2.opened) else b
      | none => some (kv.1, kv.2.opened)) none).map Prod.fst

/-- Closes pipes until every slot fits; answers how many. -/
def fitLane1 (p ix : Nat) : Nat → State → State × Nat
  | 0, s => (s, 0)
  | n + 1, s =>
    match overfull s p ix with
    | none => (s, 0)
    | some slot =>
      match lastOpened s p ix slot with
      | none => (s, 0)
      | some k =>
        let r := fitLane1 p ix n (closePipes [k] true 5 2 s)
        (r.1, r.2 + 1)

/-- The link retrains at x1: bursts end, DGC, the x1 rate, the pipes that no longer fit, LANE_DEGRADE.
PRESUMED (log 50). -/
def lane1Loss (p : Port) (s : State) : State :=
  let s := (engine s p 0).descs.foldl (fun s d => finishBurst d.pipe
    (if !d.isOver then .lane else if d.withdrawn then .withdrawn else .normal) s) s
  let old := halfSpeed s p 0
  let v := x1Speed old
  let s := modHalf p 0 (fun x => raise .dgc { x with recov := x.recov + 1, linkErr := x.linkErr + 1 }) s
  let s := modPsched p (fun y => { y with oldSpeed := some (y.oldSpeed.getD old) }) (setSpeed p 0 v s)
  let a := fitLane1 p 0 s.sched.pipes.length s
  let b := fitLane1 p 1 a.1.sched.pipes.length a.1
  event 0 0x23 [pack [(p.val, 0), (1, 16), (v, 20)], wd (a.2 + b.2)] b.1

def execLane1Loss (p : Port) (s : State) : Res :=
  when s (inState s p 0 .enabled && (halfReg s p 0).lanes = 2) (lane1Loss p s)

end Sys2Proof.Machine
end

