-- ==== Sys2Proof/Machine/Timebase.lean ====
section
/-! DEFINITION. The bus-interval timebase (file 08): the master interval, the lock to AREF, and the adjustment
requests of units. -/

namespace Sys2Proof.Machine

open Sys2Proof

/-! ### The master interval (R219, R223) -/

def masterTick (s : State) : State := { s with iso := { s.iso with mic := s.iso.mic + 1, pos := 0 } }

def execMasterIntervalTick (s : State) : Res := when s s.iso.running (masterTick s)

/-- A read of ISO_MIC takes the snapshot of ISO_MIC and ISO_MPOS. -/
def micRead (s : State) : State :=
  if !answers s 0 then answerTlp (.unsupported 0) s
  else answerTlp (.readData s.iso.mic) { ungate s with iso := { s.iso with snap := s.iso.pos } }

def execIsoMicRead (s : State) : Res := .next (micRead s)

/-! ### Lock states (R225, R227, Table 8-3) -/

def isoCfg (s : State) : Word := cfg s 0x300000
def lockEn (s : State) : Bool := tst (isoCfg s) 0
/-- AREF present and in range (ISO_ST.AREF_OK). -/
def arefOk (s : State) : Bool := s.iso.arefPresent && s.iso.arefIn

/-- A row of Table 8-3 with a TIMEBASE event: LOCK_CHG on a change of state, the anchor invalid outside LOCKED. -/
def lockMove (dst : LockSt) (cause : Nat) (g : Timebase → Timebase) (s : State) : State :=
  let old := s.iso.lock
  let t := g { s.iso with lock := dst, anchValid := s.iso.anchValid && dst = .locked }
  timebaseEvent cause none old { s with iso := if old = dst then t else raiseLock t }

def addLoss (t : Timebase) : Timebase := { t with losses := t.losses + 1 }

/-- The end of HOLDOVER. -/
def holdEnd (s : State) : State := lockMove .free 0x03 id s

/-- HOLD_MS 0 ends holdover at once. -/
def enterHoldover (s : State) : State :=
  let s := lockMove .holdover 0x05 addLoss s
  if fld (isoCfg s) 8 12 = 0 then holdEnd s else s

/-- AREF is lost or goes out of range. -/
def arefBad (s : State) : State :=
  match s.iso.lock with
  | .free | .holdover => s
  | .acquiring => lockMove .free 0x06 id s
  | .locked => enterHoldover s

/-- AREF is present and in range again. -/
def arefGood (s : State) : State :=
  match s.iso.lock with
  | .holdover => lockMove .acquiring 0x01 id s
  | _ => s

/-- The classification of R225 for a deviation in 0.01 ppm. -/
def inRange (dev : BitVec 16) (old : Bool) : Bool :=
  if dev.toInt.natAbs ≤ 10000 then true else if 12000 < dev.toInt.natAbs then false else old

/-- A measured deviation, and what a change of AREF_OK does. -/
def measure (dev : BitVec 16) (s : State) : State :=
  let was := arefOk s
  let s := { s with iso := { s.iso with arefPresent := true, afreq := dev, arefIn := inRange dev s.iso.arefIn } }
  if was = arefOk s then s else if was then arefBad s else arefGood s

def execLockAcquired (phase : BitVec 16) (s : State) : Res :=
  when s (s.iso.lock = .acquiring && arefOk s)
    (lockMove .locked 0x02 (fun t => { t with anchValid := true, anchN := t.mic + 1, anchPh := phase }) s)

def execAcquisitionTimeout (s : State) : Res :=
  when s (s.iso.lock = .acquiring) (lockMove .free 0x03 raiseRange s)

def execArefPhaseError (s : State) : Res :=
  when s (s.iso.lock = .locked) (lockMove .acquiring 0x04 addLoss s)

/-- No edge for four periods of AREF. -/
def arefLost (s : State) : State :=
  let was := arefOk s
  let s := { s with iso := { s.iso with arefPresent := false } }
  if was then arefBad s else s

def execArefLost (s : State) : Res := when s s.iso.arefPresent (arefLost s)

def execArefRangeChange (dev : BitVec 16) (s : State) : Res :=
  when s s.iso.arefPresent (measure dev s)

def execArefReturn (dev : BitVec 16) (s : State) : Res :=
  when s (!s.iso.arefPresent) (measure dev s)

def execHoldoverTimeout (s : State) : Res := when s (s.iso.lock = .holdover) (holdEnd s)

/-- The range is judged against a new SRC from its commit on (Table 8-3). The frequencies of Table 8-2 lie further apart
than any range, so an AREF in range for the old SRC is out of it; of another the first class is a free value. While BIT
follows AREF the next measurement judges it. DEDUCED (log 98). -/
def rejudge (old : Word) (s : State) : State :=
  let v := takeFree s
  if fld old 1 3 = fld (isoCfg s) 1 3 || s.iso.lock = .acquiring || s.iso.lock = .locked then s
  else { v.2 with iso := { v.2.iso with arefIn := !s.iso.arefIn && v.1.getLsbD 0 } }

/-- A commit of ISO_CFG (Table 8-3): `old` is the register before it. DEDUCED (log 98). -/
def commitLock (old : Word) (s : State) : State :=
  let s := rejudge old s
  let src : Bool := fld old 1 4 ≠ fld (isoCfg s) 1 4
  match s.iso.lock with
  | .free =>
    if !lockEn s then s
    else if arefOk s then lockMove .acquiring 0x01 id s
    else lockMove .free 0x06 raiseRange s
  | .acquiring =>
    if !lockEn s then lockMove .free 0x07 id s
    else if src then lockMove .acquiring 0x01 id s else s
  | .locked =>
    if !lockEn s then lockMove .free 0x07 id s
    else if src then lockMove .acquiring 0x01 id s else s
  | .holdover =>
    if !lockEn s then lockMove .free 0x07 id s
    else if src && arefOk s then lockMove .acquiring 0x01 id s
    else if fld (isoCfg s) 8 12 = 0 then holdEnd s
    else s

/-! ### Adjustment requests (R229, R231, R232) -/

def isoPcfg (s : State) (p : Nat) : Word := cfg s (0x300100 + p * 0x10)

/-- The clamp of R229 and R231: at most 64 sixteenths. -/
def trimLimit (s : State) (p : Nat) : Int := min (fld (isoPcfg s p) 8 7) 64

def adjust (p : Port) (a : BitVec 7) (v : Int) (s : State) : State :=
  if !tst (isoPcfg s p) 0 || a.toNat ≠ fld (isoPcfg s p) 1 7 then
    modPtime p (fun t => { t with adjDrop := t.adjDrop + 1 }) s
  else
    let l := trimLimit s p
    let first := (ptime s p).mode ≠ 1
    let s := modPtime p (fun t => { t with
      target := max (-l) (min l v), adjRx := t.adjRx + 1, mode := 1, since := if first then 0 else t.since }) s
    if first then timebaseEvent 0x08 (some p) s.iso.lock s else s

def execBusIntervalAdjustment (p : Port) (a : BitVec 7) (v : Int) (s : State) : Res :=
  when s (inState s p 0 .enabled) (adjust p a v (ungate s))

/-- A commit of ISO_PCFG[p]: a port leaves MODE 1 when ADJ_EN is 0 or ADDR has changed (R232). -/
def commitPcfg (old : Word) (p : Nat) (s : State) : State :=
  if !tst (isoPcfg s p) 0 || fld old 1 7 ≠ fld (isoPcfg s p) 1 7 then leaveMode1 p s else s

end Sys2Proof.Machine
end

