-- ==== Sys2Proof/Machine/Commands.lean ====
section
/-! DEFINITION. The command processor (R316–R321): which packet it looks at, the checks that every command passes, the
replies; the queue and unit commands of Table 12-3. -/

namespace Sys2Proof.Machine

open Sys2Proof

/-! ### The command at hand (R319) -/

/-- Commands in progress: CMD_STAT.INPROG. -/
def inProgress (s : State) : Nat :=
  match queue s 0 with
  | some x => (x.ents.filter (fun e => e.st = .attached)).length
  | none => 0

/-- The oldest entry of queue 0 that is neither accepted nor refused. DEDUCED (log 65). -/
def nextCommand (s : State) : Option Ent :=
  match queue s 0 with
  | some x =>
    if x.st = .enabled || x.st = .stopped then
      x.ents.find? (fun e => e.st = .reading || e.st = .fetched)
    else none
  | none => none

/-- Firmware looks at this packet now: it runs, is not in the activation pause, instance 0 is not quiesced (R40), and
fewer than 64 commands are in progress (R319). DEDUCED (log 65). -/
def cmdReady (s : State) (c : Packet) : Bool :=
  (s.boot.fwReady || s.boot.recovery) && !s.cmd.paused && (s.pm.st = .run || s.pm.st = .idle) && !quiet s 0 &&
  inProgress s < 64 &&
  match nextCommand s with
  | some e => e.st = .fetched && e.idx = c.index && e.dw = c.dw
  | none => false

/-! ### Fields, checks, replies -/

def cOp (c : Packet) : Nat := fld c.dw[0] 0 8
def cInst (c : Packet) : Nat := fld c.dw[1] 0 8
/-- A 64-bit address in two dwords. -/
def addr64 (lo hi : Word) : Nat := lo.toNat + hi.toNat * 2 ^ 32

/-- Statuses of Table 4-7 that replies carry. -/
def stNoBandwidth : Nat := 0x0E
def stBusy : Nat := 0x0F
def stInvalid : Nat := 0x10

/-- A check of a command: it fails with a status and a DETAIL (Table 12-2). -/
abbrev Check := Bool × Nat × Nat

def inval (bad : Bool) (detail : Nat) : Check := (bad, stInvalid, detail)
def busy (bad : Bool) (detail : Nat) : Check := (bad, stBusy, detail)
def noBand (bad : Bool) (detail : Nat) : Check := (bad, stNoBandwidth, detail)

/-- The first failing check (R318). DEDUCED (log 64). -/
def firstBad (l : List Check) : Option (Nat × Nat) := (l.find? (fun c => c.1)).map Prod.snd

/-- A refusal is the command's completion (R319). -/
def refuse (c : Packet) (r : Nat × Nat) (s : State) : State :=
  reply c.index r.1 r.2 0 0 0 { s with cmd := { s.cmd with refused := s.cmd.refused + 1 } }

/-- Acceptance. -/
def accept (c : Packet) (s : State) : State := modEnt 0 c.index (fun e => { e with st := .attached, started := true }) s

/-- The reply OK. -/
def ok (c : Packet) (a b d : Word) (s : State) : State := reply c.index 0 0 a b d s

/-- Reserved bits of DW0, DW1 and, by their masks, of DW2–DW11; a dword that a row does not name is reserved.
DEDUCED (log 60). -/
def reservedSet (c : Packet) (masks : List Word) : Bool :=
  c.dw[0] &&& 0xFE00 ≠ 0 || c.dw[1] &&& 0xFFFFFF00 ≠ 0 ||
  (List.range 10).any (fun j => c.dw.toList.getD (j + 2) 0 &&& ~~~(masks.getD j 0) ≠ 0)

/-- The checks that every command passes, in the order of R318: the opcode (in recovery, R411), reserved bits,
INSTANCE (R317, Table 11-4). DEDUCED (log 60). -/
def commonChecks (s : State) (c : Packet) (masks : List Word) (tenants inRecovery : Bool) : List Check :=
  let i := cInst c
  [inval (s.boot.recovery && !inRecovery) 0x01,
   inval (reservedSet c masks) 0x04,
   inval (i ≠ 0 && (!tenants || maxInst s < i || (inst s i).st = .absent)) 0x02,
   busy (i ≠ 0 && cOp c ≠ 0xA8 && (inst s i).st = .resetting) 0x07]

/-- A command: refused by its first failing check, else accepted with its effect. -/
def command (op : Nat) (masks : List Word) (tenants inRecovery : Bool) (checks : State → List Check)
    (f : State → State) (c : Packet) (s : State) : Res :=
  when s (cmdReady s c && cOp c = op)
    (let t := ungate s
     match firstBad (commonChecks t c masks tenants inRecovery ++ checks t) with
     | some r => refuse c r t
     | none => f (accept c t))

/-- The opcodes of Tables 12-3 to 12-6. -/
def opcodes : List Nat :=
  [0x80, 0x81, 0x82, 0x83, 0x88, 0x89, 0x8A, 0x90, 0x91, 0x92, 0x93, 0x94, 0x95, 0xA0, 0xA1, 0xA2, 0xA8, 0xA9, 0xB0,
   0xB1, 0xB2, 0xB3, 0xB8, 0xB9, 0xBA, 0xC0, 0xC8, 0xD0, 0xD1, 0xD2, 0xE0, 0xE1]

def execUndefinedCommand (c : Packet) (s : State) : Res :=
  when s (cmdReady s c && !opcodes.contains (cOp c)) (refuse c (stInvalid, 0x01) (ungate s))

/-! ### QUEUE_CREATE, QUEUE_DELETE, QUEUE_ENABLE, QUEUE_DISABLE -/

/-- The queue as QUEUE_CREATE describes it (Table 12-3). -/
def newQueue (c : Packet) : Queue :=
  { isEvent := tst c.dw[2] 21, owner := cInst c, localNo := fld c.dw[2] 24 6, vector := fld c.dw[3] 16 8,
    log2 := fld c.dw[2] 16 5, burst := fld c.dw[3] 0 7, weight := fld c.dw[3] 8 8,
    ring := addr64 c.dw[4] c.dw[5], cell := addr64 c.dw[6] c.dw[7] }

def cQueue (c : Packet) : Nat := fld c.dw[2] 0 12

def createChecks (c : Packet) (s : State) : List Check :=
  let x := newQueue c
  let i := x.owner
  [inval (cQueue c = 0 || x.log2 < 4 || 16 < x.log2 || (i = 0 && x.localNo ≠ 0) ||
      (!x.isEvent && (x.burst = 0 || 64 < x.burst || x.weight = 0)) || (i ≠ 0 && 15 < x.vector) ||
      x.ring % 64 ≠ 0 || x.cell % 16 ≠ 0) 0x04,
   inval ((queue s (cQueue c)).isSome || (localQueue s i x.localNo).isSome ||
      (x.isEvent && (eventQueue s i).isSome)) 0x06,
   noBand (i ≠ 0 && fld (cfgLim s i) 0 7 ≤ (s.qe.queues.filter (fun kv => kv.2.owner = i)).length) 0x08]

/-- R69: HEAD and FETCH 0, DW2 and DW3 of the cell written. -/
def createQueue (c : Packet) (s : State) : State :=
  let q := cQueue c
  ok c 0 0 0 (writeState q (writeHead q (setQueue q { newQueue c with stDirty := quiet s (cInst c) } s)))

def execQueueCreate (c : Packet) (s : State) : Res :=
  command 0x80 [0x3F3F0FFF, 0x00FFFF7F, 0xFFFFFFFF, 0xFFFFFFFF, 0xFFFFFFFF, 0xFFFFFFFF] true false
    (createChecks c) (createQueue c) c s

/-- The named queue: not queue 0, existing, of the named instance (R295). -/
def queueChecks (c : Packet) (s : State) : List Check :=
  [inval (cQueue c = 0 || (queue s (cQueue c)).isNone) 0x06,
   inval (match queue s (cQueue c) with | some x => x.owner ≠ cInst c | none => false) 0x03]

def qIn (s : State) (c : Packet) (st : QState) : Bool :=
  match queue s (cQueue c) with
  | some x => x.st = st
  | none => false

def execQueueDelete (c : Packet) (s : State) : Res :=
  command 0x81 [0xFFF] true false
    (fun s => queueChecks c s ++ [busy (!qIn s c .disabled) 0x07])
    (fun s => ok c 0 0 0 (delQueue (cQueue c) s)) c s

def execQueueEnable (c : Packet) (s : State) : Res :=
  command 0x82 [0xFFF] true false
    (fun s => queueChecks c s ++ [inval (qIn s c .enabled || qIn s c .stopped) 0x06, busy (qIn s c .draining) 0x07])
    (fun s =>
      let s := enableQueue (Fin.ofNat 4096 (cQueue c)) s
      ok c (match queue s (cQueue c) with | some x => x.fetch | none => 0) 0 0 s) c s

/-- QUEUE_DISABLE of a queue that is DISABLED replies at once; otherwise the reply is step 5 of R84. -/
def disableCmd (c : Packet) (s : State) : State :=
  match queue s (cQueue c) with
  | some x =>
    if x.st = .disabled then ok c x.head (wd x.gen.toNat) 0 s
    else disableQueue (Fin.ofNat 4096 (cQueue c)) (some c.index) (drainEntries (cQueue c)) s
  | none => s

def execQueueDisable (c : Packet) (s : State) : Res :=
  command 0x83 [0xFFF] true false
    (fun s => queueChecks c s ++ [busy (qIn s c .draining) 0x07]) (disableCmd c) c s

/-! ### UNIT_ADDRESS (R166, R167, R322) -/

def uPort (c : Packet) : Port := Fin.ofNat 8 (fld c.dw[2] 0 3)
def uHalf (c : Packet) : Half := if tst c.dw[2] 8 then 1 else 0
def uAddr (c : Packet) : Nat := fld c.dw[2] 16 7
def uParent (c : Packet) : Nat := fld c.dw[3] 0 7

/-- In use or reserved (R166). -/
def addrTaken (s : State) (p a : Nat) : Bool := (unitAt s p a).isSome || (port s p).reserved.contains a

/-- The address a UNIT_ADDRESS takes. -/
def takenAddr (s : State) (c : Packet) : Option Nat :=
  if uAddr c ≠ 0 then (if addrTaken s (uPort c) (uAddr c) then none else some (uAddr c))
  else ((List.range 127).map (· + 1)).find? (fun a => !addrTaken s (uPort c) a)

/-- DEDUCED (log 64). -/
def addressChecks (c : Packet) (s : State) : List Check :=
  let p := uPort c
  let h := uHalf c
  [inval (!portFused s p) 0x05,
   inval (fld c.dw[3] 16 3 = 7) 0x04,
   busy (engine s p h).setAddr.isSome 0x10,
   noBand (uAddr c = 0 && (takenAddr s c).isNone) 0x0F,
   inval (takenAddr s c).isNone 0x06,
   inval (!inState s p h .enabled) 0x06,
   inval (uParent c ≠ 0 && (match unitAt s p (uParent c) with | some u => u.half ≠ h | none => true)) 0x06]

/-- Acceptance reserves the address; SET_ADDRESS waits for its dispatch. -/
def startAddress (c : Packet) (s : State) : State :=
  match takenAddr s c with
  | some a =>
    modEngine (uPort c) (uHalf c) (fun e => { e with setAddr := some (c.index, a), setSent := false })
      (modPort (uPort c) (fun x => { x with reserved := x.reserved ++ [a] }) s)
  | none => s

def execUnitAddress (c : Packet) (s : State) : Res :=
  command 0x88 [0x00FF0107, 0x03FFFF7F, 0x000FFFFF, 0xFF] false false
    (addressChecks c) (startAddress c) c s

/-- The topology record of R266, and the unit's owner (R322). -/
def newUnit (h : Half) (d : Slot) : Unit :=
  { half := h, parent := fld d[3] 0 7, hubPort := fld d[3] 8 8, route := fld d[4] 0 20, isHub := tst d[2] 23,
    inst := 0, speed := fld d[3] 16 3 }

/-- Status of the SET_ADDRESS transfer (Table 4-7). DEDUCED (log 62). -/
def setAddrStatus : SetAddrResult → Nat
  | .ok => 0 | .stall _ => 2 | .error _ => 4 | .unitGone => 5

/-- The set-address recovery time has passed, or the transfer has failed (R166, R322). -/
def addressEnd (p : Port) (h : Half) (i : Word) (a : Nat) (r : SetAddrResult) (s : State) : State :=
  let s := modEngine p h (fun e => { e with setAddr := none, setSent := false }) s
  let s := modPort p (fun x => { x with reserved := x.reserved.filter (· ≠ a) }) s
  match r, ent s 0 i with
  | .ok, some e =>
    reply i 0 0 (wd a) 0 0 (modPort p (fun x => { x with units := insert x.units a (newUnit h e.dw) }) s)
  | .ok, none => s
  | r, _ => reply i (setAddrStatus r) 0 0 0 0 s

/-- The transfer can end OK only after its dispatch, on a half that is ENABLED. -/
def execSetAddressRecoveryEnd (p : Port) (h : Half) (r : SetAddrResult) (s : State) : Res :=
  match (engine s p h).setAddr with
  | some (i, a) =>
    when s
      (match r with
        | .unitGone => !inState s p h .enabled
        | _ => (engine s p h).setSent && inState s p h .enabled)
      (addressEnd p h i a r (ungate s))
  | none => noSuch s

/-! ### UNIT_RELEASE, UNIT_ASSIGN -/

/-- A pipe of the unit is open. -/
def unitPiped (s : State) (p a : Nat) (u : Unit) : Bool :=
  s.sched.pipes.any (fun kv => kv.2.port.val = p && kv.2.addr = a && pHalf kv.2 = u.half.val)

/-- DEDUCED (log 62). -/
def releaseChecks (c : Packet) (s : State) : List Check :=
  let p := uPort c
  [inval (!portFused s p) 0x05,
   inval (unitAt s p (uAddr c)).isNone 0x06,
   busy (match unitAt s p (uAddr c) with
     | some u => unitPiped s p (uAddr c) u || (port s p).units.any (fun kv => kv.2.parent = uAddr c)
     | none => false) 0x07]

def execUnitRelease (c : Packet) (s : State) : Res :=
  command 0x89 [0x007F0007] false false (releaseChecks c)
    (fun s => ok c 0 0 0 (freeUnit (uPort c) (uAddr c) s)) c s

def uOwner (c : Packet) : Nat := fld c.dw[3] 0 8

def assignChecks (c : Packet) (s : State) : List Check :=
  let p := uPort c
  [inval (!portFused s p) 0x05,
   inval (unitAt s p (uAddr c)).isNone 0x06] ++
  match unitAt s p (uAddr c) with
  | some u =>
    [inval (u.inst ≠ cInst c) 0x03, inval u.isHub 0x06, busy (unitPiped s p (uAddr c) u) 0x07,
     inval (uOwner c ≠ 0 && (maxInst s < uOwner c || (inst s (uOwner c)).st = .absent)) 0x02]
  | none => []

def assignUnit (c : Packet) (s : State) : State :=
  modPort (uPort c) (fun x => { x with
    units := x.units.map (fun kv => if kv.1 = uAddr c then (kv.1, { kv.2 with inst := uOwner c }) else kv) }) s

def execUnitAssign (c : Packet) (s : State) : Res :=
  command 0x8A [0x007F0007, 0xFF] true false (assignChecks c)
    (fun s => ok c 0 0 0 (assignUnit c s)) c s

end Sys2Proof.Machine
end

