-- ==== Sys2Proof/Machine/PipeCmds.lean ====
section
/-! DEFINITION. The pipe commands of Table 12-5 (R132–R135, R147, R148, R157, R297, R323–R326). -/

namespace Sys2Proof.Machine

open Sys2Proof

/-! ### PIPE_OPEN (Table 12-4) -/

def cPipe (c : Packet) : Nat := fld c.dw[2] 0 20
def oPort (c : Packet) : Port := Fin.ofNat 8 (fld c.dw[3] 4 3)
def oAddr (c : Packet) : Nat := fld c.dw[3] 7 7
def oSpeed (c : Packet) : Nat := fld c.dw[3] 18 3
def oLog2 (c : Packet) : Nat := fld c.dw[4] 19 4
def oNamed (c : Packet) : Bool := tst c.dw[3] 30
def oPhase (c : Packet) : Nat := fld c.dw[6] 0 15
def oStreams (c : Packet) : Nat := fld c.dw[6] 16 16
/-- Identifiers that the open takes (R324). -/
def oCount (c : Packet) : Nat := if fld c.dw[3] 0 3 = 2 then oStreams c + 1 else 1

/-- KIND of Table 12-4; 3, 6 and 7 are refused. -/
def oKind (c : Packet) : Option PKind :=
  match fld c.dw[3] 0 3 with
  | 0 => some .control | 1 => some .bulk | 2 => some .streamEp | 4 => some .interrupt | 5 => some .iso | _ => none

/-- The context that the fields of Table 12-4 describe (R323), PHASE and OFFSET apart. -/
def oPipe (c : Packet) (k : PKind) : Pipe :=
  { kind := k, dirIn := tst c.dw[3] 3, inst := cInst c, port := oPort c, addr := oAddr c, ep := fld c.dw[3] 14 4,
    speed := oSpeed c, group := fld c.dw[3] 21 4, maxBurst := fld c.dw[3] 25 4, split := tst c.dw[3] 29,
    mps := fld c.dw[4] 0 11, pages := fld c.dw[4] 11 8, periodLog2 := oLog2 c, admitBytes := fld c.dw[5] 0 20,
    route := fld c.dw[7] 0 20, ttHub := fld c.dw[7] 20 7, ttPort := fld c.dw[8] 0 8,
    link := if k = .streamEp then cPipe c + 1 else 0, streams := oStreams c }

/-- Full and low speed. -/
def slow (c : Packet) : Bool := oSpeed c = 5 || oSpeed c = 6

/-- The fields outside Table 12-4 (R325). -/
def openRanges (c : Packet) : Bool :=
  match oKind c with
  | none => true
  | some k =>
    let x := oPipe c k
    let per := periodic x
    (k = .control && x.dirIn) || (x.split && !slow c) || 1024 < x.mps || x.pages < 2 ||
    (per && slow c && x.periodLog2 < 3) ||
    (per && oNamed c && (2 ^ x.periodLog2 ≤ oPhase c || (slow c && oPhase c % 8 ≠ 0))) ||
    (if k = .streamEp then oStreams c = 0 || 65533 < oStreams c else oStreams c ≠ 0) ||
    (per && x.mps = 0 && x.admitBytes ≠ 0)

/-- A periodic pipe at a phase, with its place in its translator's frame. -/
def atPhase (s : State) (x : Pipe) (f : Nat) : Pipe :=
  let x := { x with phase := f }
  if periodic x && x.split then { x with ttPos := ttPlace s x } else x

/-- PHASE: named, or chosen under R148. -/
def openPhase (c : Packet) (x : Pipe) (s : State) : Nat :=
  if !periodic x then 0
  else if oNamed c then oPhase c
  else choosePhase (fun f => phaseLoad (loads s x.port (roomIx (pHalf x) x.dirIn)) x.periodLog2 (dueSlot (atPhase s x f)))
    x.periodLog2 (if slow c then 8 else 1)

/-- OFFSET of a pipe at its open (R148): the place of a split pipe's transaction in its microframe; 0 for SuperSpeed.
For a high-speed pipe, and for a full- or low-speed one directly on the port, the spec gives none and the model takes
0. PRESUMED (log 44); DESIGN CHOICE (log 142). -/
def openOffset (x : Pipe) : Nat := if periodic x && x.split then x.ttPos % 188 * 15360 / 188 else 0

/-- The pipe as it is opened, with PHASE and OFFSET. -/
def opened (c : Packet) (k : PKind) (s : State) : Pipe :=
  let x := oPipe c k
  let x := atPhase s x (openPhase c x s)
  { x with offset := openOffset x }

/-- R297: the instance's own share of every slot in which the pipe is due. -/
def withinShare (s : State) (x : Pipe) : Bool :=
  let ix := roomIx (pHalf x) x.dirIn
  let mine := (loads s x.port ix).filter (fun l => l.2.2.2 = some x.inst)
  let lim := admitLimit s x.port (pHalf x) * min 100 (fld (cfgLim s x.inst) 8 7) / 100
  x.inst = 0 || (slotCharges x).all (fun c => phaseLoad mine x.periodLog2 c.1 + c.2 ≤ lim)

/-- The unit at PORT and ADDRESS. -/
def openUnit (s : State) (c : Packet) : Option Unit := unitAt s (oPort c) (oAddr c)

def openChecks (c : Packet) (s : State) : List Check :=
  let n := cPipe c
  let k := (oKind c).getD .bulk
  let x := opened c k s
  let h := pHalf x
  [inval (pipeCap s < n + oCount c || !portFused s (oPort c)) 0x05,
   inval (oAddr c = 0 || oSpeed c = 7) 0x04,
   inval (s.sched.pipes.any (fun kv => n ≤ kv.1 && kv.1 < n + oCount c) ||
     (match openUnit s c with | some u => u.half.val ≠ h | none => true)) 0x06,
   inval (openRanges c) 0x04,
   inval ((match openUnit s c with | some u => u.inst ≠ cInst c | none => false) ||
     (!periodic x && !tst (cfgElim s (cInst c)) (16 + x.group))) 0x03,
   busy (s.sump.origins.any (fun kv => kv.2.mode = .held && covers s kv.2 (oPort c) h (oAddr c))) 0x07,
   noBand (cInst c ≠ 0 && cfgPlim s (cInst c) < (pipesWhere s (fun p => p.inst = cInst c)).length + oCount c) 0x08,
   noBand (periodic x && (!admits s n x || !withinShare s x)) 0x09]

/-- Writes the contexts: the pipe's own, or the endpoint's and its streams' (R324). -/
def openPipes (n : Nat) (x : Pipe) (s : State) : State :=
  let st := s.sched.stamp
  let s := { s with sched := { s.sched with stamp := st + 1 } }
  let x := { x with placed := st, opened := st }
  let s := setPipe n x s
  if x.kind = .streamEp then
    (List.range x.streams).foldl (fun s i =>
      setPipe (n + 1 + i) { x with kind := .stream, link := n, streams := i + 1 } s) s
  else if x.kind = .iso then needCtx n s
  else s

def openPipe (c : Packet) (s : State) : State :=
  let x := opened c ((oKind c).getD .bulk) s
  ok c (wd x.phase) (if periodic x then wd (bytesCharge x x.admitBytes) else 0) 0 (ltrUpdate (openPipes (cPipe c) x s))

def execPipeOpen (c : Packet) (s : State) : Res :=
  command 0x90 [0x000FFFFF, 0x7FFFFFFF, 0x007FFFFF, 0x000FFFFF, 0xFFFF7FFF, 0x07FFFFFF, 0xFF] true false
    (openChecks c) (openPipe c) c s

/-! ### PIPE_CLOSE, PIPE_STOP, PIPE_START, PIPE_RESET (Table 5-2, R135) -/

/-- Identifier, existence and owner (R4, Table 5-2, R295). -/
def pipeChecks (c : Packet) (s : State) : List Check :=
  [inval (fusedPipes s ≤ cPipe c) 0x05,
   inval (pipe s (cPipe c)).isNone 0x06,
   inval (match pipe s (cPipe c) with | some x => x.inst ≠ cInst c | none => false) 0x03]

/-- The pipes that a command acts on: a stream endpoint's streams, or the pipe. DEDUCED (log 61). -/
def actsOn (s : State) (n : Nat) : List Nat :=
  match pipe s n with
  | some x => if x.kind = .streamEp then (List.range x.streams).map (fun i => x.link + i) else [n]
  | none => []

/-- Some pipe that the command acts on is in one of the states; a command that one of its streams refuses changes
nothing (R318). DEDUCED (log 61). -/
def someIn (s : State) (c : Packet) (f : PState → Bool) : Bool :=
  (cPipe c :: actsOn s (cPipe c)).any (fun n => match pipe s n with
    | some x => (x.kind != .streamEp || x.state = .held || x.state = .closing) && f x.state
    | none => false)

/-- Closes one pipe (Table 5-2): ACTIVE waits for the end of its packet. DEDUCED (log 108). -/
def closeCmd (idx : Word) (s : State) (n : Nat) : State :=
  match pipe s n with
  | some x =>
    let ab : Cpl := Cpl.atPort { status := 7, errinfo := 3 } s x.port
    let part : Cpl := Cpl.atPort { status := 8, errinfo := 3 } s x.port
    let s := setPipe n { x with cmds := x.cmds ++ [idx] } s
    match x.state with
    | .active =>
      if (descOf s n).isSome || x.splitOut then
        withdrawUnsent n (modPipe n (fun y => { y with state := .closing, stopping := false }) s)
      else closePipe n false part ab s
    | .parked | .stopped => closePipe n false part ab s
    | _ => closePipe n false ab ab s
  | none => s

/-- Closes a pipe, or an endpoint with all its streams. -/
def closeAll (c : Packet) (s : State) : State :=
  let n := cPipe c
  match pipe s n with
  | some x =>
    if x.kind = .streamEp then
      let s := leaveHeld n s
      let s := setPipe n { x with state := .closing, cmds := x.cmds ++ [c.index] } s
      let s := (actsOn s n).foldl (closeCmd c.index) s
      let s := modPipe n (fun y => { y with cmds := y.cmds.filter (· ≠ c.index) }) s
      if s.sched.pipes.any (fun kv => kv.2.cmds.contains c.index) then s else ok c 0 0 0 s
    else closeCmd c.index s n
  | none => s

def execPipeClose (c : Packet) (s : State) : Res :=
  command 0x91 [0x000FFFFF] true false
    (fun s => pipeChecks c s ++
      [inval (match pipe s (cPipe c) with | some x => x.kind = .stream | none => false) 0x06,
       busy (someIn s c (· = .closing)) 0x07])
    (closeAll c) c s

/-- Stops one pipe. DESIGN CHOICE (log 107). -/
def stopOne (idx : Word) (s : State) (n : Nat) : State :=
  match pipe s n with
  | some x =>
    match x.state with
    | .active => setPipe n { x with stopping := true, cmds := x.cmds ++ [idx], stoppedAt := some (ptime s x.port).num } s
    | .idle | .ready | .parked =>
      let now := some (ptime s x.port).num
      modPipe n (fun y => { y with
        state := .stopped, block := 0, rdyLatch := y.rdyLatch || x.state = .ready, stoppedAt := now }) (unlink n s)
    | _ => s
  | none => s

/-- Starts one STOPPED pipe (R135). -/
def startOne (s : State) (n : Nat) : State :=
  match pipe s n with
  | some x =>
    if x.state != .stopped then s
    else
      let y := { x with rdyLatch := false, erdyPend := false }
      if x.waitErdy && !x.erdyPend then setPipe n { y with state := .parked } s
      else if x.ents.isEmpty then setPipe n { y with state := .idle, waitErdy := false } s
      else startHeads n (link n false (setPipe n { y with state := .ready, waitErdy := false } s))
  | none => s

/-- Resets one HALTED pipe: SEQ 0. -/
def resetOne (s : State) (n : Nat) : State :=
  match pipe s n with
  | some x =>
    if x.state != .halted then s
    else if x.ents.isEmpty then setPipe n { x with state := .idle, seq := 0, errs := 0 } s
    else startHeads n (link n false (setPipe n { x with state := .ready, seq := 0, errs := 0 } s))
  | none => s

/-- The reply with STATE after; a stop of an ACTIVE pipe replies when the pipe has reached its state (R157).
DEDUCED (log 61). -/
def stateReply (c : Packet) (s : State) : State :=
  if s.sched.pipes.any (fun kv => kv.2.cmds.contains c.index) then s
  else ok c (wd (stateOf s (cPipe c))) 0 0 s

def execPipeStop (c : Packet) (s : State) : Res :=
  command 0x92 [0x000FFFFF] true false
    (fun s => pipeChecks c s ++
      [busy (someIn s c (fun t => t = .held || t = .closing)) 0x07, inval (someIn s c (· = .halted)) 0x06])
    (fun s => (actsOn s (cPipe c)).foldl (fun s n => withdrawUnsent n s)
      (stateReply c ((actsOn s (cPipe c)).foldl (stopOne c.index) s))) c s

def execPipeStart (c : Packet) (s : State) : Res :=
  command 0x93 [0x000FFFFF] true false
    (fun s => pipeChecks c s ++
      [busy (someIn s c (fun t => t = .held || t = .closing)) 0x07, inval (someIn s c (· ≠ .stopped)) 0x06])
    (fun s => stateReply c ((actsOn s (cPipe c)).foldl startOne s)) c s

def execPipeReset (c : Packet) (s : State) : Res :=
  command 0x94 [0x000FFFFF] true false
    (fun s => pipeChecks c s ++
      [busy (someIn s c (fun t => t = .held || t = .closing)) 0x07, inval (someIn s c (· ≠ .halted)) 0x06])
    (fun s => stateReply c ((actsOn s (cPipe c)).foldl resetOne s)) c s

/-! ### PIPE_QUERY (R132, R326, Tables 5-1 and 7-4) -/

def kindCode' : PKind → Nat
  | .control => 0 | .bulk => 1 | .streamEp => 2 | .stream => 3 | .interrupt => 4 | .iso => 5

/-- LIST_HEAD and LIST_TAIL; with no entry attached they are open (log 5). DESIGN CHOICE (log 63). -/
def listEnds (s : State) (x : Pipe) (f : Word) : Nat × Nat :=
  let pl : Option EntRef → Nat → Nat := fun r d => match r.bind (fun r => ent s r.q r.idx) with
    | some e => e.place
    | none => d
  (pl x.ents.head? (fld f 0 14), pl x.ents.getLast? (fld f 14 14))

/-- FREE (R136). DESIGN CHOICE (log 63). -/
def freeNow (s : State) (x : Pipe) : Nat :=
  match x.x.bind (xfer s) with
  | some y =>
    let got := min (pipeAllot x - ownPages y) (poolLeft s x.inst (highJob s y))
    let n := if y.type = .out then (fullRun x y).length else emptyPages y + got
    if ownPages y + (if y.type = .out then 0 else got) = 2 then min n 1 else n
  | none => if !x.dirIn then 0 else if x.pages = 2 then 1 else x.pages

/-- XFER_ACTIVE: the head entry has started (R83, Table 5-1). -/
def headStarted (s : State) (x : Pipe) : Bool :=
  ((x.x.bind (xfer s)).bind (curEnt s)).any (fun e => e.started)

/-- LEFT: bytes left in the started entry at the pipe's head; 0 when none has started. DESIGN CHOICE (log 63). -/
def leftNow (s : State) (x : Pipe) : Nat :=
  match x.x.bind (xfer s) with
  | some y => match curEnt s y with
    | some e => eLen e.dw - ((if y.type = .out then y.ackPos else y.inPos) - y.base)
    | none => 0
  | none => 0

/-- The sixteen dwords of a context (Table 5-1). -/
def contextDws (s : State) (x : Pipe) (f : Word) : List Word :=
  let l := listEnds s x f
  [pack [(pipeCode x.state, 0), (kindCode' x.kind, 4), (b1 x.dirIn, 7), (x.inst, 8), (x.port.val, 16), (x.speed, 19),
      (x.group, 22), (b1 x.rdyLatch, 26), (b1 x.erdyPend, 27), (b1 x.waitErdy, 28), (b1 x.split, 29)],
   pack [(x.addr, 0), (x.ep, 7), (x.mps, 11), (x.maxBurst, 22)],
   pack [(x.route, 0), (x.ttHub, 20)],
   pack [(x.ttPort, 0), (x.periodLog2, 8), (x.phase, 12)],
   wd x.offset, wd x.admitBytes, wd x.link,
   pack [(x.streams, 0), (x.curStream, 16)],
   pack [(l.1, 0), (l.2, 14), (b1 x.ents.isEmpty, 28)],
   pack [(x.pages, 0), (min 255 (freeNow s x), 8), (x.seq.toNat, 16), (x.leftPkts, 21), (b1 (headStarted s x), 26), (x.block, 27)],
   wd (leftNow s x), x.bursts, x.nrdys, x.rdycans, x.lastService, 0]

/-- The four dwords of a stream context (Table 7-4), or 16 zero bytes. -/
def streamDws (x : Pipe) : List Word :=
  if x.kind = .stream then [pack [(x.streams, 0), (x.sstate, 16)], x.selects, x.rejects, x.lastErdy] else [0, 0, 0, 0]

/-- Writes bytes to host memory with the physical function's routing ID (R326). DEDUCED (log 72). -/
def hostWrite (a : Nat) (bs : List Byte) (s : State) : State :=
  (splitRange (mps s) (bs.length + 1) a bs).foldl (fun s w => tlp (.write 0 w.1 w.2) s) s

def queryPipe (c : Packet) (s : State) : State :=
  match pipe s (cPipe c) with
  | some x =>
    let f := if x.ents.isEmpty then takeFree s else (0, s)
    let dws := contextDws f.2 x f.1 ++ streamDws x
    ok c (wd (pipeCode x.state)) 0 0 (hostWrite (addr64 c.dw[3] c.dw[4]) (dws.map wordBytes).flatten f.2)
  | none => s

def execPipeQuery (c : Packet) (s : State) : Res :=
  command 0x95 [0x000FFFFF, 0xFFFFFFFF, 0xFFFFFFFF] true false
    (fun s => inval (fusedPipes s ≤ cPipe c) 0x05 :: inval (addr64 c.dw[3] c.dw[4] % 64 ≠ 0) 0x04 :: pipeChecks c s)
    (queryPipe c) c s

end Sys2Proof.Machine
end

