-- ==== Sys2Proof/Machine/ConfigCmds.lean ====
section
/-! DEFINITION. The fault, instance, configuration and channel commands of Tables 12-5 and 12-6, and the commit of
CFG_SWAP (R22, R142, R260, R274, R275, R306, R326–R330, R365). -/

namespace Sys2Proof.Machine

open Sys2Proof

/-! ### ORIGIN_RELEASE, ORIGIN_DROP (Table 10-2) -/

def cOrigin (c : Packet) : Nat := fld c.dw[2] 0 8

def originChecks (c : Packet) (s : State) : List Check :=
  let o := origin s (cOrigin c)
  [inval (o.mode = .free) 0x06, busy (o.mode = .held && o.sweeping) 0x07]

def execOriginRelease (c : Packet) (s : State) : Res :=
  command 0xA0 [0xFF] false false (originChecks c)
    (fun s =>
      let k := cOrigin c
      if (origin s k).mode = .closed then ok c 0 0 0 (freeClosed k s)
      else ok c (wd (heldUnder s k).length) 0 0 (releaseOrigin k s)) c s

/-- Entries attached to the pipes that an origin holds. -/
def heldEntries (s : State) (k : Nat) : Nat :=
  ((heldUnder s k).map (fun n => match pipe s n with | some x => x.ents.length | none => 0)).sum

def execOriginDrop (c : Packet) (s : State) : Res :=
  command 0xA1 [0xFF] false false (originChecks c)
    (fun s =>
      let k := cOrigin c
      if (origin s k).mode = .closed then ok c 0 0 0 (freeClosed k s)
      else ok c (wd (heldEntries s k)) 0 0 (dropOrigin k s)) c s

/-! ### LOG_READ (R286, R326) -/

def cCount (c : Packet) : Nat := fld c.dw[3] 0 11

/-- The 32 bytes of a record (Table 10-5); an absent one is zero. -/
def logBytes (s : State) (seq : Word) : List Byte :=
  match s.sump.log.find? (fun r => r.seq = seq) with
  | some r => (([wd r.kind, r.seq, r.interval] ++ r.pay ++ List.replicate (5 - r.pay.length) 0).map wordBytes).flatten
  | none => List.replicate 32 0

/-- DEDUCED (log 72). -/
def execLogRead (c : Packet) (s : State) : Res :=
  command 0xA2 [0xFFFFFFFF, 0x7FF, 0xFFFFFFFF, 0xFFFFFFFF] false false
    (fun _ => [inval (cCount c = 0 || 1024 < cCount c || addr64 c.dw[4] c.dw[5] % 32 ≠ 0) 0x04])
    (fun s =>
      let bs := ((List.range (cCount c)).map (fun i => logBytes s (c.dw[2] + wd i))).flatten
      ok c (wd (cCount c)) s.sump.logSeq 0 (hostWrite (addr64 c.dw[4] c.dw[5]) bs s)) c s

/-! ### PUMP_ACK (R260), INST_RESET (R306, R311) -/

/-- The channel is HALTED on the named entry of the instance. -/
def haltedOn (s : State) (c : Packet) : Bool :=
  let p := pump s (fld c.dw[2] 0 6)
  p.st = .halted &&
    match p.job.bind (xfer s) with
    | some x => x.inst = cInst c && x.idx = c.dw[3]
    | none => false

def execPumpAck (c : Packet) (s : State) : Res :=
  command 0xA9 [0x3F, 0xFFFFFFFF] true false (fun s => [inval (!haltedOn s c) 0x03])
    (fun s => ok c 0 0 0 (ackHalt (fld c.dw[2] 0 6) s)) c s

def execInstanceResetCommand (c : Packet) (s : State) : Res :=
  command 0xA8 [] true false (fun _ => [inval (cInst c = 0) 0x02])
    (fun s => resetInst (cInst c) 1 (some c.index) false s) c s

/-! ### The registers of a configuration set (Table 12-7) -/

/-- The bits that the map of a register defines; none for an offset that is not in Table 12-7. -/
def cfgMask (a : Nat) : Option Word :=
  if a % 4 ≠ 0 then none
  else if 0x1100 ≤ a ∧ a < 0x1140 then some 0xFFFFFF
  else if 0x8020 ≤ a ∧ a < 0xA000 then
    match a % 0x20 with
    | 4 => some 0x1FFF7F7F | 8 => some 0x1FFFFF | 0xC => some 0xFFFF7FFF | _ => none
  else if 0x100100 ≤ a ∧ a < 0x100140 then some 0xFF
  else if a = 0x300000 then some 0xFFF1F
  else if 0x300100 ≤ a ∧ a < 0x300180 then (if a % 0x10 = 0 then some 0x7FFF else none)
  else if 0x400000 ≤ a ∧ a < 0x480000 then
    match a % 0x10000 with
    | 4 => some 0xF7F | 8 => some 0x1FFFFFFF | 0x400 => some 0xFF | _ => none
  else if 0xD00000 ≤ a ∧ a < 0xD10000 then
    match a % 0x1000 with
    | 0x100 => some 0x1FFFFFF | 0x104 => some 0xFFFFFF | 0x108 => some 0x3FFFFFF
    | 0x10C => some 0xFFFFFFFF | 0x110 => some 0xFFFFFFFF | 0x114 => some 0x3FF | _ => none
  else if a = 0xE08004 then some 0x3FFF
  else if a = 0xE08100 then some 0xFF
  else if 0xE08404 ≤ a ∧ a < 0xE08800 then some 0x3FFF
  else if a = 0xF00004 then some 0x1FF1E
  else if a = 0xF00008 then some 0xFFFF
  else none

/-- A value outside a range of its map that has no clause of its own (R328). DEDUCED (log 71). -/
def cfgBad (a : Nat) (v : Word) : Bool :=
  if 0x8020 ≤ a ∧ a < 0xA000 then
    match a % 0x20 with
    | 4 => 64 < fld v 0 7 || 4096 < fld v 16 13
    | 8 => 0x100000 < fld v 0 21
    | 0xC => 16368 < fld v 0 15
    | _ => false
  else if 0xD00000 ≤ a ∧ a < 0xD10000 then
    match a % 0x1000 with
    | 0x108 => 200 < fld v 0 8
    | 0x10C => fld v 0 8 = 0 || fld v 8 8 = 0
    | 0x110 => fld v 0 12 = 0 || fld v 12 20 = 0
    | 0x114 => fld v 0 10 < 10 || 1000 < fld v 0 10
    | _ => false
  else if 0xE08404 ≤ a ∧ a < 0xE08800 then 8192 < fld v 0 14
  else false

/-- A register of the set that names a fused-out port, instance or channel (R4). DEDUCED (log 71). -/
def cfgFused (s : State) (a : Nat) : Bool :=
  (cfgMask a).isSome &&
    if 0x8020 ≤ a ∧ a < 0xA000 then maxInst s < (a - 0x8000) / 0x20
    else if 0x300100 ≤ a ∧ a < 0x300180 then !portFused s ((a - 0x300100) / 0x10)
    else if 0x400000 ≤ a ∧ a < 0x480000 then !portFused s ((a - 0x400000) / 0x10000)
    else if 0xD00000 ≤ a ∧ a < 0xD10000 then !chanFused s ((a - 0xD00000) / 0x1000)
    else if 0xE08404 ≤ a ∧ a < 0xE08800 then maxInst s < (a - 0xE08400) / 4
    else false

/-! ### CFG_WRITE, CFG_READ, CFG_COPY, CFG_SWAP (R328–R330) -/

def cPairs (c : Packet) : Nat := fld c.dw[2] 0 3

/-- Offset and value of pair j. -/
def pair (c : Packet) (j : Nat) : Nat × Word :=
  (fld (c.dw.toList.getD (3 + 2 * j) 0) 0 24, c.dw.toList.getD (4 + 2 * j) 0)

def pairs (c : Packet) : List (Nat × Word) := (List.range (min 4 (cPairs c))).map (pair c)

/-- The dwords of pairs N to 3 are ignored. -/
def pairMasks (c : Packet) : List Word :=
  0x7 :: (List.range 9).map (fun k => if k < 2 * min 4 (cPairs c) && k % 2 = 0 then 0xFFFFFF
    else if k < 8 then 0xFFFFFFFF else 0)

def writeChecks (c : Packet) (s : State) : List Check :=
  [inval (cPairs c = 0 || 4 < cPairs c) 0x04,
   inval ((pairs c).any (fun p => cfgFused s p.1)) 0x05,
   inval ((pairs c).any (fun p => (cfgMask p.1).isNone || cfgBad p.1 p.2)) 0x04,
   busy s.cmd.pendSwap 0x11]

/-- Writes the attic in pair order; reserved bits follow R11. -/
def cfgWrites (c : Packet) (s : State) : State :=
  let m := (pairs c).foldl (fun m p => setPut m p.1 (p.2 &&& (cfgMask p.1).getD 0)) s.cfg.attic
  { s with cfg := { s.cfg with attic := m }, cmd := { s.cmd with dirty := true } }

def execCfgWrite (c : Packet) (s : State) : Res :=
  command 0xB0 (pairMasks c) false false (writeChecks c) (fun s => ok c 0 0 0 (cfgWrites c s)) c s

def execCfgRead (c : Packet) (s : State) : Res :=
  let a := fld c.dw[2] 0 24
  command 0xB1 [0xFFFFFF, 0x1] false false
    (fun s => [inval (cfgFused s a) 0x05, inval (cfgMask a).isNone 0x04])
    (fun s => ok c (setGet (if tst c.dw[3] 0 then s.cfg.active else s.cfg.attic) a) 0 0 s) c s

def execCfgCopy (c : Packet) (s : State) : Res :=
  command 0xB2 [] false false (fun s => [busy s.cmd.pendSwap 0x11])
    (fun s => ok c 0 0 0 { s with cfg := { s.cfg with attic := s.cfg.active }, cmd := { s.cmd with dirty := true } }) c s

def execCfgSwap (c : Packet) (s : State) : Res :=
  command 0xB3 [] false false (fun s => [busy s.cmd.pendSwap 0x11])
    (fun s => { s with cmd := { s.cmd with pendSwap := true, swapCmd := some c.index, swapMic := s.iso.mic } }) c s

/-- Deficits above the new quantum are cut to it; a group whose weight is 0 has deficit 0 (R142). -/
def cutDeficits (s : State) : State :=
  (List.range 8).foldl (fun s p => modPsched p (fun y => { y with
    deficit := y.deficit.foldl (fun m kv =>
      setD 0 m kv.1 (if cfgGroup s kv.1 = 0 then 0 else min kv.2 (quantum s kv.1))) [] }) s) s

/-- The commit of R22 and R329: the sets are exchanged, and each policy takes effect as Table 12-7 gives.
DEDUCED (log 70). -/
def commitSwap (s : State) : State :=
  let old := s.cfg.active
  let gen := s.cmd.gen + 1
  let dirty := s.cmd.dirty
  let cmd := s.cmd.swapCmd
  let s := { s with cfg := { active := s.cfg.attic, attic := old },
                    cmd := { s.cmd with gen := gen, dirty := false, pendSwap := false, swapCmd := none } }
  let s := commitLock (setGet old 0x300000) (cutDeficits s)
  let s := (List.range 8).foldl (fun s p => commitPcfg (setGet old (0x300100 + p * 0x10)) p s) s
  let s := (List.range 8).foldl (fun s p => recheckPort p s) (tellRoom (retryBlocked s))
  let s := event 0 0x62 [pack [(gen.toNat, 0), (b1 dirty, 16)], s.iso.mic] s
  match cmd with
  | some i => reply i 0 0 s.iso.mic (wd gen.toNat) 0 s
  | none => s

/-- The commit comes with the tick of the master interval after the one in which the swap was accepted (R22, R330).
DEDUCED (log 70). -/
def execCfgSwapCommit (s : State) : Res :=
  when s (s.cmd.pendSwap && s.iso.running && s.iso.pos = 0 && s.iso.mic != s.cmd.swapMic) (commitSwap s)

/-! ### CHAN_BIND (R365) -/

def bChan (c : Packet) : Chan := Fin.ofNat 16 (fld c.dw[2] 0 4)
def bUnbind (c : Packet) : Bool := tst c.dw[2] 9
def bHub (c : Packet) : Bool := tst c.dw[2] 8
def bPort (c : Packet) : Port := Fin.ofNat 8 (fld c.dw[2] 16 3)
def bAddr (c : Packet) : BitVec 7 := BitVec.ofNat 7 (fld c.dw[3] 0 7)
def bHubPort (c : Packet) : BitVec 8 := BitVec.ofNat 8 (fld c.dw[3] 8 8)

/-- Another channel holds the same binding. -/
def boundElsewhere (s : State) (c : Packet) : Bool :=
  s.chans.regs.any (fun kv => kv.1 ≠ (bChan c).val && kv.2.bound && kv.2.port = bPort c && kv.2.hubBound = bHub c &&
    (!bHub c || (kv.2.hubAddr = bAddr c && kv.2.hubPort = bHubPort c)))

/-- The refusals of R365 after those of R4, which takes PORT as it stands. -/
def bindChecks (c : Packet) (s : State) : List Check :=
  let st := (chan s (bChan c)).st
  [inval (!chanFused s (bChan c) || !portFused s (bPort c)) 0x05,
   busy (st = .ramp || st = .on) 0x07,
   inval (!bUnbind c && boundElsewhere s c) 0x06,
   inval (!bUnbind c && bHub c &&
     (match unitAt s (bPort c) (bAddr c).toNat with | some u => !u.isHub | none => true)) 0x06]

/-- Binds or unbinds a channel; the ports concerned and the channel's permission follow. -/
def bindChan (c : Packet) (s : State) : State :=
  let n := bChan c
  let old := chan s n
  let s := if old.bound && !old.hubBound then modPort old.port (fun x => { x with channel := none }) s else s
  let s := modChan n (fun x =>
    if bUnbind c then { x with bound := false, hubBound := false, port := 0, hubAddr := 0, hubPort := 0 }
    else { x with bound := true, hubBound := bHub c, port := bPort c
                  hubAddr := if bHub c then bAddr c else 0
                  hubPort := if bHub c then bHubPort c else 0 }) s
  let root : Bool := !bUnbind c && !bHub c
  let s := if root then modPort (bPort c) (fun x => { x with channel := some n }) s else s
  let s := if old.bound && !old.hubBound then portPower old.port false s else s
  let s := if root then portPower (bPort c) false s else s
  recheck n s

def execChanBind (c : Packet) (s : State) : Res :=
  command 0xC8 [0x7030F, 0xFF7F] false false (bindChecks c) (fun s => ok c 0 0 0 (bindChan c s)) c s

/-! ### DIAG_ECHO -/

def execDiagEcho (c : Packet) (s : State) : Res :=
  command 0xE0 [0xFFFFFFFF, 0xFFFFFFFF, 0xFFFFFFFF] false true (fun _ => [])
    (fun s => ok c c.dw[2] c.dw[3] c.dw[4] s) c s

end Sys2Proof.Machine
end

