-- ==== Sys2Proof/Machine/ServiceCmds.lean ====
section
/-! DEFINITION. Parts out of service and back: PORT_SERVICE (R185–R188), PUMP_SERVICE (R257, R332), CELLAR_SERVICE
(R333–R336); the size of the fault log (R286, Table 1-3). -/

namespace Sys2Proof.Machine

open Sys2Proof

/-! ### PORT_SERVICE (Tables 6-5, 6-6) -/

def sPort (c : Packet) : Port := Fin.ofNat 8 (fld c.dw[2] 0 3)
def sReturn (c : Packet) : Bool := tst c.dw[2] 8

/-- One half of a port that is removed: its resume is abandoned, its pipes close with UNIT_GONE 0x02 once the packet
on the wire has ended, its addresses are free; PEC marks a half that left ENABLED, SUSPENDED or RESUMING (R173).
Entries that a reset already ends keep PORT_RESET (R188). -/
def removeHalf (p : Port) (h : Half) (s : State) : State :=
  let st := (halfReg s p h).st
  let s := if st = .resuming then resumeWake p h (directInsts s p h) true false s else s
  let s := closePipes (pipesWhere s (fun x => x.port = p && pHalf x = h.val)) true 5 2 s
  let s := freeHalf p h (endWalk (p.val * 2 + h.val) (endSet p h 5 s))
  let fs := if st = .enabled || st = .suspended || st = .resuming then [.pec] else []
  modHalf p h (fun x => raises fs (settleHalf h .poweredOff x)) s

/-- Table 6-5: the port dispatches no more and its pipes close; the reply waits for the last of them (R331).
DEDUCED (log 66). -/
def removePort (c : Packet) (s : State) : State :=
  let p := sPort c
  let n := (pipesWhere s (fun x => x.port = p)).length
  let s := modPort p (fun x => { x with inService := false, removing := some (c.index, tst c.dw[2] 9, n) }) s
  portRemoved p (removeHalf p 1 (removeHalf p 0 s))

def testCode : PortTest → Nat
  | .ok => 0 | .calibrationFailed => 1 | .lane0OrUsb2Failed => 2 | .lane1Failed => 3

/-- Table 6-6; a failed calibration or self-test leaves the port out of service. The port and its lane 1 change in one
FAB cycle (R181, R427). DEDUCED (log 66). -/
def returnPort (c : Packet) (r : PortTest) (s : State) : State :=
  let p := sPort c
  let off := !(port s p).powered
  match r with
  | .calibrationFailed | .lane0OrUsb2Failed =>
    ok c (wd (testCode r)) 0 0 (portServiceEvent p true off (testCode r) 0 s)
  | .ok | .lane1Failed =>
    let g := cfgPrt s p
    let s := if off then switchOn s (.port p) else s
    let s := modPort p (fun x => { x with inService := true, powered := true, cfg := g }) s
    let s := modPtime p (fun t => { t with load := true }) s
    let up := (port s p).vbusOk
    let s := if up then halfOn p 1 (halfOn p 0 s) else s
    let s := portPower p false s
    let bad : Bool := r = .lane1Failed
    let was := (port s p).h0.lane1Fail
    let s := capChange 1 true false p (modHalf p 0 (fun x => { x with lane1Fail := bad }) s)
    let s := if was = bad then s else capEvent 2 (!bad) bad p s
    ok c (wd (testCode r)) 0 0 (portServiceEvent p true off (testCode r) 0 (recheckPort p s))

def execPortService (c : Packet) (r : PortTest) (s : State) : Res :=
  command 0xB8 [0x307] false false
    (fun s => [inval (!portFused s (sPort c)) 0x05, busy ((port s (sPort c)).inService = sReturn c) 0x07,
      busy (port s (sPort c)).removing.isSome 0x10])
    (fun s => if sReturn c then returnPort c r s else removePort c s) c s

/-! ### PUMP_SERVICE (Table 9-2, R257, R332) -/

def sPump (c : Packet) : Nat := fld c.dw[2] 0 6

/-- Channels of the same class that stay in service without channel n (R257). -/
def othersUp (s : State) (n : Nat) : Bool :=
  (List.range 64).any (fun m => m ≠ n && decide (m < 8) = decide (n < 8) && pumpUp s m && (pump s m).removing.isNone)

def pumpChecks (c : Packet) (s : State) : List Check :=
  let p := pump s (sPump c)
  if sReturn c then [busy (p.st != .off) 0x07]
  else [busy (p.st = .off || p.st = .halted) 0x07, busy (!othersUp s (sPump c)) 0x07, busy p.removing.isSome 0x10]

/-- The removal sets PAUSE and goes on from PAUSED. -/
def removePump (c : Packet) (s : State) : State :=
  let n := sPump c
  let s := modPump n (fun p => { p with removing := some c.index }) s
  let s := setPause n true s
  if (pump s n).st = .paused then removeDone n s else s

def returnPump (c : Packet) (pass : Bool) (s : State) : State :=
  let n := sPump c
  if !pass then ok c 2 0 0 s
  else ok c 0 0 0 (capChange 3 true false n (modPump n (fun p => { p with st := .idle, staged := 0 }) s))

def execPumpService (c : Packet) (pass : Bool) (s : State) : Res :=
  command 0xB9 [0x13F] false false (pumpChecks c)
    (fun s => if sReturn c then returnPump c pass s else removePump c s) c s

/-! ### CELLAR_SERVICE (Tables 12-8, 12-9) -/

/-- Records that the fault log's ring holds: what Table 1-3 leaves of the usable 7/8 of the channels in service.
DEDUCED (log 69). -/
def logSize (s : State) : Nat :=
  let n := b1 s.glb.c0.inSvc + b1 s.glb.c1.inSvc
  (s.glb.sizeGib.toNat * 2 ^ 30 / 2 * n * 7 / 8 - 160 * 2 ^ 20) / 32

/-- FLT_LOGCAP follows the channels in service; the newest records that fit are kept. DEDUCED (log 69). -/
def resizeLog (s : State) : State :=
  let n := logSize s
  { s with sump := { s.sump with logCap := wd n, log := s.sump.log.drop (s.sump.log.length - n) } }

def sCel (c : Packet) : Nat := fld c.dw[2] 0 1

/-- A pipe is open that breaks R28 with one channel. -/
def pipeAbove (s : State) : Bool := s.sched.pipes.any (fun kv => fusedPipes s / 2 ≤ kv.1)

/-- DEDUCED (log 68). -/
def cellarChecks (c : Packet) (s : State) : List Check :=
  let me := (celReg s (sCel c)).inSvc
  let other := (celReg s (1 - sCel c)).inSvc
  if sReturn c then [busy me 0x07] else [busy (!other || !me || pipeAbove s) 0x07]

/-- DEDUCED (log 81). -/
def celDown (x : CelReg) : CelReg := { x with inSvc := false, phase := 0, selfRefresh := false }
def celUp (x : CelReg) : CelReg := { x with inSvc := true, phase := 4, selfRefresh := false }

end Sys2Proof.Machine
end

