-- ==== Sys2Proof/Machine/DevPort.lean ====
section
/-! DEFINITION. The device port and the Miotus tunnel (file 13): states and resets (R346–R351), control requests
(R347, R348), tunnel requests and trailers (R352–R358), the loopback test (R360). -/

namespace Sys2Proof.Machine

open Sys2Proof

/-! ### Registers -/

def devStCode : DevSt → Nat
  | .off => 0 | .detached => 1 | .default => 2 | .address => 3 | .configured => 4 | .suspended => 5

/-- DEV_ST.SPEED (Table 13-11). -/
def devSpeedCode : Option DevSpeed → Nat
  | none => 0
  | some .gen2x1 | some .gen1x1 => 1
  | some .high => 2
  | some .full => 3

def devSuper (s : State) : Bool := devSpeedCode s.dev.conn = 1

/-- An open pipe that is exported (R352). -/
def exported (s : State) (n : Nat) (x : Pipe) : Bool :=
  x.inst = s.dev.xinst.toNat && n < 982995 && x.kind != .iso && x.kind != .streamEp

/-- The exported pipes. -/
def exports (s : State) : List Nat := (s.sched.pipes.filter (fun kv => exported s kv.1 kv.2)).map Prod.fst

def devCtl (s : State) : Word :=
  pack [(b1 s.dev.en, 0), (b1 s.dev.tunnel, 1), (b1 s.dev.ssOff, 2), (b1 s.dev.looping, 4), (s.dev.xinst.toNat, 8)]
def devId : Word := pack [(Config.vid.toNat, 0), (0x8160, 16)]
def devTun (s : State) : Word := pack [(s.dev.reqs.length, 0), ((exports s).length, 10)]
def fwVer (s : State) : Word := wd s.fw.ver.toNat
def cfgGen (s : State) : Word := pack [(s.cmd.gen.toNat, 0), (b1 s.cmd.pendSwap, 16), (b1 s.cmd.dirty, 17)]

/-! ### Moves of Table 13-4 -/

/-- The state changes: DEV_ST.ST_CHG and its edge counter. -/
def devTo (st : DevSt) (s : State) : State :=
  if s.dev.st = st then s
  else { s with dev := { s.dev with st := st, stChg := true, stE := s.dev.stE + 1 } }

/-- DEVPORT_STATE (Table 13-8). -/
def devStateEvent (old : DevSt) (s : State) : State :=
  event 0 0x31 [pack [(devStCode old, 0), (devStCode s.dev.st, 3), (devSpeedCode s.dev.conn, 6), (b1 s.dev.rwe, 8)]] s

/-- A move with its event. DESIGN CHOICE (log 73). -/
def devMove (st : DevSt) (s : State) : State := devStateEvent s.dev.st (devTo st s)

/-- Traffic brings the link out of U1, U2 and L1. DEDUCED (log 75). -/
def devAwake (s : State) : State := { s with dev := { s.dev with lstate := 0 } }

/-! ### The end of tunnel requests (R356, R357) -/

/-- The transfer that serves a request. -/
def tunXfer (s : State) (r : TunReq) : Option (Nat × Xfer) :=
  s.cis.xfers.find? (fun kv => kv.2.q = 4096 && r.idx = some kv.2.idx)

/-- Ends the entry of a request: a started one after its current packet, ABORTED_PARTIAL; another one at once,
ABORTED (R83, R357). -/
def endRequest (r : TunReq) (s : State) : State :=
  match r.idx, r.ended with
  | some i, none =>
    match ent s 4096 i with
    | some e =>
      if e.started then
        match tunXfer s r with
        | some (k, _) => drainXfer k (modXfer k (fun y => { y with cut := true }) s)
        | none => s
      else
        let s := match tunXfer s r with
          | some (k, x) =>
            let s := freeXfer k s
            (match x.pipe with
              | some n => modPipe n (fun p => if p.x = some k then { p with x := none } else p) s
              | none => s)
          | none => s
        let s := match e.pipe with
          | some n => nextHead n (detach n 4096 i s)
          | none => s
        retryBlocked (complete 4096 i (Cpl.atMaster { status := 7, errinfo := 1 }) s)
    | none => s
  | _, _ => s

/-- Abandons every tunnel request (R356): the trailers are discarded, and the exported pipes stay open. Answers how
many. -/
def abandon (s : State) : State × Nat :=
  let rs := s.dev.reqs
  let s := { s with dev := { s.dev with reqs := [], flowing := [], inNrdy := [], outNrdy := []
                                        abandoned := s.dev.abandoned + BitVec.ofNat 16 rs.length } }
  (rs.foldl (fun s r => endRequest r s) s, rs.length)

/-! ### Bus resets and VBUS (R349, R350) -/

/-- DEVPORT_RESET is posted by firmware; in an activation pause it is written afterwards (R350). -/
def devResetEvent (pay : List Word) (s : State) : State :=
  if s.cmd.paused then { s with fw := { s.fw with devHeld := s.fw.devHeld ++ [pay] } } else event 0 0x30 pay s

/-- R350, for a reset of kind 0–2, or 3 for the loss of VBUS. DESIGN CHOICE (log 73). -/
def busReset (kind stage : Nat) (req : Byte) (s : State) : State :=
  let d := s.dev
  let r := abandon s
  let s := r.1
  let s := { s with dev := { s.dev with
    addr := 0, config := 0, alt1 := false, rwe := false, waking := false, lstate := 0, rstChg := true
    rstE := s.dev.rstE + 1
    resets := s.dev.resets + 1 } }
  devResetEvent [pack [(kind, 0), (stage, 2), (if stage = 0 then 0 else req.toNat, 8), (d.addr.toNat, 16)],
    wd d.config.toNat, wd r.2] s

/-- The states in which the port has a host (2–5). -/
def devOn (s : State) : Bool := 2 ≤ devStCode s.dev.st

/-- VBUS lost: as a bus reset, with the control transfer that it abandons, then DETACHED with its event.
DESIGN CHOICE (log 73). -/
def devDetach (stage : Nat) (req : Byte) (s : State) : State :=
  if devOn s then
    let s := busReset 3 stage req s
    devMove .detached { s with dev := { s.dev with conn := none, vbus := false, lstate := 5 } }
  else s

/-- EN cleared (R349, R358): as VBUS absent, then OFF. DESIGN CHOICE (log 73). -/
def devOff (stage : Nat) (req : Byte) (s : State) : State :=
  if !s.dev.en then s
  else
    let s := devTo .off (devDetach stage req s)
    switchOff (emit (.devAttach false) { s with dev := { s.dev with en := false, vbus := false, lstate := 0 } }) .dev

/-- EN set: PD_DEV powered, terminations presented, DETACHED (R346); the tunnel's queue belongs to XINST.
DESIGN CHOICE (log 73). -/
def devEnable (s : State) : State :=
  let s := devTo .detached { s with dev := { s.dev with
    en := true, lstate := 5, conn := none, was := .off
    tq := { s.dev.tq with owner := s.dev.xinst.toNat } } }
  emit (.devAttach true) (switchOn s .dev)

/-- EN cleared by its host: what control transfer is then in a stage on the bus is a free value. DESIGN CHOICE (log 73). -/
def devClear (s : State) : State :=
  let f := takeFree s
  devOff (f.1.toNat % 4) (BitVec.ofNat 8 (f.1.toNat / 4)) f.2

/-- A write of DEV_CTL (R346): TUNNEL, SS_OFF and XINST take it only while EN is 0; WAKE is a remote wake that names
interface 0 (R351). In recovery the device port stays out of service (R411). DEDUCED (log 147). -/
def writeDevCtl (v : Word) (s : State) : State :=
  let s := if s.dev.en then s
    else { s with dev := { s.dev with tunnel := tst v 1, ssOff := tst v 2, xinst := BitVec.ofNat 8 (fld v 8 8) } }
  let s := if tst v 0 = s.dev.en then s else if !tst v 0 then devClear s else if s.boot.recovery then s else devEnable s
  if tst v 3 then remoteWake 0 s else s

def execDevportEnable (v : Word) (s : State) : Res :=
  .next (regWrite 0xC00000 (writeDevCtl v) s)
def execDevportDisable (v : Word) (s : State) : Res :=
  .next (regWrite 0xC00000 (writeDevCtl v) s)
def execDevportRemoteWake (v : Word) (s : State) : Res :=
  .next (regWrite 0xC00000 (writeDevCtl v) s)

/-- VBUS present for 100 ms, and the connection trained. -/
def devAttach (c : DevSpeed) (s : State) : State :=
  devMove .default { s with dev := { s.dev with vbus := true, conn := some c, lstate := 0 } }

def execDevVbusPresent (c : DevSpeed) (s : State) : Res :=
  when s (s.dev.st = .detached && !(s.dev.ssOff && (c = .gen2x1 || c = .gen1x1)))
    (devAttach c (ungate s))

def execDevVbusAbsent (stage : Fin 4) (req : Byte) (s : State) : Res :=
  when s (devOn s) (devDetach stage req (ungate s))

/-- A bus reset in any state from DEFAULT to SUSPENDED. -/
def execDevportBusReset (k : DevReset) (stage : Fin 4) (req : Byte) (s : State) : Res :=
  let kind := match k with | .usb2 => 0 | .hot => 1 | .warm => 2
  when s (devOn s && ((k = .usb2) ≠ (devSuper s)))
    (devTo .default (busReset kind stage req (ungate s)))

/-- U3 entry, or 3 ms of idle bus; IN streams under way wait for ERDY again. DEDUCED (log 75). -/
def devSuspend (s : State) : State :=
  let old := s.dev.st
  devMove .suspended { s with dev := { s.dev with
    was := old, lstate := 3, waking := false, flowing := [], inNrdy := s.dev.inNrdy ++ s.dev.flowing } }

def execDevportSuspend (s : State) : Res :=
  when s (devOn s && s.dev.st != .suspended) (devSuspend (ungate s))

/-- A request has data or its trailer ready for the parent (R355). -/
def tunReady (s : State) (r : TunReq) : Bool :=
  match r.ended, tunXfer s r with
  | some _, _ => true
  | none, some (_, x) => x.type = .inp && !(availFrom x.wrPos x.pages).isEmpty && x.wrPos < (total s x).1
  | none, none => false

/-- A resume completes: the host's, the device port's, or both as one; streams that have become ready are told by ERDY
(R351). DEDUCED (log 75). -/
def devResume (host : Bool) (s : State) : State :=
  let st := s.dev.was
  let s := devMove st { s with dev := { s.dev with
    lstate := 0, wsrcHost := host, wsrcDev := s.dev.waking, waking := false } }
  (s.dev.reqs.filter (fun r => tunFirst s r && tunReady s r)).foldl (fun s r => tunErdy r.pair r.stream s) s

def execDevportHostResume (host : Bool) (s : State) : Res :=
  when s (s.dev.st = .suspended && (host || s.dev.waking)) (devResume host (ungate s))

/-- U1, U2 and L1 are accepted as DEV_LPM gives (R351). -/
def lpmRequest (k : DevLpm) (s : State) : State :=
  let yes := match k with | .u1 => s.dev.u1Acc | .u2 => s.dev.u2Acc | .l1 => s.dev.l1Acc
  let ls : BitVec 3 := match k with | .u1 => 1 | .u2 => 2 | .l1 => 4
  emit (.devLpmReply yes) (if yes then { s with dev := { s.dev with lstate := ls } } else s)

def execDevportLpmRequest (k : DevLpm) (s : State) : Res :=
  when s (devOn s && s.dev.st != .suspended && ((k = .l1) ≠ (devSuper s))) (lpmRequest k s)

/-! ### Control requests (R341, R347–R349, R351) -/

/-- A control request reaches the port in a state with a host; firmware answers NRDY in an activation pause,
or NAK at the USB 2.0 speeds (R341). -/
def control (f : State → State) (s : State) : Res :=
  when s (devOn s && s.dev.st != .suspended)
    (if s.cmd.paused then emit (if devSuper s then .devNrdy true 0 0 else .devNak) s else f (devAwake (ungate s)))

def stallControl (s : State) : State := emit .devStall s
/-- The status stage of a request with no data. -/
def ackControl (s : State) : State := emit (.devControl []) s

/-- Upper-case hexadecimal digits of a number, as characters. -/
def hexChars : Nat → Nat → List Nat
  | 0, _ => []
  | n + 1, v => hexChars n (v / 16) ++ [(if v % 16 < 10 then 48 else 55) + v % 16]

/-- The interface 1 of R347 is present. -/
def hasTunnel (s : State) : Bool := s.dev.tunnel && devSuper s

/-- The values of Table 13-2, in the order of its rows. DESIGN CHOICE (log 17). -/
def descValues (s : State) : Descriptor → List Nat
  | .device =>
    [if devSuper s then 0x320 else 0x210, 0, 0, 0, if devSuper s then 9 else 64, Config.vid.toNat, 0x8160, 0xB00, 1]
  | .bos => [1, s.dev.besl.toNat, 2, 64, b1 (s.dev.conn = some .gen2x1)]
  | .configuration =>
    [1, 1, 0, 0xFF, 1, 1, 0] ++
      (if hasTunnel s then [0xFF, 2, 1, 0, 0xFF, 2, 1, 15, 15, 1024, 15, 16] else [])
  | .serialString => hexChars 16 Config.uid.toNat

/-- DESIGN CHOICE (log 17). -/
def execGetDescriptor (d : Descriptor) (s : State) : Res :=
  control (fun s => emit (.devDescriptor d (descValues s d)) s) s

/-- SET_ADDRESS, at the end of its status stage. PRESUMED (log 74). -/
def setDevAddress (a : BitVec 7) (s : State) : State :=
  match s.dev.st with
  | .configured => stallControl s
  | .default =>
    if a = 0 then ackControl s else ackControl (devTo .address { s with dev := { s.dev with addr := a } })
  | .address =>
    let s := { s with dev := { s.dev with addr := a } }
    ackControl (if a = 0 then devTo .default s else s)
  | .off | .detached | .suspended => s

def execSetAddress (a : BitVec 7) (s : State) : Res := control (setDevAddress a) s

/-- PRESUMED (log 74). -/
def setConfig (v : Nat) (s : State) : State :=
  match s.dev.st with
  | .default => stallControl s
  | .address =>
    if v = 0 then ackControl s
    else if v = 1 then ackControl (devMove .configured { s with dev := { s.dev with config := 1, alt1 := false } })
    else stallControl s
  | .configured =>
    if v = 0 then
      let s := (abandon s).1
      ackControl (devTo .address { s with dev := { s.dev with config := 0, alt1 := false } })
    else if v = 1 then ackControl s
    else stallControl s
  | .off | .detached | .suspended => s

def execSetConfiguration (v : Nat) (s : State) : Res := control (setConfig v) s

/-- PRESUMED (log 74). -/
def setInterface (i alt : Nat) (s : State) : State :=
  if s.dev.st != .configured then stallControl s
  else if i = 1 && hasTunnel s then
    if alt = 1 then
      ackControl { s with dev := { s.dev with alt1 := true, flowing := [], inNrdy := [], outNrdy := [] } }
    else if alt = 0 then
      let s := (abandon s).1
      ackControl { s with dev := { s.dev with alt1 := false } }
    else stallControl s
  else if i = 0 && alt = 0 then ackControl s
  else stallControl s

def execSetInterface (i alt : Nat) (s : State) : Res := control (setInterface i alt) s

/-- The host enables remote wake (R351): by function suspend on SuperSpeed, by the device feature on USB 2.0.
PRESUMED (log 74). -/
def setFeature (f : DevFeature) (s : State) : State :=
  match f with
  | .functionSuspend w =>
    if devSuper s then ackControl { s with dev := { s.dev with rwe := w } } else stallControl s
  | .deviceRemoteWakeup =>
    if devSuper s then stallControl s else ackControl { s with dev := { s.dev with rwe := true } }

def execSetFeature (f : DevFeature) (s : State) : Res := control (setFeature f) s

/-- GET_INFO: 64 bytes (Table 13-3). -/
def infoBytes (s : State) : List Byte :=
  (([devId, fwVer s] ++ capRegs s ++ [devTun s, cfgGen s, 0, 0, 0, 0]).map wordBytes).flatten

/-- A vendor request of Table 13-3 with its wIndex 0 and a wValue of its row; another one is answered STALL. -/
def vendor (ok : Bool) (f : State → State) (s : State) : Res := control (if ok then f else stallControl) s

def execGetInfo (wValue wIndex : BitVec 16) (s : State) : Res :=
  vendor (wValue = 0 && wIndex = 0) (fun s => emit (.devControl (infoBytes s)) s) s

/-- The highest stream number exported on a pair; 0 for none. -/
def topStream (s : State) (pair : Nat) : Nat :=
  ((exports s).filter (fun n => n / 65533 + 1 = pair)).foldl (fun m n => max m (n % 65533 + 1)) 0

def exportBytes (s : State) : List Byte :=
  (((List.range 15).map (fun k => wd (topStream s (k + 1)))).map wordBytes).flatten

def execGetExports (wValue wIndex : BitVec 16) (s : State) : Res :=
  vendor (wValue = 0 && wIndex = 0) (fun s => emit (.devControl (exportBytes s)) s) s

/-- The latest fault-log records, newest first. DEDUCED (log 78). -/
def latestLog (n : Nat) (s : State) : List Byte :=
  ((s.sump.log.reverse.take n).map (fun r => logBytes s r.seq)).flatten

def execGetLog (wValue wIndex : BitVec 16) (s : State) : Res :=
  vendor (wValue ≠ 0 && wValue.toNat ≤ 16 && wIndex = 0) (fun s => emit (.devControl (latestLog wValue.toNat s)) s) s

/-- A little-endian dword of a byte list, zero-filled. -/
def dwordAt (bs : List Byte) (i : Nat) : Word :=
  pack [((bs.getD i 0).toNat, 0), ((bs.getD (i + 1) 0).toNat, 8), ((bs.getD (i + 2) 0).toNat, 16),
    ((bs.getD (i + 3) 0).toNat, 24)]

/-- Records of a notice's text beyond its first 16 bytes, 20 bytes each (log 18). -/
def noticeRest (kind : Nat) : Nat → List Byte → State → State
  | 0, _, s => s
  | _ + 1, [], s => s
  | n + 1, bs, s =>
    noticeRest kind n (bs.drop 20) (logRec kind ((List.range 5).map (fun k => dwordAt bs (4 * k))) s)

/-- DEVPORT_NOTICE and its fault-log record (Table 13-3); the spec gives the record's KIND no code.
DEDUCED (log 18). -/
def raiseNotice (bs : List Byte) (s : State) : State :=
  let d := fun k => dwordAt bs (4 * k)
  let s := event 0 0x32 [wd bs.length, d 0, d 1, d 2, d 3, d 4] s
  let f := takeFree s
  let kind := f.1.toNat % 256
  noticeRest kind 12 (bs.drop 16) (logRec kind [wd bs.length, d 0, d 1, d 2, d 3] f.2)

def execNotice (wValue wIndex : BitVec 16) (bs : List Byte) (s : State) : Res :=
  vendor (wValue = 0 && wIndex = 0 && !bs.isEmpty && bs.length ≤ 248) (fun s => ackControl (raiseNotice bs s)) s

/-- The requests of Table 13-3: bmRequestType and bRequest. -/
def vendorRequests : List (Nat × Nat) := [(0xC1, 1), (0xC1, 2), (0xC1, 3), (0x41, 4)]

def execUnknownVendorRequest (t r : Byte) (s : State) : Res :=
  if t.toNat / 32 % 4 = 2 && !vendorRequests.contains (t.toNat, r.toNat) then
    control stallControl s
  else noSuch s

/-! ### Tunnel requests (R353, R355–R358) -/

/-- The tunnel is open. -/
def tunnelOpen (s : State) : Bool := s.dev.st = .configured && s.dev.alt1

/-- A transfer discarded and counted (R353, R357). -/
def discard (s : State) : State := { s with dev := { s.dev with abandoned := s.dev.abandoned + 1 } }

/-- The entry of a request on pipe n (R355); opcodes that no exported pipe takes are entered as 0. -/
def tunSlot (n : Nat) (x : Pipe) (h : Nat → Word) : Slot :=
  let op := fld (h 0) 8 8
  let op := if 1 ≤ op && op ≤ 5 then op else 0
  let p := if x.kind = .stream then (x.link, x.streams) else (n, 0)
  #v[pack [(op, 0), (fld (h 0) 16 1, 11)], wd p.1, wd p.2, 0, 0, h 1 &&& 0x7FFFFFFF, h 2, h 3, wd (fld (h 0) 17 1), 0, 0, 0]

/-- A request that ends without an entry. -/
def shortRequest (r : TunReq) (status errinfo : Nat) (s : State) : State :=
  let r := { r with feed := [], ended := some ((Cpl.atMaster { status := status, errinfo := errinfo }).dws.written s) }
  offerTrailer r { s with dev := { s.dev with reqs := s.dev.reqs ++ [r] } }

/-- A request becomes an entry of the tunnel's queue, attached to its pipe. DEDUCED (log 76). -/
def enterRequest (n : Nat) (x : Pipe) (d : Slot) (r : TunReq) (s : State) : State :=
  let i := s.dev.tq.fetch
  let f := takeFree s
  let used := placesUsed s
  let s := f.2
  let e : Ent := { idx := i, place := freeStore used used.length (f.1.toNat % 16384), dw := d, st := .attached,
                   pipe := some n, att := (ptime s x.port).num }
  let s := { s with dev := { s.dev with
    tq := { s.dev.tq with fetch := i + 1, ents := s.dev.tq.ents ++ [e] }
    reqs := s.dev.reqs ++ [{ r with idx := some i }] } }
  if !opFits d x then complete 4096 i (Cpl.atMaster { status := 4, errinfo := 0xFF }) s
  else pipeAttach n ⟨4096, i⟩ d s

/-- A request of R353. -/
def newRequest (pair stream : Nat) (h : Nat → Word) (data : List Byte) (s : State) : State :=
  let n := (pair - 1) * 65533 + (stream - 1)
  let r : TunReq := { pair := pair, stream := stream, idx := none, dw0 := h 0, len := fld (h 1) 0 31, setup0 := h 2,
                      setup1 := h 3, feed := data }
  if gated s s.dev.xinst.toNat then shortRequest r 0x0D 0 s
  else
    match pipe s n with
    | some x =>
      if exported s n x then enterRequest n x (tunSlot n x h) { r with feed := data.take r.len } s
      else shortRequest r 5 3 s
    | none => shortRequest r 5 3 s

/-- CANCEL (R357): ends the request on the same stream whose TAG it names. DEDUCED (log 76). -/
def cancelRequest (pair stream tag : Nat) (s : State) : State :=
  match s.dev.reqs.find? (fun r => r.pair = pair && r.stream = stream && fld r.dw0 24 8 = tag && r.ended.isNone) with
  | some r => endRequest r s
  | none => discard s

/-- A transfer of a parent on an OUT stream (R353, R355). DEDUCED (log 76). -/
def tunnelOut (pair stream : Nat) (bs : List Byte) (s : State) : State :=
  let h := fun k => dwordAt bs (4 * k)
  if bs.length < 32 || fld (h 0) 0 8 ≠ 1 then discard s
  else if fld (h 0) 8 8 = 0x20 then cancelRequest pair stream (fld (h 0) 24 8) s
  else if !tunRoom s pair stream then
    emit (.devNrdy false pair stream) { s with dev := { s.dev with
      outNrdy := s.dev.outNrdy.filter (· ≠ (pair, stream)) ++ [(pair, stream)] } }
  else newRequest pair stream h (bs.drop 32) s

def execTunnelRequest (pair : Fin 16) (stream : BitVec 16) (bs : List Byte) (s : State) : Res :=
  when s (tunnelOpen s && pair ≠ 0 && stream ≠ 0 && stream.toNat ≤ 65533)
    (tunnelOut pair.val stream.toNat bs (devAwake (ungate s)))

def execTunnelCancel (pair : Fin 16) (stream : BitVec 16) (tag : Byte) (s : State) : Res :=
  when s (tunnelOpen s && pair ≠ 0 && stream ≠ 0 && stream.toNat ≤ 65533)
    (cancelRequest pair.val stream.toNat tag.toNat (devAwake (ungate s)))

/-- The parent selects an IN stream (R355): data or a trailer that is ready is sent, else NRDY.
DESIGN CHOICE (log 77). -/
def tunnelIn (pair stream : Nat) (s : State) : State :=
  let key := (pair, stream)
  let nrdy := fun (s : State) => emit (.devNrdy true pair stream) { s with dev := { s.dev with
    inNrdy := s.dev.inNrdy.filter (· ≠ key) ++ [key] } }
  match s.dev.reqs.find? (fun r => r.pair = pair && r.stream = stream) with
  | none => nrdy s
  | some r =>
    let go := { s with dev := { s.dev with flowing := s.dev.flowing.filter (· ≠ key) ++ [key] } }
    if !tunReady s r then nrdy s
    else
      match r.ended, tunXfer s r with
      | some c, _ => sendTrailer r c go
      | none, some (k, _) => progress k go
      | none, none => nrdy s

def execTunnelInSelection (pair : Fin 16) (stream : BitVec 16) (s : State) : Res :=
  when s (tunnelOpen s && pair ≠ 0 && stream ≠ 0 && stream.toNat ≤ 65533)
    (tunnelIn pair.val stream.toNat (devAwake (ungate s)))

/-! ### Loopback (R360) -/

def lRate (c : Packet) : Nat := fld c.dw[2] 8 2
/-- The half and the speed code of a rate. -/
def lHalf (c : Packet) : Half := if lRate c < 2 then 0 else 1
def lSpeed (c : Packet) : Nat := match lRate c with | 0 => 2 | 1 => 0 | 2 => 4 | _ => 5
def lConn (c : Packet) : DevSpeed := match lRate c with | 0 => .gen2x1 | 1 => .gen1x1 | 2 => .high | _ => .full

/-- DESIGN CHOICE (log 79). -/
def loopChecks (c : Packet) (s : State) : List Check :=
  let p := uPort c
  [inval (!portFused s p) 0x05,
   inval (c.dw[3] = 0 || 60000 < c.dw[3].toNat) 0x04,
   busy (s.dev.en || !(port s p).units.isEmpty || s.sched.pipes.any (fun kv => kv.2.port = p)) 0x07,
   inval (s.dev.ssOff && lRate c < 2) 0x04]

/-- The root half reaches ENABLED at RATE. DESIGN CHOICE (log 79). -/
def loopReach (c : Packet) (s : State) : State :=
  let p := uPort c
  if lHalf c = 0 then
    if inState s p 0 .enabled then s else goHalf p 0 .enabled [.csc] 0x01 none (setSpeed p 0 (lSpeed c) s)
  else
    let s := if inState s p 1 .disconnected then usb2Connect p false s else s
    if inState s p 1 .enabled then s else goHalf p 1 .enabled [.prc] 0x03 none (setSpeed p 1 (lSpeed c) s)

/-- Steps 1 and 2 of R360; the traffic of steps 3 and 4 (`loopTraffic`) then runs until LOOPBACK_DURATION_END.
DESIGN CHOICE (log 79). -/
def startLoop (c : Packet) (reached : Bool) (s : State) : State :=
  let p := uPort c
  let s := devEnable { s with dev := { s.dev with looping := true } }
  if !reached then
    let s := devOff 0 0 s
    reply c.index 4 0 0 0 0 { s with dev := { s.dev with looping := false } }
  else
    let s := devAttach (lConn c) (loopReach c s)
    let a := (((List.range 127).map (· + 1)).find? (fun a => !addrTaken s p a)).getD 0
    let s := bus p (lHalf c) (.setAddress a 0 0) s
    let u : Unit := { half := lHalf c, parent := 0, hubPort := 0, route := 0, isHub := false, speed := lSpeed c }
    let s := modPort p (fun x => { x with units := insert x.units a u }) s
    let s := devTo .address { s with dev := { s.dev with addr := BitVec.ofNat 7 a } }
    { s with dev := { s.dev with loopCmd := some (c.index, p.val, a), loopBytes := 0 } }

def execDiagLoopback (c : Packet) (reached : Bool) (s : State) : Res :=
  command 0xE1 [0x307, 0xFFFFFFFF] false false (loopChecks c) (startLoop c reached) c s

/-- The duration has run out: the address freed, EN and LOOP 0, the reply. DESIGN CHOICE (log 79). -/
def endLoop (i : Word) (p a errors : Nat) (s : State) : State :=
  let s := devOff 0 0 (freeUnit p a s)
  reply i 0 0 (wd errors) (wd (min s.dev.loopBytes 0xFFFFFFFF)) 0
    { s with dev := { s.dev with looping := false, loopCmd := none } }

def execLoopbackDurationEnd (errors : Nat) (s : State) : Res :=
  match s.dev.loopCmd with
  | some (i, p, a) => .next (endLoop i p a errors (ungate s))
  | none => noSuch s

end Sys2Proof.Machine
end

