-- ==== Sys2Proof/Machine/Memory.lean ====
section
/-! DEFINITION. Contexts that arrive from the cellar (R152), memory errors and lost cellar channels (R278–R281), and the
end-of-frame guard (R203, R215). -/

namespace Sys2Proof.Machine

open Sys2Proof

/-! ### Counters (R278) -/

/-- The cellar channel that holds a pipe's items (R333). -/
def celOf (s : State) (n : Nat) : Nat :=
  if s.glb.c0.inSvc && s.glb.c1.inSvc then n % 2 else if s.glb.c1.inSvc then 1 else 0

/-- One uncorrectable error of a cellar channel: counted, FLT_STAT.MEM_UE; those of the last second are kept (R281). -/
def countUe (c : Nat) (s : State) : State :=
  let u := raiseMemUe s.sump
  let t := (getD [] u.ceTimes (4 + c)).filter (fun m => idiff s.iso.mic m < 8000) ++ [s.iso.mic]
  let u := { u with ceTimes := setD [] u.ceTimes (4 + c) t }
  { s with sump := if c = 0 then { u with cel0Ue := u.cel0Ue + 1 } else { u with cel1Ue := u.cel1Ue + 1 } }

/-- Closes a pipe whose context is lost (Table 10-3); a stream endpoint goes with its streams.
DESIGN CHOICE (log 80). -/
def losePipe (n : Nat) (s : State) : State :=
  match pipe s n with
  | some x =>
    let kids := if x.kind = .streamEp then pipesWhere s (fun y => y.kind = .stream && y.link = n) else []
    let s := kids.foldl (fun s m => closePipe m true { status := 8, errinfo := 3 } { status := 7, errinfo := 3 } s) s
    closePipe n true { status := 8, errinfo := 3 } { status := 7, errinfo := 3 } s
  | none => s

/-- The instance of a pipe, for MEM_ERR. -/
def pipeInst (s : State) (n : Nat) : Nat := match pipe s n with | some x => x.inst | none => 0

/-! ### The cellar (R278, R280, R281) -/

/-- What one uncorrectable word of the cellar does (Table 10-3, R280). DESIGN CHOICE (log 80). -/
def loseWord (c : Nat) (l : Word × CellarLoss) (s : State) : State :=
  let s := countUe c s
  match l.2 with
  | .context n => losePipe n (memErrEvent (4 + c) 1 l.1.toNat n (pipeInst s n) s)
  | .node n both =>
    let s := memErrEvent 6 1 l.1.toNat n (pipeInst s n) s
    if both then losePipe n s else s
  | .record q =>
    memErrEvent (4 + c) 1 l.1.toNat 0 0 { s with sump := { s.sump with log := s.sump.log.filter (fun r => r.seq ≠ q) } }
  | .unused => memErrEvent (4 + c) 1 l.1.toNat 0 0 s

/-- Training is lost, and a retraining recovers it. -/
def execCellarTrainingLoss (c : Fin 2) (s : State) : Res :=
  when s ((celReg s c).inSvc && !(celReg s c).selfRefresh)
    (modCel c (fun x => { x with retrains := x.retrains + 1 }) s)

/-- The records that lay in the failed channel are gone; the spec does not say in which channel a record lies, so with
both channels in service each record's place is a free value. DESIGN CHOICE (log 80). -/
def loseRecords (both : Bool) (c : Nat) (s : State) : State :=
  if !both then { s with sump := { s.sump with log := [] } }
  else
    let keep := (s.sump.log.mapIdx (fun i r => (r, Config.freeValue (s.free + i)))).filter (fun x => x.2.toNat % 2 ≠ c)
    { s with free := s.free + s.sump.log.length, sump := { s.sump with log := keep.map Prod.fst } }

/-- Pipes whose context is lost with channel c, or whose identifier breaks R28 afterwards (R281).
DEDUCED (log 81). -/
def lostPipes (s : State) (both : Bool) (c : Nat) : List Nat :=
  (s.sched.pipes.map Prod.fst).filter (fun n =>
    !both || fusedPipes s / 2 ≤ n ||
      (n % 2 = c && !s.sched.cache.any (fun e => e.1 = n) && !s.sched.overflow.contains n))

/-- R281. DEDUCED (log 81). -/
def failCellar (c : Nat) (s : State) : State :=
  let both := s.glb.c0.inSvc && s.glb.c1.inSvc
  let gone := lostPipes s both c
  let s := loseRecords both c s
  let s := resizeLog (modCel c celDown s)
  let s := gone.foldl (fun s n => losePipe n s) s
  capChange 4 false true c (memErrEvent (4 + c) 2 0 0 0 s)

/-- UE_MAX uncorrectable errors within one second fail a cellar channel that is in service (R281, Table 10-9).
DEDUCED (log 81). -/
def ueCheck (c : Nat) (s : State) : State :=
  if (celReg s c).inSvc && max 1 s.sump.ueMax.toNat ≤ (getD [] s.sump.ceTimes (4 + c)).length then
    failCellar c { s with sump := { s.sump with ceTimes := setD [] s.sump.ceTimes (4 + c) [] } }
  else s

def execCellarScrub (c : Fin 2) (n : Nat) (lost : List (Word × CellarLoss)) (s : State) : Res :=
  when s ((celReg s c).inSvc && !(celReg s c).selfRefresh)
    (ueCheck c (lost.foldl (fun s l => loseWord c l s) (countCe (2 + c.val) n s)))

def execCellarChannelFail (c : Fin 2) (s : State) : Res :=
  when s ((celReg s c).inSvc) (failCellar c s)

/-! ### SCHEDULER_DECISION (R153) and the chip's memories (R278–R280, Table 10-3) -/

/-- An uncorrectable word of the chip's memories is counted (Table 10-11). -/
def chipUe (s : State) : State := { s with sump := { raiseMemUe s.sump with chipUe := s.sump.chipUe + 1 } }

/-- A context in the cache or the pin overflow is lost: its pipe closes (Table 10-3). -/
def loseCtx (n : Nat) (s : State) : State :=
  if s.sched.cache.any (fun c => c.1 = n) || s.sched.overflow.contains n then
    losePipe n (memErrEvent 1 1 (n % 4096) n (pipeInst s n) (chipUe s))
  else s

/-- The entry at a pipe's head is lost: it completes XACT_ERR, ERRINFO 0xFF, and its chain ends (Table 10-3, R109). The
place of the entry store is a free value: the spec does not lay the store out. -/
def loseEntry (n : Nat) (s : State) : State :=
  match pipe s n with
  | some x =>
    match x.ents with
    | r :: _ =>
      let f := takeFree (chipUe s)
      let s := memErrEvent 2 1 f.1.toNat r.q x.inst f.2
      let c : Cpl := { status := 4, errinfo := 0xFF }
      match x.x, queue s r.q, ent s r.q r.idx with
      | some k, _, _ => endBus k c s
      | none, some q, some e =>
        let y : Xfer := { type := .out, inst := x.inst, q := r.q, pipe := some n, idx := r.idx, urg := false }
        nextHead n (endChain y 0 c.atMaster ((chainFrom (eSig e.dw) r.idx q.ents).1) s)
      | _, _, _ => s
    | [] => s
  | none => s

/-- The first page that a pipe is to send has an uncorrectable word: the packet is not sent, the burst ends, the entry
completes XACT_ERR, ERRINFO 0x01, and the pipe halts (R279). -/
def loseOut (n : Nat) (again : Bool) (s : State) : State :=
  match pipe s n with
  | some x =>
    match x.x, x.x.bind (xfer s) with
    | some k, some y =>
      if y.type = .out && (fullRun x y) != [] && !(descOf s n).any (fun d => d.2.onWire) then
        let s := unbind k (pageUe k y false again s)
        haltPipe n 4 1 (settleBurst n (modXfer k (fun y => { y with pages := [] }) s))
      else s
    | _, _ => s
  | none => s

/-- What a decision's reads of the chip's memories find. A node's cellar address is a free value.
DEDUCED (log 106). -/
def chipError (m : ChipAnswer) (s : State) : State :=
  match m with
  | .good => s
  | .corrected => countCe 1 1 s
  | .context n => loseCtx n s
  | .node n both =>
    let f := takeFree s
    if (pipe s n).isSome then ueCheck (celOf s n) (loseWord (celOf s n) (f.1, .node n both) f.2) else s
  | .entry n => loseEntry n s
  | .page n again => loseOut n again s

def execSchedulerDecision (p : Port) (mem : ChipAnswer) (s : State) : Res :=
  when s (turnPort (catchAll s) = some p.val) (decide' p (chipError mem (catchAll s)))

/-! ### CONTEXT_FILL (R152, R278) -/

/-- The context of a pipe arrives. The cellar address of a bad word is a free value: the spec does not place the
contexts. -/
def ctxArrives (n : Nat) (a : MemAnswer) (s : State) : State :=
  let c := celOf s n
  match a with
  | .good => fillCtx n s
  | .corrected => countCe (2 + c) 1 (fillCtx n s)
  | .uncorrectable =>
    let f := takeFree s
    ueCheck c (losePipe n (memErrEvent (4 + c) 1 f.1.toNat n (pipeInst s n) (countUe c f.2)))

def execContextFill (n : PipeId) (a : MemAnswer) (s : State) : Res :=
  when s (s.sched.fills.contains n.val) (ctxArrives n a s)

/-! ### CELLAR_SERVICE (R333–R336) -/

/-- A cellar channel fails while a service command runs (R336): in service it goes out of it under R281; one that is
out of service, as the channel that returns is, stays out. DEDUCED (log 131). -/
def failInService (k : Nat) (s : State) : State :=
  if (celReg s k).inSvc then failCellar k s else memErrEvent (4 + k) 2 0 0 0 s

/-- Tables 12-8 and 12-9, or R336: R281 decides, and the command is answered with result 2. DEDUCED (log 131). -/
def serveCellar (c : Packet) (r : CellarTest) (s : State) : State :=
  let k := sCel c
  match r with
  | .channelFailed f =>
    let s := failInService f s
    ok c 2 (wd (pipeCap s)) 0 s
  | r =>
  if !sReturn c then
    let s := capChange 4 false false k (resizeLog (modCel k celDown (switchOff s (.cel k))))
    ok c 0 (wd (pipeCap s)) 0 s
  else
    match r with
    | .trainingFailed => ok c 1 (wd (pipeCap s)) 0 s
    | .selfTestFailed => ok c 2 (wd (pipeCap s)) 0 s
    | _ =>
      let s := capChange 4 true false k (resizeLog (modCel k celUp (switchOn s (.cel k))))
      ok c 0 (wd (pipeCap s)) 0 s

def execCellarService (c : Packet) (r : CellarTest) (s : State) : Res :=
  command 0xBA [0x101] false false (cellarChecks c) (serveCellar c r) c s

/-! ### The end-of-frame guard (R203, R215) -/

/-- A unit that still transmits has babbled: directly on half 1 it takes the half with it. -/
def babble (p : Port) (n : Nat) (x : Pipe) (s : State) : State :=
  let direct := (pathTo s p 6 x.addr).isEmpty
  let s := errorOut n x 3 3 s
  if direct then linkFail p 1 s else s

/-- A babbling unit answers a transaction of the port's half 1. -/
def babbles (s : State) (p : Port) (n : Nat) : Option Pipe :=
  match descOf s n with
  | some (x, d) => if x.port = p && pHalf x = 1 && d.onWire && inState s p 1 .enabled then some x else none
  | none => none

def execEndOfFrameGuard (p : Port) (b : Option PipeId) (s : State) : Res :=
  match b with
  | none => when s (inState s p 1 .enabled) s
  | some n =>
    match babbles s p n with
    | some x => .next (babble p n x s)
    | none => noSuch s

end Sys2Proof.Machine
end

