-- ==== Sys2Proof/Machine/Startup.lean ====
section
/-! DEFINITION. Start-up and reset (file 16): the power-on sequence with its image selection and recovery (R407–R412),
the channels' cool-down records at power-up (R370, R384), power fail (R406), and the controller reset (R414). -/

namespace Sys2Proof.Machine

open Sys2Proof

/-! ### What no reset clears -/

/-- Everything lost but flash, OTP, the fuses, the levels at the pins and the oscillator of AON (Table 16-6, R408). -/
def cold (s : State) : State :=
  { isL := s.isL, pending := s.pending, out := s.out, free := s.free, mgmt := { gatesHeld := s.mgmt.gatesHeld }
    fw := { otp := s.fw.otp, recSeq := s.fw.recSeq, recSlotB := s.fw.recSlotB, partA := s.fw.partA, partB := s.fw.partB }
    boot := { perst := s.boot.perst, rcOnly := s.boot.rcOnly, xtalWait := s.boot.xtalWait, onXtal := s.boot.onXtal }
    chans := { lowA := s.chans.lowA, lowB := s.chans.lowB
               regs := s.chans.regs.foldl (fun m kv =>
                 setD {} m kv.1 { seatA := kv.2.seatA, seatB := kv.2.seatB }) [] } }

/-- `cold`, with PM_SCR and the cool-down records (R406). DEDUCED (log 85). -/
def coldKeep (s : State) : State := { cold s with pm := { scr := s.pm.scr, cool := s.pm.cool } }

/-- A domain has no power (Table 15-1, Table 15-6), and its clamps are set (R400): the core group, a port or a cellar
channel out of service, the device port with EN 0, a store room that DEEP does not keep. -/
def domainOff (s : State) : Domain → Bool
  | .pmu => !s.boot.up && s.pm.st != .deep
  | .store r => !s.boot.up && !(s.pm.st = .deep && s.pm.kept.getLsbD r)
  | .fab | .hk | .pcie | .chan | .iso | .mgt => !s.boot.up
  | .dev => !(s.boot.up && s.dev.en)
  | .cel c => !(s.boot.up && (celReg s c).inSvc)
  | .port p => !(s.boot.up && (port s p).powered)

/-- The domains in the order in which step 7 of Table 15-3 switches them off. -/
def domainOrder : List Domain :=
  (List.range 8).map Domain.port ++ [.dev, .chan, .pcie, .mgt, .iso, .hk, .fab] ++ (List.range 2).map Domain.cel ++
    (List.range 8).map Domain.store ++ [.pmu]

/-- The domains in which two states differ: those that go off are all clamped, then switched off in order. -/
def domainsDown (old new s : State) : State :=
  let ds := domainOrder.filter (fun d => !domainOff old d && domainOff new d)
  ds.foldl (fun s d => emit (.power d false) s) (ds.foldl (fun s d => emit (.clamp d true) s) s)

/-- Those that come on, in the reverse order (R400). -/
def domainsUp (old new s : State) : State :=
  (domainOrder.reverse.filter (fun d => domainOff old d && !domainOff new d)).foldl switchOn s

/-- Every gate that is driven is released. -/
def gatesOff (s : State) : State :=
  (List.range 16).foldl (fun s c => if gateOn s (chan s c) then emit (.gate c false) s else s) s

/-- A power fail pulls them off by the fast pull-down (R406). -/
def gatesFast (s : State) : State :=
  (List.range 16).foldl (fun s c => if gateOn s (chan s c) then emit (.gateFast c) (emit (.gate c false) s) else s) s

/-- An enable output of the PMIC, which holds its value once a JTAG test instruction is selected, until the next
power-on (R441). -/
def pmic (core : Bool) (on : Bool) (s : State) : State :=
  if s.mgmt.gatesHeld then s
  else emit (.pin (if core then "PMIC_CORE_EN" else "PMIC_MEM_EN") on) s

/-! ### The channels at power-up (R370, R384) -/

/-- exp(−t/TAU_B) of R370, to a precision that the spec does not state (log 6): 1 at t = 0, and never outside
1 − t/TAU_B and TAU_B/(TAU_B + t), between which the exponential lies. -/
def coolDecay (t tau : Nat) : Rat :=
  if t = 0 then 1
  else max 0 (max (1 - (t : Rat) / tau) (min ((tau : Rat) / (tau + t)) (Config.decay t tau)))

/-- OFF_LEFT and the model from the cool-down record of a channel, after `t` ms off. -/
def warmChan (t : Nat) (c : Nat) (s : State) : State :=
  let r := getD {} s.pm.cool c
  let x := takeChCfg s c { seatA := (chan s c).seatA, seatB := (chan s c).seatB }
  let tau := fld x.tmod1 12 20
  setChan c { x with offLeft := max 1000 (r.offMs - t) * 10
                     db := (r.rise : Rat) / 2 * coolDecay t tau } s

def warmChans (t : Nat) (s : State) : State := (List.range 16).foldl (fun s c => warmChan t c s) s

/-! ### Controller reset (R414) -/

/-- Step 4 for one half: DISABLED unless POWERED_OFF or DISCONNECTED. DEDUCED (log 83). -/
def disableHalf (p : Port) (h : Half) (s : State) : State :=
  match (halfReg s p h).st with
  | .poweredOff | .disconnected | .disabled => s
  | .resetting => modHalf p h (fun x => raise .prc (settleHalf h .disabled x)) s
  | .enabled | .suspended | .resuming => modHalf p h (fun x => raise .pec (settleHalf h .disabled x)) s

/-- Step 4 for a port: its addresses and topology records, and what its engines carry. -/
def clearPort (p : Port) (s : State) : State :=
  let clr : Engine → Engine := fun e => { e with descs := [], retry := [], setAddr := none, setSent := false }
  disableHalf p 1 (disableHalf p 0
    (modPort p (fun x => { x with units := [], reserved := [], e0 := clr x.e0, e1 := clr x.e1 }) s))

/-- Step 5 for a pump channel; one that is OFF stays OFF. -/
def idlePump (n : Nat) (s : State) : State :=
  modPump n (fun p => { p with pause := false, job := none, staged := 0, preempted := false, removing := none
                               st := if p.st = .off then .off else .idle }) s

/-- The configuration space of the physical function after a function-level reset (R312); the memory enables of the
virtual functions lie in it. PRESUMED (log 82). -/
def clearPf (s : State) : State :=
  let s := modFn 0 (fun f => { f with memEnable := false, busMaster := false, msixEnable := false, funcMask := false
                                      corReport := false, nfReport := false, dstate := .d0, vecs := [] }) s
  let s := s.funcs.foldl (fun s kv => modFn kv.1 (fun f => { f with memEnable := false }) s) s
  { s with host := { s.host with tenBit := false, mrrs := 2, cplTimeoutOff := false, cplTimeout := 0 } }

/-- Steps 1 and 2: every tenant reset with cause 3 and removed; instance 0's work gone; no command is answered. -/
def clearInstances (s : State) : State :=
  let is := (s.insts.filter (fun kv => kv.1 ≠ 0 && kv.2.st != .absent)).map Prod.fst
  let s := is.foldl (fun s i =>
    resetInst i 3 none true (modFn i (fun f => { f with busMaster := false, msixEnable := false }) s)) s
  let s := { s with host := { s.host with vfEnable := false, numVfs := 0 } }
  let s := is.foldl (fun s i => clearWork i (modInst i (fun x => { x with rstCmds := [] }) s)) s
  let s := clearWork 0 (gateWork 0 s)
  let mine := (s.qe.queues.filter (fun kv => kv.2.owner = 0)).map Prod.fst
  let s := mine.foldl (fun s q => delQueue q s) s
  setQueue 0 {} s

/-- R414: instances, pipes, origins, ports, the device port and the pumps. DEDUCED (log 83). -/
def resetDatapath (s : State) : State :=
  let s := clearInstances (clearPf s)
  let s := (pipesWhere s (fun _ => true)).foldl (fun s n => erasePipe n s) s
  let s := { s with sump := { s.sump with origins := [], walks := [], intake := [] } }
  let s := (List.range 8).foldl (fun s p => clearPort (Fin.ofNat 8 p) s) s
  let s := devClear { s with dev := { s.dev with looping := false, loopCmd := none } }
  let s := (List.range 64).foldl (fun s n => idlePump n s) s
  { s with cis := { s.cis with high := [], norm := [], reqs := [], copyWait := [] } }

/-- R414: both configuration sets at their reset values, and the lock and the adjustments with them (Table 8-3).
DEDUCED (log 83). -/
def resetSets (s : State) : State :=
  let old := s.cfg.active
  let s := { s with cfg := {}, cmd := { s.cmd with pendSwap := false, swapCmd := none } }
  let t := { s.iso with lock := .free, anchValid := false }
  let s := { s with iso := if s.iso.lock = .free then t else raiseLock t }
  let s := (List.range 8).foldl (fun s p => commitPcfg (setGet old (0x300100 + p * 0x10)) p s) s
  (List.range 8).foldl (fun s p => recheckPort p s) s

/-- R414. Firmware, the fault log, the channels and the Type-C ports run on. DEDUCED (log 83). -/
def controllerReset (s : State) : State :=
  let s := dropReads (fun r => isStage r.ref) (resetSets (resetDatapath s))
  { s with boot := { s.boot with cause := 4, flrHeld := false }
           fw := { s.fw with staging := false, chunk := none, chunkRead := false, staged := 0 } }

/-- A function-level reset of the physical function: held before step 12 (R416), in an activation pause (R342), and
while the clocks are stopped in SLEEP. -/
def pfReset (s : State) : State :=
  if !s.boot.fwReady || s.cmd.paused || s.pm.st = .sleep then { s with boot := { s.boot with flrHeld := true } }
  else controllerReset (ungate s)

/-- DEDUCED (log 84). -/
def execPfFunctionLevelReset (s : State) : Res := when s (cfgUp s) (pfReset (wakeLink s))

/-- A reset that was held is performed. DEDUCED (log 84). -/
def heldReset (s : State) : State := if s.boot.flrHeld then controllerReset s else s

/-! ### Steps 11 and 12 of Table 16-2 -/

/-- Step 11: ports and pump channels as their self-tests found them (Table 16-5). -/
def bringPort (s0 : State) (p : Nat) (s : State) : State :=
  let good : Bool := !s0.boot.bringPorts.getLsbD p
  let bad1 : Bool := portFused s0 p && s0.boot.bringLane1.getLsbD p
  modPort p (fun x => { x with inService := good, powered := good, h0 := { x.h0 with lane1Fail := bad1 } }) s

/-- BOOT_FAIL shows fused ports only. -/
def fusedMask (s : State) (v : BitVec 8) : BitVec 8 := v &&& BitVec.ofNat 8 (maskOf 8 (portFused s))

/-- Steps 11 and 12: FW_READY, and a held function-level reset (R416). -/
def finishBoot (s : State) : State :=
  let s0 := s
  let s := (List.range 8).foldl (fun s p => bringPort s0 p s) s
  let s := (List.range 64).foldl (fun s n =>
    if s0.boot.bringPumps.getLsbD n then modPump n (fun p => { p with st := .off }) s else s) s
  heldReset { s with boot := { s.boot with
    fwReady := true, recovery := false, otherCheck := true, pfail := s0.boot.bringPumps
    failPorts := fusedMask s0 s0.boot.bringPorts, failLane1 := fusedMask s0 s0.boot.bringLane1 } }

/-! ### Image selection (R410, R411) -/

/-- A dword of an image header. -/
def hdrDw (h : List Byte) (o : Nat) : Nat :=
  (h.getD o 0).toNat + 256 * (h.getD (o + 1) 0).toNat + 65536 * (h.getD (o + 2) 0).toNat +
    16777216 * (h.getD (o + 3) 0).toNat

/-- VERSION, in the layout of FW_VER. -/
def imageVer (h : List Byte) : BitVec 24 := BitVec.ofNat 24 (hdrDw h 4)

/-- The header of Table 12-10: MAGIC, ROLLBACK, LENGTH (with the bytes staged, where there are any), ENTRY in the body,
and zeros. DEDUCED (log 145). -/
def headerOk (h : List Byte) (staged : Option Nat) : Bool :=
  let n := hdrDw h 0xC
  hdrDw h 0 = 0x81600F00 && hdrDw h 8 ≤ 64 && 1 ≤ n && n ≤ 4194048 && hdrDw h 0x10 < n &&
    staged.all (fun m => m = n + 256) &&
    (List.range 108).all (fun k => h.getD (0x14 + k) 0 = 0) && (List.range 32).all (fun k => h.getD (0xE0 + k) 0 = 0)

/-- The check of an image (R338, R410): the DETAIL of what fails (Table 12-2). DEDUCED (log 145). -/
def imageFault (h : List Byte) (staged : Option Nat) (verified : Bool) (otp : Nat) : Option Nat :=
  if !headerOk h staged then some 0x0C
  else if !verified then some 0x0A
  else if hdrDw h 8 < otp then some 0x0B
  else none

/-- A slot that reads, whose staging has not been cut short, that checks against the OTP level and starts: the image's
version and rollback level. -/
def slotRuns (o : BootOutcome) (fw : Firmware) (b : Bool) : Option (BitVec 24 × Nat) :=
  let reads := if b then o.slotBReads else o.slotAReads
  let starts := if b then o.slotBStarts else o.slotAStarts
  let im := if b then o.slotB else o.slotA
  let part := if b then fw.partB else fw.partA
  if reads && starts && !part && (imageFault im.header none im.verified fw.otp).isNone then some (imageVer im.header, hdrDw im.header 8)
  else none

/-- bad[s]: a slot that was tried, could be read, and did not come to run. -/
def slotBad (o : BootOutcome) (fw : Firmware) (b : Bool) : Bool :=
  (if b then o.slotBReads else o.slotAReads) && (slotRuns o fw b).isNone

/-- Records a slot as failed in this boot. -/
def markBad (b bad : Bool) (s : State) : State :=
  if !bad then s
  else { s with boot := if b then { s.boot with slotB := true } else { s.boot with slotA := true } }

/-- VALID, version and rollback level of a slot. -/
def setSlot (b valid : Bool) (v : BitVec 24) (r : Nat) (s : State) : State :=
  { s with fw := if b then { s.fw with bValid := valid, verB := v, rbB := r }
    else { s.fw with aValid := valid, verA := v, rbA := r } }

/-- A slot is being staged, or its staging has passed (R338). -/
def setPart (b part : Bool) (s : State) : State :=
  { s with fw := if b then { s.fw with partB := part } else { s.fw with partA := part } }

/-- A slot runs: RUN_SLOT, VALID and FW_VER. -/
def runSlot (b : Bool) (i : BitVec 24 × Nat) (s : State) : State :=
  let s := setSlot b true i.1 i.2 s
  { s with fw := { s.fw with runB := b, ver := i.1 } }

/-- Recovery (R411): the ports, the device port and the channels stay out of service. -/
def recover (s : State) : State :=
  let s := (List.range 8).foldl (fun s p => modPort p (fun x => { x with inService := false, powered := false }) s) s
  { s with boot := { s.boot with recovery := true } }

/-- boot_select of R410: the slot that the boot record in flash names first, slot A when no copy of it is good. -/
def bootSelect (o : BootOutcome) (s : State) : State :=
  let fw := s.fw
  let first := !o.recordBad && s.fw.recSlotB
  match slotRuns o fw first with
  | some i => finishBoot (runSlot first i s)
  | none =>
    let s := markBad first (slotBad o fw first) s
    match slotRuns o fw (!first) with
    | some i =>
      let s := { s with boot := { s.boot with fallback := true }, fw := { s.fw with fallbacks := s.fw.fallbacks + 1 } }
      finishBoot (runSlot (!first) i s)
    | none => recover (markBad (!first) (slotBad o fw (!first)) s)

/-! ### The sequence (Table 16-2, R412) -/

/-- A cellar channel after training and self-test. -/
def bringCel (bad : Bool) : CelReg := if bad then {} else celUp {}

/-- The master interval number after `ticks` AON ticks (R397): 32,768 ticks a second, 8,000 intervals a second. -/
def micAfter (m : Word) (ticks : Nat) : Word := m + wd ((ticks * 125 + 511) / 512)

/-- Steps 3 to 12, on a state in which nothing but `cold` and AON's own is kept. -/
def bringUp (cause : Nat) (o : BootOutcome) (s : State) : State :=
  let mic := match s.pm.mic with | some m => micAfter m o.aonTicks | none => 0
  let old := s
  let s := pmic true true (pmic false true { s with mgmt := {} })
  let retired := min o.retiredPages 8192
  let s := { s with
    boot := { s.boot with
      up := true, failed := false, cause := BitVec.ofNat 3 cause, bootMs := o.bootMs, failCellar := o.cellar
      rooms := o.rooms, ways := o.ways, entries := o.entries, bringPorts := o.ports, bringLane1 := o.lane1
      bringPumps := o.pumps }
    iso := { s.iso with running := true, mic := mic }
    pm := { s.pm with mic := none, st := .run }
    sump := { s.sump with cisRet := BitVec.ofNat 14 retired }
    cis := { s.cis with sharedFree := 8192 - retired, low := 8192 - retired }
    glb := { s.glb with
      c0 := bringCel (o.cellar.getLsbD 0), c1 := bringCel (o.cellar.getLsbD 1)
      sizeGib := BitVec.ofNat 4 o.cellarGiB.val, celRate := o.cellarRate }
    fw := { s.fw with otp := max s.fw.otp o.otp.val } }
  let s := bootSelect o (warmChans o.offMs (resizeLog s))
  domainsUp old s s

/-- POWER_ON (R407): VAON has risen; AON runs from the RC oscillator and starts its crystal (R408). -/
def powerOn (o : BootOutcome) (s : State) : State :=
  let s := cold s
  bringUp 0 o { s with boot := { perst := s.boot.perst, xtalWait := true } }

/-- DESIGN CHOICE (log 4). -/
def execPowerOn (o : BootOutcome) (s : State) : Res :=
  when s (!s.boot.up && !s.boot.failed && s.pm.st = .run) (powerOn o s)

/-! ### Power fail (R406, R446), VAON, the crystal (R408) -/

/-- Gates off, clamps, both enables low; PM_SCR and the cool-down records are kept. DEDUCED (log 85). -/
def powerFail (s : State) : State :=
  let t := coldKeep (gatesFast s)
  let t := pmic false false (pmic true false (domainsDown s t t))
  { t with boot := { t.boot with failed := true } }

/-- A power-good falls while its enable is high: both groups, or in DEEP the memory group. -/
def execPowerFail (s : State) : Res := when s (s.boot.up || s.pm.st = .deep) (powerFail s)

/-- The die sensor reads 125 °C, in any state. DEDUCED (log 85). -/
def execDieOvertempTrip (s : State) : Res :=
  when s (s.boot.up || s.pm.st = .deep || s.pm.st = .off)
    (let t := powerFail s; { t with boot := { t.boot with hot := true } })

/-- 100 ms later: the sequence from step 3, with cause 1; after a trip of the die sensor at 95 °C or less (R446). -/
def execPowerFailRestart (o : BootOutcome) (die : Int) (s : State) : Res :=
  when s (s.boot.failed && (!s.boot.hot || die ≤ 95)) (bringUp 1 o { s with boot := { s.boot with hot := false } })

/-- VAON lost: everything, with PM_SCR, the cool-down records and the oscillator's state (R370, R406). -/
def vaonLoss (s : State) : State :=
  let s := cold (gatesOff s)
  { s with boot := { perst := s.boot.perst }, mgmt := {} }

def execVaonLoss (s : State) : Res := .next (vaonLoss s)

def execXtal32kReady (s : State) : Res :=
  when s s.boot.xtalWait { s with boot := { s.boot with xtalWait := false, onXtal := true } }
def execXtal32kTimeout (s : State) : Res :=
  when s s.boot.xtalWait { s with boot := { s.boot with xtalWait := false, rcOnly := true } }

/-! ### The other slot (R410) -/

/-- The check of the other slot: VALID when it passes. -/
def otherSlot (c : Image) (s : State) : State :=
  let s := { s with boot := { s.boot with otherCheck := false } }
  if !(if s.fw.runB then s.fw.partA else s.fw.partB) && (imageFault c.header none c.verified s.fw.otp).isNone then
    setSlot (!s.fw.runB) true (imageVer c.header) (hdrDw c.header 8) s
  else s

def execSlotBackgroundCheck (c : Image) (s : State) : Res :=
  when s s.boot.otherCheck (otherSlot c s)

end Sys2Proof.Machine
end

