-- ==== Sys2Proof/Machine/Firmware.lean ====
section
/-! DEFINITION. Firmware images (R337–R343): staging, activation with its pause, fallback, the boot record, FW_QUERY. -/

namespace Sys2Proof.Machine

open Sys2Proof

/-! ### Registers and events -/

/-- FW_STAT (Table 12-15). -/
def fwStat (s : State) : Word :=
  pack [(b1 s.fw.runB, 0), (b1 s.fw.aValid, 1), (b1 s.fw.bValid, 2), (b1 s.fw.staging, 3), (b1 s.fw.activating, 4),
    (s.fw.otp, 5), (s.fw.fallbacks.toNat, 16)]

/-- The slot that an activation would start: the one that does not run, or in recovery the one staged last. -/
def otherB (s : State) : Bool := if s.boot.recovery then s.fw.stageB else !s.fw.runB
def slotValid (s : State) (b : Bool) : Bool := if b then s.fw.bValid else s.fw.aValid
def slotVer (s : State) (b : Bool) : BitVec 24 := if b then s.fw.verB else s.fw.verA
def slotRb (s : State) (b : Bool) : Nat := if b then s.fw.rbB else s.fw.rbA

/-- FW_STATE (Table 12-12). DEDUCED (log 87). -/
def fwState (why : Nat) (b : Bool) (v : BitVec 24) (detail : Nat) (us : Word) (s : State) : State :=
  event 0 0x63 [pack [(why, 0), (b1 b, 8)], wd v.toNat, wd detail, us, wd s.fw.otp] s

/-- Neither cellar channel is in service (Table 16-5). -/
def noCellar (s : State) : Bool := !s.glb.c0.inSvc && !s.glb.c1.inSvc

/-! ### FW_STAGE (R338, R411) -/

def fLen (c : Packet) : Nat := c.dw[5].toNat
def fOff (c : Packet) : Nat := c.dw[6].toNat

/-- DEDUCED (log 86). -/
def stageChecks (c : Packet) (s : State) : List Check :=
  [inval (fLen c = 0 || 65536 < fLen c || 4194304 < fOff c + fLen c) 0x04,
   busy (noCellar s) 0x07,
   busy (fOff c ≠ 0 && s.fw.chunk.isSome) 0x10,
   inval (fOff c ≠ 0 && fOff c ≠ (if s.fw.staging then s.fw.staged else 0)) 0x04]

/-- The reads of a host buffer from its byte `k` on, split under R39; each takes a tag of its own (R38). -/
def chunkReads : Nat → Nat → Nat → Nat → State → State
  | 0, _, _, _, s => s
  | f + 1, a, k, n, s =>
    if n = 0 then s
    else
      let m := min n (readCap s (a + k))
      chunkReads f a (k + m) (n - m) (issueRead (.stage k) 0 (a + k) m s)

/-- What a restart does to a chunk under way: its reads are discarded, and its command ends with a status that the spec
does not state. DEDUCED (log 86). -/
def dropChunk (s : State) : State :=
  match s.fw.chunk with
  | some i =>
    let f := takeFree (dropReads (fun r => isStage r.ref) s)
    reply i (f.1.toNat % 256) 0 0 0 0 { f.2 with fw := { f.2.fw with chunk := none } }
  | none => s

/-- A chunk is accepted; the one at offset 0 erases the slot. DEDUCED (log 86). -/
def stageChunk (c : Packet) (s : State) : State :=
  let s :=
    if fOff c ≠ 0 then s
    else
      let again := s.fw.staging
      let s := dropChunk s
      let b := if s.boot.recovery then (if again then s.fw.stageB else s.fw.recNextB) else !s.fw.runB
      let s := setPart b true (setSlot b false 0 0 s)
      emit (.flash 0 (b1 b)) { s with
        fw := { s.fw with staging := true, stageB := b, staged := 0, header := []
                          recNextB := if s.boot.recovery then !b else s.fw.recNextB }
        boot := { s.boot with otherCheck := false } }
  chunkReads (fLen c + 1) (addr64 c.dw[3] c.dw[4]) 0 (fLen c) { s with
    fw := { s.fw with chunk := some c.index, chunkRead := true, chunkLen := fLen c, chunkLast := tst c.dw[2] 0 } }

def execFwStage (c : Packet) (s : State) : Res :=
  command 0xD0 [0x1, 0xFFFFFFFF, 0xFFFFFFFF, 0xFFFFFFFF, 0xFFFFFFFF] false true
    (stageChecks c) (stageChunk c) c s

/-- Staging has failed: the slot stays not valid; the version of its image is an open value. DEDUCED (log 87). -/
def stageFail (i : Word) (status detail : Nat) (s : State) : State :=
  let f := takeFree { s with fw := { s.fw with staging := false, chunk := none, chunkRead := false } }
  let s := fwState 2 s.fw.stageB (f.1.extractLsb' 0 24) detail 0 f.2
  reply i status detail 0 0 0 s

/-- The bytes from `o` on of what is staged, as far as they belong to the header. -/
def putHeader (o : Nat) (bs h : List Byte) : List Byte :=
  if 256 ≤ o then h
  else (List.range 256).map (fun k => if o ≤ k && k < o + bs.length then bs.getD (k - o) 0 else h.getD k 0)

/-- A read of a chunk has returned; with the last of them the chunk goes to flash. A read that fails ends the staging,
and the answers of the others are discarded. The spec gives a staging read no SOURCE code in HI_HERR_INFO.
DEDUCED (log 86). -/
def stageReturn (o : OutRead) (first : Nat) (a : ReadAnswer) (s : State) : State :=
  let s := retireRead (.stage first) s
  match a with
  | .error k =>
    let f := takeFree s
    let s := hostError 0 k (f.1.toNat % 16) o.addr f.2
    match s.fw.chunk with
    | some i => if o.discard then s else stageFail i 9 0 (dropReads (fun r => isStage r.ref) s)
    | none => s
  | .data bs =>
    if o.discard then s
    else
      let s := { s with fw := { s.fw with header := putHeader (s.fw.staged + first) (bs.take o.len) s.fw.header } }
      if s.host.reads.any (fun r => isStage r.ref && !r.discard) then s
      else emit (.flash 1 s.fw.chunkLen) { s with fw := { s.fw with chunkRead := false } }

def execStageChunkReadReturn (first : Nat) (a : ReadAnswer) (s : State) : Res :=
  match outRead s (.stage first) with
  | some o => .next (stageReturn o first a s)
  | none => noSuch s

/-- The image in the slot passes: valid, replied, told. -/
def stagePass (i : Word) (n : Nat) (v : BitVec 24) (r : Nat) (s : State) : State :=
  let b := s.fw.stageB
  let s := setPart b false (setSlot b true v r s)
  let s := { s with fw := { s.fw with staging := false, chunk := none, staged := n } }
  reply i 0 0 (wd n) 0 0 (fwState 1 b v 0 0 s)

/-- The chunk is in flash, or is not; the last one is followed by the check of the copy. DEDUCED (log 145). -/
def programmed (i : Word) (r : FlashResult) (s : State) : State :=
  let n := s.fw.staged + s.fw.chunkLen
  match r with
  | .programmed =>
    reply i 0 0 (wd n) 0 0 { s with fw := { s.fw with chunk := none, staged := n } }
  | .failed => stageFail i stInvalid 0x0D s
  | .checked ok =>
    match imageFault s.fw.header (some n) ok s.fw.otp with
    | some detail => stageFail i stInvalid detail s
    | none => stagePass i n (imageVer s.fw.header) (hdrDw s.fw.header 8) s

/-- The check follows the chunk with LAST set, and no other. -/
def resultFits (last : Bool) : FlashResult → Bool
  | .programmed => !last
  | .failed => true
  | .checked _ => last

def execFlashChunkProgrammed (r : FlashResult) (s : State) : Res :=
  match s.fw.chunk with
  | some i => when s (!s.fw.chunkRead && resultFits s.fw.chunkLast r) (programmed i r s)
  | none => noSuch s

/-! ### FW_ACTIVATE (R339–R342) -/

def activateChecks (c : Packet) (s : State) : List Check :=
  [inval (!slotValid s (otherB s)) 0x06,
   busy (noCellar s) 0x07,
   busy (inProgress s ≠ 0 || s.fw.staging || s.pm.entry.isSome || s.pm.pend.isSome) 0x10]

/-- Steps 1 and 2: the pause, unless the copy's second check fails. -/
def activate' (c : Packet) (recheck : Bool) (s : State) : State :=
  if recheck then
    { s with cmd := { s.cmd with paused := true }
             fw := { s.fw with activating := true, actCmd := some c.index, actCommit := tst c.dw[2] 0, actRecord := true } }
  else reply c.index stInvalid 0x0A 0 0 0 s

def execFwActivate (c : Packet) (recheck : Bool) (s : State) : Res :=
  command 0xD1 [0x1] false true (activateChecks c) (activate' c recheck) c s

/-- What the pause held back: fault-log records, those beyond 256 counted as absent; resets of the device port. -/
def releasePause (s : State) : State :=
  let f := s.fw
  let s := { s with fw := { f with logHeld := [], logAbsent := 0, devHeld := [] } }
  let s := f.logHeld.foldl (fun s r => logPush r.kind r.interval r.pay s) s
  let s := { s with sump := { s.sump with logSeq := s.sump.logSeq + wd f.logAbsent } }
  f.devHeld.foldl (fun s p => event 0 0x30 p s) s

/-- PAUSED and ACTIVATING cleared. -/
def endPause (s : State) : State :=
  { s with cmd := { s.cmd with paused := false }
           fw := { s.fw with activating := false, actCmd := none } }

/-- Step 6; in recovery the sequence continues at step 11 (R411). -/
def activated (i us : Word) (s : State) : State :=
  let b := otherB s
  let v := slotVer s b
  let s := runSlot b (v, slotRb s b) (endPause s)
  let s := if s.fw.actRecord then { s with fw := { s.fw with updates := s.fw.updates ++
      [{ slotB := b, ver := v, rb := slotRb s b, commit := s.fw.actCommit }] } } else s
  let s := reply i 0 0 (fwVer s) 0 0 (fwState 3 b v 0 us s)
  let s := releasePause s
  if s.boot.recovery then finishBoot s else heldReset s

def execFwReadyReport (us : Word) (s : State) : Res :=
  match s.fw.actCmd with
  | some i => .next (activated i us s)
  | none => noSuch s

/-- Step 5 does not report ready (R340): the old image runs again. DEDUCED (log 87). -/
def fellBack (i us : Word) (s : State) : State :=
  let b := otherB s
  let s := endPause { s with fw := { s.fw with fallbacks := s.fw.fallbacks + 1 } }
  let s := reply i stInvalid 0x0E 0 0 0 (fwState 5 b (slotVer s b) 0x0E us s)
  let s := releasePause s
  if s.boot.recovery then s else heldReset s

def execFwReadyTimeout (us : Word) (s : State) : Res :=
  match s.fw.actCmd with
  | some i => .next (fellBack i us s)
  | none => noSuch s

/-- Step 7 of the oldest activation that waits for it: the boot record, and with its COMMIT the OTP level.
DEDUCED (log 87). -/
def recordWritten (u : BootUpdate) (s : State) : State :=
  let up := u.commit && s.fw.otp < u.rb
  let s := emit (.flash 2 (b1 u.slotB)) { s with fw := { s.fw with
    updates := s.fw.updates.tail, recSlotB := u.slotB, recSeq := s.fw.recSeq + 1
    otp := if up then u.rb else s.fw.otp } }
  if up then fwState 6 u.slotB u.ver 0 0 (emit (.flash 3 u.rb) s) else s

def execBootRecordWritten (s : State) : Res :=
  match s.fw.updates with
  | u :: _ => .next (recordWritten u s)
  | [] => noSuch s

/-! ### FW_QUERY -/

def queryFw (c : Packet) (s : State) : State :=
  let b := otherB s
  ok c (fwVer s) (if slotValid s b then wd (slotVer s b).toNat else 0) (fwStat s) s

def execFwQuery (c : Packet) (s : State) : Res :=
  command 0xD2 [] false true (fun _ => []) (queryFw c) c s

end Sys2Proof.Machine
end

