-- ==== Sys2Proof/Machine/Power.lean ====
section
/-! DEFINITION. Power states (file 15): requests and refusers (R386–R393), IDLE and its clock gate (R387), the entry to
SLEEP, DEEP and OFF (R389, R397, R398), wakes (R394–R399, R401). -/

namespace Sys2Proof.Machine

open Sys2Proof

/-! ### Registers -/

def pmCode : PmSt → Nat
  | .run => 0 | .idle => 1 | .sleep => 2 | .deep => 3 | .off => 4

/-- PM_STATE (Table 15-10). -/
def pmState (s : State) : Word :=
  let t := match s.pm.entry with | some e => pmCode e.target | none => 0
  let p := match s.pm.pend with | some e => pmCode e.target | none => 0
  pack [(pmCode s.pm.st, 0), (b1 s.pm.entry.isSome, 4), (t, 8), (b1 s.pm.pend.isSome, 11), (p, 12), (s.pm.seq.toNat, 16),
    (b1 s.pm.wfail, 24), (s.pm.wfailStep.toNat, 25)]

/-- PM_CNT (Table 15-12). -/
def pmCnt (s : State) : Word :=
  pack [(s.pm.entries.toNat, 0), (s.pm.refusals.toNat, 8), (s.pm.aborts.toNat, 16), (s.pm.wfailE.toNat, 24)]

def pmPerm (s : State) : Word := cfg s 0xF00004
def graceMs (s : State) : Nat := fld (cfg s 0xF00008) 0 16

/-- The sources that apply to a state (Table 15-4). -/
def sourcesOf : PmSt → BitVec 9
  | .sleep => 0x1FF | .deep => 0x107 | .off => 0x001 | .run | .idle => 0

/-! ### Refusers (Table 15-2) -/

/-- Ports and halves that refuse SLEEP. -/
def livePorts (s : State) : List (Nat × Nat) :=
  ((List.range 16).filter (fun k => portUp s (k / 2) &&
    (let st := (halfReg s (k / 2) (k % 2)).st
     st = .enabled || st = .resetting || st = .resuming))).map (fun k => (6, k))

/-- Functions that refuse. -/
def liveFns (s : State) (t : PmSt) : List (Nat × Nat) :=
  let tenants := (s.insts.filter (fun kv => kv.1 ≠ 0 && kv.2.st != .absent)).map Prod.fst
  if t = .sleep then ((0 :: tenants).filter (fun i => (fn s i).dstate = .d0)).map (fun i => (2, i))
  else (if (fn s 0).dstate = .d3cold || s.boot.perst then [] else [(2, 0)]) ++ tenants.map (fun i => (2, i))

/-- The refusers of a target that are present, in the order of CLASS and INDEX; classes 12 and 13 are events.
PM_PERM is the one in force when the request began (Table 12-7). DEDUCED (log 89). -/
def refusers (s : State) (t : PmSt) (p : Word) : List (Nat × Nat) :=
  let deep : Bool := t = .deep || t = .off
  let swap := if s.cmd.pendSwap then [(3, 0)] else []
  let perm := if pmCode t ≠ 0 && !tst p (pmCode t) then [(11, pmCode t)] else []
  if t = .run then []
  else if t = .idle then swap ++ perm
  else
    (s.funcs.map (fun kv => (kv.2.vecs.filter (fun v => v.2.pending || v.2.timer)).map
      (fun v => (1, kv.1 * 256 + v.1)))).flatten ++
    liveFns s t ++ swap ++
    (if (if s.cmd.swapCmd.isSome then 1 else 0) < inProgress s then [(3, 1)] else []) ++
    (if s.fw.staging || s.fw.activating || !s.fw.updates.isEmpty then [(3, 2)] else []) ++
    ((s.qe.queues.filter (fun kv => kv.2.ents.any (fun e => e.st != .done))).map (fun kv => (4, kv.1))) ++
    (((List.range 64).filter (fun n => (pump s n).job.isSome || (pump s n).st = .halted)).map (fun n => (5, n))) ++
    (if deep then [] else livePorts s) ++
    (if (if deep then s.dev.en else devOn s && s.dev.st != .suspended) then [(7, 0)] else []) ++
    (if deep then s.sched.pipes.map (fun kv => (8, kv.1)) else []) ++
    (if deep then ((List.range 16).filter (fun c => (chan s c).en)).map (fun c => (9, c)) else []) ++
    (if !s.sump.walks.isEmpty || s.sump.origins.any (fun kv => kv.2.sweeping) then [(10, 0)] else []) ++
    perm

/-! ### Charges (R392) -/

/-- PM_REF_ID[k] and PM_REF_CNT[k] take a charge. -/
def charge (r : Nat × Nat) (seq : BitVec 8) (s : State) : State :=
  let ref := fun k => getD {} s.pm.refs k
  let ks := List.range 16
  let k := match ks.find? (fun k => (ref k).cls = r.1 && (ref k).index = r.2) with
    | some k => k
    | none => ks.foldl (fun b k => if (ref k).stamp < (ref b).stamp then k else b) 0
  let n := if (ref k).cls = r.1 && (ref k).index = r.2 then min 0xFFFF ((ref k).count + 1) else 1
  let e : RefEnt := { cls := r.1, index := r.2, count := n, lastSeq := seq, stamp := s.pm.refStamp + 1 }
  { s with pm := { s.pm with refs := setD {} s.pm.refs k e, refStamp := s.pm.refStamp + 1 } }

/-! ### IDLE (R387, R403) -/

/-- PM_STATE event (Table 15-8). DEDUCED (log 89). -/
def pmStateEvent (old : PmSt) (ms : Nat) (fired : BitVec 9) (s : State) : State :=
  event 0 0x50 [pack [(pmCode old, 0), (pmCode s.pm.st, 3), (s.pm.seq.toNat, 8), (fired.toNat, 16)], s.iso.mic,
    wd (min ms 0xFFFFFFFF), pmCnt s] s

/-- Between RUN and IDLE. -/
def moveIdle (st : PmSt) (s : State) : State :=
  let old := s.pm.st
  let ms := idiff s.iso.mic s.pm.since / 8
  pmStateEvent old ms 0 { s with pm := { s.pm with st := st, since := s.iso.mic, gated := false } }

/-- PM_REFUSED (Table 15-8), with REFUSALS and the charge of the first refuser (R391, R392). -/
def refused (t : PmSt) (seq : BitVec 8) (rs : List (Nat × Nat)) (ms : Word) (s : State) : State :=
  let r := rs.headD (0, 0)
  let s := charge r seq { s with pm := { s.pm with refusals := s.pm.refusals + 1 } }
  event 0 0x51 [pack [(pmCode t, 0), (seq.toNat, 8)], pack [(r.2, 0), (r.1, 20)], wd (min rs.length 0xFFFF), ms] s

/-- A request outside an entry (R386, R387, R391, R393). -/
def startReq (r : PmReq) (s : State) : State :=
  if r.target = s.pm.st then s
  else
    match r.target with
    | .run => moveIdle .run s
    | .idle =>
      let rs := refusers s .idle (pmPerm s)
      if rs.isEmpty then moveIdle .idle s else refused .idle r.seq rs 0 s
    | .sleep | .deep | .off =>
      let rs := refusers s r.target (pmPerm s)
      if graceMs s = 0 && !rs.isEmpty then refused r.target r.seq rs 0 s
      else { s with pm := { s.pm with entry := some { r with perm := pmPerm s } } }

/-- The running entry has ended: the pending request starts (R393). -/
def nextReq (s : State) : State :=
  match s.pm.pend with
  | some r => startReq r { s with pm := { s.pm with pend := none, entry := none } }
  | none => { s with pm := { s.pm with entry := none } }

/-- An abort (R390): counted and charged. -/
def abort (r : Nat × Nat) (s : State) : State :=
  match s.pm.entry with
  | some e => nextReq (charge r e.seq { s with pm := { s.pm with aborts := s.pm.aborts + 1 } })
  | none => s

/-! ### PM_ENTER (R386, R393) -/

def mSt (c : Packet) : Nat := fld c.dw[2] 0 3

def target (c : Packet) : PmSt :=
  match mSt c with
  | 0 => .run | 1 => .idle | 2 => .sleep | 3 => .deep | _ => .off

/-- DW3 is ignored for RUN, IDLE and SLEEP; wake bits that do not apply are ignored. DEDUCED (log 88). -/
def enterMasks (c : Packet) : List Word := [0x7, if mSt c < 3 then 0xFFFFFFFF else 0x1FF, 0xFFFFFFFF]

/-- The first clause of R386, with the failed store rooms of Table 16-5. -/
def enterRange (s : State) (c : Packet) : Bool :=
  let p := pmPerm s
  let rooms := fld c.dw[3] 0 8
  4 < mSt c ||
  (mSt c = 3 && (rooms &&& (255 - fld p 8 8) ≠ 0 || (tst c.dw[3] 8 && !tst p 16) || rooms &&& s.boot.rooms.toNat ≠ 0)) ||
  (mSt c = 4 && (c.dw[3] ≠ 0 || !tst c.dw[4] 0))

/-- A state that PM_PERM does not allow. -/
def enterDenied (s : State) (c : Packet) : Bool := 1 ≤ mSt c && mSt c ≤ 4 && !tst (pmPerm s) (mSt c)

/-- DEDUCED (log 88). -/
def enterChecks (c : Packet) (s : State) : List Check :=
  [inval (enterRange s c) 0x04, inval (enterDenied s c) 0x04,
   busy (mSt c ≠ 0 && s.pm.entry.isSome && s.pm.pend.isSome) 0x12]

/-- The refusal for want of permission is charged to PERMISSION. -/
def chargeDenied (c : Packet) (s : State) : State :=
  if cmdReady s c && cOp c = 0xC0 && (firstBad (commonChecks s c (enterMasks c) false false)).isNone &&
      !enterRange s c && enterDenied s c then
    charge (11, mSt c) s.pm.seq s
  else s

/-- An accepted PM_ENTER: SEQ, the reply, and what the request does. DEDUCED (log 88). -/
def enterPm (c : Packet) (s : State) : State :=
  let q := s.pm.seq + 1
  let s := { s with pm := { s.pm with seq := q } }
  let s := ok c (wd q.toNat) (pmState s) 0 s
  let r : PmReq := { target := target c, seq := q, rooms := BitVec.ofNat 8 (fld c.dw[3] 0 8)
                     selfRefresh := tst c.dw[3] 8, mask := BitVec.ofNat 9 (fld c.dw[4] 0 9) }
  if s.pm.entry.isSome then
    if r.target = .run then abort (13, 0) s else { s with pm := { s.pm with pend := some r } }
  else startReq r s

def execPmEnter (c : Packet) (s : State) : Res :=
  command 0xC0 (enterMasks c) false false (enterChecks c) (enterPm c) c (chargeDenied c s)

/-! ### The FAB clock gate (R387) -/

/-- The fabric is quiet. -/
def fabQuiet (s : State) : Bool :=
  s.qe.queues.all (fun kv => kv.2.ents.all (fun e => e.st = .done)) && s.dev.tq.ents.isEmpty &&
  s.sched.ports.all (fun kv => kv.2.klass.isEmpty && kv.2.lists.all (fun l => l.2.isEmpty)) &&
  s.sched.pipes.all (fun kv => kv.2.state != .active) && s.cis.xfers.isEmpty && s.sump.walks.isEmpty &&
  !s.sump.origins.any (fun kv => kv.2.sweeping) && !s.funcs.any (fun kv => kv.2.vecs.any (fun v => v.2.timer)) &&
  inProgress s = 0 && !s.cmd.pendSwap

def execFabClockGate (s : State) : Res :=
  when s (s.pm.st = .idle && !s.pm.gated && fabQuiet s)
    { s with pm := { s.pm with gated := true, gates := s.pm.gates + 1 } }

/-! ### Reaching SLEEP, DEEP and OFF (Table 15-3) -/

/-- What the commit and step 8 leave in PM_STATE, PM_WSRC and PM_CNT. -/
def commitPm (r : PmReq) (p : Pm) : Pm :=
  { p with was := p.st, st := r.target, entry := none, gated := false, entries := p.entries + 1
           armed := (r.mask ||| 0x004) &&& sourcesOf r.target }

/-- SLEEP: the cellar in self-refresh, BIT stopped. DEDUCED (log 89). -/
def reachSleep (r : PmReq) (s : State) : State :=
  let sr : CelReg → CelReg := fun x => if x.inSvc then { x with selfRefresh := true } else x
  let m := s.iso.mic
  { s with pm := { commitPm r s.pm with since := m }
           iso := { s.iso with running := false }
           glb := { s.glb with c0 := sr s.glb.c0, c1 := sr s.glb.c1 } }

/-- What firmware writes into store room 0 (R398). DEDUCED (log 90). -/
def saveRoom0 (s : State) : Room0 :=
  { cfg := s.cfg, gen := s.cmd.gen, dirty := s.cmd.dirty
    binds := ((List.range 16).filter (fun c => (chan s c).bound)).map (fun c =>
      let x := chan s c
      (c, x.hubBound, x.port, x.hubAddr, x.hubPort))
    pp := (List.range 8).filter (fun p => (port s p).pp)
    cnt := (s.pm.entries, s.pm.refusals, s.pm.aborts, s.pm.wfailE), refs := s.pm.refs, refStamp := s.pm.refStamp }

/-- What is kept of a queue's definition. -/
def bareQueue (x : Queue) : Queue :=
  { isEvent := x.isEvent, owner := x.owner, localNo := x.localNo, vector := x.vector, log2 := x.log2, burst := x.burst
    weight := x.weight, ring := x.ring, cell := x.cell, head := x.head, fetch := x.head, gen := x.gen }

/-- What firmware writes into store room 1 (R398). -/
def saveRoom1 (s : State) : Room1 :=
  { queues := (s.qe.queues.filter (fun kv => kv.2.owner = 0)).map (fun kv => (kv.1, bareQueue kv.2))
    fences := s.qe.fences.filter (fun kv => kv.1 / 64 = 0)
    vecs := (fn s 0).vecs.foldl (fun m kv =>
      setD {} m kv.1 { addrLo := kv.2.addrLo, addrHi := kv.2.addrHi, data := kv.2.data, masked := kv.2.masked }) [] }

/-- The bytes of the store rooms 2–7 that stay powered. -/
def keepRooms (sel : BitVec 8) (m : Sparse Byte) : Sparse Byte := m.filter (fun kv => sel.getLsbD (kv.1 / 131072))

/-- DEEP: the core group off; the selected rooms, the cellar if selected, and AON keep what they hold (R398, R399).
DEDUCED (log 90). -/
def reachDeep (r : PmReq) (s : State) : State :=
  let room0 := if r.rooms.getLsbD 0 then some (saveRoom0 s) else none
  let room1 := if r.rooms.getLsbD 1 then some (saveRoom1 s) else none
  let log := if r.selfRefresh then some (s.sump.log, s.sump.logSeq, s.sump.logCap) else none
  let p := commitPm r { s.pm with entries := 0 }
  let t := cold s
  pmic true false <| (fun n => domainsDown s n n) { t with
    funcs := [(0, { dstate := .d3cold })]
    fw := { t.fw with runB := s.fw.runB, ver := s.fw.ver, aValid := !s.fw.runB, bValid := s.fw.runB, verA := s.fw.verA
                      verB := s.fw.verB, rbA := s.fw.rbA, rbB := s.fw.rbB, recNextB := s.fw.recNextB }
    boot := { s.boot with up := false, fwReady := false, otherCheck := false }
    iso := { ports := s.iso.ports.map (fun kv =>
      (kv.1, {
        num := kv.2.num, lag16 := kv.2.lag16, skew := kv.2.skew, tickMic := kv.2.tickMic
        load := kv.2.load || !portUp s kv.1 })) }
    sump := { cisRet := s.sump.cisRet }
    glb := { c0 := { s.glb.c0 with selfRefresh := r.selfRefresh && s.glb.c0.inSvc }
             c1 := { s.glb.c1 with selfRefresh := r.selfRefresh && s.glb.c1.inSvc }
             sizeGib := s.glb.sizeGib, celRate := s.glb.celRate }
    pm := { p with
      since := s.iso.mic, mic := some s.iso.mic, refusals := 0, aborts := 0, wfailE := 0, gates := 0, rsel := 0, wtimer := 0
      refs := [], refStamp := 0, rooms := keepRooms r.rooms s.pm.rooms, room0 := room0, room1 := room1
      kept := r.rooms, srKept := r.selfRefresh, keptLog := log } }

/-- OFF: both groups off (Table 15-1); what AON's wake watcher has armed stays until the wake, the pending slot (R393)
and the count of step 8 (R399) beyond it. DEDUCED (log 90). -/
def reachOff (r : PmReq) (s : State) : State :=
  let p := commitPm r { s.pm with entries := 0 }
  let t := { cold s with
    pm := { st := .off, was := p.was, since := s.iso.mic, armed := p.armed, entries := p.entries, pend := p.pend
            mic := some s.iso.mic, scr := p.scr, cool := p.cool } }
  pmic false false (pmic true false (domainsDown s t t))

/-- Steps 3 to 8. DEDUCED (log 89). -/
def reach (r : PmReq) (s : State) : State :=
  match r.target with
  | .sleep => reachSleep r s
  | .deep => reachDeep r s
  | .off => reachOff r s
  | .run | .idle => s

/-- Step 2 has ended: a refuser that stands at an abort point aborts the entry, else the state is reached. -/
def refusersCleared (r : PmReq) (s : State) : State :=
  match refusers s r.target r.perm with
  | [] => reach r s
  | x :: _ => abort x s

def execPmRefusersCleared (s : State) : Res :=
  match s.pm.entry with
  | some r => .next (refusersCleared r s)
  | none => noSuch s

/-- The grace ends (R391); a refuser that disappears in that cycle lets the entry go on (R402). -/
def graceEnd (r : PmReq) (ms : Word) (s : State) : State :=
  match refusers s r.target r.perm with
  | [] => reach r s
  | rs => nextReq (refused r.target r.seq rs ms s)

def execPmGraceExpiry (ms : Word) (s : State) : Res :=
  match s.pm.entry with
  | some r => .next (graceEnd r ms s)
  | none => noSuch s

/-! ### Wakes (R394–R399) -/

/-- Intervals that pass in a number of AON ticks (R397). DEDUCED (log 85). -/
def ivlsIn (ticks : Nat) : Nat := (ticks * 125 + 511) / 512

/-- BIT restarts: the master number and the numbers of the ports that ran advance; one that is out of service keeps its
number (R220), one that is to be loaded takes it at the next tick. -/
def restartBit (ticks : Nat) (ran : Nat → Bool) (s : State) : State :=
  let n := wd (ivlsIn ticks)
  { s with iso := { s.iso with
    running := true, mic := s.iso.mic + n
    ports := s.iso.ports.map (fun kv => (kv.1,
      if kv.2.load || !ran kv.1 then kv.2 else { kv.2 with num := kv.2.num + n, tickMic := kv.2.tickMic + n })) } }

/-- The timebase restarts in FREE; with LOCK_EN set it enters ACQUIRING at the first interval, and the old anchor is not
valid (R227, R397). DEDUCED (log 91). -/
def relock (s : State) : State :=
  let s := { s with iso := { s.iso with lock := .free, anchValid := false } }
  if lockEn s then lockMove .acquiring 0x01 id s else s

/-- The end of a wake from SLEEP: PM_STATE, the events that waited, a held reset, the pending request.
DESIGN CHOICE (log 136). -/
def wakeSleep (bit : Nat) (w : WakeOutcome) (s : State) : State :=
  let up : CelReg → CelReg := fun x => { x with selfRefresh := false }
  let s := restartBit w.time.aonTicks (portUp s) s
  let held := s.pm.held
  let f : BitVec 9 := BitVec.ofNat 9 (2 ^ bit)
  let s := { s with
    pm := { s.pm with st := s.pm.was, fired := f, since := s.iso.mic, held := [] }
    glb := { s.glb with c0 := up s.glb.c0, c1 := up s.glb.c1 } }
  let s := pmStateEvent .sleep w.time.ms f s
  let s := held.foldl (fun s e => event e.1 e.2.1 e.2.2 s) s
  nextReq (heldReset (relock s))

/-- Firmware restores store room 0. DEDUCED (log 90). -/
def restoreRoom0 (r : Room0) (s : State) : State :=
  let s := { s with
    cfg := r.cfg
    cmd := { s.cmd with gen := r.gen, dirty := r.dirty }
    pm := { s.pm with
      entries := s.pm.entries + r.cnt.1, refusals := r.cnt.2.1, aborts := r.cnt.2.2.1
      wfailE := s.pm.wfailE + r.cnt.2.2.2, refs := r.refs, refStamp := r.refStamp } }
  r.binds.foldl (fun s b =>
    let s := modChan b.1 (fun x => { x with bound := true, hubBound := b.2.1, port := b.2.2.1, hubAddr := b.2.2.2.1
                                            hubPort := b.2.2.2.2 }) s
    if b.2.1 then s else modPort b.2.2.1 (fun x => { x with channel := some (Fin.ofNat 16 b.1) }) s) s

/-- Firmware restores store room 1. DEDUCED (log 90). -/
def restoreRoom1 (r : Room1) (s : State) : State :=
  modFn 0 (fun f => { f with vecs := r.vecs }) { s with qe := { s.qe with queues := r.queues, fences := r.fences } }

/-- PP of the ports, restored when they are in service again; port power follows R170. DEDUCED (log 91). -/
def restorePp (l : List Nat) (s : State) : State := l.foldl (fun s p => writePp (Fin.ofNat 8 p) true s) s

/-- AON asserts PE_WAKE_N on a wake by a source other than PCI Express (R401). -/
def aonPeWake (bit : Nat) (s : State) : State :=
  if bit = 2 || !s.boot.perst then s
  else emit (.peWake true) { s with pm := { s.pm with aonWake := true } }

/-- What the domains hold after a wake from DEEP, before the store rooms are read (R399). DEDUCED (log 91). -/
def wokenDeep (bit : Nat) (w : WakeOutcome) (s : State) : State :=
  let s := restartBit w.time.aonTicks (fun _ => true) { s with iso := { s.iso with mic := s.pm.mic.getD 0 } }
  let up : CelReg → CelReg := fun x => { x with selfRefresh := false, phase := if x.inSvc then 4 else 0 }
  let s := { s with
    boot := { s.boot with up := true, fwReady := true, cause := 3, bootMs := w.bootMs, fallback := s.boot.fallback
                          otherCheck := true }
    glb := { s.glb with c0 := up s.glb.c0, c1 := up s.glb.c1 }
    cis := { s.cis with sharedFree := 8192 - s.sump.cisRet.toNat, low := 8192 - s.sump.cisRet.toNat }
    pm := { s.pm with st := s.pm.was, fired := BitVec.ofNat 9 (2 ^ bit), since := s.iso.mic, mic := none } }
  let s0 := s
  let s := (List.range 8).foldl (fun s p =>
    let good : Bool := !s0.boot.failPorts.getLsbD p
    modPort p (fun x => { x with inService := good, powered := good
                                 h0 := { x.h0 with lane1Fail := s0.boot.failLane1.getLsbD p } }) s) s
  let s := (List.range 64).foldl (fun s n =>
    if s0.boot.pfail.getLsbD n then modPump n (fun p => { p with st := .off }) s else s) s
  let s := resizeLog s
  match s.pm.keptLog with
  | some (l, q, _) => { s with sump := { s.sump with log := l, logSeq := q } }
  | none => s

/-- R370 keeps the bindings that room 0 has restored. -/
def warmBound (t : Nat) (s : State) : State :=
  (List.range 16).foldl (fun s c =>
    let b := chan s c
    modChan c (fun x => { x with bound := b.bound, hubBound := b.hubBound, port := b.port, hubAddr := b.hubAddr
                                 hubPort := b.hubPort }) (warmChan t c s)) s

/-- A wake from DEEP (Table 15-5, R398, R399). DEDUCED (log 91). -/
def wakeDeep (bit : Nat) (w : WakeOutcome) (s : State) : State :=
  let old := s
  let s := wokenDeep bit w (pmic true true (aonPeWake bit s))
  let s := domainsUp old s s
  let r0 := s.pm.room0
  let s := match r0 with | some r => restoreRoom0 r s | none => s
  let s := match s.pm.room1 with | some r => restoreRoom1 r s | none => s
  let s := relock (warmBound w.time.ms s)
  let s := match r0 with | some r => restorePp r.pp s | none => s
  nextReq { s with pm := { s.pm with room0 := none, room1 := none, keptLog := none, kept := 0, srKept := false } }

/-- A wake from OFF (R395): the power-on sequence from step 3. -/
def wakeOff (o : BootOutcome) (s : State) : State :=
  let pend := s.pm.pend
  let s := aonPeWake 0 s
  let s := bringUp 2 o { s with pm := { s.pm with st := .run, pend := none, armed := 0, fired := 1 } }
  nextReq { s with pm := { s.pm with pend := pend } }

/-- A wake that stops at a step (R396): what it switched on is off again. DEDUCED (log 91). -/
def wakeFail (bit step : Nat) (s : State) : State :=
  let s := if s.pm.st = .deep then pmic true false (pmic true true (aonPeWake bit s)) else s
  { s with pm := { s.pm with fired := BitVec.ofNat 9 (2 ^ bit), wfail := true, wfailStep := BitVec.ofNat 3 step
                             wfailE := s.pm.wfailE + 1 } }

/-- An armed source fires in SLEEP or DEEP; a selected one during an entry aborts it (R390); any other waits in its
block. -/
def fire (bit : Nat) (w : WakeOutcome) (s : State) : State :=
  match s.pm.entry with
  | some e =>
    if (((e.mask ||| 0x004) &&& sourcesOf e.target).getLsbD bit) && bit ≠ 1 then abort (12, bit) s else s
  | none =>
    if !s.pm.armed.getLsbD bit then s
    else
      match s.pm.st with
      | .sleep => wakeSleep bit w s
      | .deep => if w.imageOk then wakeDeep bit w s else wakeFail bit 5 s
      | .run | .idle | .off => s

/-- The WAKE pin is ignored outside the states and entries that watch it (R416). -/
def execWakePinAssert (o : BootOutcome) (w : WakeOutcome) (s : State) : Res :=
  .next (if s.pm.st = .off && s.pm.armed.getLsbD 0 then wakeOff o s else fire 0 w s)

/-- TIME_MS after the commit. -/
def execWakeTimerExpiry (w : WakeOutcome) (s : State) : Res :=
  when s ((s.pm.st = .sleep || s.pm.st = .deep) && s.pm.armed.getLsbD 1) (fire 1 w s)

def execWakeSourceFired (bit : Fin 9) (w : WakeOutcome) (s : State) : Res :=
  when s (2 ≤ bit.val) (fire bit.val w s)

def execWakeStepTimeout (bit : Fin 9) (step : Fin 8) (s : State) : Res :=
  when s ((s.pm.st = .sleep || s.pm.st = .deep) && s.pm.armed.getLsbD bit.val && 2 ≤ step.val &&
    step.val ≤ 6) (wakeFail bit.val step.val s)

end Sys2Proof.Machine
end

