-- ==== Sys2Proof/Machine/Registers.lean ====
section
/-! DEFINITION. What each register of BAR0 and of the mailboxes reads: one word per register, built from the state, and
the map of offsets (R9–R11, R418, R421). Reserved bits read 0, and so do write-only bits. -/

namespace Sys2Proof.Machine

open Sys2Proof

/-- Low and high words of a 64-bit number. -/
def lo32 (a : Nat) : Word := wd a
def hi32 (a : Nat) : Word := wd (a / 2 ^ 32)
/-- A signed number in `n` bits. -/
def signed (n : Nat) (v : Int) : Nat := (BitVec.ofInt n v).toNat

/-! ### Global, boot, command processor and cellar registers (Tables 17-5 to 17-8, 16-8 to 16-10, 12-14) -/

def glbId (s : State) : Word := if s.isL then 0x01B08160 else 0x00B08160

/-- A port, a lane 1, a pump channel or a cellar channel that the fuses allow is out of service; before the sequence has
brought them up nothing counts as degraded. DEDUCED (log 97). -/
def degraded (s : State) : Bool :=
  (s.boot.fwReady || s.boot.recovery) &&
  ((List.range 8).any (fun p => portFused s p && (!(port s p).inService || (port s p).h0.lane1Fail)) ||
  (List.range 64).any (fun n => !pumpUp s n) || !s.glb.c0.inSvc || !s.glb.c1.inSvc)

/-- DEDUCED (log 97). -/
def glbStat (s : State) : Word :=
  pack [(b1 s.boot.fwReady, 0), (b1 s.boot.recovery, 1), (b1 (degraded s), 2), (b1 s.cmd.paused, 3), (b1 s.glb.capChg, 8),
    (s.glb.capE.toNat, 16)]

def bootSt (s : State) : Word :=
  pack [(b1 s.boot.fwReady, 0), (b1 s.boot.recovery, 1), (b1 s.boot.fallback, 2), (b1 s.boot.rcOnly, 3),
    (s.boot.cause.toNat, 4), (s.boot.bootMs.toNat, 16)]
def bootFail (s : State) : Word :=
  pack [(s.boot.failPorts.toNat, 0), (s.boot.failLane1.toNat, 8), (s.boot.failCellar.toNat, 16), (b1 s.boot.slotA, 18),
    (b1 s.boot.slotB, 19), (s.boot.rooms.toNat, 20)]
def bootCache (s : State) : Word := pack [(s.boot.ways.toNat, 0), (s.boot.entries.toNat, 16)]

def cmdStat (s : State) : Word := pack [(inProgress s, 0), (b1 s.cmd.paused, 7), (s.cmd.refused.toNat, 16)]

def celSt (x : CelReg) : Word :=
  pack [(b1 x.inSvc, 0), (b1 x.selfRefresh, 1), (x.phase.toNat, 4), (x.retrains.toNat, 8), (x.mr4.toNat, 24)]

/-! ### Host interface (Tables 2-10 to 2-15) -/

def hiLink (h : HostIf) : Word :=
  pack [(h.speed.toNat, 0), (h.width.toNat, 4), (b1 h.reversed, 8), (b1 h.tenBit, 9), (h.mps.val, 10), (h.mrrs.val, 13),
    (h.l1Entries.toNat, 16)]
def hiL1ctl (h : HostIf) : Word := pack [(h.idleUs.toNat, 0), (b1 h.holdIso, 16)]
def hiHerrInfo (h : HostIf) : Word :=
  pack [(h.herrInst.toNat, 0), (b1 h.herrValid, 8), (h.herrKind.toNat, 9), (h.herrSource.toNat, 12), (h.herrEdges.toNat, 16)]

/-! ### Instances (Tables 11-8 to 11-10) -/

/-- STATE of INS_STATE: instance 0 reads 1. -/
def instState (s : State) (i : Nat) : Nat := if i = 0 then 1 else instCode (inst s i).st
def insState (s : State) (i : Nat) : Word :=
  let f := fn s i
  pack [(instState s i, 0), (dCode f.dstate, 2), (b1 f.busMaster, 4), (b1 f.msixEnable, 5), (b1 f.memEnable, 6)]
/-- Queues held: 0 for instance 0. -/
def queuesOf (s : State) (i : Nat) : Nat := if i = 0 then 0 else (s.qe.queues.filter (fun kv => kv.2.owner = i)).length
def unitsOf (s : State) (i : Nat) : Nat :=
  ((List.range 8).map (fun p => ((port s p).units.filter (fun kv => kv.2.inst = i)).length)).sum
def insUse (s : State) (i : Nat) : Word := pack [(queuesOf s i, 0), (unitsOf s i, 8), (instActive s i, 19)]
def insPuse (s : State) (i : Nat) : Word := wd (pipesWhere s (fun x => x.inst = i)).length
/-- Entry-store places held by an instance, those of queue 0 with instance 0. DEDUCED (log 92). -/
def insEuse (s : State) (i : Nat) : Word :=
  wd (storeInst s i + (if i = 0 then storeUsed s - storeOther s else 0))
def insRst (x : Inst) : Word := pack [(x.resets.toNat, 0), (x.cause.toNat, 16), (x.lastUs.toNat, 20)]

/-! ### Queue engine (Tables 3-10 to 3-18) -/

def qeStat (s : State) : Word :=
  pack [(storeUsed s, 0), ((s.qe.queues.filter (fun kv => kv.2.st != .disabled)).length, 16)]
/-- Queue 0. -/
def q0 (s : State) : Queue := (queue s 0).getD {}
/-- DEDUCED (log 92). -/
def qeAdmCtl (s : State) : Word :=
  let x := q0 s
  pack [(x.log2, 0), (b1 (x.st = .enabled || x.st = .stopped), 8)]
/-- The registers of a queue, by their offset in its 32 bytes; of a queue that does not exist, 0. -/
def queueWord (s : State) (q o : Nat) : Word :=
  match find s.qe.queues q with
  | none => 0
  | some x =>
    if o = 0 then pack [(x.log2, 0), (b1 x.isEvent, 5), (x.burst, 8), (x.weight, 16), (x.owner, 24)]
    else if o = 4 then pack [(x.localNo, 0), (x.vector, 8)]
    else if o = 8 then stateWord x false
    else if o = 0xC then x.fetch
    else if o = 0x10 then x.head
    else if o = 0x14 then x.pi
    else 0

/-! ### Scheduler (Tables 5-6 to 5-11) -/

def schActive (s : State) : Word := pack [(activeCount s, 0), (s.sched.peak.toNat, 16)]
def schPin (s : State) : Word :=
  pack [((s.sched.cache.filter (fun c => pinned s c.1)).length, 0), (s.sched.overflow.length, 16)]

/-! ### Timebase (Table 8-6 and its maps) -/

def lockCode : LockSt → Nat
  | .free => 0 | .acquiring => 1 | .locked => 2 | .holdover => 3
def isoSt (s : State) : Word :=
  let t := s.iso
  pack [(lockCode t.lock, 0), (b1 (arefOk s), 2), (b1 t.anchValid, 3), (b1 t.lockChg, 4), (b1 t.rangeErr, 5),
    (t.lockE.toNat, 8), (t.rangeE.toNat, 16), (t.losses.toNat, 24)]
def isoPst (t : PortTime) : Word := pack [(signed 8 t.trim, 0), (t.mode, 8), (t.adjDrop.toNat, 16), (t.adjRx.toNat, 24)]
def isoPlag (t : PortTime) : Word := pack [(t.lag16 / 16, 0), (signed 16 t.skew, 16)]

/-! ### Ports (Tables 6-10 to 6-18, 7-7 to 7-9) -/

def prtTc (x : PortReg) : Word :=
  pack [(b1 x.pp, 0), (b1 x.vbusOk, 1), (x.cc1.toNat, 2), (x.cc2.toNat, 4), (b1 x.attached, 6), (b1 x.flip, 7), (b1 x.acc, 8),
    (b1 x.tcChg, 9), (b1 x.vbusChg, 10), (match x.channel with | some c => c.val | none => 0, 16),
    (b1 x.channel.isSome, 20)]
def prtCnt (x : PortReg) : Word := pack [(x.ignored.toNat, 0), (x.tcE.toNat, 8), (x.vbE.toNat, 16)]
def prtLink (x : HalfReg) : Word :=
  pack [(x.lstate.toNat, 0), (x.lanes.toNat, 4), (b1 x.lane1Fail, 6), (x.u1Ent.toNat, 8), (x.u2Ent.toNat, 16),
    (x.recov.toNat, 24)]
def prtWsrc (x : HalfReg) : Word :=
  pack [(b1 x.wHost, 0), (b1 x.wUnit, 1), (b1 x.fwake, 2), (x.wAddr.toNat, 8), (x.hostE.toNat, 16), (x.unitE.toNat, 24)]
def prtEdge (x : HalfReg) : Word :=
  pack [(x.cscE.toNat, 0), (x.pecE.toNat, 5), (x.prcE.toNat, 10), (x.plcE.toNat, 15), (x.dgcE.toNat, 20), (x.errE.toNat, 25)]
def prtErrc (x : HalfReg) : Word := pack [(x.linkErr.toNat, 0), (x.trainFail.toNat, 16)]
/-- Addresses in use; reserved ones are not shown (R166). -/
def prtAdr (x : PortReg) (j : Nat) : Word := wd (maskOf 32 (fun b => (find x.units (32 * j + b)).isSome))
def prtXst (e : Engine) : Word :=
  pack [(e.descs.length, 0), ((e.descs.filter onBus).length, 8), (e.retry.length, 16)]
def prtXerr (e : Engine) : Word := pack [(e.retries.toNat, 0), (e.xerrs.toNat, 16), (e.rstoreOvf.toNat, 24)]

/-- The registers of one half, by their offset in its 256 bytes. -/
def halfWord (x : HalfReg) (o : Nat) : Word :=
  if o = 0 then prtSc x else if o = 4 then prtLink x else if o = 8 then prtWsrc x else if o = 0xC then prtEdge x
  else if o = 0x10 then prtErrc x else 0

/-- The registers of one port, by their offset in its window. -/
def portWord (s : State) (p o : Nat) : Word :=
  let x := port s p
  if o = 0 then prtTc x
  else if o = 0xC then prtCnt x
  else if 0x100 ≤ o ∧ o < 0x300 then halfWord (halfReg s p (o / 0x100 - 1)) (o % 0x100)
  else if 0x300 ≤ o ∧ o < 0x310 then prtAdr x ((o - 0x300) / 4)
  else if o = 0x410 ∨ o = 0x414 then prtXst (engine s p ((o - 0x410) / 4))
  else if o = 0x420 ∨ o = 0x424 then prtXerr (engine s p ((o - 0x420) / 4))
  else cfg s (0x400000 + p * 0x10000 + o)

/-! ### Device port (Tables 13-10, 13-11) -/

def devSt (s : State) : Word :=
  let d := s.dev
  pack [(devStCode d.st, 0), (devSpeedCode d.conn, 3), (b1 (d.conn = some .gen2x1), 5), (d.addr.toNat, 6), (b1 d.alt1, 13),
    (d.lstate.toNat, 14), (b1 d.vbus, 17), (b1 d.rwe, 18), (b1 d.wsrcHost, 19), (b1 d.wsrcDev, 20), (b1 d.rstChg, 21),
    (b1 d.stChg, 22)]
def devLpm (s : State) : Word :=
  pack [(b1 s.dev.u1Acc, 0), (b1 s.dev.u2Acc, 1), (b1 s.dev.l1Acc, 2), (s.dev.besl.toNat, 3)]

/-! ### Power channels (Tables 14-5 to 14-8) -/

def chSt (s : State) (x : ChanReg) : Word :=
  pack [(chStCode x.st, 0), (b1 x.seatA, 4), (b1 x.seatB, 5), (b1 (x.st = .on), 6), (b1 (gateOn s x), 7), (b1 x.limiting, 8),
    (x.cause.toNat, 9), (b1 x.trip, 12), (b1 x.lock, 13), (b1 x.vgChg, 14), (b1 x.senseErr, 15), (x.count, 16)]
def chEdge (x : ChanReg) : Word :=
  pack [(x.tripE.toNat, 0), (x.lockE.toNat, 8), (x.vgE.toNat, 16), (x.senseE.toNat, 24)]
/-- OFF_LEFT and SEAT_LEFT in ms, from samples of 100 µs. -/
def chTimer (x : ChanReg) : Word := pack [((x.offLeft + 9) / 10, 0), ((x.seatLeft + 9) / 10, 16)]

/-- The registers of one channel, by their offset in its window. -/
def chanWord (s : State) (c o : Nat) : Word :=
  let x := chan s c
  if o = 0 then wd (b1 x.en)
  else if o = 4 then chSt s x
  else if o = 8 then chEdge x
  else if o = 0xC then chBind x
  else if o = 0x10 then chMeas x
  else if o = 0x14 then chTemp x
  else if o = 0x18 then chTimer x
  else if o = 0x1C then chCnt x
  else cfg s (0xD00000 + c * 0x1000 + o)

/-! ### Pumps and cistern (Tables 9-6 to 9-15) -/

def pumpCode : PumpSt → Nat
  | .idle => 0 | .run => 1 | .pausing => 2 | .paused => 3 | .halted => 4 | .off => 5

/-- The job bound to a channel. DEDUCED (log 99). -/
def jobOf (s : State) (n : Nat) : Option Xfer := (pump s n).job.bind (xfer s)

/-- The next host byte that a job reads (PMP_SRC). -/
def srcAddr (s : State) (x : Xfer) : Nat :=
  if x.type = .inp then 0
  else
    match jobEnt s x with
    | some (e, b) =>
      let d := e.dw
      let done := readAt x - b
      if eSrcFix d then eBuf d / eFixWidth d * eFixWidth d
      else if rMode d ≠ 0 && !rToPlanar d then
        (if done / rUnit d < rUnits d then rAddr d (eBuf d) x.rdRun (done / rUnit d) + x.rdOff
         else rRest d (eBuf d) + (done - rUnits d * rUnit d))
      else eBuf d + done
    | none => match curEnt s x with | some e => eBuf e.dw + eLen e.dw | none => 0

/-- Where a job's byte `done` goes when no write of it is at hand (PMP_DST): in a planar destination, to the first run
of the block that it begins (R255). -/
def dstOf (d : Slot) (base done : Nat) : Nat :=
  if eDstFix d then eDst d / eFixWidth d * eFixWidth d
  else if rMode d ≠ 0 && rToPlanar d then
    (if done / rUnit d < rUnits d then rAddr d base 0 (done / rUnit d) else rRest d base + (done - rUnits d * rUnit d))
  else base + done

/-- The next host byte that a job writes (PMP_DST): the write at hand, and what of it is staged. -/
def dstAddr (s : State) (n : Nat) (x : Xfer) : Nat :=
  if x.type = .out then 0
  else
    match nextWrite s x true, curEnt s x with
    | some w, _ => w.addr + (pump s n).staged
    | none, some e => dstOf e.dw (if x.type = .copy then eDst e.dw else eBuf e.dw) (x.wrPos - x.base)
    | none, none => 0

def jobType : JobType → Nat
  | .inp => 1 | .out => 2 | .copy => 3

/-- DEDUCED (log 92). -/
def pmpSt (s : State) (n : Nat) : Word :=
  let p := pump s n
  let outst := match jobOf s n with | some x => x.reads.length | none => 0
  pack [(pumpCode p.st, 0), (b1 (n < 8), 3), (b1 p.preempted, 4), (b1 p.errAfterZero, 5), (p.kind.toNat, 6), (outst, 10),
    (p.halts.toNat, 24)]

/-- Bytes in a channel's staging buffer (PMP_STG): the write being assembled, or in a block that is being written all of
it that has not been handed over (R247, R253); 0 once the channel is PAUSED (R255). -/
def stagedBytes (s : State) (n : Nat) (x : Xfer) : Nat :=
  let p := pump s n
  match curEnt s x with
  | some e =>
    if x.wrN = 0 || p.st = .paused then p.staged
    else
      let base := if x.type = .copy then eDst e.dw else eBuf e.dw
      (((blockWrites s x e base x.wrN).drop x.wrDone).map (fun w => w.2.length)).sum
  | none => p.staged

/-- The registers of one pump channel, by their offset in its window. DESIGN CHOICE (log 19); DEDUCED (log 99). -/
def pumpWord (s : State) (n o : Nat) : Word :=
  let p := pump s n
  match jobOf s n with
  | some x =>
    if o = 0 then wd (b1 p.pause)
    else if o = 4 then pmpSt s n
    else if o = 8 then pack [(x.q % 4096, 0), (x.inst, 12), (jobType x.type, 20), (b1 (highJob s x), 22)]
    else if o = 0xC then jobIdx x
    else if o = 0x10 then lo32 (srcAddr s x)
    else if o = 0x14 then hi32 (srcAddr s x)
    else if o = 0x18 then lo32 (dstAddr s n x)
    else if o = 0x1C then hi32 (dstAddr s n x)
    else if o = 0x20 then wd (jobLeft s x % 2 ^ 31)
    else if o = 0x24 then wd ((x.wrPos - jobBase x) % 2 ^ 31)
    else if o = 0x28 then pack [(stagedBytes s n x, 0), (if p.staged = 0 then 0 else (Config.funnel n p.staged).toNat, 13)]
    else if o = 0x30 then lo32 p.errAddr.toNat
    else if o = 0x34 then hi32 p.errAddr.toNat
    else if o = 0x38 then p.moved
    else 0
  | none =>
    if o = 0 then wd (b1 p.pause)
    else if o = 4 then pmpSt s n
    else if o = 0x30 then lo32 p.errAddr.toNat
    else if o = 0x34 then hi32 p.errAddr.toNat
    else if o = 0x38 then p.moved
    else 0

def cisStat (s : State) : Word := pack [(s.cis.sharedFree, 0), (2 * activeCount s, 16)]
def pmpGst (s : State) : Word := pack [(s.cis.high.length, 0), (s.cis.norm.length, 16)]

/-! ### Sump (Tables 10-9 to 10-12) -/

def fltStat (u : Sump) : Word :=
  pack [((u.origins.filter (fun kv => kv.2.mode != .free)).length, 0), (u.walks.length, 9), (b1 u.overflow, 16),
    (b1 u.memUe, 17)]
def fltCfg (u : Sump) : Word := pack [(u.ceThresh.toNat, 0), (u.ueMax.toNat, 16)]
def fltEdge (u : Sump) : Word := pack [(u.ovfE.toNat, 0), (u.ueE.toNat, 8)]
/-- DEDUCED (log 106). -/
def eccWord (ce ue : BitVec 16) : Word := pack [(ce.toNat, 0), (ue.toNat, 16)]
def omodeCode : OMode → Nat
  | .free => 0 | .held => 1 | .closed => 2
def originWord (o : Origin) (off : Nat) : Word :=
  if off = 0 then pack [(omodeCode o.mode, 0), (o.kind, 2), (o.port.val, 4), (o.half.val, 7), (o.addr, 8), (o.hubPort, 16)]
  else if off = 4 then pack [(o.route, 0), (o.firstEi, 20), (o.firstSt, 28)]
  else if off = 8 then wd o.echo
  else wd o.held

/-! ### Power management (Tables 15-10 to 15-13) -/

def pmWsrc (s : State) : Word := pack [(s.pm.armed.toNat, 0), (s.pm.fired.toNat, 16)]
def refId (e : RefEnt) : Word := pack [(e.index, 0), (e.cls, 20)]
def refCnt (e : RefEnt) : Word := pack [(e.count, 0), (e.lastSeq.toNat, 16)]

/-- Four bytes of a byte memory. -/
def word4 (m : Sparse Byte) (a : Nat) : Word :=
  pack ((List.range 4).map (fun k => ((getD 0 m (a + k)).toNat, 8 * k)))

/-- The dword of a store room that PM_RWIN shows: rooms 0 and 1 hold what firmware last kept there, in a layout that the
spec does not give (log 20). -/
def roomWord (s : State) (o : Nat) : Word :=
  let r := s.pm.rsel.val
  if r < 2 then Config.roomWord r (o / 4) s.pm.entries.toNat else word4 s.pm.rooms (r * 131072 + o / 4 * 4)

/-! ### The blocks by their windows (Table 17-1) -/

def globalWord (s : State) (a : Nat) : Word :=
  if a = 0 then glbId s
  else if a = 4 then Config.uid.extractLsb' 0 32
  else if a = 8 then Config.uid.extractLsb' 32 32
  else if a = 0xC then s.glb.scratch
  else if a = 0x10 then glbStat s
  else if 0x20 ≤ a ∧ a < 0x40 then (capRegs s).getD ((a - 0x20) / 4) 0
  else if a = 0x1000 then hiLink s.host
  else if a = 0x1004 then hiL1ctl s.host
  else if a = 0x1010 then lo32 s.host.herrAddr.toNat
  else if a = 0x1014 then hi32 s.host.herrAddr.toNat
  else if a = 0x1018 then hiHerrInfo s.host
  else if a = 0x2000 then bootSt s
  else if a = 0x2004 then bootFail s
  else if a = 0x2008 then s.boot.pfail.extractLsb' 0 32
  else if a = 0x200C then s.boot.pfail.extractLsb' 32 32
  else if a = 0x2010 then bootCache s
  else if a = 0x3000 then cmdStat s
  else if a = 0x3004 then cfgGen s
  else if a = 0x3008 then fwStat s
  else if a = 0x300C then fwVer s
  else if a = 0x4000 then celSt s.glb.c0
  else if a = 0x4004 then celSt s.glb.c1
  else cfg s a

def instWord (s : State) (i o : Nat) : Word :=
  if o = 0 then insState s i
  else if o = 0x10 then insUse s i
  else if o = 0x14 then insPuse s i
  else if o = 0x18 then insEuse s i
  else if o = 0x1C then insRst (inst s i)
  else cfg s (0x8000 + i * 0x20 + o)

def engineWord (s : State) (a : Nat) : Word :=
  if a = 0x80000 then qeStat s
  else if a = 0x80004 then s.qe.dbdrop
  else if a = 0x80010 then lo32 (q0 s).ring
  else if a = 0x80014 then hi32 (q0 s).ring
  else if a = 0x80018 then lo32 (q0 s).cell
  else if a = 0x8001C then hi32 (q0 s).cell
  else if a = 0x80020 then qeAdmCtl s
  else if 0x90000 ≤ a ∧ a < 0xB0000 then queueWord s ((a - 0x90000) / 0x20) (a % 0x20)
  else if 0xB0000 ≤ a ∧ a < 0xC0000 then fenceGet s ((a - 0xB0000) / 0x100) (a % 0x100 / 4)
  else 0

def schedWord (s : State) (a : Nat) : Word :=
  if a = 0x100000 then wd s.sched.pipes.length
  else if a = 0x100004 then s.sched.dec
  else if a = 0x100008 then s.sched.rdycan
  else if a = 0x10000C then s.sched.cmiss
  else if a = 0x100010 then s.sched.stray
  else if a = 0x100014 then schActive s
  else if a = 0x100018 then schPin s
  else if 0x100200 ≤ a ∧ a < 0x100260 then
    wd (peakLoad s ((a - 0x100200) % 0x20 / 4) ((a - 0x100200) / 0x20))
  else cfg s a

def timeWord (s : State) (a : Nat) : Word :=
  if a = 0x300004 then isoSt s
  else if a = 0x300008 then s.iso.mic
  else if a = 0x30000C then wd s.iso.snap
  else if a = 0x300010 then wd s.iso.afreq.toNat
  else if a = 0x300014 then s.iso.anchN
  else if a = 0x300018 then wd s.iso.anchPh.toNat
  else if 0x300100 ≤ a ∧ a < 0x300180 ∧ a % 0x10 ≠ 0 then
    let t := ptime s ((a - 0x300100) / 0x10)
    if a % 0x10 = 4 then isoPst t else if a % 0x10 = 8 then isoPlag t else t.num
  else cfg s a

def deviceWord (s : State) (a : Nat) : Word :=
  if a = 0xC00000 then devCtl s
  else if a = 0xC00004 then devId
  else if a = 0xC00008 then devSt s
  else if a = 0xC0000C then pack [(s.dev.rstE.toNat, 0), (s.dev.stE.toNat, 8)]
  else if a = 0xC00010 then devLpm s
  else if a = 0xC00014 then devTun s
  else if a = 0xC00018 then pack [(s.dev.resets.toNat, 0), (s.dev.abandoned.toNat, 16)]
  else 0

def cisternWord (s : State) (a : Nat) : Word :=
  if a = 0xE08000 then cisStat s
  else if a = 0xE08008 then wd s.cis.low
  else if a = 0xE0800C then s.cis.deny
  else if a = 0xE08104 then pmpGst s
  else if a = 0xE08108 then s.cis.preempt
  else if 0xE08800 ≤ a ∧ a < 0xE08C00 then wd (instShared s ((a - 0xE08800) / 4))
  else cfg s a

def pmWord (s : State) (a : Nat) : Word :=
  if a = 0xF00000 then pmState s
  else if a = 0xF0000C then pmWsrc s
  else if a = 0xF00010 then s.pm.wtimer
  else if a = 0xF00014 then pmCnt s
  else if a = 0xF00018 then s.pm.gates
  else if a = 0xF0001C then wd s.pm.rsel.val
  else if 0xF00100 ≤ a ∧ a < 0xF00180 then
    let e := getD {} s.pm.refs ((a - 0xF00100) / 8)
    if a % 8 = 0 then refId e else refCnt e
  else if 0xF00200 ≤ a ∧ a < 0xF00240 then getD 0 s.pm.scr ((a - 0xF00200) / 4)
  else if 0xF20000 ≤ a ∧ a < 0xF40000 then roomWord s (a - 0xF20000)
  else cfg s a

def sumpWord (s : State) (a : Nat) : Word :=
  let u := s.sump
  if a = 0xF80000 then fltStat u
  else if a = 0xF80004 then fltCfg u
  else if a = 0xF80008 then fltEdge u
  else if a = 0xF80010 then accOff u
  else if a = 0xF80014 then accInfo u
  else if a = 0xF80020 then eccWord u.cisCe u.cisUe
  else if a = 0xF80024 then eccWord u.chipCe u.chipUe
  else if a = 0xF80028 then eccWord u.cel0Ce u.cel0Ue
  else if a = 0xF8002C then eccWord u.cel1Ce u.cel1Ue
  else if a = 0xF80030 then wd u.cisRet.toNat
  else if a = 0xF80040 then u.logSeq
  else if a = 0xF80044 then u.logCap
  else if 0xF81000 ≤ a ∧ a < 0xF82000 then originWord (origin s ((a - 0xF81000) / 0x10)) (a % 0x10)
  else 0

/-- What the register at an aligned BAR0 offset holds; the block is in service. An offset that no table names reads 0:
`cfg` answers it with the reset value 0 (R418). -/
def bar0Word (s : State) (a : Nat) : Word :=
  if a < 0x8000 then globalWord s a
  else if 0x8000 ≤ a ∧ a < 0xA000 then instWord s ((a - 0x8000) / 0x20) (a % 0x20)
  else if 0x80000 ≤ a ∧ a < 0x100000 then engineWord s a
  else if 0x100000 ≤ a ∧ a < 0x300000 then schedWord s a
  else if 0x300000 ≤ a ∧ a < 0x400000 then timeWord s a
  else if 0x400000 ≤ a ∧ a < 0x480000 then portWord s ((a - 0x400000) / 0x10000) (a % 0x10000)
  else if 0xC00000 ≤ a ∧ a < 0xD00000 then deviceWord s a
  else if 0xD00000 ≤ a ∧ a < 0xD10000 then chanWord s ((a - 0xD00000) / 0x1000) (a % 0x1000)
  else if 0xE00000 ≤ a ∧ a < 0xE04000 then pumpWord s ((a - 0xE00000) / 0x100) (a % 0x100)
  else if 0xE08000 ≤ a ∧ a < 0xE10000 then cisternWord s a
  else if 0xF00000 ≤ a ∧ a < 0xF80000 then pmWord s a
  else if 0xF80000 ≤ a ∧ a < 0x1000000 then sumpWord s a
  else 0

/-- What a read of the dword at a BAR0 offset returns: a block that is off answers with its code (R282). -/
def bar0Read (s : State) (a : Nat) : Word :=
  match offCode s a with
  | some b => wd (0xBAD00000 + b)
  | none => bar0Word s (a / 4 * 4)

/-! ### Mailbox registers (Table 11-11) -/

def mbxDb (x : Inst) : Word :=
  pack [(b1 x.t2m, 0), (b1 x.m2t, 1), (b1 x.rstDone, 2), (x.m2tE.toNat, 8), (x.rstE.toNat, 16)]
def mbxMdb (x : Inst) : Word := pack [(b1 x.t2m, 0), (b1 x.m2t, 1), (x.t2mE.toNat, 8), (x.drops.toNat, 16)]
def mbxSum (s : State) (j : Nat) : Word :=
  wd (maskOf 32 (fun b => vfOn s (32 * j + b) && (inst s (32 * j + b)).t2m))

end Sys2Proof.Machine
end

