-- ==== Sys2Proof/Machine/Mgmt.lean ====
section
/-! DEFINITION. The management interfaces (file 18): the SMBus target (R438, R439), the UART (R442), JTAG (R441). -/

namespace Sys2Proof.Machine

open Sys2Proof

/-! ### SMBus (R438, R439) -/

/-- PD_MGT is powered. DEDUCED (log 95). -/
def mgtUp (s : State) : Bool := s.boot.up && s.pm.st != .deep && s.pm.st != .off

/-- The times of a wake that no row gives. DESIGN CHOICE (log 93). -/
def freeWake (s : State) : WakeOutcome × State :=
  let a := takeFree s
  let b := takeFree a.2
  ({ time := { aonTicks := a.1.toNat, ms := b.1.toNat }, imageOk := b.1.getLsbD 0, bootMs := a.1.extractLsb' 0 16 }, b.2)

/-- A wake source that the interface itself raises: it ends a SLEEP that armed it, or an entry that would arm it (R389,
R439, R442). DESIGN CHOICE (log 93). -/
def wakeBy (bit : Nat) (s : State) : State :=
  if s.pm.entry.isSome || (s.pm.st = .sleep && s.pm.armed.getLsbD bit) then
    let r := freeWake s
    fire bit r.1 r.2
  else s

/-- An address match of the target (R439): not acknowledged without PD_MGT, and wake source 6; the answer follows the
wake. DESIGN CHOICE (log 93). -/
def addressed (f : State → State) (s : State) : State := if mgtUp s then f (wakeBy 6 s) else emit .smbusNack s

/-- A read of a register by the target: one in a block that is off, and in SLEEP every one, reads under R282 with
SOURCE 2. DESIGN CHOICE (log 93). -/
def smbRead (a : Nat) (s : State) : Word × State :=
  match (if s.pm.st = .sleep then blockOf a else offCode s a) with
  | some b => (wd (0xBAD00000 + b), offAccess b a false 0 .smbus s)
  | none => (bar0Word s a, s)

/-- Several registers in order. -/
def smbReads : List Nat → State → List Word × State
  | [], s => ([], s)
  | a :: as, s =>
    let r := smbRead a s
    let rs := smbReads as r.2
    (r.1 :: rs.1, rs.2)

/-- One byte of SMBus's packet error code, the polynomial x^8 + x^2 + x + 1. PRESUMED (log 149). -/
def crcBit (v : Byte) : Byte := if v.getLsbD 7 then (v <<< 1) ^^^ 0x07 else v <<< 1
/-- PRESUMED (log 149). -/
def crcByte (v b : Byte) : Byte := (List.range 8).foldl (fun v _ => crcBit v) (v ^^^ b)

/-- The target's address (R438). -/
def smbAddr : Nat := 0x58 + Config.smbAdr.toNat

/-- The answer to a Block Read: the byte count, the data, and the PEC byte when one more byte is read. PRESUMED (log
149). -/
def smbAnswer (code : Nat) (pec : Bool) (bs : List Byte) : List Byte :=
  let body := BitVec.ofNat 8 bs.length :: bs
  let head := [BitVec.ofNat 8 (2 * smbAddr), BitVec.ofNat 8 code, BitVec.ofNat 8 (2 * smbAddr + 1)]
  body ++ (if pec then [(head ++ body).foldl crcByte 0] else [])

/-- A Block Read of registers (Table 18-8): `n` bytes of each. DESIGN CHOICE (log 93). -/
def smbBlock (code n : Nat) (as : List Nat) (pec : Bool) (s : State) : State :=
  let r := smbReads as (ungate s)
  emit (.smbus (smbAnswer code pec (r.1.map (fun w => (wordBytes w).take n)).flatten)) r.2

def execIdent (pec : Bool) (s : State) : Res := .next (addressed (smbBlock 1 4 [0x0, 0x4, 0x8] pec) s)
def execStatus (pec : Bool) (s : State) : Res :=
  .next (addressed (smbBlock 2 4 [0x2000, 0x10, 0xF00000, 0x300C] pec) s)
def execCapacity (pec : Bool) (s : State) : Res :=
  .next (addressed (smbBlock 3 4 [0x20, 0x24, 0x28, 0x2C, 0x30, 0x34, 0x38, 0x3C] pec) s)
def execChannels (pec : Bool) (s : State) : Res :=
  .next (addressed (smbBlock 5 2 ((List.range 16).map (fun c => chBase c + 4)) pec) s)
def execFaults (pec : Bool) (s : State) : Res := .next (addressed (smbBlock 6 4 [0xF80000, 0xF80040] pec) s)

/-- THERMAL: the temperature now, and the highest since power-on, which the reading joins (log 21). -/
def smbThermal (now : BitVec 16) (pec : Bool) (s : State) : State :=
  let high := if s.mgmt.tHigh.toInt < now.toInt then now else s.mgmt.tHigh
  emit (.smbus (smbAnswer 4 pec (wordBytes (pack [(now.toNat, 0), (high.toNat, 16)])))) { s with mgmt := { s.mgmt with tHigh := high } }

def execThermal (now : BitVec 16) (pec : Bool) (s : State) : Res := .next (addressed (smbThermal now pec) s)

/-- Another protocol or code: a read returns a byte count of 0, other data bytes are not acknowledged. -/
def execSmbusUnsupported (code : Byte) (read pec : Bool) (s : State) : Res :=
  .next (addressed (emit (if read then .smbus (smbAnswer code.toNat pec []) else .smbusNack)) s)

def execSmbusClockTimeout (s : State) : Res := when s (mgtUp s) (emit .smbusRelease s)

/-! ### UART (R442) -/

/-- Received characters are discarded; their start bit is wake source 7. DEDUCED (log 95). -/
def execUartRxCharacter (_c : Byte) (s : State) : Res := .next (wakeBy 7 s)

/-! ### JTAG (R441) -/

/-- Little-endian bits of a word, first shifted first. -/
def wordBits (w : Word) : List Bool := (List.range 32).map (fun k => w.getLsbD k)

/-- IDCODE: version 0x1, part 0x8160, the fused manufacturer, 1. -/
def idWord : Word := pack [(1, 0), (Config.jtagManufacturer.toNat, 1), (0x8160, 12), (1, 28)]

/-- An instruction is selected. -/
def jtagSelect (i : JtagInstr) (s : State) : State := { s with mgmt := { s.mgmt with ir := i } }

/-- A test instruction: every gate is held off by its fast pull-down until the next power-on. -/
def jtagTest (i : JtagInstr) (mode : Nat) (s : State) : State :=
  let s := gatesFast s
  emit (.pins mode) { s with mgmt := { s.mgmt with ir := i, gatesHeld := true } }

/-- BYPASS, which every code that is not supported selects too: one bit, captured as 0. -/
def execBypass (_code : Byte) (s : State) : Res :=
  when s (mgtUp s) (emit (.tdo [false]) (jtagSelect .bypass s))

def execIdcode (s : State) : Res := when s (mgtUp s) (emit (.tdo (wordBits idWord)) (jtagSelect .idcode s))

/-- The levels sampled at the pins are free values. DESIGN CHOICE (log 94). -/
def samplePins : Nat → State → List Bool × State
  | 0, s => ([], s)
  | n + 1, s =>
    let f := takeFree s
    let r := samplePins n f.2
    (f.1.getLsbD 0 :: r.1, r.2)

/-- SAMPLE/PRELOAD: the chain's sample is shifted out while its new contents are shifted in. -/
def jtagSample (chain : List Bool) (s : State) : State :=
  let r := samplePins chain.length s
  let s := jtagSelect .sample r.2
  emit (.tdo r.1) { s with mgmt := { s.mgmt with chain := chain } }

def execSamplePreload (chain : List Bool) (s : State) : Res := when s (mgtUp s) (jtagSample chain s)
def execExtest (s : State) : Res := when s (mgtUp s) (jtagTest .extest 1 s)
def execClamp (s : State) : Res := when s (mgtUp s) (jtagTest .clamp 2 s)
def execHighz (s : State) : Res := when s (mgtUp s) (jtagTest .highz 3 s)

end Sys2Proof.Machine
end

