-- ==== Sys2Proof/Machine/RegWrite.lean ====
section
/-! DEFINITION. Register reads (R36), and REGISTER_WRITE (R10): a dword written to BAR0, to BAR2 or to the BAR0 of a
virtual function, and what the register at the offset does with it. An offset that no table names, a register that is
read only and a reserved bit ignore the write (R10, R11, R418, R421). -/

namespace Sys2Proof.Machine

open Sys2Proof

/-! ### Single registers -/

/-- HI_L1CTL (Table 2-11), and HI_HERR_INFO.VALID (Table 2-15). -/
def writeL1ctl (v : Word) (s : State) : State :=
  { s with host := { s.host with idleUs := BitVec.ofNat 16 (fld v 0 16), holdIso := tst v 16 } }
def clearHerr (v : Word) (s : State) : State :=
  { s with host := { s.host with herrValid := s.host.herrValid && !tst v 8 } }

/-- QE_ADM_RING and QE_ADM_CELL take writes only while queue 0 is DISABLED (R98). -/
def writeAdm (a : Nat) (v : Word) (s : State) : State :=
  if admState s != .disabled then s
  else modQueue 0 (fun x =>
    if a = 0x80010 then { x with ring := x.ring / 2 ^ 32 * 2 ^ 32 + v.toNat / 64 * 64 }
    else if a = 0x80014 then { x with ring := v.toNat * 2 ^ 32 + x.ring % 2 ^ 32 }
    else if a = 0x80018 then { x with cell := x.cell / 2 ^ 32 * 2 ^ 32 + v.toNat / 16 * 16 }
    else { x with cell := v.toNat * 2 ^ 32 + x.cell % 2 ^ 32 }) s

/-- QE_ADM_CTL (Table 3-16). -/
def writeAdmCtl (v : Word) (s : State) : State := if tst v 8 then adminEnable v s else adminDisable v s

/-- PRT_WSRC (Table 6-16). -/
def clearWsrc (p h : Nat) (v : Word) (s : State) : State :=
  modHalf p h (fun x => { x with wHost := x.wHost && !tst v 0, wUnit := x.wUnit && !tst v 1 }) s

/-- ISO_ST (Table 8-8). -/
def clearIso (v : Word) (s : State) : State :=
  { s with iso := { s.iso with lockChg := s.iso.lockChg && !tst v 4, rangeErr := s.iso.rangeErr && !tst v 5 } }

/-- FLT_STAT, FLT_CFG and FLT_ACCINFO (Tables 10-9, 10-10). -/
def clearFlt (v : Word) (s : State) : State :=
  { s with sump := { s.sump with overflow := s.sump.overflow && !tst v 16, memUe := s.sump.memUe && !tst v 17 } }
def writeFltCfg (v : Word) (s : State) : State :=
  { s with sump := { s.sump with ceThresh := BitVec.ofNat 16 (fld v 0 16), ueMax := BitVec.ofNat 8 (fld v 16 8) } }
def clearAcc (v : Word) (s : State) : State :=
  { s with sump := { s.sump with accValid := s.sump.accValid && !tst v 16 } }

/-- CH_ST (Table 14-6). -/
def clearCh (c : Nat) (v : Word) (s : State) : State :=
  modChan c (fun x => { x with trip := x.trip && !tst v 12, lock := x.lock && !tst v 13, vgChg := x.vgChg && !tst v 14
                               senseErr := x.senseErr && !tst v 15 }) s

/-- DEV_ST and DEV_LPM (Table 13-11). -/
def clearDev (v : Word) (s : State) : State :=
  { s with dev := { s.dev with rstChg := s.dev.rstChg && !tst v 21, stChg := s.dev.stChg && !tst v 22 } }
def writeDevLpm (v : Word) (s : State) : State :=
  { s with dev := { s.dev with u1Acc := tst v 0, u2Acc := tst v 1, l1Acc := tst v 2, besl := BitVec.ofNat 4 (fld v 3 4) } }

/-- PM_STATE.WFAIL, PM_WTIMER, PM_RSEL, PM_SCR and PM_RWIN (Tables 15-10 to 15-13, R398). -/
def clearPm (v : Word) (s : State) : State := { s with pm := { s.pm with wfail := s.pm.wfail && !tst v 24 } }
def writeTimer (v : Word) (s : State) : State := { s with pm := { s.pm with wtimer := v } }
def writeRsel (v : Word) (s : State) : State := { s with pm := { s.pm with rsel := Fin.ofNat 8 (fld v 0 3) } }
def writeScr (j : Nat) (v : Word) (s : State) : State := { s with pm := { s.pm with scr := setD 0 s.pm.scr j v } }
def writeRoom (o : Nat) (v : Word) (s : State) : State :=
  let r := s.pm.rsel.val
  if r < 2 then s else { s with pm := { s.pm with rooms := writeBytes s.pm.rooms (r * 131072 + o) (wordBytes v) } }

/-- GLB_SCRATCH and GLB_STAT.CAP_CHG (Tables 17-5, 17-6). -/
def writeScratch (v : Word) (s : State) : State := { s with glb := { s.glb with scratch := v } }
def clearCap (v : Word) (s : State) : State := { s with glb := { s.glb with capChg := s.glb.capChg && !tst v 8 } }

/-! ### BAR0 by window (Table 17-1) -/

def writePort (p : Port) (o : Nat) (v : Word) (s : State) : State :=
  if o = 0 then writeTc p v s
  else if o = 0x100 then writeSc p 0 v s
  else if o = 0x200 then writeSc p 1 v s
  else if o = 0x108 then clearWsrc p 0 v s
  else if o = 0x208 then clearWsrc p 1 v s
  else s

def writeDevice (a : Nat) (v : Word) (s : State) : State :=
  if a = 0xC00000 then writeDevCtl v s
  else if a = 0xC00008 then clearDev v s
  else if a = 0xC00010 then writeDevLpm v s
  else s

def writeChan (c o : Nat) (v : Word) (s : State) : State :=
  if o = 0 then writeChCtl c v s else if o = 4 then clearCh c v s else s

def writePmu (a : Nat) (v : Word) (s : State) : State :=
  if a = 0xF00000 then clearPm v s
  else if a = 0xF00010 then writeTimer v s
  else if a = 0xF0001C then writeRsel v s
  else if 0xF00200 ≤ a ∧ a < 0xF00240 then writeScr ((a - 0xF00200) / 4) v s
  else if 0xF20000 ≤ a ∧ a < 0xF40000 then writeRoom (a - 0xF20000) v s
  else s

def writeSump (a : Nat) (v : Word) (s : State) : State :=
  if a = 0xF80000 then clearFlt v s
  else if a = 0xF80004 then writeFltCfg v s
  else if a = 0xF80014 then clearAcc v s
  else s

/-- The register at a BAR0 offset takes a write; the block is in service. -/
def writeBar0 (a : Nat) (v : Word) (s : State) : State :=
  if a = 0xC then writeScratch v s
  else if a = 0x10 then clearCap v s
  else if a = 0x1004 then writeL1ctl v s
  else if a = 0x1018 then clearHerr v s
  else if 0x80010 ≤ a ∧ a < 0x80020 then writeAdm a v s
  else if a = 0x80020 then writeAdmCtl v s
  else if a = 0x300004 then clearIso v s
  else if 0x400000 ≤ a ∧ a < 0x480000 then writePort (Fin.ofNat 8 ((a - 0x400000) / 0x10000)) (a % 0x10000) v s
  else if 0xC00000 ≤ a ∧ a < 0xD00000 then writeDevice a v s
  else if 0xD00000 ≤ a ∧ a < 0xD10000 then writeChan ((a - 0xD00000) / 0x1000) (a % 0x1000) v s
  else if 0xF00000 ≤ a ∧ a < 0xF80000 then writePmu a v s
  else if 0xF80000 ≤ a then writeSump a v s
  else s

/-- A write to BAR0 of the physical function. PMP_CTL stores PAUSE while its channel is OFF (Table 9-2). -/
def accessBar0 (a : Nat) (v : Word) (s : State) : State :=
  if 0xE00000 ≤ a ∧ a < 0xE04000 ∧ a % 0x100 = 0 then pmpAccess ((a - 0xE00000) / 0x100) v s
  else regWrite a (writeBar0 a v) s

/-! ### MSI-X tables and mailboxes (R35, R41, R43, R301, R315, R420) -/

/-- A dword of an MSI-X table entry; an unmasked vector that is pending sends (R43, R45). DEDUCED (log 33). -/
def writeMsix (i v k : Nat) (w : Word) (s : State) : State :=
  let x := vec s i v
  if k = 0 then setVec i v { x with addrLo := w &&& 0xFFFFFFFC } s
  else if k = 1 then setVec i v { x with addrHi := w } s
  else if k = 2 then setVec i v { x with data := w } s
  else trySend i v (setVec i v { x with masked := tst w 0 } s)

/-- MBX_MDB: T2M acknowledged, M2T posted. -/
def writeMdb (i : Nat) (v : Word) (s : State) : State :=
  let s := if tst v 0 then t2mAck i s else s
  if tst v 1 then m2tPost i s else s

/-- MBX_DB: M2T and RST_DONE acknowledged, T2M posted. -/
def writeDb (i : Nat) (v : Word) (s : State) : State :=
  let s := if tst v 1 then m2tAck i s else s
  let s := if tst v 2 then rstAck i s else s
  if tst v 0 then t2mPost i s else s

/-- The mailbox window of an instance, from the manager's side (R301). -/
def writeMbox (i o : Nat) (v : Word) (s : State) : State :=
  if o < 0x100 then paneWrite true i false o (wordBytes v) s
  else if o < 0x200 then paneWrite true i true (o - 0x100) (wordBytes v) s
  else if o = 0x200 then writeMdb i v s
  else s

/-- BAR2 (Table 17-2). -/
def writeBar2 (a : Nat) (v : Word) (s : State) : State :=
  if a < 0x8000 then doorbell (.manager (Fin.ofNat 4096 (a / 8))) s
  else if 0x300000 ≤ a ∧ a < 0x340000 then
    mboxAccess true ((a - 0x300000) / 0x400) (writeMbox ((a - 0x300000) / 0x400) (a % 0x400) v) s
  else if 0x380000 ≤ a ∧ a < 0x381000 then writeMsix 0 ((a - 0x380000) / 16) (a % 16 / 4) v s
  else s

/-- BAR0 of a virtual function (Table 2-4). -/
def writeVf (i : Nat) (a : Nat) (v : Word) (s : State) : State :=
  if a < 0x200 then doorbell (.tenant (Fin.ofNat 256 i) (Fin.ofNat 64 (a / 8))) s
  else if 0x1000 ≤ a ∧ a < 0x1100 then paneWrite false i false (a - 0x1000) (wordBytes v) s
  else if 0x1100 ≤ a ∧ a < 0x1200 then paneWrite false i true (a - 0x1100) (wordBytes v) s
  else if a = 0x1200 then writeDb i v s
  else if 0x2000 ≤ a ∧ a < 0x2100 then writeMsix i ((a - 0x2000) / 16) (a % 16 / 4) v s
  else s

/-- A write to a window whose function answers; else it is completed Unsupported Request. -/
def ifAnswers (i : Nat) (f : State → State) (s : State) : State :=
  if answers s i then f (wakeLink (ungate s)) else answerTlp (.unsupported i) s

/-- Size of a window (Table 2-3). -/
def windowSize : Window → Nat
  | .bar0 => 0x1000000 | .bar2 => 0x400000 | .vf _ => 0x10000

/-- A write within an 8-byte doorbell rings it, whatever its size (Table 2-5). -/
def inDoorbell (w : Window) (a : Nat) : Bool :=
  match w with
  | .bar0 => false
  | .bar2 => a < 0x8000
  | .vf _ => a < 0x200

/-- One dword written to a window; an offset that is not a multiple of 4 stands for partial byte enables: dropped,
but for a doorbell (Table 2-5). -/
def writeWindow (w : Window) (a : Nat) (v : Word) (s : State) : State :=
  let partly : Bool := a % 4 ≠ 0 && !inDoorbell w a
  match w with
  | .bar0 => if partly then ifAnswers 0 (fun s => s) s else accessBar0 a v s
  | .bar2 => ifAnswers 0 (fun s => if partly then s else writeBar2 a v s) s
  | .vf i => ifAnswers i.val (fun s => if partly then s else writeVf i.val a v s) s

/-- The function of a window exists. -/
def windowExists (s : State) : Window → Bool
  | .bar0 | .bar2 => true
  | .vf i => tenant s i.val

/-! ### Register reads (R35, R36, R300, R420)

The table has no row for a read that changes nothing, but for OFF_BLOCK_ACCESS and ISO_MIC_READ (log 132). -/

/-- A dword of an MSI-X table entry, and of the pending-bit array of a function. -/
def msixWord (s : State) (i v k : Nat) : Word :=
  let x := vec s i v
  if k = 0 then x.addrLo else if k = 1 then x.addrHi else if k = 2 then x.data else wd (b1 x.masked)
def pbaWord (s : State) (i j : Nat) : Word := wd (maskOf 32 (fun b => (vec s i (32 * j + b)).pending))

/-- The mailbox window of an instance, from the manager's side (R301). -/
def mboxWord (s : State) (i o : Nat) : Word :=
  if !vfOn s i then 0
  else if o < 0x100 then word4 (inst s i).paneT2m o
  else if o < 0x200 then word4 (inst s i).paneM2t (o - 0x100)
  else if o = 0x200 then mbxMdb (inst s i)
  else 0

/-- BAR2 (Table 17-2). -/
def bar2Word (s : State) (a : Nat) : Word :=
  if 0x300000 ≤ a ∧ a < 0x340000 then mboxWord s ((a - 0x300000) / 0x400) (a % 0x400)
  else if 0x340000 ≤ a ∧ a < 0x340020 then mbxSum s ((a - 0x340000) / 4)
  else if 0x380000 ≤ a ∧ a < 0x381000 then msixWord s 0 ((a - 0x380000) / 16) (a % 16 / 4)
  else if 0x382000 ≤ a ∧ a < 0x382020 then pbaWord s 0 ((a - 0x382000) / 4)
  else 0

/-- BAR0 of a virtual function (Table 2-4); what it does not list reads 0 (R35). -/
def vfWord (s : State) (i a : Nat) : Word :=
  if 0x1000 ≤ a ∧ a < 0x1100 then word4 (inst s i).paneT2m (a - 0x1000)
  else if 0x1100 ≤ a ∧ a < 0x1200 then word4 (inst s i).paneM2t (a - 0x1100)
  else if a = 0x1200 then mbxDb (inst s i)
  else if 0x2000 ≤ a ∧ a < 0x2100 then msixWord s i ((a - 0x2000) / 16) (a % 16 / 4)
  else if 0x3000 ≤ a ∧ a < 0x3008 then pbaWord s i ((a - 0x3000) / 4)
  else 0

/-- A read of one dword of BAR0: ISO_MIC takes its snapshot (R223), a block that is off records the access (R282). -/
def readBar0 (a : Nat) (s : State) : State :=
  if a = 0x300008 then micRead s
  else
    match offCode s a with
    | some b => offBlock b a false .pcie s
    | none => answerTlp (.readData (bar0Word s a)) (ungate s)

/-- One dword of a window. -/
def readWord (w : Window) (a : Nat) (s : State) : State :=
  match w with
  | .bar0 => readBar0 a s
  | .bar2 => answerTlp (.readData (bar2Word s a)) (ungate s)
  | .vf i => answerTlp (.readData (vfWord s i.val a)) (ungate s)

/-- `n` dwords from an offset on lie within one mailbox pane. -/
def inPane (w : Window) (a n : Nat) : Bool :=
  a / 0x100 = (a + 4 * n - 1) / 0x100 &&
    match w with
    | .bar0 => false
    | .bar2 => decide (0x300000 ≤ a ∧ a < 0x340000) && decide (a % 0x400 < 0x200)
    | .vf _ => decide (0x1000 ≤ a ∧ a < 0x1200)

def windowFn : Window → Nat
  | .bar0 | .bar2 => 0
  | .vf i => i.val

/-- A Memory Read of `n` dwords from the dword of a window offset on (Table 2-5): one or two registers, the lower
first, or part of a pane; anything longer, and every read of a function that does not answer, is completed Unsupported
Request. Partial byte enables read the whole dword. DESIGN CHOICE (log 132). -/
def serveRead (w : Window) (a n : Nat) (s : State) : State :=
  let a := a / 4 * 4
  if answers s (windowFn w) && inPane w a n then
    let word : Nat → Word := match w with
      | .vf i => vfWord s i.val
      | _ => bar2Word s
    answerTlp (.readBytes ((List.range n).map (fun k => wordBytes (word (a + 4 * k)))).flatten) (ungate s)
  else if answers s (windowFn w) && n ≤ 2 then
    (List.range n).foldl (fun s k => readWord w (a + 4 * k) s) s
  else answerTlp (.unsupported (windowFn w)) s

/-! ### OFF_BLOCK_ACCESS and REGISTER_WRITE -/

/-- A write under R282: dropped and recorded where its block is off; the row gives it no value for a block in service.
-/
def dropWrite (w : Window) (a : Nat) (s : State) : State :=
  if !answers s (windowFn w) then answerTlp (.unsupported (windowFn w)) s
  else
    match w, offCode s a with
    | .bar0, some b => offBlock b a true .pcie s
    | _, _ => wakeLink (ungate s)

/-- An access under R282. A read that finds its block in service, or that goes to another window than BAR0, is an
ordinary one (R36). DESIGN CHOICE (log 132). -/
def offBlockAccess (w : Window) (a n : Nat) (write : Bool) (src : AccSource) (s : State) : State :=
  match src with
  | .pcie => if write then dropWrite w a s else serveRead w a n s
  | _ =>
    match offCode s a with
    | some b => offBlock b a write src s
    | none => s

/-- DESIGN CHOICE (log 132). -/
def execOffBlockAccess (w : Window) (a n : Nat) (write : Bool) (src : AccSource) (s : State) : Res :=
  when s (windowExists s w) (offBlockAccess w a n write src s)

def execRegisterWrite (w : Window) (a : Nat) (v : Word) (s : State) : Res :=
  when s (a < windowSize w && windowExists s w) (writeWindow w a v s)

end Sys2Proof.Machine
end

