-- ==== Sys2Proof/Machine/Host.lean ====
section
/-! DEFINITION. The PCI Express host interface (file 02) and its resets: requests that are not performed (R36), reads
that time out (R55), moderation and PME timers (R42, R48), the link (R30–R32, R415), configuration writes (R40, R43,
R48, R52). -/

namespace Sys2Proof.Machine

open Sys2Proof

/-! ### Received requests that are not performed (Table 2-5) -/

/-- Requests of the host reach a function: step 6 is past, PERST# is deasserted, and the function exists. -/
def reaches (s : State) (i : Nat) : Bool :=
  s.boot.up && !s.boot.perst && exists' s i && (fn s i).dstate != .d3cold

/-- The kinds that any function completes Unsupported Request, and the one that needs a function that takes no memory
request: Memory Space Enable clear, or D3hot (Tables 2-5, 2-6). -/
def urFits (s : State) (i : Nat) : UrKind → Bool
  | .memoryDisabled => !answers s i
  | .lockRead | .io | .type1 | .overLong => true

/-- DEDUCED (log 31). -/
def execUnsupportedRequestRx (i : Fn) (k : UrKind) (s : State) : Res :=
  when s (reaches s i && urFits s i k) (answerTlp (.unsupported i) s)

/-- A poisoned write is dropped, and logged in the function's AER as advisory non-fatal. -/
def poisoned (i : Nat) (s : State) : State := aerMark i .poisoned true (wakeLink s)

def execPoisonedWriteRx (i : Fn) (s : State) : Res := when s (reaches s i) (poisoned i s)

/-- DOORBELL_WRITE (R71): an item that enters the crossing queue toward FAB (R387). -/
def execDoorbellWrite (d : Doorbell) (s : State) : Res :=
  when s (match d with | .manager _ => true | .tenant i _ => tenant s i) (doorbell d s)

/-! ### Reads that time out (R55) -/

/-- The effect of Table 2-8 on what the read was for. -/
def timeOut (o : OutRead) (s : State) : State :=
  match o.ref with
  | .cell q => cellReturn q o (.error .timeout) s
  | .entries q i => fetchReturn q i o (.error .timeout) s
  | .pump k n => pumpReturn k n o (.error .timeout) s
  | .barrier q i => barrierReturn q i o (some .timeout) s
  | .stage k => stageReturn o k (.error .timeout) s

/-- The read may still be answered afterwards. -/
def markLate (i : Nat) (s : State) : State := { s with host := { s.host with timedOut := s.host.timedOut ++ [i] } }

def execCompletionTimeout (r : ReadRef) (s : State) : Res :=
  match outRead s r with
  | some o => when s (!s.host.cplTimeoutOff) (markLate o.fn (timeOut o s))
  | none => noSuch s

/-- A completion after its timeout is discarded. DEDUCED (log 31). -/
def lateCompletion (i : Nat) (s : State) : State :=
  aerMark i .unexpectedCompletion true <| wakeLink
    { s with host := { s.host with timedOut := s.host.timedOut.erase i } }

def execLateCompletionRx (i : Fn) (s : State) : Res :=
  when s (s.host.timedOut.contains i.val) (lateCompletion i s)

/-! ### Timers and messages (R42, R43, R48) -/

def execModerationTimerExpiry (i v : Fn) (s : State) : Res :=
  when s (vec s i v).timer (due i v s)

def execPendingMsixRelease (i v : Fn) (s : State) : Res :=
  when s ((vec s i v).pending && canSend s i v) (trySend i v s)

/-- PME_Status stays set in D3hot. DEDUCED (log 30). -/
def execPmeResendTimer (i : Fn) (s : State) : Res :=
  when s ((fn s i).pmeStatus && (fn s i).pmeEnable && (fn s i).dstate = .d3hot) (tlp (.pmPme i) s)

/-! ### The link (R30, R32, R52, R57) -/

/-- The L1 substate that system software allows, for ASPM or for PCI-PM (R32, Table 2-1). -/
def l1Target (s : State) (pci : Bool) : L1State :=
  let h := s.host
  if (if pci then h.pciL12 else h.aspmL12) then .l12 else if (if pci then h.pciL11 else h.aspmL11) then .l11 else .l1

/-- The link enters L1; L1_ENTRIES advances. DEDUCED (log 27). -/
def enterLinkL1 (pci : Bool) (s : State) : State :=
  emit .l1Request { s with host := { s.host with l1 := l1Target s pci, l1Entries := s.host.l1Entries + 1 } }

/-- The conditions of R32: no TLP to send, no read outstanding, HOLD_ISO clear or no isochronous pipe open. -/
def l1Idle (s : State) : Bool :=
  s.host.linkUp && s.host.l1 = .l0 && s.host.idleUs != 0 && s.host.reads.isEmpty &&
    (!s.host.holdIso || !s.sched.pipes.any (fun kv => kv.2.kind = .iso))

def execL1IdleTimeout (s : State) : Res := when s (l1Idle s) (enterLinkL1 false s)

/-- PM_PME of each function whose PME_Status is set and whose PME_En is set, once the link is back (R48).
DEDUCED (log 29). -/
def pmeAll (s : State) : State :=
  s.funcs.foldl (fun s kv => if kv.2.pmeStatus && kv.2.pmeEnable then tlp (.pmPme kv.1) s else s) s

/-- CAPACITY_CHANGE with RESOURCE 5; RETURNED and FAILED are free values, since Table 17-9 gives them a meaning for
parts that leave or return to service only (log 22). -/
def linkChanged (s : State) : State :=
  let f := takeFree s
  capEvent 5 (f.1.getLsbD 0) (f.1.getLsbD 1) 0 f.2

/-- LINK_TRAINED: HI_LINK, and the event when a trained width or speed changes. DEDUCED (log 28). -/
def linkTrained (speed width : Nat) (rev : Bool) (s : State) : State :=
  let old := s.host
  let s := { s with host := { s.host with
    speed := BitVec.ofNat 4 speed, width := BitVec.ofNat 4 width, reversed := rev, linkUp := true, l1 := .l0 } }
  let s := if old.linkUp then s else pmeAll s
  if old.speed ≠ 0 && (old.speed.toNat ≠ speed || old.width.toNat ≠ width) then linkChanged s else s

def execLinkTrained (speed : Fin 6) (width : Fin 9) (rev : Bool) (s : State) : Res :=
  when s (s.boot.up && !s.boot.perst && s.pm.st != .deep && s.pm.st != .off && speed ≠ 0 &&
    (width = 1 || width = 2 || width = 4 || width = 8)) (linkTrained speed.val width.val rev s)

/-- Recovery and back to L0: nothing is lost and nothing is repeated (R30). -/
def execLinkRecovery (s : State) : Res := when s s.host.linkUp s

/-! ### Link reset (R49, R413, R415, R416) -/

/-- The functions that exist. -/
def functions (s : State) : List Nat := 0 :: (s.insts.filter (fun kv => kv.1 ≠ 0 && kv.2.st != .absent)).map Prod.fst

/-- A function after a link reset: PME and AER are sticky, the MSI-X table is kept (R49), Memory Space Enable of the
virtual functions is kept. PRESUMED (log 25); PRESUMED (log 34). -/
def linkResetFn (k : LinkResetKind) (i : Nat) (f : Func) : Func :=
  { f with memEnable := if i = 0 then false else f.memEnable, busMaster := false, msixEnable := false, funcMask := false
           corReport := false, nfReport := false
           dstate := if k = .perst then .d3cold else .d0 }

/-- A function that enters D3cold with PME_Status and PME_En set has PE_WAKE_N asserted for it (R48).
PERST# before an activation's step 7 leaves the boot record as it is (R342). PRESUMED (log 25); DEDUCED (log 27);
DEDUCED (log 146). -/
def linkReset (k : LinkResetKind) (s : State) : State :=
  let s := { s with
    boot := { s.boot with perst := s.boot.perst || k = .perst }
    fw := if k = .perst then { s.fw with updates := [], actRecord := false } else s.fw
    host := { s.host with
      linkUp := false, speed := 0, width := 0, reversed := false, tenBit := false, mps := 0, mrrs := 2, l1 := .l0
      aspmL11 := false, aspmL12 := false, pciL11 := false, pciL12 := false
      cplTimeoutOff := false, cplTimeout := 0, ari := false } }
  let s := (functions s).foldl (fun s i => changeFn i (linkResetFn k i) s) s
  if k = .perst && s.funcs.any (fun kv => kv.2.pmeStatus && kv.2.pmeEnable) then assertWake s else s

/-- PERST# is asserted, or a Hot Reset is received or the link goes down while it is up. -/
def execLinkReset (k : LinkResetKind) (s : State) : Res :=
  when s (if k = .perst then !s.boot.perst else s.host.linkUp) (linkReset k s)

/-- PERST# deasserted (R409): each function is in D0 again, and PE_WAKE_N is released (R401). DEDUCED (log 29). -/
def perstDeassert (s : State) : State :=
  let s := { s with boot := { s.boot with perst := false } }
  let s := (functions s).foldl (fun s i => changeFn i (fun f => { f with dstate := .d0 }) s) s
  if s.host.peWake || s.pm.aonWake then
    emit (.peWake false) { s with host := { s.host with peWake := false }, pm := { s.pm with aonWake := false } }
  else s

def execPerstDeassert (s : State) : Res := when s s.boot.perst (perstDeassert s)

/-! ### Capability values (Tables 2-1, 2-3; R29, R33, R34) -/

def deviceId (i : Nat) : Nat := if i = 0 then 0x8160 else 0x8161
/-- Serial bus controller of USB kind with a programming interface of its own. -/
def classCode : Nat := 0x0C0380
/-- VF Offset and VF Stride: virtual function n has the physical function's routing ID plus n. -/
def vfOffset : Nat := 1
def vfStride : Nat := 1
def routingId (pf i : Nat) : Nat := if i = 0 then pf else pf + vfOffset + (i - 1) * vfStride

/-- The capability values of Table 2-1 with the BAR sizes of Table 2-3, each by its name. -/
def capabilities (s : State) : List (String × Nat) :=
  [("Max Link Speed", 5), ("Max Link Width", 8), ("ASPM Support: L1", 1), ("ASPM Support: L0s", 0),
   ("L1 PM Substates: ASPM L1.1", 1), ("L1 PM Substates: ASPM L1.2", 1), ("L1 PM Substates: PCI-PM L1.1", 1),
   ("L1 PM Substates: PCI-PM L1.2", 1), ("Port T_POWER_ON, us", 60), ("Port Common_Mode_Restore_Time, us", 10),
   ("LTR Mechanism Supported", 1), ("D1 Support", 0), ("D2 Support", 0), ("No_Soft_Reset", 1), ("PME_Support: D0", 1),
   ("PME_Support: D3hot", 1), ("PME_Support: D3cold", 1), ("Interrupt Pin", 0), ("10-Bit Tag Requester Supported", 1),
   ("10-Bit Tag Completer Supported", 1), ("Max_Payload_Size Supported", 2), ("Completion Timeout Ranges Supported", 15),
   ("Completion Timeout Disable Supported", 1), ("ECRC Generation Capable", 1), ("ECRC Check Capable", 1),
   ("Function Level Reset", 1), ("TotalVFs", if s.isL then 63 else 255), ("VF Offset", vfOffset), ("VF Stride", vfStride),
   ("BAR0 size", windowSize .bar0), ("BAR0 64-bit", 1), ("BAR0 prefetchable", 0), ("BAR2 size", windowSize .bar2),
   ("BAR2 64-bit", 1), ("BAR2 prefetchable", 0), ("VF BAR0 size", windowSize (.vf 1)), ("VF BAR0 64-bit", 1),
   ("VF BAR0 prefetchable", 0), ("I/O BARs", 0)]

/-! ### Configuration writes -/

/-- The configuration space of a function answers. -/
def cfgFn (s : State) (i : Nat) : Bool := cfgUp s && exists' s i && (fn s i).dstate != .d3cold

/-- A write of the device state (R52): with every function in D3hot the link enters PCI-PM L1. DEDUCED (log 96). -/
def powerState (i : Nat) (d3hot : Bool) (s : State) : State :=
  let s := changeFn i (fun f => { f with dstate := if d3hot then .d3hot else .d0 }) (wakeLink s)
  if d3hot && (functions s).all (fun j => (fn s j).dstate = .d3hot) && s.host.linkUp then enterLinkL1 true s else s

def execPowerStateWrite (i : Fn) (d3hot : Bool) (s : State) : Res :=
  when s (cfgFn s i) (powerState i d3hot s)

def execBusMasterEnableWrite (i : Fn) (on : Bool) (s : State) : Res :=
  when s (cfgFn s i) (changeFn i (fun f => { f with busMaster := on }) (wakeLink s))

def execMsixEnableWrite (i : Fn) (on mask : Bool) (s : State) : Res :=
  when s (cfgFn s i)
    (changeFn i (fun f => { f with msixEnable := on, funcMask := mask }) (wakeLink s))

/-- The vectors of a function (R41). -/
def hasVec (i v : Nat) : Bool := v < (if i = 0 then 256 else 16)

/-- The Mask bit of a vector is cleared: a pending message is sent, once (R43, R45). DEDUCED (log 96). -/
def execMsixVectorUnmask (i v : Fn) (s : State) : Res :=
  when s (exists' s i && hasVec i v) (ifAnswers i (writeMsix i v 3 0) s)

/-- The other configuration bits that the spec gives an effect; what concerns the link or every request lies in the
physical function's space. PRESUMED (log 26); DEDUCED (log 30). -/
def cfgSpace (i : Nat) (w : CfgSpaceWrite) (s : State) : State :=
  match w with
  | .pmeStatusClear => modFn i (fun f => { f with pmeStatus := false }) s
  | .pmeEnable b =>
    let f := fn s i
    let s := modFn i (fun f => { f with pmeEnable := b }) s
    if b && !f.pmeEnable && f.pmeStatus && f.dstate = .d3hot then tlp (.pmPme i) s else s
  | .memoryEnable b => modFn i (fun f => { f with memEnable := b }) s
  | .tenBitTagEnable b => if i = 0 then { s with host := { s.host with tenBit := b } } else s
  | .l1Substates a b c d =>
    if i = 0 then { s with host := { s.host with aspmL11 := a, aspmL12 := b, pciL11 := c, pciL12 := d } } else s
  | .errorReporting c n => modFn i (fun f => { f with corReport := c, nfReport := n }) s
  | .aerClear => modFn i (fun f => { f with aer := {} }) s
  | .completionTimeoutValue c => if i = 0 then { s with host := { s.host with cplTimeout := c } } else s
  | .completionTimeoutDisable b => if i = 0 then { s with host := { s.host with cplTimeoutOff := b } } else s
  | .ariHierarchy b => if i = 0 then { s with host := { s.host with ari := b } } else s
  | .maxPayload c => if i = 0 then { s with host := { s.host with mps := c } } else s
  | .maxReadRequest c => if i = 0 then { s with host := { s.host with mrrs := c } } else s

def execConfigSpaceWrite (i : Fn) (w : CfgSpaceWrite) (s : State) : Res :=
  when s (cfgFn s i) (cfgSpace i w (wakeLink s))

end Sys2Proof.Machine
end

