-- ==== Sys2Proof/Machine/Dispatch.lean ====
section
/-! DEFINITION. The dispatch of a command to its meaning, one arm per row of the table. -/

namespace Sys2Proof.Machine

open Sys2Proof

/-- The effect of a command on everything but the queue of commands. -/
def exec (i : Instr) (s : State) : Host.Outcome State Fault Refusal :=
  match i with
  | .doorbellWrite d => Sys2Proof.Machine.execDoorbellWrite d s
  | .registerWrite win offset value => Sys2Proof.Machine.execRegisterWrite win offset value s
  | .offBlockAccess win offset dwords write src => Sys2Proof.Machine.execOffBlockAccess win offset dwords write src s
  | .unsupportedRequestRx fn kind => Sys2Proof.Machine.execUnsupportedRequestRx fn kind s
  | .poisonedWriteRx fn => Sys2Proof.Machine.execPoisonedWriteRx fn s
  | .isoMicRead => Sys2Proof.Machine.execIsoMicRead s
  | .indexCellReadReturn q a => Sys2Proof.Machine.execIndexCellReadReturn q a s
  | .entryFetchReturn q first a => Sys2Proof.Machine.execEntryFetchReturn q first a s
  | .completionTimeout r => Sys2Proof.Machine.execCompletionTimeout r s
  | .lateCompletionRx fn => Sys2Proof.Machine.execLateCompletionRx fn s
  | .barrierReadReturn q index err => Sys2Proof.Machine.execBarrierReadReturn q index err s
  | .fetchTurn => Sys2Proof.Machine.execFetchTurn s
  | .fenceSignal q index => Sys2Proof.Machine.execFenceSignal q index s
  | .fenceWaitSatisfied q index => Sys2Proof.Machine.execFenceWaitSatisfied q index s
  | .evqPollTimer q => Sys2Proof.Machine.execEvqPollTimer q s
  | .adminQueueEnable value => Sys2Proof.Machine.execAdminQueueEnable value s
  | .adminQueueDisable value => Sys2Proof.Machine.execAdminQueueDisable value s
  | .moderationTimerExpiry fn v => Sys2Proof.Machine.execModerationTimerExpiry fn v s
  | .pendingMsixRelease fn v => Sys2Proof.Machine.execPendingMsixRelease fn v s
  | .pmeResendTimer fn => Sys2Proof.Machine.execPmeResendTimer fn s
  | .l1IdleTimeout => Sys2Proof.Machine.execL1IdleTimeout s
  | .linkTrained speed width reversed => Sys2Proof.Machine.execLinkTrained speed width reversed s
  | .linkRecovery => Sys2Proof.Machine.execLinkRecovery s
  | .linkReset k => Sys2Proof.Machine.execLinkReset k s
  | .powerStateWrite fn d3hot => Sys2Proof.Machine.execPowerStateWrite fn d3hot s
  | .busMasterEnableWrite fn enable => Sys2Proof.Machine.execBusMasterEnableWrite fn enable s
  | .msixEnableWrite fn enable mask => Sys2Proof.Machine.execMsixEnableWrite fn enable mask s
  | .msixVectorUnmask fn v => Sys2Proof.Machine.execMsixVectorUnmask fn v s
  | .vfEnableWrite enable numVfs => Sys2Proof.Machine.execVfEnableWrite enable numVfs s
  | .vfFunctionLevelReset f => Sys2Proof.Machine.execVfFunctionLevelReset f s
  | .pfFunctionLevelReset => Sys2Proof.Machine.execPfFunctionLevelReset s
  | .instanceResetEnd f us => Sys2Proof.Machine.execInstanceResetEnd f us s
  | .instanceRemovalEnd f => Sys2Proof.Machine.execInstanceRemovalEnd f s
  | .mailboxPaneWrite byManager f m2t offset bytes => Sys2Proof.Machine.execMailboxPaneWrite byManager f m2t offset bytes s
  | .mailboxT2mPost f => Sys2Proof.Machine.execMailboxT2mPost f s
  | .mailboxT2mAck f => Sys2Proof.Machine.execMailboxT2mAck f s
  | .mailboxM2tPost f => Sys2Proof.Machine.execMailboxM2tPost f s
  | .mailboxM2tAck f => Sys2Proof.Machine.execMailboxM2tAck f s
  | .rstDoneClear f => Sys2Proof.Machine.execRstDoneClear f s
  | .schedulerDecision p mem => Sys2Proof.Machine.execSchedulerDecision p mem s
  | .masterIntervalTick => Sys2Proof.Machine.execMasterIntervalTick s
  | .portIntervalTick p => Sys2Proof.Machine.execPortIntervalTick p s
  | .contextFill n a => Sys2Proof.Machine.execContextFill n a s
  | .burstEnd n => Sys2Proof.Machine.execBurstEnd n s
  | .dataPacketReceived n pkt => Sys2Proof.Machine.execDataPacketReceived n pkt s
  | .ackReceived n a => Sys2Proof.Machine.execAckReceived n a s
  | .nrdyReceived n => Sys2Proof.Machine.execNrdyReceived n s
  | .erdyReceived n stream => Sys2Proof.Machine.execErdyReceived n stream s
  | .stallReceived n => Sys2Proof.Machine.execStallReceived n s
  | .nakReceived n => Sys2Proof.Machine.execNakReceived n s
  | .nyetReceived n => Sys2Proof.Machine.execNyetReceived n s
  | .hubErrReceived n => Sys2Proof.Machine.execHubErrReceived n s
  | .responseTimeout n => Sys2Proof.Machine.execResponseTimeout n s
  | .probeResult p h a => Sys2Proof.Machine.execProbeResult p h a s
  | .sweepComplete k => Sys2Proof.Machine.execSweepComplete k s
  | .endOfFrameGuard p babbler => Sys2Proof.Machine.execEndOfFrameGuard p babbler s
  | .splitCloseTimeout n => Sys2Proof.Machine.execSplitCloseTimeout n s
  | .functionWakeNotification p addr => Sys2Proof.Machine.execFunctionWakeNotification p addr s
  | .busIntervalAdjustment p addr value => Sys2Proof.Machine.execBusIntervalAdjustment p addr value s
  | .u1U2RequestRx p u2 => Sys2Proof.Machine.execU1U2RequestRx p u2 s
  | .linkIdleTimeout p u2 => Sys2Proof.Machine.execLinkIdleTimeout p u2 s
  | .lpmIdleTimeout p => Sys2Proof.Machine.execLpmIdleTimeout p s
  | .linkU0Reached p h => Sys2Proof.Machine.execLinkU0Reached p h s
  | .portReset p h value => Sys2Proof.Machine.execPortReset p h value s
  | .warmPortReset p h value => Sys2Proof.Machine.execWarmPortReset p h value s
  | .portDisable p h value => Sys2Proof.Machine.execPortDisable p h value s
  | .portSuspend p h value => Sys2Proof.Machine.execPortSuspend p h value s
  | .portResume p h value => Sys2Proof.Machine.execPortResume p h value s
  | .portPowerWrite p value => Sys2Proof.Machine.execPortPowerWrite p value s
  | .ccLevelChange p cc1 cc2 => Sys2Proof.Machine.execCcLevelChange p cc1 cc2 s
  | .ccDebounceExpiry p => Sys2Proof.Machine.execCcDebounceExpiry p s
  | .ssTrainingComplete p speed loopback => Sys2Proof.Machine.execSsTrainingComplete p speed loopback s
  | .trainingFailed p => Sys2Proof.Machine.execTrainingFailed p s
  | .usb2ConnectDebounce p low => Sys2Proof.Machine.execUsb2ConnectDebounce p low s
  | .disconnectDetected p h => Sys2Proof.Machine.execDisconnectDetected p h s
  | .linkFailure p h => Sys2Proof.Machine.execLinkFailure p h s
  | .portResetComplete p h speed => Sys2Proof.Machine.execPortResetComplete p h speed s
  | .portResetTimeout p h => Sys2Proof.Machine.execPortResetTimeout p h s
  | .suspendComplete p h => Sys2Proof.Machine.execSuspendComplete p h s
  | .resumeComplete p h => Sys2Proof.Machine.execResumeComplete p h s
  | .u3ExitTimeout p => Sys2Proof.Machine.execU3ExitTimeout p s
  | .unitWake p h => Sys2Proof.Machine.execUnitWake p h s
  | .lane1Loss p => Sys2Proof.Machine.execLane1Loss p s
  | .lockAcquired phase => Sys2Proof.Machine.execLockAcquired phase s
  | .acquisitionTimeout => Sys2Proof.Machine.execAcquisitionTimeout s
  | .arefPhaseError => Sys2Proof.Machine.execArefPhaseError s
  | .arefLost => Sys2Proof.Machine.execArefLost s
  | .arefRangeChange dev => Sys2Proof.Machine.execArefRangeChange dev s
  | .holdoverTimeout => Sys2Proof.Machine.execHoldoverTimeout s
  | .sharedPageGrant => Sys2Proof.Machine.execSharedPageGrant s
  | .jobBind n => Sys2Proof.Machine.execJobBind n s
  | .sliceExpiry n => Sys2Proof.Machine.execSliceExpiry n s
  | .pumpReadIssue => Sys2Proof.Machine.execPumpReadIssue s
  | .pumpReadCompletion place read a => Sys2Proof.Machine.execPumpReadCompletion place read a s
  | .pumpWriteIssue mem => Sys2Proof.Machine.execPumpWriteIssue mem s
  | .pumpPauseSet n value => Sys2Proof.Machine.execPumpPauseSet n value s
  | .pumpPauseClear n value => Sys2Proof.Machine.execPumpPauseClear n value s
  | .pumpHaltAck n value => Sys2Proof.Machine.execPumpHaltAck n value s
  | .cellarChannelFail c => Sys2Proof.Machine.execCellarChannelFail c s
  | .cellarScrub c corrected lost => Sys2Proof.Machine.execCellarScrub c corrected lost s
  | .undefinedCommand c => Sys2Proof.Machine.execUndefinedCommand c s
  | .queueCreate c => Sys2Proof.Machine.execQueueCreate c s
  | .queueDelete c => Sys2Proof.Machine.execQueueDelete c s
  | .queueEnable c => Sys2Proof.Machine.execQueueEnable c s
  | .queueDisable c => Sys2Proof.Machine.execQueueDisable c s
  | .unitAddress c => Sys2Proof.Machine.execUnitAddress c s
  | .setAddressRecoveryEnd p h r => Sys2Proof.Machine.execSetAddressRecoveryEnd p h r s
  | .unitRelease c => Sys2Proof.Machine.execUnitRelease c s
  | .unitAssign c => Sys2Proof.Machine.execUnitAssign c s
  | .pipeOpen c => Sys2Proof.Machine.execPipeOpen c s
  | .pipeClose c => Sys2Proof.Machine.execPipeClose c s
  | .pipeStop c => Sys2Proof.Machine.execPipeStop c s
  | .pipeStart c => Sys2Proof.Machine.execPipeStart c s
  | .pipeReset c => Sys2Proof.Machine.execPipeReset c s
  | .pipeQuery c => Sys2Proof.Machine.execPipeQuery c s
  | .originRelease c => Sys2Proof.Machine.execOriginRelease c s
  | .originDrop c => Sys2Proof.Machine.execOriginDrop c s
  | .logRead c => Sys2Proof.Machine.execLogRead c s
  | .pumpAck c => Sys2Proof.Machine.execPumpAck c s
  | .cfgWrite c => Sys2Proof.Machine.execCfgWrite c s
  | .cfgRead c => Sys2Proof.Machine.execCfgRead c s
  | .cfgCopy c => Sys2Proof.Machine.execCfgCopy c s
  | .cfgSwap c => Sys2Proof.Machine.execCfgSwap c s
  | .cfgSwapCommit => Sys2Proof.Machine.execCfgSwapCommit s
  | .portService c r => Sys2Proof.Machine.execPortService c r s
  | .pumpService c pass => Sys2Proof.Machine.execPumpService c pass s
  | .cellarService c r => Sys2Proof.Machine.execCellarService c r s
  | .pmEnter c => Sys2Proof.Machine.execPmEnter c s
  | .chanBind c => Sys2Proof.Machine.execChanBind c s
  | .fwStage c => Sys2Proof.Machine.execFwStage c s
  | .flashChunkProgrammed r => Sys2Proof.Machine.execFlashChunkProgrammed r s
  | .fwActivate c recheck => Sys2Proof.Machine.execFwActivate c recheck s
  | .fwReadyReport us => Sys2Proof.Machine.execFwReadyReport us s
  | .fwReadyTimeout us => Sys2Proof.Machine.execFwReadyTimeout us s
  | .bootRecordWritten => Sys2Proof.Machine.execBootRecordWritten s
  | .fwQuery c => Sys2Proof.Machine.execFwQuery c s
  | .diagEcho c => Sys2Proof.Machine.execDiagEcho c s
  | .diagLoopback c reached => Sys2Proof.Machine.execDiagLoopback c reached s
  | .devportEnable value => Sys2Proof.Machine.execDevportEnable value s
  | .devportDisable value => Sys2Proof.Machine.execDevportDisable value s
  | .devportRemoteWake value => Sys2Proof.Machine.execDevportRemoteWake value s
  | .devVbusPresent speed => Sys2Proof.Machine.execDevVbusPresent speed s
  | .devVbusAbsent stage req => Sys2Proof.Machine.execDevVbusAbsent stage req s
  | .devportBusReset kind stage bRequest => Sys2Proof.Machine.execDevportBusReset kind stage bRequest s
  | .devportSuspend => Sys2Proof.Machine.execDevportSuspend s
  | .devportHostResume host => Sys2Proof.Machine.execDevportHostResume host s
  | .getDescriptor d => Sys2Proof.Machine.execGetDescriptor d s
  | .setAddress a => Sys2Proof.Machine.execSetAddress a s
  | .setConfiguration v => Sys2Proof.Machine.execSetConfiguration v s
  | .setInterface f alt => Sys2Proof.Machine.execSetInterface f alt s
  | .setFeature f => Sys2Proof.Machine.execSetFeature f s
  | .getInfo v n => Sys2Proof.Machine.execGetInfo v n s
  | .getExports v n => Sys2Proof.Machine.execGetExports v n s
  | .getLog v n => Sys2Proof.Machine.execGetLog v n s
  | .notice v n bs => Sys2Proof.Machine.execNotice v n bs s
  | .unknownVendorRequest bmRequestType bRequest => Sys2Proof.Machine.execUnknownVendorRequest bmRequestType bRequest s
  | .tunnelRequest pair stream bytes => Sys2Proof.Machine.execTunnelRequest pair stream bytes s
  | .tunnelCancel pair stream tag => Sys2Proof.Machine.execTunnelCancel pair stream tag s
  | .seatClose c => Sys2Proof.Machine.execSeatClose c s
  | .seatOpen c a b => Sys2Proof.Machine.execSeatOpen c a b s
  | .seatDebounceExpiry c => Sys2Proof.Machine.execSeatDebounceExpiry c s
  | .vbusGoodReached c => Sys2Proof.Machine.execVbusGoodReached c s
  | .rampTimeout c found => Sys2Proof.Machine.execRampTimeout c found s
  | .hardShort c found => Sys2Proof.Machine.execHardShort c found s
  | .thermalModelUpdate c m => Sys2Proof.Machine.execThermalModelUpdate c m s
  | .supplyLow g => Sys2Proof.Machine.execSupplyLow g s
  | .supplyRestored g => Sys2Proof.Machine.execSupplyRestored g s
  | .onLimitTimeout c found => Sys2Proof.Machine.execOnLimitTimeout c found s
  | .coolGateOpen c => Sys2Proof.Machine.execCoolGateOpen c s
  | .channelEnable c value => Sys2Proof.Machine.execChannelEnable c value s
  | .channelDisable c value => Sys2Proof.Machine.execChannelDisable c value s
  | .channelClr c value => Sys2Proof.Machine.execChannelClr c value s
  | .pmRefusersCleared => Sys2Proof.Machine.execPmRefusersCleared s
  | .pmGraceExpiry ms => Sys2Proof.Machine.execPmGraceExpiry ms s
  | .fabClockGate => Sys2Proof.Machine.execFabClockGate s
  | .wakePinAssert o w => Sys2Proof.Machine.execWakePinAssert o w s
  | .wakeTimerExpiry w => Sys2Proof.Machine.execWakeTimerExpiry w s
  | .wakeSourceFired bit w => Sys2Proof.Machine.execWakeSourceFired bit w s
  | .wakeStepTimeout bit step => Sys2Proof.Machine.execWakeStepTimeout bit step s
  | .powerOn o => Sys2Proof.Machine.execPowerOn o s
  | .powerFail => Sys2Proof.Machine.execPowerFail s
  | .powerFailRestart o die => Sys2Proof.Machine.execPowerFailRestart o die s
  | .xtal32kReady => Sys2Proof.Machine.execXtal32kReady s
  | .xtal32kTimeout => Sys2Proof.Machine.execXtal32kTimeout s
  | .slotBackgroundCheck c => Sys2Proof.Machine.execSlotBackgroundCheck c s
  | .dieOvertempTrip => Sys2Proof.Machine.execDieOvertempTrip s
  | .ident pec => Sys2Proof.Machine.execIdent pec s
  | .status pec => Sys2Proof.Machine.execStatus pec s
  | .capacity pec => Sys2Proof.Machine.execCapacity pec s
  | .thermal now pec => Sys2Proof.Machine.execThermal now pec s
  | .channels pec => Sys2Proof.Machine.execChannels pec s
  | .faults pec => Sys2Proof.Machine.execFaults pec s
  | .smbusUnsupported code read pec => Sys2Proof.Machine.execSmbusUnsupported code read pec s
  | .smbusClockTimeout => Sys2Proof.Machine.execSmbusClockTimeout s
  | .uartRxCharacter c => Sys2Proof.Machine.execUartRxCharacter c s
  | .bypass code => Sys2Proof.Machine.execBypass code s
  | .idcode => Sys2Proof.Machine.execIdcode s
  | .samplePreload chain => Sys2Proof.Machine.execSamplePreload chain s
  | .extest => Sys2Proof.Machine.execExtest s
  | .clamp => Sys2Proof.Machine.execClamp s
  | .highz => Sys2Proof.Machine.execHighz s
  | .instanceResetCommand c => Sys2Proof.Machine.execInstanceResetCommand c s
  | .perstDeassert => Sys2Proof.Machine.execPerstDeassert s
  | .configSpaceWrite fn w => Sys2Proof.Machine.execConfigSpaceWrite fn w s
  | .vaonLoss => Sys2Proof.Machine.execVaonLoss s
  | .arefReturn dev => Sys2Proof.Machine.execArefReturn dev s
  | .cellarTrainingLoss c => Sys2Proof.Machine.execCellarTrainingLoss c s
  | .pollingTimeout p => Sys2Proof.Machine.execPollingTimeout p s
  | .devportLpmRequest k => Sys2Proof.Machine.execDevportLpmRequest k s
  | .tunnelInSelection pair stream => Sys2Proof.Machine.execTunnelInSelection pair stream s
  | .stageChunkReadReturn first a => Sys2Proof.Machine.execStageChunkReadReturn first a s
  | .loopbackDurationEnd errors => Sys2Proof.Machine.execLoopbackDurationEnd errors s

end Sys2Proof.Machine
end

