-- ==== Sys2Proof/Machine/Step.lean ====
section
/-! DEFINITION. One step: the command at the front of the queue, or a tick of the bus-interval timer's position. -/

namespace Sys2Proof.Machine

/-- An empty queue (DESIGN CHOICE, log 7): one 122.88 MHz tick passes, and the bus-interval timer's position moves on
when the timer runs; the boundary itself is the row MASTER_INTERVAL_TICK (R219). -/
def idle (s : State) : State :=
  if s.iso.running then { s with iso := { s.iso with pos := min (s.iso.pos + 1) 15359 } } else s

/-- One step: take the command at the front and run its meaning on the state with the queue's rest. -/
def step (s : State) : Host.Outcome State Fault Refusal :=
  match s.pending with
  | [] => .next (idle s)
  | c :: rest => exec c { s with pending := rest }

/-- The state with the command that a table word spells put at the front of its queue; the table gives its rows no
bits, so no word spells a command and the state is unchanged. DESIGN CHOICE (log 4); DEDUCED (log 10). -/
def State.withFetchWord (s : State) (nbits w : Nat) : State :=
  match decodeTableWord nbits w with
  | some c => { s with pending := c :: s.pending }
  | none => s

end Sys2Proof.Machine
end

