-- ==== Sys2Proof/Safety.lean ====
section
/-! DEFINITION. What the statements speak of: the parts of the block and which of them a command may change, what every
step keeps, and what a command leaves in the host's memory. -/

namespace Sys2Proof.Machine

open Sys2Proof

/-- The parts of the state that a frame names. -/
inductive Part where
  /-- The registers and controls of the host link (file 02): HI_LINK, HI_L1CTL, MPS, MRRS, VF Enable, NumVFs. -/
  | link
  /-- The link's L1 state. -/
  | l1
  /-- HI_HERR (R60). -/
  | herr
  /-- Outstanding reads; functions with a late one. -/
  | reads | late
  /-- LTR and PE_WAKE_N as last sent. -/
  | msg
  /-- Configuration bits of the functions; their AER bits; PME_Status, MSI-X tables, pending bits and cause counts. -/
  | fnCfg | fnErr | fnMsg
  /-- Queues; QE_DBDROP; fence counters (file 03). -/
  | queues | dbdrop | fences
  /-- Pipes and the scheduler (file 05). -/
  | sched
  /-- Root ports (file 06): registers of the halves; units and addresses; engines; of them, the pipes that hold a burst
  descriptor and the error counters; the rest of the port. -/
  | halves | units | engines | bursts | portReg
  /-- The timebase (file 08): master number; lock; ports' numbers. -/
  | clock | lock | portTime
  /-- Cistern and pumps (file 09). -/
  | cistern
  /-- The sump (file 10): origins and walks; its flags; FLT_ACC; memory errors; the fault log. -/
  | origins | sumpFlags | acc | memErr | log
  /-- Configuration sets. -/
  | sets
  /-- Instances (file 11): state and running reset; mailboxes; RST_DONE and the reset record. -/
  | instState | mailbox | resetRec
  /-- GLB_SCRATCH; CAP_CHG; the cellar. -/
  | scratch | capFlag | cellar
  /-- The command processor. -/
  | cmd
  /-- Firmware's slots and staging; what an activation pause holds back. -/
  | fwSlots | fwHeld
  | boot
  /-- The device port: registers; DEV_WSRC; tunnel. -/
  | devReg | devWake | tunnel
  | chans
  /-- Power management: registers; clock gate; events held in SLEEP; cool-down records; what AON and the store rooms
  keep. -/
  | pmReg | gate | heldEv | cool | store
  | mgmt
  /-- The count of free values taken (log 5). -/
  | freeCount
  /-- What has left the block. -/
  | out
deriving DecidableEq, Repr

/-- The pipes of an engine's burst descriptors, and its error counters. -/
def Engine.bursts (e : Engine) : List Nat × BitVec 16 × BitVec 8 := (e.descs.map (fun d => d.pipe), e.retries, e.xerrs)

/-- A part is the same in two states. -/
def Part.Same (s t : State) : Part → Prop
  | .link => (t.host.speed, t.host.width, t.host.reversed, t.host.tenBit, t.host.mps, t.host.mrrs, t.host.l1Entries,
      t.host.idleUs, t.host.holdIso, t.host.linkUp, t.host.aspmL11, t.host.aspmL12, t.host.pciL11, t.host.pciL12,
      t.host.cplTimeoutOff, t.host.cplTimeout, t.host.ari, t.host.vfEnable, t.host.numVfs) =
      (s.host.speed, s.host.width, s.host.reversed, s.host.tenBit, s.host.mps, s.host.mrrs, s.host.l1Entries,
      s.host.idleUs, s.host.holdIso, s.host.linkUp, s.host.aspmL11, s.host.aspmL12, s.host.pciL11, s.host.pciL12,
      s.host.cplTimeoutOff, s.host.cplTimeout, s.host.ari, s.host.vfEnable, s.host.numVfs)
  | .l1 => t.host.l1 = s.host.l1
  | .herr => (t.host.herrAddr, t.host.herrInst, t.host.herrValid, t.host.herrKind, t.host.herrSource, t.host.herrEdges) =
      (s.host.herrAddr, s.host.herrInst, s.host.herrValid, s.host.herrKind, s.host.herrSource, s.host.herrEdges)
  | .reads => t.host.reads = s.host.reads
  | .late => t.host.timedOut = s.host.timedOut
  | .msg => (t.host.ltrNeed, t.host.peWake) = (s.host.ltrNeed, s.host.peWake)
  | .fnCfg => ∀ i, ((fn t i).memEnable, (fn t i).busMaster, (fn t i).dstate, (fn t i).msixEnable, (fn t i).funcMask,
      (fn t i).pmeEnable, (fn t i).corReport, (fn t i).nfReport) =
      ((fn s i).memEnable, (fn s i).busMaster, (fn s i).dstate, (fn s i).msixEnable, (fn s i).funcMask,
        (fn s i).pmeEnable, (fn s i).corReport, (fn s i).nfReport)
  | .fnErr => ∀ i, (fn t i).aer = (fn s i).aer
  | .fnMsg => ∀ i, ((fn t i).pmeStatus, (fn t i).vecs) = ((fn s i).pmeStatus, (fn s i).vecs)
  | .queues => t.qe.queues = s.qe.queues
  | .dbdrop => t.qe.dbdrop = s.qe.dbdrop
  | .fences => t.qe.fences = s.qe.fences
  | .sched => t.sched = s.sched
  | .halves => ∀ p, ((port t p).h0, (port t p).h1) = ((port s p).h0, (port s p).h1)
  | .units => ∀ p, ((port t p).units, (port t p).reserved) = ((port s p).units, (port s p).reserved)
  | .engines => ∀ p, ((port t p).e0, (port t p).e1) = ((port s p).e0, (port s p).e1)
  | .bursts => ∀ p, ((port t p).e0.bursts, (port t p).e1.bursts) = ((port s p).e0.bursts, (port s p).e1.bursts)
  | .portReg => ∀ p, { port t p with h0 := {}, h1 := {}, units := [], reserved := [], e0 := {}, e1 := {} } =
      { port s p with h0 := {}, h1 := {}, units := [], reserved := [], e0 := {}, e1 := {} }
  | .clock => (t.iso.running, t.iso.mic, t.iso.pos, t.iso.snap) = (s.iso.running, s.iso.mic, s.iso.pos, s.iso.snap)
  | .lock => { t.iso with running := false, mic := 0, pos := 0, snap := 0, ports := [] } =
      { s.iso with running := false, mic := 0, pos := 0, snap := 0, ports := [] }
  | .portTime => t.iso.ports = s.iso.ports
  | .cistern => t.cis = s.cis
  | .origins => (t.sump.origins, t.sump.walks, t.sump.intake) = (s.sump.origins, s.sump.walks, s.sump.intake)
  | .sumpFlags => (t.sump.overflow, t.sump.memUe, t.sump.ovfE, t.sump.ueE) =
      (s.sump.overflow, s.sump.memUe, s.sump.ovfE, s.sump.ueE)
  | .acc => (t.sump.accAddr, t.sump.accBlock, t.sump.accInst, t.sump.accWrite, t.sump.accSource, t.sump.accValid,
      t.sump.accCount) = (s.sump.accAddr, s.sump.accBlock, s.sump.accInst, s.sump.accWrite, s.sump.accSource,
      s.sump.accValid, s.sump.accCount)
  | .memErr => (t.sump.ceThresh, t.sump.ueMax, t.sump.cisCe, t.sump.cisUe, t.sump.chipCe, t.sump.chipUe, t.sump.cel0Ce,
      t.sump.cel0Ue, t.sump.cel1Ce, t.sump.cel1Ue, t.sump.cisRet, t.sump.ceTimes) = (s.sump.ceThresh, s.sump.ueMax,
      s.sump.cisCe, s.sump.cisUe, s.sump.chipCe, s.sump.chipUe, s.sump.cel0Ce, s.sump.cel0Ue, s.sump.cel1Ce,
      s.sump.cel1Ue, s.sump.cisRet, s.sump.ceTimes)
  | .log => (t.sump.logSeq, t.sump.logCap, t.sump.log) = (s.sump.logSeq, s.sump.logCap, s.sump.log)
  | .sets => t.cfg = s.cfg
  | .instState => ∀ i, ((inst t i).st, (inst t i).runCause, (inst t i).merged, (inst t i).rstCmds,
      (inst t i).entsRemoved, (inst t i).remove, (inst t i).removing) = ((inst s i).st, (inst s i).runCause,
      (inst s i).merged, (inst s i).rstCmds, (inst s i).entsRemoved, (inst s i).remove, (inst s i).removing)
  | .mailbox => ∀ i, ((inst t i).t2m, (inst t i).m2t, (inst t i).t2mE, (inst t i).m2tE, (inst t i).drops,
      (inst t i).paneT2m, (inst t i).paneM2t) = ((inst s i).t2m, (inst s i).m2t, (inst s i).t2mE, (inst s i).m2tE,
      (inst s i).drops, (inst s i).paneT2m, (inst s i).paneM2t)
  | .resetRec => ∀ i, ((inst t i).rstDone, (inst t i).rstE, (inst t i).resets, (inst t i).cause, (inst t i).lastUs) =
      ((inst s i).rstDone, (inst s i).rstE, (inst s i).resets, (inst s i).cause, (inst s i).lastUs)
  | .scratch => t.glb.scratch = s.glb.scratch
  | .capFlag => (t.glb.capChg, t.glb.capE) = (s.glb.capChg, s.glb.capE)
  | .cellar => (t.glb.c0, t.glb.c1, t.glb.sizeGib, t.glb.celRate) = (s.glb.c0, s.glb.c1, s.glb.sizeGib, s.glb.celRate)
  | .cmd => t.cmd = s.cmd
  | .fwSlots => { t.fw with logHeld := [], logAbsent := 0, devHeld := [] } =
      { s.fw with logHeld := [], logAbsent := 0, devHeld := [] }
  | .fwHeld => (t.fw.logHeld, t.fw.logAbsent, t.fw.devHeld) = (s.fw.logHeld, s.fw.logAbsent, s.fw.devHeld)
  | .boot => t.boot = s.boot
  | .devReg => { t.dev with tq := {}, reqs := [], flowing := [], inNrdy := [], outNrdy := [], waking := false } =
      { s.dev with tq := {}, reqs := [], flowing := [], inNrdy := [], outNrdy := [], waking := false }
  | .devWake => t.dev.waking = s.dev.waking
  | .tunnel => (t.dev.tq, t.dev.reqs, t.dev.flowing, t.dev.inNrdy, t.dev.outNrdy) =
      (s.dev.tq, s.dev.reqs, s.dev.flowing, s.dev.inNrdy, s.dev.outNrdy)
  | .chans => t.chans = s.chans
  | .pmReg => { t.pm with gated := false, held := [], cool := [], scr := [], rooms := [], room0 := none, room1 := none,
                          kept := 0, srKept := false, keptLog := none, mic := none } =
      { s.pm with gated := false, held := [], cool := [], scr := [], rooms := [], room0 := none, room1 := none,
                  kept := 0, srKept := false, keptLog := none, mic := none }
  | .gate => t.pm.gated = s.pm.gated
  | .heldEv => t.pm.held = s.pm.held
  | .cool => t.pm.cool = s.pm.cool
  | .store => (t.pm.scr, t.pm.rooms, t.pm.room0, t.pm.room1, t.pm.kept, t.pm.srKept, t.pm.keptLog, t.pm.mic) =
      (s.pm.scr, s.pm.rooms, s.pm.room0, s.pm.room1, s.pm.kept, s.pm.srKept, s.pm.keptLog, s.pm.mic)
  | .mgmt => t.mgmt = s.mgmt
  | .freeCount => t.free = s.free
  | .out => t.out = s.out

/-- Only the listed parts may have changed. -/
def Touches (ps : List Part) (s t : State) : Prop := ∀ p, p ∉ ps → p.Same s t

/-- The parts of the block that a command can change; every other part is as before. -/
def mayChange : Instr → List Part
  | .linkRecovery =>
    []
  | .ccLevelChange _ _ _ =>
    [.portReg]
  | .masterIntervalTick =>
    [.clock]
  | .cellarTrainingLoss _ =>
    [.cellar]
  | .xtal32kReady | .xtal32kTimeout =>
    [.boot]
  | .smbusClockTimeout =>
    [.out]
  | .unsupportedRequestRx _ _ =>
    [.l1, .out]
  | .u1U2RequestRx _ _ | .linkIdleTimeout _ _ | .lpmIdleTimeout _ | .linkU0Reached _ _ =>
    [.halves, .out]
  | .slotBackgroundCheck _ =>
    [.fwSlots, .boot]
  | .devportLpmRequest _ =>
    [.devReg, .out]
  | .fabClockGate =>
    [.pmReg, .gate]
  | .wakeStepTimeout _ _ =>
    [.pmReg, .out]
  | .bypass _ | .idcode | .extest | .clamp | .highz =>
    [.mgmt, .out]
  | .l1IdleTimeout =>
    [.link, .l1, .out]
  | .pmeResendTimer _ =>
    [.l1, .gate, .out]
  | .getDescriptor _ | .setAddress _ | .setFeature _ | .getInfo _ _ | .getExports _ _ | .getLog _ _
  | .unknownVendorRequest _ _ =>
    [.devReg, .gate, .out]
  | .samplePreload _ =>
    [.mgmt, .freeCount, .out]
  | .isoMicRead =>
    [.l1, .clock, .gate, .out]
  | .mailboxPaneWrite _ _ _ _ _ | .mailboxT2mAck _ | .mailboxM2tAck _ =>
    [.l1, .mailbox, .gate, .out]
  | .rstDoneClear _ =>
    [.l1, .resetRec, .gate, .out]
  | .evqPollTimer _ =>
    [.l1, .reads, .gate, .out]
  | .pendingMsixRelease _ _ | .msixVectorUnmask _ _ =>
    [.l1, .fnMsg, .gate, .out]
  | .poisonedWriteRx _ =>
    [.l1, .fnErr, .gate, .freeCount, .out]
  | .moderationTimerExpiry _ _ =>
    [.l1, .msg, .fnMsg, .gate, .out]
  | .sharedPageGrant =>
    [.sched, .cistern, .devWake, .tunnel, .out]
  | .lateCompletionRx _ =>
    [.l1, .late, .fnErr, .gate, .freeCount, .out]
  | .mailboxT2mPost _ | .mailboxM2tPost _ =>
    [.l1, .msg, .fnMsg, .mailbox, .gate, .out]
  | .configSpaceWrite _ _ =>
    [.link, .l1, .fnCfg, .fnErr, .fnMsg, .gate, .out]
  | .doorbellWrite _ =>
    [.l1, .reads, .queues, .dbdrop, .tunnel, .gate, .out]
  | .pumpReadIssue =>
    [.l1, .reads, .queues, .cistern, .tunnel, .gate, .out]
  | .fetchTurn =>
    [.l1, .reads, .queues, .tunnel, .gate, .freeCount, .out]
  | .functionWakeNotification _ _ | .trainingFailed _ | .pollingTimeout _ =>
    [.l1, .msg, .fnMsg, .queues, .halves, .tunnel, .gate, .heldEv, .out]
  | .lockAcquired _ | .acquisitionTimeout | .arefPhaseError | .arefLost | .arefRangeChange _ | .holdoverTimeout
  | .arefReturn _ =>
    [.l1, .msg, .fnMsg, .queues, .lock, .tunnel, .gate, .heldEv, .out]
  | .busIntervalAdjustment _ _ _ =>
    [.l1, .msg, .fnMsg, .queues, .portTime, .tunnel, .gate, .heldEv, .out]
  | .bootRecordWritten =>
    [.l1, .msg, .fnMsg, .queues, .fwSlots, .tunnel, .gate, .heldEv, .out]
  | .devVbusPresent _ =>
    [.l1, .msg, .fnMsg, .queues, .devReg, .tunnel, .gate, .heldEv, .out]
  | .linkTrained _ _ _ =>
    [.link, .l1, .msg, .fnMsg, .queues, .tunnel, .gate, .heldEv, .freeCount, .out]
  | .fenceSignal _ _ =>
    [.l1, .msg, .fnMsg, .queues, .fences, .devWake, .tunnel, .gate, .heldEv, .out]
  | .undefinedCommand _ | .queueCreate _ | .queueDelete _ | .logRead _ | .cfgRead _ | .cfgSwap _ | .fwQuery _
  | .diagEcho _ =>
    [.l1, .msg, .fnMsg, .queues, .cmd, .devWake, .tunnel, .gate, .heldEv, .out]
  | .devportSuspend | .devportHostResume _ =>
    [.l1, .msg, .fnMsg, .queues, .devReg, .devWake, .tunnel, .gate, .heldEv, .out]
  | .queueEnable _ =>
    [.l1, .reads, .msg, .fnMsg, .queues, .cmd, .devWake, .tunnel, .gate, .heldEv, .out]
  | .pipeOpen _ =>
    [.l1, .msg, .fnMsg, .queues, .sched, .cmd, .devWake, .tunnel, .gate, .heldEv, .out]
  | .setAddressRecoveryEnd _ _ _ =>
    [.l1, .msg, .fnMsg, .queues, .units, .engines, .devWake, .tunnel, .gate, .heldEv, .out]
  | .unitAssign _ =>
    [.l1, .msg, .fnMsg, .queues, .units, .cmd, .devWake, .tunnel, .gate, .heldEv, .out]
  | .sliceExpiry _ =>
    [.l1, .msg, .fnMsg, .queues, .cistern, .capFlag, .devWake, .tunnel, .gate, .heldEv, .out]
  | .cfgWrite _ | .cfgCopy _ =>
    [.l1, .msg, .fnMsg, .queues, .sets, .cmd, .devWake, .tunnel, .gate, .heldEv, .out]
  | .fwActivate _ _ =>
    [.l1, .msg, .fnMsg, .queues, .cmd, .fwSlots, .devWake, .tunnel, .gate, .heldEv, .out]
  | .pmEnter _ =>
    [.l1, .msg, .fnMsg, .queues, .cmd, .devWake, .tunnel, .pmReg, .gate, .heldEv, .out]
  | .pipeQuery _ =>
    [.l1, .msg, .fnMsg, .queues, .cmd, .devWake, .tunnel, .gate, .heldEv, .freeCount, .out]
  | .flashChunkProgrammed _ =>
    [.l1, .msg, .fnMsg, .queues, .fwSlots, .devWake, .tunnel, .gate, .heldEv, .freeCount, .out]
  | .offBlockAccess _ _ _ _ _ =>
    [.l1, .msg, .fnMsg, .queues, .clock, .acc, .log, .fwHeld, .tunnel, .gate, .heldEv, .out]
  | .adminQueueEnable _ =>
    [.l1, .reads, .msg, .fnMsg, .queues, .acc, .log, .fwHeld, .tunnel, .gate, .heldEv, .out]
  | .pipeStart _ | .pipeReset _ =>
    [.l1, .msg, .fnMsg, .queues, .sched, .cistern, .cmd, .devWake, .tunnel, .gate, .heldEv, .out]
  | .unitAddress _ =>
    [.l1, .msg, .fnMsg, .queues, .units, .engines, .cmd, .devWake, .tunnel, .gate, .heldEv, .out]
  | .unitRelease _ =>
    [.l1, .msg, .fnMsg, .queues, .units, .portTime, .cmd, .devWake, .tunnel, .gate, .heldEv, .out]
  | .notice _ _ _ =>
    [.l1, .msg, .fnMsg, .queues, .log, .fwHeld, .devReg, .tunnel, .gate, .heldEv, .freeCount, .out]
  | .pumpService _ _ =>
    [.l1, .msg, .fnMsg, .queues, .sched, .cistern, .capFlag, .cmd, .devWake, .tunnel, .gate, .heldEv, .out]
  | .erdyReceived _ _ =>
    [.l1, .msg, .fnMsg, .queues, .sched, .halves, .cistern, .devWake, .tunnel, .gate, .heldEv, .freeCount, .out]
  | .jobBind _ =>
    [.l1, .msg, .fnMsg, .queues, .sched, .cistern, .log, .capFlag, .fwHeld, .devWake, .tunnel, .gate, .heldEv, .out]
  | .indexCellReadReturn _ _ =>
    [.l1, .herr, .reads, .msg, .fnErr, .fnMsg, .queues, .log, .fwHeld, .tunnel, .gate, .heldEv, .freeCount, .out]
  | .fwStage _ =>
    [.l1, .reads, .msg, .fnMsg, .queues, .cmd, .fwSlots, .boot, .devWake, .tunnel, .gate, .heldEv, .freeCount, .out]
  | .stageChunkReadReturn _ _ =>
    [.l1, .herr, .reads, .msg, .fnErr, .fnMsg, .queues, .log, .fwSlots, .fwHeld, .devWake, .tunnel, .gate, .heldEv,
     .freeCount, .out]
  | .splitCloseTimeout _ | .burstEnd _ | .nrdyReceived _ =>
    [.l1, .reads, .msg, .fnMsg, .queues, .sched, .halves, .engines, .bursts, .portReg, .cistern, .capFlag, .devWake,
     .tunnel, .gate, .heldEv, .out]
  | .fenceWaitSatisfied _ _ =>
    [.l1, .reads, .msg, .fnMsg, .queues, .sched, .halves, .engines, .portReg, .cistern, .capFlag, .devWake, .tunnel,
     .gate, .heldEv, .freeCount, .out]
  | .tunnelInSelection _ _ =>
    [.l1, .reads, .msg, .fnMsg, .queues, .sched, .halves, .engines, .portReg, .cistern, .capFlag, .devReg, .devWake,
     .tunnel, .gate, .heldEv, .out]
  | .portIntervalTick _ =>
    [.l1, .reads, .msg, .fnMsg, .queues, .sched, .halves, .engines, .portReg, .portTime, .cistern, .capFlag,
     .devReg, .devWake, .tunnel, .gate, .heldEv, .out]
  | .setConfiguration _ | .setInterface _ _ | .tunnelCancel _ _ _ =>
    [.l1, .reads, .msg, .fnMsg, .queues, .sched, .halves, .engines, .bursts, .portReg, .cistern, .capFlag, .devReg,
     .devWake, .tunnel, .gate, .heldEv, .out]
  | .pipeStop _ | .queueDisable _ | .pumpAck _ =>
    [.l1, .reads, .msg, .fnMsg, .queues, .sched, .halves, .engines, .bursts, .portReg, .cistern, .capFlag, .cmd,
     .devWake, .tunnel, .gate, .heldEv, .out]
  | .pumpReadCompletion _ _ _ =>
    [.l1, .herr, .reads, .msg, .fnErr, .fnMsg, .queues, .sched, .cistern, .log, .capFlag, .fwHeld, .devWake,
     .tunnel, .gate, .heldEv, .freeCount, .out]
  | .instanceRemovalEnd _ =>
    [.l1, .msg, .fnCfg, .fnErr, .fnMsg, .queues, .sched, .halves, .units, .engines, .portReg, .instState, .resetRec,
     .capFlag, .devWake, .tunnel, .gate, .heldEv, .out]
  | .busMasterEnableWrite _ _ | .msixEnableWrite _ _ _ =>
    [.l1, .reads, .msg, .fnCfg, .fnMsg, .queues, .sched, .halves, .engines, .bursts, .portReg, .cistern, .instState,
     .capFlag, .devWake, .tunnel, .gate, .heldEv, .out]
  | .tunnelRequest _ _ _ =>
    [.l1, .reads, .msg, .fnMsg, .queues, .sched, .halves, .engines, .bursts, .portReg, .cistern, .capFlag, .devReg,
     .devWake, .tunnel, .gate, .heldEv, .freeCount, .out]
  | .devVbusAbsent _ _ | .devportBusReset _ _ _ =>
    [.l1, .reads, .msg, .fnMsg, .queues, .sched, .halves, .engines, .bursts, .portReg, .cistern, .capFlag, .fwHeld,
     .devReg, .devWake, .tunnel, .gate, .heldEv, .out]
  | .sweepComplete _ =>
    [.l1, .reads, .msg, .fnMsg, .queues, .sched, .halves, .engines, .portReg, .cistern, .origins, .log, .capFlag,
     .fwHeld, .devWake, .tunnel, .gate, .heldEv, .out]
  | .originRelease _ | .originDrop _ =>
    [.l1, .reads, .msg, .fnMsg, .queues, .sched, .halves, .engines, .portReg, .cistern, .origins, .log, .capFlag,
     .cmd, .fwHeld, .devWake, .tunnel, .gate, .heldEv, .out]
  | .stallReceived _ | .dataPacketReceived _ _ | .ackReceived _ _ | .nakReceived _ | .nyetReceived _
  | .hubErrReceived _ | .responseTimeout _ | .lane1Loss _ =>
    [.l1, .reads, .msg, .fnMsg, .queues, .sched, .halves, .engines, .bursts, .portReg, .cistern, .origins, .log,
     .capFlag, .fwHeld, .devWake, .tunnel, .gate, .heldEv, .out]
  | .powerStateWrite _ _ =>
    [.link, .l1, .reads, .msg, .fnCfg, .fnMsg, .queues, .sched, .halves, .engines, .bursts, .portReg, .cistern,
     .instState, .capFlag, .devWake, .tunnel, .gate, .heldEv, .out]
  | .adminQueueDisable _ | .pumpPauseSet _ _ | .pumpPauseClear _ _ | .pumpHaltAck _ _ =>
    [.l1, .reads, .msg, .fnMsg, .queues, .sched, .halves, .engines, .bursts, .portReg, .cistern, .acc, .log,
     .capFlag, .fwHeld, .devWake, .tunnel, .gate, .heldEv, .out]
  | .probeResult _ _ _ =>
    [.l1, .reads, .msg, .fnMsg, .queues, .sched, .halves, .engines, .portReg, .cistern, .origins, .sumpFlags, .log,
     .capFlag, .fwHeld, .devWake, .tunnel, .gate, .heldEv, .out]
  | .barrierReadReturn _ _ _ | .entryFetchReturn _ _ _ =>
    [.l1, .herr, .reads, .msg, .fnErr, .fnMsg, .queues, .sched, .halves, .engines, .portReg, .cistern, .log,
     .capFlag, .fwHeld, .devWake, .tunnel, .gate, .heldEv, .freeCount, .out]
  | .perstDeassert =>
    [.l1, .reads, .msg, .fnCfg, .fnMsg, .queues, .sched, .halves, .engines, .bursts, .portReg, .cistern, .instState,
     .capFlag, .boot, .devWake, .tunnel, .pmReg, .gate, .heldEv, .out]
  | .pipeClose _ =>
    [.l1, .reads, .msg, .fnMsg, .queues, .sched, .halves, .engines, .bursts, .portReg, .cistern, .origins, .log,
     .capFlag, .cmd, .fwHeld, .devWake, .tunnel, .gate, .heldEv, .out]
  | .instanceResetEnd _ _ =>
    [.l1, .reads, .msg, .fnMsg, .queues, .fences, .sched, .halves, .engines, .bursts, .portReg, .cistern,
     .instState, .mailbox, .resetRec, .capFlag, .devWake, .tunnel, .gate, .heldEv, .out]
  | .pumpWriteIssue _ =>
    [.l1, .reads, .msg, .fnMsg, .queues, .sched, .halves, .engines, .bursts, .portReg, .cistern, .sumpFlags,
     .memErr, .log, .capFlag, .fwHeld, .devWake, .tunnel, .gate, .heldEv, .out]
  | .loopbackDurationEnd _ =>
    [.l1, .reads, .msg, .fnMsg, .queues, .sched, .halves, .units, .engines, .bursts, .portReg, .portTime, .cistern,
     .capFlag, .fwHeld, .devReg, .devWake, .tunnel, .gate, .heldEv, .out]
  | .vfFunctionLevelReset _ =>
    [.l1, .reads, .msg, .fnCfg, .fnMsg, .queues, .sched, .halves, .engines, .bursts, .cistern, .origins, .log,
     .instState, .capFlag, .fwHeld, .devWake, .tunnel, .gate, .heldEv, .out]
  | .instanceResetCommand _ =>
    [.l1, .reads, .msg, .fnMsg, .queues, .sched, .halves, .engines, .bursts, .cistern, .origins, .log, .instState,
     .capFlag, .cmd, .fwHeld, .devWake, .tunnel, .gate, .heldEv, .out]
  | .linkReset _ =>
    [.link, .l1, .reads, .msg, .fnCfg, .fnMsg, .queues, .sched, .halves, .engines, .bursts, .portReg, .cistern,
     .instState, .capFlag, .fwSlots, .boot, .devWake, .tunnel, .gate, .heldEv, .out]
  | .devportEnable _ | .devportDisable _ | .devportRemoteWake _ =>
    [.l1, .reads, .msg, .fnMsg, .queues, .sched, .halves, .engines, .bursts, .portReg, .cistern, .acc, .log,
     .capFlag, .fwHeld, .devReg, .devWake, .tunnel, .gate, .heldEv, .freeCount, .out]
  | .cellarChannelFail _ =>
    [.l1, .reads, .msg, .fnMsg, .queues, .sched, .halves, .engines, .bursts, .portReg, .cistern, .origins, .log,
     .capFlag, .cellar, .fwHeld, .devWake, .tunnel, .gate, .heldEv, .freeCount, .out]
  | .endOfFrameGuard _ _ | .ssTrainingComplete _ _ _ | .usb2ConnectDebounce _ _ | .disconnectDetected _ _
  | .linkFailure _ _ | .portResetComplete _ _ _ | .portResetTimeout _ _ | .suspendComplete _ _
  | .resumeComplete _ _ | .u3ExitTimeout _ | .unitWake _ _ =>
    [.l1, .reads, .msg, .fnMsg, .queues, .sched, .halves, .units, .engines, .bursts, .portReg, .portTime, .cistern,
     .origins, .log, .capFlag, .fwHeld, .devWake, .tunnel, .gate, .heldEv, .out]
  | .vfEnableWrite _ _ =>
    [.link, .l1, .reads, .msg, .fnCfg, .fnMsg, .queues, .sched, .halves, .engines, .bursts, .cistern, .origins,
     .log, .instState, .capFlag, .fwHeld, .devWake, .tunnel, .gate, .heldEv, .out]
  | .cellarService _ _ =>
    [.l1, .reads, .msg, .fnMsg, .queues, .sched, .halves, .engines, .bursts, .portReg, .cistern, .origins, .log,
     .capFlag, .cellar, .cmd, .fwHeld, .devWake, .tunnel, .gate, .heldEv, .freeCount, .out]
  | .completionTimeout _ =>
    [.l1, .herr, .reads, .late, .msg, .fnErr, .fnMsg, .queues, .sched, .halves, .engines, .portReg, .cistern, .log,
     .capFlag, .fwSlots, .fwHeld, .devWake, .tunnel, .gate, .heldEv, .freeCount, .out]
  | .portReset _ _ _ | .warmPortReset _ _ _ | .portDisable _ _ _ | .portSuspend _ _ _ | .portResume _ _ _ =>
    [.l1, .reads, .msg, .fnMsg, .queues, .sched, .halves, .units, .engines, .bursts, .portReg, .portTime, .cistern,
     .origins, .acc, .log, .capFlag, .fwHeld, .devWake, .tunnel, .gate, .heldEv, .out]
  | .ccDebounceExpiry _ | .seatClose _ | .seatOpen _ _ _ | .seatDebounceExpiry _ | .vbusGoodReached _
  | .rampTimeout _ _ | .hardShort _ _ | .supplyLow _ | .supplyRestored _ | .onLimitTimeout _ _ =>
    [.l1, .reads, .msg, .fnMsg, .queues, .sched, .halves, .units, .engines, .bursts, .portReg, .portTime, .cistern,
     .origins, .log, .capFlag, .fwHeld, .devWake, .tunnel, .chans, .gate, .heldEv, .out]
  | .schedulerDecision _ _ | .cellarScrub _ _ _ | .contextFill _ _ =>
    [.l1, .reads, .msg, .fnMsg, .queues, .sched, .halves, .engines, .bursts, .portReg, .cistern, .origins,
     .sumpFlags, .memErr, .log, .capFlag, .cellar, .fwHeld, .devWake, .tunnel, .gate, .heldEv, .freeCount, .out]
  | .portService _ _ | .chanBind _ =>
    [.l1, .reads, .msg, .fnMsg, .queues, .sched, .halves, .units, .engines, .bursts, .portReg, .portTime, .cistern,
     .origins, .log, .capFlag, .cmd, .fwHeld, .devWake, .tunnel, .chans, .gate, .heldEv, .out]
  | .coolGateOpen _ =>
    [.l1, .reads, .msg, .fnMsg, .queues, .sched, .halves, .units, .engines, .bursts, .portReg, .portTime, .cistern,
     .origins, .log, .capFlag, .fwHeld, .devWake, .tunnel, .chans, .gate, .heldEv, .freeCount, .out]
  | .diagLoopback _ _ =>
    [.l1, .reads, .msg, .fnMsg, .queues, .sched, .halves, .units, .engines, .bursts, .portReg, .portTime, .cistern,
     .origins, .log, .capFlag, .cmd, .fwHeld, .devReg, .devWake, .tunnel, .gate, .heldEv, .out]
  | .portPowerWrite _ _ | .channelEnable _ _ | .channelDisable _ _ | .channelClr _ _ =>
    [.l1, .reads, .msg, .fnMsg, .queues, .sched, .halves, .units, .engines, .bursts, .portReg, .portTime, .cistern,
     .origins, .acc, .log, .capFlag, .fwHeld, .devWake, .tunnel, .chans, .gate, .heldEv, .out]
  | .thermalModelUpdate _ _ =>
    [.l1, .reads, .msg, .fnMsg, .queues, .sched, .halves, .units, .engines, .bursts, .portReg, .portTime, .cistern,
     .origins, .log, .capFlag, .fwHeld, .devWake, .tunnel, .chans, .gate, .heldEv, .cool, .freeCount, .out]
  | .cfgSwapCommit =>
    [.l1, .reads, .msg, .fnMsg, .queues, .sched, .halves, .units, .engines, .bursts, .portReg, .lock, .portTime,
     .cistern, .origins, .log, .sets, .capFlag, .cmd, .fwHeld, .devWake, .tunnel, .chans, .gate, .heldEv,
     .freeCount, .out]
  | .pfFunctionLevelReset | .fwReadyTimeout _ | .fwReadyReport _ =>
    [.link, .l1, .reads, .msg, .fnCfg, .fnMsg, .queues, .fences, .sched, .halves, .units, .engines, .bursts,
     .portReg, .lock, .portTime, .cistern, .origins, .log, .sets, .instState, .capFlag, .cmd, .fwSlots, .fwHeld,
     .boot, .devReg, .devWake, .tunnel, .chans, .gate, .heldEv, .freeCount, .out]
  | .registerWrite _ _ _ =>
    [.link, .l1, .herr, .reads, .msg, .fnMsg, .queues, .dbdrop, .sched, .halves, .units, .engines, .bursts,
     .portReg, .lock, .portTime, .cistern, .origins, .sumpFlags, .acc, .memErr, .log, .mailbox, .resetRec, .scratch,
     .capFlag, .fwHeld, .devReg, .devWake, .tunnel, .chans, .pmReg, .gate, .heldEv, .store, .freeCount, .out]
  | .wakeTimerExpiry _ | .wakeSourceFired _ _ | .uartRxCharacter _ | .smbusUnsupported _ _ _ =>
    [.link, .l1, .reads, .msg, .fnCfg, .fnMsg, .queues, .fences, .sched, .halves, .units, .engines, .bursts,
     .portReg, .clock, .lock, .portTime, .cistern, .origins, .log, .sets, .instState, .capFlag, .cellar, .cmd,
     .fwSlots, .fwHeld, .boot, .devReg, .devWake, .tunnel, .chans, .pmReg, .gate, .heldEv, .store, .freeCount, .out]
  | .thermal _ _ =>
    [.link, .l1, .reads, .msg, .fnCfg, .fnMsg, .queues, .fences, .sched, .halves, .units, .engines, .bursts,
     .portReg, .clock, .lock, .portTime, .cistern, .origins, .log, .sets, .instState, .capFlag, .cellar, .cmd,
     .fwSlots, .fwHeld, .boot, .devReg, .devWake, .tunnel, .chans, .pmReg, .gate, .heldEv, .store, .mgmt,
     .freeCount, .out]
  | .ident _ | .status _ | .capacity _ | .channels _ | .faults _ =>
    [.link, .l1, .reads, .msg, .fnCfg, .fnMsg, .queues, .fences, .sched, .halves, .units, .engines, .bursts,
     .portReg, .clock, .lock, .portTime, .cistern, .origins, .acc, .log, .sets, .instState, .capFlag, .cellar, .cmd,
     .fwSlots, .fwHeld, .boot, .devReg, .devWake, .tunnel, .chans, .pmReg, .gate, .heldEv, .store, .freeCount, .out]
  | .wakePinAssert _ _ | .powerFailRestart _ _ =>
    [.link, .l1, .reads, .msg, .fnCfg, .fnMsg, .queues, .fences, .sched, .halves, .units, .engines, .bursts,
     .portReg, .clock, .lock, .portTime, .cistern, .origins, .memErr, .log, .sets, .instState, .capFlag, .cellar,
     .cmd, .fwSlots, .fwHeld, .boot, .devReg, .devWake, .tunnel, .chans, .pmReg, .gate, .heldEv, .store, .mgmt,
     .freeCount, .out]
  | .pmRefusersCleared | .pmGraceExpiry _ | .powerFail | .dieOvertempTrip | .vaonLoss =>
    [.link, .l1, .herr, .reads, .late, .msg, .fnCfg, .fnErr, .fnMsg, .queues, .dbdrop, .fences, .sched, .halves,
     .units, .engines, .bursts, .portReg, .clock, .lock, .portTime, .cistern, .origins, .sumpFlags, .acc, .memErr,
     .log, .sets, .instState, .mailbox, .resetRec, .scratch, .capFlag, .cellar, .cmd, .fwSlots, .fwHeld, .boot,
     .devReg, .devWake, .tunnel, .chans, .pmReg, .gate, .heldEv, .cool, .store, .mgmt, .out]
  | .powerOn _ =>
    [.link, .l1, .herr, .reads, .late, .msg, .fnCfg, .fnErr, .fnMsg, .queues, .dbdrop, .fences, .sched, .halves,
     .units, .engines, .bursts, .portReg, .clock, .lock, .portTime, .cistern, .origins, .sumpFlags, .acc, .memErr,
     .log, .sets, .instState, .mailbox, .resetRec, .scratch, .capFlag, .cellar, .cmd, .fwSlots, .fwHeld, .boot,
     .devReg, .devWake, .tunnel, .chans, .pmReg, .gate, .heldEv, .cool, .store, .mgmt, .freeCount, .out]

/-- No two queues have one number, nor two of those that store room 1 keeps. -/
def NamesApart (s : State) : Prop := Sorted s.qe.queues ∧ ∀ r, s.pm.room1 = some r → Sorted r.queues

/-- What every command keeps, whatever it does: the ordering code (a fuse, R421), the OTP rollback level never falls
(R339), the byte memory of the store rooms stays canonical, the waiting commands stay, what has left the block is
not taken back, and queues keep numbers of their own. -/
structure Keeps (s t : State) : Prop where
  names : NamesApart s → NamesApart t
  fuse : t.isL = s.isL
  otp : s.fw.otp ≤ t.fw.otp
  rooms : Memory.wf s.pm.rooms → Memory.wf t.pm.rooms
  pending : t.pending = s.pending
  out : s.out <+: t.out

/-- The invariant of a run: the ordering code, a floor of the OTP rollback level, canonical store rooms, and queues
with numbers of their own. -/
structure Safe (code : Bool) (level : Nat) (s : State) : Prop where
  fuse : s.isL = code
  otp : level ≤ s.fw.otp
  rooms : Memory.wf s.pm.rooms
  names : NamesApart s

/-! ### Acceptance of a command packet (R318, R319) -/

/-- A row of Tables 12-3 to 12-6: its opcode, the bits of DW2 to DW11 that it names, whether INSTANCE may be other
than 0, whether recovery allows it (R411), and the checks of its own, in the row's order. -/
structure CmdRow where
  op : Nat
  masks : List Word
  tenants : Bool
  inRecovery : Bool
  checks : State → List Check

/-- The packet and the row of a command of the command processor. -/
def cmdRow : Instr → Option (Packet × CmdRow)
  | .queueCreate c =>
    some (c, ⟨0x80, [0x3F3F0FFF, 0x00FFFF7F, 0xFFFFFFFF, 0xFFFFFFFF, 0xFFFFFFFF, 0xFFFFFFFF],
      true, false, createChecks c⟩)
  | .queueDelete c =>
    some (c, ⟨0x81, [0xFFF],
      true, false, (fun s => queueChecks c s ++ [busy (!qIn s c .disabled) 0x07])⟩)
  | .queueEnable c =>
    some (c, ⟨0x82, [0xFFF],
      true, false, (fun s => queueChecks c s ++ [inval (qIn s c .enabled || qIn s c .stopped) 0x06, busy (qIn s c
        .draining) 0x07])⟩)
  | .queueDisable c =>
    some (c, ⟨0x83, [0xFFF],
      true, false, (fun s => queueChecks c s ++ [busy (qIn s c .draining) 0x07])⟩)
  | .unitAddress c =>
    some (c, ⟨0x88, [0x00FF0107, 0x03FFFF7F, 0x000FFFFF, 0xFF],
      false, false, addressChecks c⟩)
  | .unitRelease c =>
    some (c, ⟨0x89, [0x007F0007],
      false, false, releaseChecks c⟩)
  | .unitAssign c =>
    some (c, ⟨0x8A, [0x007F0007, 0xFF],
      true, false, assignChecks c⟩)
  | .pipeOpen c =>
    some (c, ⟨0x90, [0x000FFFFF, 0x7FFFFFFF, 0x007FFFFF, 0x000FFFFF, 0xFFFF7FFF, 0x07FFFFFF, 0xFF],
      true, false, openChecks c⟩)
  | .pipeClose c =>
    some (c, ⟨0x91, [0x000FFFFF],
      true, false, (fun s => pipeChecks c s ++
        [inval (match pipe s (cPipe c) with | some x => x.kind = .stream | none => false) 0x06,
         busy (someIn s c (· = .closing)) 0x07])⟩)
  | .pipeStop c =>
    some (c, ⟨0x92, [0x000FFFFF],
      true, false, (fun s => pipeChecks c s ++ [busy (someIn s c (fun t => t = .held || t = .closing)) 0x07, inval
        (someIn s c (· = .halted)) 0x06])⟩)
  | .pipeStart c =>
    some (c, ⟨0x93, [0x000FFFFF],
      true, false, (fun s => pipeChecks c s ++ [busy (someIn s c (fun t => t = .held || t = .closing)) 0x07, inval
        (someIn s c (· ≠ .stopped)) 0x06])⟩)
  | .pipeReset c =>
    some (c, ⟨0x94, [0x000FFFFF],
      true, false, (fun s => pipeChecks c s ++ [busy (someIn s c (fun t => t = .held || t = .closing)) 0x07, inval
        (someIn s c (· ≠ .halted)) 0x06])⟩)
  | .pipeQuery c =>
    some (c, ⟨0x95, [0x000FFFFF, 0xFFFFFFFF, 0xFFFFFFFF],
      true, false, (fun s => inval (fusedPipes s ≤ cPipe c) 0x05 :: inval (addr64 c.dw[3] c.dw[4] % 64 ≠ 0) 0x04
        :: pipeChecks c s)⟩)
  | .originRelease c =>
    some (c, ⟨0xA0, [0xFF],
      false, false, originChecks c⟩)
  | .originDrop c =>
    some (c, ⟨0xA1, [0xFF],
      false, false, originChecks c⟩)
  | .logRead c =>
    some (c, ⟨0xA2, [0xFFFFFFFF, 0x7FF, 0xFFFFFFFF, 0xFFFFFFFF],
      false, false, (fun _ => [inval (cCount c = 0 || 1024 < cCount c || addr64 c.dw[4] c.dw[5] % 32 ≠ 0) 0x04])⟩)
  | .pumpAck c =>
    some (c, ⟨0xA9, [0x3F, 0xFFFFFFFF],
      true, false, (fun s => [inval (!haltedOn s c) 0x03])⟩)
  | .instanceResetCommand c =>
    some (c, ⟨0xA8, [],
      true, false, (fun _ => [inval (cInst c = 0) 0x02])⟩)
  | .cfgWrite c =>
    some (c, ⟨0xB0, pairMasks c,
      false, false, writeChecks c⟩)
  | .cfgRead c =>
    some (c, ⟨0xB1, [0xFFFFFF, 0x1],
      false, false, (fun s => [inval (cfgFused s (fld c.dw[2] 0 24)) 0x05, inval (cfgMask (fld c.dw[2] 0
        24)).isNone 0x04])⟩)
  | .cfgCopy c =>
    some (c, ⟨0xB2, [],
      false, false, (fun s => [busy s.cmd.pendSwap 0x11])⟩)
  | .cfgSwap c =>
    some (c, ⟨0xB3, [],
      false, false, (fun s => [busy s.cmd.pendSwap 0x11])⟩)
  | .chanBind c =>
    some (c, ⟨0xC8, [0x7030F, 0xFF7F],
      false, false, bindChecks c⟩)
  | .diagEcho c =>
    some (c, ⟨0xE0, [0xFFFFFFFF, 0xFFFFFFFF, 0xFFFFFFFF],
      false, true, (fun _ => [])⟩)
  | .portService c _ =>
    some (c, ⟨0xB8, [0x307],
      false, false, (fun s => [inval (!portFused s (sPort c)) 0x05, busy ((port s (sPort c)).inService = sReturn
        c) 0x07])⟩)
  | .pumpService c _ =>
    some (c, ⟨0xB9, [0x13F],
      false, false, pumpChecks c⟩)
  | .cellarService c _ =>
    some (c, ⟨0xBA, [0x101],
      false, false, cellarChecks c⟩)
  | .fwStage c =>
    some (c, ⟨0xD0, [0x1, 0xFFFFFFFF, 0xFFFFFFFF, 0xFFFFFFFF, 0xFFFFFFFF],
      false, true, stageChecks c⟩)
  | .fwActivate c _ =>
    some (c, ⟨0xD1, [0x1],
      false, true, activateChecks c⟩)
  | .fwQuery c =>
    some (c, ⟨0xD2, [],
      false, true, (fun _ => [])⟩)
  | .diagLoopback c _ =>
    some (c, ⟨0xE1, [0x307, 0xFFFFFFFF],
      false, false, loopChecks c⟩)
  | .pmEnter c =>
    some (c, ⟨0xC0, enterMasks c,
      false, false, enterChecks c⟩)
  | _ => none

/-- Nothing waits for the wake source: no SLEEP that armed it, and no entry that it would end (R389). -/
def awakeFor (bit : Nat) (s : State) : Bool :=
  s.pm.entry.isNone && !(s.pm.st = .sleep && s.pm.armed.getLsbD bit)

/-- The pipe has a burst with a packet on the wire that is not over (Table 7-1). -/
def OnWire (s : State) (n : Nat) (x : Pipe) (d : Desc) : Prop := descOf s n = some (x, d) ∧ live d = true

/-- The packet is the next one, firmware looks at it, and its opcode is the row's (R319). -/
def Looked (i : Instr) (s : State) : Prop :=
  match cmdRow i with
  | some (c, r) => cmdReady s c = true ∧ cOp c = r.op
  | none => False

/-- The first check that fails (R318), as status and DETAIL. -/
def verdict (i : Instr) (s : State) : Option (Nat × Nat) :=
  match cmdRow i with
  | some (c, r) => firstBad (commonChecks (ungate s) c r.masks r.tenants r.inRecovery ++ r.checks (ungate s))
  | none => none

/-- The packet is accepted. -/
def Taken (i : Instr) (s : State) : Prop := Looked i s ∧ verdict i s = none

/-- The state in which an accepted packet's effect begins: the FAB clock runs (R387), and the entry is accepted. -/
def taken (c : Packet) (s : State) : State := accept c (ungate s)

end Sys2Proof.Machine
end

