-- ==== Sys2Proof/Certificates/Slice0/Obligations.lean ====
section
/-! DEFINITION. The statements for the provers, from the numbered rules of the spec: the block as a whole, register
writes, the host interface, and then the families of commands in the order of the spec's files. A statement or a clause
that says MODEL'S CHOICE rests on the named entry of the assumption log. -/

open Sys2Proof Sys2Proof.Machine
/-! ### The block as a whole -/

/-- A step runs the command at the front of the queue on the state with the queue's rest. -/
def Obligations.StepRunsTheFront : Prop :=
  ∀ (c : Instr) (rest : List Instr) (s : State), s.pending = c :: rest → step s = exec c { s with pending := rest }

/-- MODEL'S CHOICE (log 7): on an empty queue one clock tick passes; it moves the bus-interval timer's position, while
the timebase runs, up to the last tick of the interval, and nothing else; the boundary is a command of its own. -/
def Obligations.IdleStepMovesThePosition : Prop :=
  ∀ s : State, s.pending = [] → s.iso.pos < 15360 →
    ∃ n, step s = .next { s with iso := { s.iso with pos := n } } ∧ n < 15360 ∧
      n = (if s.iso.running ∧ s.iso.pos < 15359 then s.iso.pos + 1 else s.iso.pos)

/-- No row of the table is without a meaning: no command is refused, and every command completes in every state. -/
def Obligations.NoCommandIsRefused : Prop :=
  (∀ (c : Instr) (s : State) (r : Refusal), exec c s ≠ .refused r) ∧
  ∀ (c : Instr) (s : State), ∃ t, exec c s = .next t

/-- The frame of every command: when it answers a next state, the parts of the block that `mayChange` does not list
for it are as before. -/
def Obligations.EveryCommandKeepsItsFrame : Prop :=
  ∀ (c : Instr) (s t : State), exec c s = .next t → Touches (mayChange c) s t

/-- Whatever a command does: the fuse of the ordering code stays (R421), the OTP rollback level does not fall (R339),
the store rooms keep their canonical form, the waiting commands stay, what has left the block is not taken back, and
queues keep numbers of their own. -/
def Obligations.EveryCommandKeepsWhatItMust : Prop :=
  ∀ (c : Instr) (s t : State), exec c s = .next t → Keeps s t

/-- The invariant of `Safe` holds after every step from a state in which it holds. -/
def Obligations.EveryStepStaysSafe : Prop :=
  ∀ (code : Bool) (level : Nat) (s t : State), Safe code level s → step s = .next t → Safe code level t

/-- Right after reset the invariant of `Safe` holds with level 0, nothing waits and nothing has left the block, and the
registers read the reset values of the tables of the spec: each listed one its own, and the listed ones that the tables
reset to zero read zero. -/
def Obligations.ResetIsSafe : Prop :=
  Safe false 0 State.reset ∧ State.reset.pending = [] ∧ State.reset.out = [] ∧
  (∀ r ∈ [(0x1000, 0x4000), (0x1004, 0x10020), (0x1100, 0x1), (0x100100, 0x10), (0x400004, 0x300), (0x400100, 0xE00),
      (0x400400, 0x64), (0x300000, 0x3E802), (0xE08000, 0x2000), (0xE08004, 0x400), (0xE08008, 0x2000),
      (0xE08100, 0x10), (0xE08400, 0x2000), (0xF80004, 0x100064), (0x8004, 0x10006440), (0x8008, 0x100000),
      (0x800C, 0xFFFF3FF0), (0xC00010, 0x27), (0xD00014, 0xF0), (0xD00018, 0x3E8), (0xD00100, 0xA83278),
      (0xD00104, 0x3E80A), (0xD00108, 0x3C5096), (0xD0010C, 0xD6B3214), (0xD00110, 0x4E20190), (0xD00114, 0x64),
      (0xF00004, 0x1FF1E), (0xF00008, 0x3E8)], bar0Word State.reset r.1 = BitVec.ofNat 32 r.2) ∧
  ∀ a ∈ [0xC, 0x10, 0x1010, 0x1014, 0x1018, 0x2000, 0x2004, 0x3000, 0x3004, 0x80000, 0x80004, 0x80010, 0x80018, 0x80020,
      0x100000, 0x100004, 0x100008, 0x100010, 0x300004, 0x300008, 0x30010C, 0x400000, 0x40000C, 0xC00000, 0xC00008,
      0xD00000, 0xD00004, 0xD0000C, 0xD0001C, 0xF00000, 0xF0000C, 0xF00014, 0xF00200, 0xF80000, 0xF80008, 0xF80014,
      0xF80040], bar0Word State.reset a = 0

/-! ### Register writes (files 01, 02, 17) -/

/-- GLB_SCRATCH stores a written dword (Table 17-5), and PM_SCR[j] its own (Table 15-13); HI_L1CTL takes IDLE_US and
HOLD_ISO (Table 2-11); nothing else changes but the FAB clock, which a write through PCI Express brings back (R387), and
the link, which a TLP brings out of L1 (R32). -/
def Obligations.RegisterWriteStores : Prop :=
  ∀ (v : Word) (s : State), answers s 0 = true →
    exec (.registerWrite .bar0 0xC v) s = .next { wakeLink (ungate s) with glb := { s.glb with scratch := v } } ∧
    exec (.registerWrite .bar0 0x1004 v) s = .next { ungate s with host := { s.host with
      l1 := .l0, idleUs := BitVec.ofNat 16 (fld v 0 16), holdIso := tst v 16 } } ∧
    ∀ j : Fin 16, ∃ t, exec (.registerWrite .bar0 (0xF00200 + 4 * j.val) v) s = .next t ∧
      t = { wakeLink (ungate s) with pm := { (ungate s).pm with scr := t.pm.scr } } ∧
      getD 0 t.pm.scr j.val = v ∧ ∀ k, k ≠ j.val → getD 0 t.pm.scr k = getD 0 s.pm.scr k

/-- A write whose function does not answer is completed Unsupported Request and changes no register (Table 2-5); a
write with partial byte enables outside the doorbells is dropped (Table 2-5), and so is one to a read-only register or
to an offset without a register of the blocks below 0x5000 of BAR0 (R11, Table 17-1). -/
def Obligations.RegisterWriteDrops : Prop :=
  (∀ (a : Nat) (v : Word) (s : State), a < 0x1000000 → answers s 0 = false →
    exec (.registerWrite .bar0 a v) s = .next { wakeLink s with out := s.out ++ [.unsupported 0] }) ∧
  (∀ (i : Fn) (a : Nat) (v : Word) (s : State), a < 0x10000 → windowExists s (.vf i) = true →
    answers s i.val = false →
    exec (.registerWrite (.vf i) a v) s = .next { wakeLink s with out := s.out ++ [.unsupported i.val] }) ∧
  (∀ (a : Nat) (v : Word) (s : State), a < 0x1000000 → a % 4 ≠ 0 → answers s 0 = true →
    exec (.registerWrite .bar0 a v) s = .next (wakeLink (ungate s))) ∧
  (∀ (a : Nat) (v : Word) (s : State), 0x8000 ≤ a → a < 0x400000 → a % 4 ≠ 0 → answers s 0 = true →
    exec (.registerWrite .bar2 a v) s = .next (wakeLink (ungate s))) ∧
  (∀ (a : Nat) (v : Word) (s : State), a < 0x5000 → a ≠ 0xC → a ≠ 0x10 → a ≠ 0x1004 → a ≠ 0x1018 → answers s 0 = true →
    offCode s a = none →
    exec (.registerWrite .bar0 a v) s = .next (wakeLink (ungate s)))

/-- Write-one-to-clear: GLB_STAT.CAP_CHG, HI_HERR_INFO.VALID, FLT_ACCINFO.VALID and PM_STATE.WFAIL are cleared by a
written 1 and kept by a written 0, and the edge counters beside them stay (R10, R283). -/
def Obligations.WriteOneToClear : Prop :=
  ∀ (v : Word) (s : State), answers s 0 = true →
    exec (.registerWrite .bar0 0x10 v) s = .next { wakeLink (ungate s) with glb := { s.glb with
      capChg := s.glb.capChg && !tst v 8 } } ∧
    exec (.registerWrite .bar0 0x1018 v) s = .next { ungate s with host := { s.host with
      l1 := .l0, herrValid := s.host.herrValid && !tst v 8 } } ∧
    exec (.registerWrite .bar0 0xF80014 v) s = .next { wakeLink (ungate s) with sump := { s.sump with
      accValid := s.sump.accValid && !tst v 16 } } ∧
    exec (.registerWrite .bar0 0xF00000 v) s = .next { wakeLink (ungate s) with pm := { (ungate s).pm with
      wfail := s.pm.wfail && !tst v 24 } }

/-- A dword written to a store room that has power and belongs to software is read back from it byte by byte, and no
other byte of the rooms changes (R398). -/
def Obligations.StoreRoomReadsBack : Prop :=
  ∀ (o : Nat) (v : Word) (s : State), answers s 0 = true → o + 4 ≤ 0x20000 → o % 4 = 0 → 2 ≤ s.pm.rsel.val →
    tst (wd s.boot.rooms.toNat) s.pm.rsel.val = false →
    ∃ t, exec (.registerWrite .bar0 (0xF20000 + o) v) s = .next t ∧
      (∀ k : Fin 4, getD 0 t.pm.rooms (s.pm.rsel.val * 131072 + o + k.val) = v.extractLsb' (8 * k.val) 8) ∧
      (∀ a, (a < s.pm.rsel.val * 131072 + o ∨ s.pm.rsel.val * 131072 + o + 4 ≤ a) →
        getD 0 t.pm.rooms a = getD 0 s.pm.rooms a) ∧
      Touches [.l1, .gate, .store] s t

/-- An access to a block that is off: FLT_ACCINFO.COUNT advances; the first record stays while VALID is set and is
written when it is clear, with INSTANCE 0; a read from PCI Express is answered 0xBAD000 with the block code; nothing
changes but that record, the event and the log record of a first access, and the answer: not the block (R282). A
request to a function that does not answer is completed Unsupported Request and not recorded; a read in one pane of a
mailbox returns its bytes, and one of more than 2 dwords that does not lie in one pane is completed Unsupported
Request (R36, Table 2-5). -/
def Obligations.OffBlockAccessIsRecorded : Prop :=
  (∀ (a b : Nat) (write : Bool) (src : AccSource) (s : State), offCode s a = some b → b < 256 → a % 4 = 0 →
    (src ≠ .pcie ∨ answers s 0 = true) →
    ∃ t, exec (.offBlockAccess .bar0 a 1 write src) s = .next t ∧ t.sump.accCount = s.sump.accCount + 1 ∧
      t.sump.accValid = true ∧
      (s.sump.accValid = true → t.sump.accAddr = s.sump.accAddr ∧ t.sump.accBlock = s.sump.accBlock ∧
        t.sump.accInst = s.sump.accInst ∧ t.sump.accWrite = s.sump.accWrite ∧ t.sump.accSource = s.sump.accSource) ∧
      (s.sump.accValid = false → t.sump.accAddr = BitVec.ofNat 24 a ∧ t.sump.accBlock = BitVec.ofNat 8 b ∧
        t.sump.accInst = 0 ∧ t.sump.accWrite = write ∧
        t.sump.accSource = (match src with | .pcie => 0 | .firmware => 1 | .smbus => 2)) ∧
      (write = false → src = .pcie → t.out.getLast? = some (.readData (0xBAD00000#32 + BitVec.ofNat 32 b))) ∧
      Touches (mayChange (.offBlockAccess .bar0 a 1 write src)) s t) ∧
  (∀ (w : Window) (a n : Nat) (write : Bool) (s : State), windowExists s w = true → answers s (windowFn w) = false →
    exec (.offBlockAccess w a n write .pcie) s =
      .next { wakeLink s with out := s.out ++ [.unsupported (windowFn w)] }) ∧
  (∀ (i : Fn) (a n : Nat) (s : State), windowExists s (.vf i) = true → answers s i.val = true → a % 4 = 0 →
    inPane (.vf i) a n = true →
    exec (.offBlockAccess (.vf i) a n false .pcie) s = .next { wakeLink (ungate s) with
      out := s.out ++ [.readBytes ((List.range n).map (fun k => wordBytes (vfWord s i.val (a + 4 * k)))).flatten] }) ∧
  (∀ (w : Window) (a n : Nat) (s : State), windowExists s w = true → answers s (windowFn w) = true → a % 4 = 0 →
    inPane w a n = false → 2 < n →
    exec (.offBlockAccess w a n false .pcie) s = .next { wakeLink s with out := s.out ++ [.unsupported (windowFn w)] })

/-! ### Requests, links and configuration of the host interface (file 02) -/

/-- Rows whose whole effect is the answer to a request or completion that does not fit: an unsupported request of
Table 2-5 IS completed Unsupported Request, a poisoned write IS recorded and dropped, a late completion IS recorded,
and a link recovery resends what was lost: what each of them changes, and nothing else. A poisoned write and a late
completion are advisory non-fatal errors of their function: the status bit is set, and ERR_COR goes where system
software lets it. MODEL'S CHOICE (log 111): the advisory status is set with it, and the first error since the status
was clear is the one that the pointer names. -/
def Obligations.HostRequestsNotPerformed : Prop :=
  (∀ (i : Fn) (k : UrKind) (s : State), reaches s i.val = true → urFits s i.val k = true →
    exec (.unsupportedRequestRx i k) s = .next { wakeLink s with out := s.out ++ [.unsupported i.val] }) ∧
  (∀ (i : Fn) (s : State), reaches s i.val = true →
    ∃ t, exec (.poisonedWriteRx i) s = .next t ∧ (fn t i.val).aer.poisoned = true ∧ (fn t i.val).aer.advisory = true ∧
      (fn t i.val).aer.first = some ((fn s i.val).aer.first.getD .poisoned) ∧
      t.out = s.out ++ (if (fn s i.val).corReport then [.errMsg i.val false] else []) ∧
      (∀ j, j ≠ i.val → fn t j = fn s j) ∧ Touches (mayChange (.poisonedWriteRx i)) s t) ∧
  (∀ (i : Fn) (s : State), i.val ∈ s.host.timedOut →
    ∃ t, exec (.lateCompletionRx i) s = .next t ∧ t.host.timedOut = s.host.timedOut.erase i.val ∧
      (fn t i.val).aer.unexpectedCompletion = true ∧ (fn t i.val).aer.advisory = true ∧
      (fn t i.val).aer.poisoned = (fn s i.val).aer.poisoned ∧
      (fn t i.val).aer.first = some ((fn s i.val).aer.first.getD .unexpectedCompletion) ∧
      t.out = s.out ++ (if (fn s i.val).corReport then [.errMsg i.val false] else []) ∧
      (∀ j, j ≠ i.val → fn t j = fn s j) ∧ Touches (mayChange (.lateCompletionRx i)) s t) ∧
  (∀ s : State, s.host.linkUp = true → exec .linkRecovery s = .next s)

/-- Moderation (R42), release and unmask (R43), and PM_PME (R48): a moderation timer makes its vector due, with the
count at 0 and the timer stopped; a pending vector that may send sends one message with the address and data of its
table entry and is pending no more; one that may not stays pending, also when its mask is cleared, as one does while an
event that caused it is held; outside D0 a due vector stays pending and PME_Status is set, with PM_PME once in D3hot; in
D3hot the resend timer repeats PM_PME. -/
def Obligations.MsixVectorsSend : Prop :=
  (∀ (i v : Fn) (s : State), (vec s i v).timer = true → (fn s i.val).dstate = .d0 → canSend s i v = true →
    ∃ t, exec (.moderationTimerExpiry i v) s = .next t ∧
      vec t i v = { vec s i v with cnt := 0, timer := false, pending := false } ∧
      t.out = s.out ++ [.msix i.val v.val (vec s i v).addrLo (vec s i v).addrHi (vec s i v).data]) ∧
  (∀ (i v : Fn) (s : State), (vec s i v).timer = true → (fn s i.val).dstate = .d0 → canSend s i v = false →
    ∃ t, exec (.moderationTimerExpiry i v) s = .next t ∧
      vec t i v = { vec s i v with cnt := 0, timer := false, pending := true } ∧ t.out = s.out) ∧
  (∀ (i v : Fn) (s : State), (vec s i v).timer = true → (fn s i.val).dstate = .d3hot →
    ∃ t, exec (.moderationTimerExpiry i v) s = .next t ∧
      vec t i v = { vec s i v with cnt := 0, timer := false, pending := true } ∧
      ((fn s i.val).pmeEnable = false ∨ (fn s i.val).pmeStatus = false → (fn t i.val).pmeStatus = true) ∧
      t.out = s.out ++ (if (fn s i.val).pmeEnable && !(fn s i.val).pmeStatus then [.pmPme i.val] else [])) ∧
  (∀ (i v : Fn) (s : State), (vec s i v).pending = true → canSend s i v = true →
    ∃ t, exec (.pendingMsixRelease i v) s = .next t ∧ vec t i v = { vec s i v with pending := false } ∧
      t.out = s.out ++ [.msix i.val v.val (vec s i v).addrLo (vec s i v).addrHi (vec s i v).data]) ∧
  (∀ (i v : Fn) (s : State), canSend s i v = false → exec (.pendingMsixRelease i v) s = .next s) ∧
  (∀ (i v : Fn) (s : State), exists' s i.val = true → hasVec i.val v.val = true → answers s i.val = true →
    let sends := (vec s i v).pending && (fn s i.val).msixEnable && !(fn s i.val).funcMask && usable s i.val &&
      !gated s i.val && !causeHeld s i v
    ∃ t, exec (.msixVectorUnmask i v) s = .next t ∧
      vec t i v = { vec s i v with masked := false, pending := (vec s i v).pending && !sends } ∧
      t.out = s.out ++ (if sends then
        [.msix i.val v.val (vec s i v).addrLo (vec s i v).addrHi (vec s i v).data] else [])) ∧
  (∀ (i : Fn) (s : State), (fn s i.val).pmeStatus = true → (fn s i.val).pmeEnable = true →
    (fn s i.val).dstate = .d3hot →
    ∃ t, exec (.pmeResendTimer i) s = .next t ∧ t.out = s.out ++ [.pmPme i.val] ∧ t.funcs = s.funcs)

/-- The link: L1 after the idle time, in the substate that system software enabled for ASPM, with L1_ENTRIES (R32);
training (R30); the resets of the link, which clear the controls of function 0 (R415), with PE_WAKE_N for a wake that
waits (R48); PERST# deasserted (R409). -/
def Obligations.LinkEvents : Prop :=
  (∀ s : State, l1Idle s = true → exec .l1IdleTimeout s = .next { s with
    host := { s.host with
      l1 := if s.host.aspmL12 then .l12 else if s.host.aspmL11 then .l11 else .l1
      l1Entries := s.host.l1Entries + 1 }
    out := s.out ++ [.l1Request] }) ∧
  (∀ (speed : Fin 6) (width : Fin 9) (rev : Bool) (s : State), s.boot.up = true → s.boot.perst = false →
    s.pm.st ≠ .deep → s.pm.st ≠ .off → speed ≠ 0 → (width = 1 ∨ width = 2 ∨ width = 4 ∨ width = 8) →
    ∃ t, exec (.linkTrained speed width rev) s = .next t ∧ t.host.linkUp = true ∧
      t.host.speed = BitVec.ofNat 4 speed.val ∧ t.host.width = BitVec.ofNat 4 width.val ∧ t.host.reversed = rev ∧
      t.host.l1 = .l0) ∧
  (∀ (k : LinkResetKind) (s : State), (if k = .perst then s.boot.perst = false else s.host.linkUp = true) →
    ∃ t, exec (.linkReset k) s = .next t ∧ t.host.linkUp = false ∧ t.host.speed = 0 ∧ t.host.width = 0 ∧
      t.boot.perst = (s.boot.perst || decide (k = .perst)) ∧ (fn t 0).busMaster = false ∧
      (fn t 0).memEnable = false ∧ (fn t 0).msixEnable = false ∧
      (fn t 0).dstate = (if k = .perst then .d3cold else .d0) ∧
      (k = .perst → (fn s 0).pmeStatus = true → (fn s 0).pmeEnable = true → t.host.peWake = true) ∧
      Touches (mayChange (.linkReset k)) s t) ∧
  (∀ s : State, s.boot.perst = true →
    ∃ t, exec .perstDeassert s = .next t ∧ t.boot.perst = false ∧ (fn t 0).dstate = .d0 ∧ t.host.peWake = false ∧
      t.pm.aonWake = false ∧ (fn t 0).busMaster = (fn s 0).busMaster)

/-- Configuration writes (R29, R32, R33, R40, R43, R48, R52): the field that is written holds the value, and every other
control of every function is as before; the controls of the link belong to function 0, and of another function their
write changes nothing but that it brings the link out of L1. -/
def Obligations.ConfigurationWrites : Prop :=
  let controls := fun (f : Func) => (f.memEnable, f.busMaster, f.dstate, f.msixEnable, f.funcMask, f.pmeEnable,
    f.corReport, f.nfReport)
  let others := fun (i : Fn) (s t : State) => ∀ j, j ≠ i.val → controls (fn t j) = controls (fn s j)
  (∀ (i : Fn) (on : Bool) (s : State), cfgFn s i.val = true →
    ∃ t, exec (.busMasterEnableWrite i on) s = .next t ∧
      controls (fn t i.val) = controls { fn s i.val with busMaster := on } ∧ others i s t) ∧
  (∀ (i : Fn) (on mask : Bool) (s : State), cfgFn s i.val = true →
    ∃ t, exec (.msixEnableWrite i on mask) s = .next t ∧
      controls (fn t i.val) = controls { fn s i.val with msixEnable := on, funcMask := mask } ∧ others i s t) ∧
  (∀ (i : Fn) (d3 : Bool) (s : State), cfgFn s i.val = true →
    ∃ t, exec (.powerStateWrite i d3) s = .next t ∧
      controls (fn t i.val) = controls { fn s i.val with dstate := if d3 then .d3hot else .d0 } ∧ others i s t) ∧
  (∀ (i : Fn) (b c n : Bool) (s : State), cfgFn s i.val = true →
    (∃ t, exec (.configSpaceWrite i .pmeStatusClear) s = .next t ∧
      fn t i.val = { fn s i.val with pmeStatus := false } ∧ ∀ j, j ≠ i.val → fn t j = fn s j) ∧
    (∃ t, exec (.configSpaceWrite i (.pmeEnable b)) s = .next t ∧
      fn t i.val = { fn s i.val with pmeEnable := b } ∧ ∀ j, j ≠ i.val → fn t j = fn s j) ∧
    (∃ t, exec (.configSpaceWrite i (.memoryEnable b)) s = .next t ∧
      fn t i.val = { fn s i.val with memEnable := b } ∧ ∀ j, j ≠ i.val → fn t j = fn s j) ∧
    (∃ t, exec (.configSpaceWrite i .aerClear) s = .next t ∧
      fn t i.val = { fn s i.val with aer := {} } ∧ ∀ j, j ≠ i.val → fn t j = fn s j) ∧
    ∃ t, exec (.configSpaceWrite i (.errorReporting c n)) s = .next t ∧
      fn t i.val = { fn s i.val with corReport := c, nfReport := n } ∧ ∀ j, j ≠ i.val → fn t j = fn s j) ∧
  (∀ (i : Fn) (a b c d : Bool) (v : Fin 16) (m : Fin 3) (r : Fin 6) (s : State), cfgFn s i.val = true →
    let upd := fun (h : HostIf → HostIf) => (.next { s with host := { (if i.val = 0 then h s.host else s.host) with
      l1 := .l0 } } : Host.Outcome State Fault Refusal)
    exec (.configSpaceWrite i (.tenBitTagEnable a)) s = upd (fun h => { h with tenBit := a }) ∧
    exec (.configSpaceWrite i (.l1Substates a b c d)) s =
      upd (fun h => { h with aspmL11 := a, aspmL12 := b, pciL11 := c, pciL12 := d }) ∧
    exec (.configSpaceWrite i (.completionTimeoutValue v)) s = upd (fun h => { h with cplTimeout := v }) ∧
    exec (.configSpaceWrite i (.completionTimeoutDisable a)) s = upd (fun h => { h with cplTimeoutOff := a }) ∧
    exec (.configSpaceWrite i (.ariHierarchy a)) s = upd (fun h => { h with ari := a }) ∧
    exec (.configSpaceWrite i (.maxPayload m)) s = upd (fun h => { h with mps := m }) ∧
    exec (.configSpaceWrite i (.maxReadRequest r)) s = upd (fun h => { h with mrrs := r }))

/-! ### Host bus errors and moderation (files 02, 10) -/

/-- HI_HERR_LO, HI_HERR_HI and HI_HERR_INFO hold the first host bus error recorded since VALID was last cleared; a
later one advances only EDGES, which every error advances; and every error writes one fault-log record of KIND 0x31
with its own address and kind, which an activation pause holds back up to 256 records and counts beyond (R341). -/
def Obligations.FirstHostErrorIsKept : Prop :=
  ∀ (i : Nat) (k : ErrKind) (source addr : Nat) (s : State),
    let t := hostError i k source addr s
    let pay : List Word := [wd (addr / 4 * 4), wd (addr / 2 ^ 32),
      pack [(i, 0), (1, 8), (kindCode k, 9), (source, 12), (t.host.herrEdges.toNat, 16)], 0, 0]
    t.host.herrValid = true ∧ t.host.herrEdges = s.host.herrEdges + 1 ∧
    (s.host.herrValid = true → t.host.herrAddr = s.host.herrAddr ∧ t.host.herrInst = s.host.herrInst ∧
      t.host.herrKind = s.host.herrKind ∧ t.host.herrSource = s.host.herrSource) ∧
    (s.host.herrValid = false → t.host.herrAddr = BitVec.ofNat 64 (addr / 4 * 4) ∧
      t.host.herrInst = BitVec.ofNat 8 i ∧ t.host.herrKind = BitVec.ofNat 3 (kindCode k) ∧
      t.host.herrSource = BitVec.ofNat 4 source) ∧
    (s.cmd.paused = false → 0 < s.sump.logCap.toNat → t.sump.logSeq = s.sump.logSeq + 1 ∧
      t.sump.log.getLast? = some { kind := 0x31, seq := s.sump.logSeq, interval := s.iso.mic, pay := pay }) ∧
    (s.cmd.paused = true → s.fw.logHeld.length < 256 →
      t.fw.logHeld = s.fw.logHeld ++ [{ kind := 0x31, seq := 0, interval := s.iso.mic, pay := pay }]) ∧
    (s.cmd.paused = true → 256 ≤ s.fw.logHeld.length →
      t.fw.logHeld = s.fw.logHeld ∧ t.fw.logAbsent = s.fw.logAbsent + 1) ∧
    Touches [.l1, .herr, .fnErr, .log, .fwHeld, .gate, .freeCount, .out] s t

/-- A cause on a vector with a moderation time starts its timer and is counted; the count that reaches COUNT (at least
1), and every cause without a moderation time, makes the vector due, with the count back at 0 and the timer stopped: in
D0 it sends its message where it may and is pending where it may not. -/
def Obligations.ModerationCounts : Prop :=
  ∀ (i v : Nat) (s : State), (fn s i).dstate = .d0 →
    let p := cfgModp s (v % 16)
    let t := cause i v s
    let n := (vec s i v).cnt + 1
    (fld p 8 16 = 0 ∨ max (fld p 0 8) 1 ≤ n →
      vec t i v = { vec s i v with cnt := 0, timer := false, pending := !canSend s i v } ∧
      t.out = s.out ++ (if canSend s i v then
        [.msix i v (vec s i v).addrLo (vec s i v).addrHi (vec s i v).data] else [])) ∧
    (fld p 8 16 ≠ 0 → n < max (fld p 0 8) 1 → vec t i v = { vec s i v with cnt := n, timer := true } ∧ t.out = s.out) ∧
    (∀ j w, (j ≠ i ∨ w ≠ v) → vec t j w = vec s j w)

/-- The fault log keeps the newest records up to its capacity, in order, each with its own sequence number (R286). -/
def Obligations.FaultLogIsARing : Prop :=
  ∀ (kind : Nat) (iv : Word) (pay : List Word) (s : State),
    let t := logPush kind iv pay s
    t.sump.logSeq = s.sump.logSeq + 1 ∧
    (s.sump.log.length ≤ s.sump.logCap.toNat → t.sump.log.length ≤ t.sump.logCap.toNat) ∧
    (s.sump.log.length < s.sump.logCap.toNat →
      t.sump.log = s.sump.log ++ [{ kind := kind, seq := s.sump.logSeq, interval := iv, pay := pay }]) ∧
    (0 < s.sump.logCap.toNat → s.sump.log.length = s.sump.logCap.toNat →
      t.sump.log = s.sump.log.tail ++ [{ kind := kind, seq := s.sump.logSeq, interval := iv, pay := pay }])

/-! ### Queues (file 03) -/

/-- Doorbells and index cells (R63, R71, R92, R307, Table 3-3): a doorbell of no existing queue, or of one that is not
ENABLED, is counted in QE_DBDROP; one of an ENABLED submission queue with no cell read outstanding reads the cell, 16
bytes, or has the read wait where no tag is free (R38); a doorbell behind that read is merged; one of an event queue
that is not blocked does nothing; a tenant's doorbell rings the queue of its own that has the number, and is counted in
QE_DBDROP where none has; one whose function does not answer is completed Unsupported Request; the read brings PI; an
error stops the queue with ERR_CELL; the poll timer of a blocked event queue reads its cell. -/
def Obligations.DoorbellsReadCells : Prop :=
  (∀ (q : QueueId) (s : State), answers s 0 = true →
    (∀ x, queue s q = some x → x.st ≠ .enabled) →
    exec (.doorbellWrite (.manager q)) s =
      .next { wakeLink (ungate s) with qe := { s.qe with dbdrop := s.qe.dbdrop + 1 } }) ∧
  (∀ (q : QueueId) (x : Queue) (s : State), answers s 0 = true → queue s q = some x → x.st = .enabled →
    x.isEvent = true → evBlocked x = false → gated s x.owner = false →
    exec (.doorbellWrite (.manager q)) s = .next (wakeLink (ungate s))) ∧
  (∀ (q : QueueId) (s : State), answers s 0 = false →
    exec (.doorbellWrite (.manager q)) s = .next { wakeLink s with out := s.out ++ [.unsupported 0] }) ∧
  (∀ (i : Fn) (j : Fin 64) (s : State), tenant s i.val = true →
    (answers s i.val = false →
      exec (.doorbellWrite (.tenant i j)) s = .next { wakeLink s with out := s.out ++ [.unsupported i.val] }) ∧
    (answers s i.val = true → localQueue s i.val j.val = none → exec (.doorbellWrite (.tenant i j)) s =
      .next { wakeLink (ungate s) with qe := { s.qe with dbdrop := s.qe.dbdrop + 1 } }) ∧
    (∀ (q : QueueId) (x : Queue), answers s i.val = true → localQueue s i.val j.val = some q.val →
      queue s q = some x → x.st = .enabled → x.isEvent = false → readOpen s (.cell q) = false →
      quiet s x.owner = false → tagFree s = true →
      ∃ t, exec (.doorbellWrite (.tenant i j)) s = .next t ∧ x.owner = i.val ∧ x.localNo = j.val ∧
        t.out = s.out ++ [.read x.owner x.cell 16] ∧ t.qe = s.qe)) ∧
  (∀ (q : QueueId) (x : Queue) (s : State), answers s 0 = true → queue s q = some x → x.st = .enabled →
    x.isEvent = false → readOpen s (.cell q) = false → quiet s x.owner = false → tagFree s = true →
    ∃ t, exec (.doorbellWrite (.manager q)) s = .next t ∧ t.out = s.out ++ [.read x.owner x.cell 16] ∧
      t.host.reads = s.host.reads ++ [{ ref := .cell q, fn := x.owner, addr := x.cell, len := 16 }] ∧
      t.qe = s.qe) ∧
  (∀ (q : QueueId) (x : Queue) (s : State), answers s 0 = true → queue s q = some x → x.st = .enabled →
    x.isEvent = false → readOpen s (.cell q) = false → quiet s x.owner = false → tagFree s = false →
    ∃ t, exec (.doorbellWrite (.manager q)) s = .next t ∧ t.out = s.out ∧
      t.host.reads = s.host.reads ++
        [{ ref := .cell q, fn := x.owner, addr := x.cell, len := 16, waiting := true }] ∧ t.qe = s.qe) ∧
  (∀ (q : QueueId) (x : Queue) (s : State), answers s 0 = true → queue s q = some x → x.st = .enabled →
    x.isEvent = false → gated s x.owner = false → readOpen s (.cell q) = true →
    ∃ t, exec (.doorbellWrite (.manager q)) s = .next t ∧ queue t q = some { x with merged := true } ∧
      t.out = s.out ∧ t.host.reads = s.host.reads) ∧
  (∀ (q : QueueId) (x : Queue) (r : OutRead) (dw0 : Word) (s : State), outRead s (.cell q) = some r →
    r.discard = false → queue s q = some x → x.isEvent = false → x.st = .enabled → x.merged = false →
    ∃ t, exec (.indexCellReadReturn q (.data dw0)) s = .next t ∧ queue t q = some { x with pi := dw0 } ∧
      t.host.reads = (retireRead (.cell q) s).host.reads ∧ t.out = (retireRead (.cell q) s).out) ∧
  (∀ (q : QueueId) (x : Queue) (r : OutRead) (k : ErrKind) (s : State), outRead s (.cell q) = some r →
    r.discard = false → queue s q = some x → x.isEvent = false → x.st = .enabled → NamesApart s →
    ∃ t, exec (.indexCellReadReturn q (.error k)) s = .next t ∧
      t.host.herrEdges = s.host.herrEdges + 1 ∧
      ∃ y, queue t q = some y ∧ y.st = .stopped ∧ y.errCell = true ∧ y.errKind = BitVec.ofNat 3 (kindCode k) ∧
        y.ents = x.ents ∧ y.fetch = x.fetch) ∧
  (∀ (q : QueueId) (x : Queue) (s : State), queue s q = some x → x.st = .enabled → evBlocked x = true →
    readOpen s (.cell q) = false → quiet s x.owner = false → tagFree s = true →
    ∃ t, exec (.evqPollTimer q) s = .next t ∧ t.out = s.out ++ [.read x.owner x.cell 16] ∧ t.qe = s.qe)

/-- One fetch turn (R75): the turn goes to an eligible queue; each eligible queue's account grows by its weight, the
chosen one's shrinks by the sum of the weights; a queue that is not eligible keeps its account; every queue keeps its
state, HEAD and PI. -/
def Obligations.FetchTurnAccounts : Prop :=
  ∀ (q : Nat) (x : Queue) (s : State), nextTurn s = some q → queue s q = some x → q ≠ 4096 → tagFree s = true →
    NamesApart s →
    ∃ t, exec .fetchTurn s = .next t ∧ eligible s q x = true ∧
      (∀ (j : Nat) (y : Queue), j ≠ 4096 → queue s j = some y →
        ∃ z, queue t j = some z ∧ z.st = y.st ∧ z.head = y.head ∧ z.pi = y.pi ∧ z.weight = y.weight ∧
          z.cur = (if eligible s j y then y.cur + y.weight - (if j = q then
            ((s.qe.queues.filter (fun kv => eligible s kv.1 kv.2)).map (fun kv => (kv.2.weight : Int))).sum else 0)
            else y.cur)) ∧
      (∀ (j : Nat) (y : Queue), j ≠ 4096 → queue s j = some y → eligible s j y = true → y.cur + y.weight ≤ x.cur + x.weight)

/-- Entry reads and barrier reads (R54, R55, R448): an error on an entry read is recorded as a host bus error and
stops an ENABLED queue with the error's kind, with the entries below the failing index kept, those from it on
discarded, and FETCH at it; the error of a read that was to be discarded without a record changes nothing but the list
of reads; a barrier read's good end ends its entry with the completion that it held back; a read that times out is
recorded as an error, and its function may still answer it late; the good end of an entry read fills the entries of
its slots, and the queue then attaches them in order. Where no read waits for a tag, the list of reads loses the one
that returned and no other. -/
def Obligations.EntryReadsReturn : Prop :=
  (∀ (q : QueueId) (first : Word) (x : Queue) (r : OutRead) (slots : List Slot) (s : State),
    outRead s (.entries q first) = some r → slots.length * 64 = r.len → r.discard = false → queue s q = some x →
    let y := { x with ents := x.ents.map (fill first slots) }
    let u := setQueue q y (retireRead (.entries q first) s)
    ∃ t, exec (.entryFetchReturn q first (.data slots)) s = .next t ∧
      (q = 0 ∨ nextAttach y = none → t = u ∧ queue t q = some y) ∧
      (∀ e, q ≠ 0 → x.st = .enabled ∨ x.st = .stopped → nextAttach y = some e →
        t = attachAll 511 q (attach q y e u))) ∧
  (∀ (q : QueueId) (x : Queue) (o : OutRead) (s : State), outRead s (.cell q) = some o → o.discard = false →
    queue s q = some x → x.isEvent = false → x.st = .enabled → NamesApart s → s.host.cplTimeoutOff = false →
    ∃ t, exec (.completionTimeout (.cell q)) s = .next t ∧ t.host.herrEdges = s.host.herrEdges + 1 ∧
      t.host.timedOut = s.host.timedOut ++ [o.fn] ∧
      ∃ y, queue t q = some y ∧ y.st = .stopped ∧ y.errCell = true ∧
        y.errKind = BitVec.ofNat 3 (kindCode .timeout) ∧ y.ents = x.ents) ∧
  (∀ (q : QueueId) (first : Word) (o : OutRead) (s : State), outRead s (.entries q first) = some o →
    o.silent = false → o.discard = true → s.host.cplTimeoutOff = false →
    ∃ t, exec (.completionTimeout (.entries q first)) s = .next t ∧ t.host.herrEdges = s.host.herrEdges + 1 ∧
      t.host.timedOut = s.host.timedOut ++ [o.fn] ∧ t.qe = s.qe) ∧
  (∀ (k n : Nat) (o : OutRead) (s : State), outRead s (.pump k n) = some o → o.silent = false →
    s.host.cplTimeoutOff = false →
    ∃ t, exec (.completionTimeout (.pump k n)) s = .next t ∧ t.host.herrEdges = s.host.herrEdges + 1 ∧
      t.host.timedOut = s.host.timedOut ++ [o.fn]) ∧
  (∀ (q : QueueId) (first : Word) (r : OutRead) (slots : List Slot) (s : State),
    outRead s (.entries q first) = some r → slots.length * 64 = r.len → r.discard = true →
    exec (.entryFetchReturn q first (.data slots)) s = .next (retireRead (.entries q first) s)) ∧
  (∀ (q : QueueId) (first : Word) (r : OutRead) (k : ErrKind) (s : State), outRead s (.entries q first) = some r →
    r.silent = true → exec (.entryFetchReturn q first (.error k)) s = .next (retireRead (.entries q first) s)) ∧
  (∀ (q : QueueId) (first : Word) (r : OutRead) (k : ErrKind) (s : State), outRead s (.entries q first) = some r →
    r.silent = false → r.discard = true →
    ∃ t, exec (.entryFetchReturn q first (.error k)) s = .next t ∧ t.host.herrEdges = s.host.herrEdges + 1 ∧
      t.qe = s.qe) ∧
  (∀ (q : QueueId) (first : Word) (r : OutRead) (k : ErrKind) (s : State), outRead s (.entries q first) = some r →
    r.silent = false → r.discard = false → exec (.entryFetchReturn q first (.error k)) s =
      .next (fetchFail q first k (hostError r.fn k 1 r.addr (retireRead (.entries q first) s)))) ∧
  (∀ (q : QueueId) (first : Word) (x : Queue) (r : OutRead) (k : ErrKind) (s : State),
    outRead s (.entries q first) = some r → r.silent = false → r.discard = false → queue s q = some x →
    x.st = .enabled → x.isEvent = false → NamesApart s →
    let keep := x.ents.filter (fun e => idiff e.idx x.head < idiff first x.head)
    (q = 0 ∨ nextAttach { x with ents := keep } = none) →
    ∃ t, exec (.entryFetchReturn q first (.error k)) s = .next t ∧ t.host.herrEdges = s.host.herrEdges + 1 ∧
      ∃ y, queue t q = some y ∧ y.st = .stopped ∧ y.errCell = false ∧ y.errKind = BitVec.ofNat 3 (kindCode k) ∧
        y.ents = keep ∧ y.fetch = (if idiff first x.head < idiff x.fetch x.head then first else x.fetch)) ∧
  (∀ (q : QueueId) (first : Word) (x : Queue) (r : OutRead) (slots : List Slot) (s : State), q ≠ 0 →
    outRead s (.entries q first) = some r → slots.length * 64 = r.len → r.discard = false → queue s q = some x →
    x.fenceHold = true →
    ∃ t, exec (.entryFetchReturn q first (.data slots)) s = .next t ∧
      queue t q = some { x with ents := x.ents.map (fill first slots) } ∧
      t.out = (retireRead (.entries q first) s).out) ∧
  (∀ (q : QueueId) (i : Word) (r : OutRead) (err : Option ErrKind) (s : State), outRead s (.barrier q i) = some r →
    r.discard = true → exec (.barrierReadReturn q i err) s = .next (retireRead (.barrier q i) s)) ∧
  (∀ (q : QueueId) (i : Word) (r : OutRead) (e : Ent) (c : CplDw) (a : Nat) (s : State),
    outRead s (.barrier q i) = some r → r.discard = false → ent s q i = some e → e.st = .barrier c a →
    exec (.barrierReadReturn q i none) s = .next (flush q (endEntDw q i c (retireRead (.barrier q i) s)))) ∧
  (∀ (q : QueueId) (i : Word) (r : OutRead) (e : Ent) (c : CplDw) (a : Nat) (k : ErrKind) (s : State),
    outRead s (.barrier q i) = some r → r.discard = false → ent s q i = some e → e.st = .barrier c a →
    ∃ t, exec (.barrierReadReturn q i (some k)) s = .next t ∧ t.host.herrEdges = s.host.herrEdges + 1 ∧
      t.host.reads = (retireRead (.barrier q i) s).host.reads) ∧
  (∀ (r : ReadRef) (s : State), s.host.reads.all (fun x => !x.waiting) = true →
    (retireRead r s).host.reads = s.host.reads.eraseP (fun x => x.ref = r)) ∧
  (∀ (r : ReadRef) (o : OutRead) (s : State), outRead s r = some o → s.host.cplTimeoutOff = false →
    ∃ t, exec (.completionTimeout r) s = .next t ∧ t.host.timedOut = s.host.timedOut ++ [o.fn])

/-- Fences (R88): a signal that every entry below it has let pass advances its own counter by 1, modulo 2^32, and no
other, and its entry is completed; a wait whose value is reached ends the hold of its queue and its entry is completed,
no counter changes, and the entries behind it are attached. -/
def Obligations.FencesCount : Prop :=
  let completed := fun (t : State) (q : QueueId) (i : Word) =>
    ∀ e, ent t q i = some e → e.st = .done ∨ ∃ c, e.st = .ended c
  (∀ (q : QueueId) (i : Word) (o j : Nat) (e : Ent) (s : State), fenceEnt s q i 0x09 = some (o, j, e) →
    belowDone s q i = true →
    ∃ t, exec (.fenceSignal q i) s = .next t ∧ fenceGet t o j = fenceGet s o j + 1 ∧
      (∀ k, k ≠ o * 64 + j → getD 0 t.qe.fences k = getD 0 s.qe.fences k) ∧ completed t q i) ∧
  (∀ (q : QueueId) (i : Word) (o j : Nat) (e : Ent) (s : State), fenceEnt s q i 0x0A = some (o, j, e) →
    0 ≤ (fenceGet s o j - e.dw[9]).toInt →
    let u := complete q i (Cpl.atMaster { status := 0 }) (modQueue q (fun x => { x with fenceHold := false }) s)
    ∃ t, exec (.fenceWaitSatisfied q i) s = .next t ∧ t.qe.fences = s.qe.fences ∧ completed u q i ∧
      ∃ y, queue u q = some y ∧ y.fenceHold = false ∧ (nextAttach y = none → t = u) ∧
        ∀ f, y.st = .enabled ∨ y.st = .stopped → nextAttach y = some f → t = attachAll 511 q (attach q y f u))

/-- Queue 0 (R98, R82): QE_ADM_CTL enables it from DISABLED at a depth of 2^4 to 2^16 only, with FETCH at HEAD, and
drops the write otherwise; a disable of an ENABLED or STOPPED queue takes it to DRAINING, and to DISABLED with the next
generation and no entry once it has drained; of a DRAINING one it does nothing; of a DISABLED one it stores the depth
and no more. -/
def Obligations.AdminQueueControl : Prop :=
  (∀ (v : Word) (x : Queue) (s : State), answers s 0 = true → tst v 8 = true → queue s 0 = some x → x.st = .disabled →
    4 ≤ fld v 0 5 → fld v 0 5 ≤ 16 →
    ∃ t y, exec (.adminQueueEnable v) s = .next t ∧ queue t 0 = some y ∧ y.st = .enabled ∧ y.log2 = fld v 0 5 ∧
      (x.isEvent = false → y.head = x.head ∧ y.fetch = x.head ∧ y.ents = [] ∧ y.gen = x.gen)) ∧
  (∀ (v : Word) (x : Queue) (s : State), answers s 0 = true → tst v 8 = true → queue s 0 = some x →
    (x.st ≠ .disabled ∨ fld v 0 5 < 4 ∨ 16 < fld v 0 5) →
    exec (.adminQueueEnable v) s = .next (wakeLink (ungate s))) ∧
  (∀ (v : Word) (x : Queue) (s : State), answers s 0 = true → tst v 8 = false → queue s 0 = some x →
    x.st = .enabled ∨ x.st = .stopped →
    ∃ t y, exec (.adminQueueDisable v) s = .next t ∧ queue t 0 = some y ∧ y.drainCmd = none ∧ y.log2 = x.log2 ∧
      ((y.st = .draining ∧ y.gen = x.gen) ∨ (y.st = .disabled ∧ y.gen = x.gen + 1 ∧ y.ents = []))) ∧
  (∀ (v : Word) (x : Queue) (s : State), answers s 0 = true → tst v 8 = false → queue s 0 = some x → x.st = .disabled →
    exec (.adminQueueDisable v) s = .next (setQueue 0 { x with log2 := fld v 0 5 } (wakeLink (ungate s)))) ∧
  (∀ (v : Word) (x : Queue) (s : State), answers s 0 = true → tst v 8 = false → queue s 0 = some x → x.st = .draining →
    exec (.adminQueueDisable v) s = .next (wakeLink (ungate s)))

/-! ### Instances and mailboxes (file 11) -/

/-- Mailboxes (R300–R302): a pane write by its owner stores the bytes and no other; one that is not the owner's, that
finds the pane posted or that comes in the reset of the instance, is dropped and counted; one past the end of the pane
is completed Unsupported Request; a post that sets its bit counts an edge, and one that finds it set, or comes in the
reset, does nothing; an acknowledge clears it; RST_DONE is acknowledged alike; an access of the manager to the window of
a function that is not enabled is dropped; one whose function does not answer is completed Unsupported Request; and none
of these touches another instance. -/
def Obligations.MailboxesPass : Prop :=
  (∀ (b : Bool) (i off : Fn) (bs : List Byte) (s : State), (if b then vfOn s i.val else tenant s i.val) = true →
    answers s (if b then 0 else i.val) = true → off.val + bs.length ≤ 256 → gated s i.val = false →
    (if b then (inst s i.val).m2t else (inst s i.val).t2m) = false →
    ∃ t, exec (.mailboxPaneWrite b i b off bs) s = .next t ∧
      inst t i.val = (if b then { inst s i.val with paneM2t := writeBytes (inst s i.val).paneM2t off.val bs }
        else { inst s i.val with paneT2m := writeBytes (inst s i.val).paneT2m off.val bs })) ∧
  (∀ (b m2t : Bool) (i off : Fn) (bs : List Byte) (s : State), (if b then vfOn s i.val else tenant s i.val) = true →
    answers s (if b then 0 else i.val) = true → off.val + bs.length ≤ 256 →
    (b ≠ m2t ∨ gated s i.val = true ∨ (if m2t then (inst s i.val).m2t else (inst s i.val).t2m) = true) →
    ∃ t, exec (.mailboxPaneWrite b i m2t off bs) s = .next t ∧
      inst t i.val = { inst s i.val with drops := (inst s i.val).drops + 1 }) ∧
  (∀ (b m2t : Bool) (i off : Fn) (bs : List Byte) (s : State), (b = true ∨ tenant s i.val = true) →
    256 < off.val + bs.length →
    exec (.mailboxPaneWrite b i m2t off bs) s =
      .next { wakeLink s with out := s.out ++ [.unsupported (if b then 0 else i.val)] }) ∧
  (∀ (i : Fn) (s : State), tenant s i.val = true → answers s i.val = true →
    (gated s i.val = false → (inst s i.val).t2m = false → ∃ t, exec (.mailboxT2mPost i) s = .next t ∧
      inst t i.val = { inst s i.val with t2m := true, t2mE := (inst s i.val).t2mE + 1 }) ∧
    (gated s i.val = true ∨ (inst s i.val).t2m = true →
      exec (.mailboxT2mPost i) s = .next (wakeLink (ungate s))) ∧
    (∃ t, exec (.mailboxM2tAck i) s = .next t ∧ inst t i.val = { inst s i.val with m2t := false }) ∧
    (∃ t, exec (.rstDoneClear i) s = .next t ∧ inst t i.val = { inst s i.val with rstDone := false })) ∧
  (∀ (i : Fn) (s : State), vfOn s i.val = true → answers s 0 = true →
    (gated s i.val = false → (inst s i.val).m2t = false → ∃ t, exec (.mailboxM2tPost i) s = .next t ∧
      inst t i.val = { inst s i.val with m2t := true, m2tE := (inst s i.val).m2tE + 1 }) ∧
    (gated s i.val = true ∨ (inst s i.val).m2t = true →
      exec (.mailboxM2tPost i) s = .next (wakeLink (ungate s))) ∧
    (∃ t, exec (.mailboxT2mAck i) s = .next t ∧ inst t i.val = { inst s i.val with t2m := false })) ∧
  (∀ (m2t : Bool) (i off : Fn) (bs : List Byte) (s : State), vfOn s i.val = false → off.val + bs.length ≤ 256 →
    ∀ c ∈ [Instr.mailboxPaneWrite true i m2t off bs, .mailboxM2tPost i, .mailboxT2mAck i],
    (answers s 0 = true → exec c s = .next (wakeLink (ungate s))) ∧
    (answers s 0 = false → exec c s = .next { wakeLink s with out := s.out ++ [.unsupported 0] })) ∧
  (∀ (m2t : Bool) (i off : Fn) (bs : List Byte) (s : State), tenant s i.val = true → off.val + bs.length ≤ 256 →
    answers s i.val = false →
    ∀ c ∈ [Instr.mailboxPaneWrite false i m2t off bs, .mailboxT2mPost i, .mailboxM2tAck i, .rstDoneClear i],
    exec c s = .next { wakeLink s with out := s.out ++ [.unsupported i.val] }) ∧
  (∀ (b m2t : Bool) (i off : Fn) (bs : List Byte) (s : State),
    ∀ c ∈ [Instr.mailboxPaneWrite b i m2t off bs, .mailboxT2mPost i, .mailboxT2mAck i, .mailboxM2tPost i,
      .mailboxM2tAck i, .rstDoneClear i],
    ∃ t, exec c s = .next t ∧ ∀ j, j ≠ i.val → inst t j = inst s j)

/-- Resets and removals of tenant instances (R305, R309, R310, R312): VF Enable makes its instances exist, QUIESCED, and
cleared it resets each of them, to be removed; a function-level reset clears the function's configuration and starts a
reset with cause 2, or is merged into the one that runs; its end leaves empty panes, no posted mailbox, RST_DONE set and
counted, the record of the reset and no fence counter; a removal ends in ABSENT, or in QUIESCED where VF Enable is set
again. -/
def Obligations.InstancesResetAndLeave : Prop :=
  (∀ (n : Fn) (s : State), cfgUp s = true → n.val ≤ maxInst s → s.host.vfEnable = false →
    ∃ t, exec (.vfEnableWrite true n) s = .next t ∧ t.host.vfEnable = true ∧ t.host.numVfs = n.val ∧
      ∀ i, 1 ≤ i → i ≤ n.val → (inst s i).st = .absent → (inst t i).st = .quiesced) ∧
  (∀ (n : Fn) (s : State), cfgUp s = true → n.val ≤ maxInst s → s.host.vfEnable = true →
    ∃ t, exec (.vfEnableWrite false n) s = .next t ∧ t.host.vfEnable = false ∧
      ∀ i, 1 ≤ i → i ≤ s.host.numVfs → (inst s i).st ≠ .absent →
        (inst t i).st = .resetting ∧ (inst t i).remove = true ∧
        ((inst s i).st ≠ .resetting → (inst t i).runCause = 4)) ∧
  (∀ (i : Fn) (s : State), i.val ≠ 0 → exists' s i.val = true → (fn s i.val).dstate ≠ .d3cold →
    ∃ t, exec (.vfFunctionLevelReset i) s = .next t ∧ (inst t i.val).st = .resetting ∧
      (inst t i.val).runCause = (if (inst s i.val).st = .resetting then (inst s i.val).runCause else 2) ∧
      (inst t i.val).merged = decide ((inst s i.val).st = .resetting) ∧
      (fn t i.val).busMaster = false ∧ (fn t i.val).msixEnable = false ∧ (fn t i.val).funcMask = false ∧
      (fn t i.val).dstate = .d0 ∧ (fn t i.val).corReport = false ∧ (fn t i.val).nfReport = false) ∧
  (∀ (i : Fn) (us : Nat) (s : State), (inst s i.val).st = .resetting → (inst s i.val).removing = false →
    ∃ t, exec (.instanceResetEnd i us) s = .next t ∧ (inst t i.val).paneT2m = [] ∧ (inst t i.val).paneM2t = [] ∧
      (inst t i.val).t2m = false ∧ (inst t i.val).m2t = false ∧ (inst t i.val).rstDone = true ∧
      (inst t i.val).rstE = (inst s i.val).rstE + 1 ∧ (inst t i.val).resets = (inst s i.val).resets + 1 ∧
      (inst t i.val).cause = BitVec.ofNat 4 (inst s i.val).runCause ∧ (inst t i.val).lastUs = BitVec.ofNat 11 us ∧
      (∀ j : Fin 64, fenceGet t i.val j.val = 0)) ∧
  (∀ (i : Fn) (s : State), (inst s i.val).st = .resetting → (inst s i.val).removing = true →
    ∃ t, exec (.instanceRemovalEnd i) s = .next t ∧ (inst t i.val).removing = false ∧
      (inst t i.val).st = (if s.host.vfEnable ∧ i.val ≤ s.host.numVfs then .quiesced else .absent))

/-! ### Scheduler and engines (files 05, 07) -/

/-- One scheduler decision of the port whose turn it is (R139, R145, R153, R191, R268): it is counted in SCH_DEC and
the turn passes on before anything is chosen; the pipe that the periodic class, or else deficit round robin, or else
the scavenger chooses gets the last burst descriptor of its engine, with the planned packets and their charge; where
the periodic class chooses none, a probe that is ready is on its way, and else a SET_ADDRESS. MODEL'S CHOICE (log
143): the order of the halves' probes and SET_ADDRESSes. The burst goes on the wire at once when half 0 has no other
there, and on half 1 just when none is there but for open split transactions and its charge fits before the end of the
frame; 16 bursts on the wire make it wait (Table 7-1). -/
def Obligations.SchedulerDecides : Prop :=
  ∀ (p : Port) (mem : ChipAnswer) (s : State), turnPort (catchAll s) = some p.val →
    let u := grantAll (chipError mem (catchAll s))
    let s0 := prefetch p { u with sched := { u.sched with dec := u.sched.dec + 1, rr := (p.val + 1) % 8 } }
    let a := pickPeriodic p s0 (psched s0 p).klass
    let b := pickAsync p 16 a.1 false
    let c := pickScav p ((List.range 16).map (fun i => (i + (psched b.1 p).scavenger) % 16)) b.1
    let none' := a.2 = none ∧ probeReady a.1 p 0 = none ∧ probeReady a.1 p 1 = none
    let busy := fun (x : Pipe) => (engine u x.port (pHalf x)).descs.filter onBus
    let placed := fun (t : State) (n : Nat) (x : Pipe) (pl : Plan) => ∃ d : Desc,
      (engine t x.port (pHalf x)).descs.getLast? = some d ∧
      (engine t x.port (pHalf x)).descs.map (·.pipe) = (engine u x.port (pHalf x)).descs.map (·.pipe) ++ [n] ∧
      d.pipe = n ∧ d.count = pl.count ∧ d.charged = planCharge x pl ∧ d.carried = 0 ∧
      (pHalf x = 0 → (busy x = [] → d.onWire = true) ∧ (16 ≤ (busy x).length → d.onWire = false)) ∧
      (pHalf x = 1 → (d.onWire = true ↔ busy x = [] ∧ planCharge x pl ≤ frameLeft u x.port))
    ∃ t, exec (.schedulerDecision p mem) s = .next t ∧ Touches (mayChange (.schedulerDecision p mem)) s t ∧
      t.sched.dec = u.sched.dec + 1 ∧ t.sched.rr = (p.val + 1) % 8 ∧
      (∀ n x pl, a.2 = some (n, x, pl) → placed t n x pl) ∧
      (∀ w hub hp, a.2 = none → probeReady a.1 p 0 = some (w, hub, hp) →
        find t.sump.walks (p.val * 2) = some { w with probing := true }) ∧
      (∀ w hub hp, a.2 = none → probeReady a.1 p 0 = none → probeReady a.1 p 1 = some (w, hub, hp) →
        find t.sump.walks (p.val * 2 + 1) = some { w with probing := true }) ∧
      (∀ a', none' → setReady a.1 p 0 = some a' → (engine t p 0).setSent = true) ∧
      (∀ a', none' → setReady a.1 p 0 = none → setReady a.1 p 1 = some a' → (engine t p 1).setSent = true) ∧
      (∀ n x pl g, none' → setReady a.1 p 0 = none → setReady a.1 p 1 = none → b.2.2 = some (n, x, pl, g) →
        placed t n x pl) ∧
      (∀ n x pl, none' → setReady a.1 p 0 = none → setReady a.1 p 1 = none → b.2.2 = none → b.2.1 = false →
        c.2 = some (n, x, pl) → placed t n x pl)

/-- A port's bus interval (R220, Table 8-1): its number is one more, or the master's at the first tick after power-on or
return; no other port's number moves; every descriptor in the port's engines counts as dispatched in an earlier
interval, unless the FAB clock is gated (R387). -/
def Obligations.PortIntervalAdvances : Prop :=
  ∀ (p : Port) (s : State), s.iso.running = true → (port s p).inService = true →
    ∃ t, exec (.portIntervalTick p) s = .next t ∧
      (ptime t p).num = (if (ptime s p).load then s.iso.mic else (ptime s p).num + 1) ∧ (ptime t p).load = false ∧
      (∀ q, q ≠ p.val → ptime t q = ptime s q) ∧
      (s.pm.gated = false → ∀ h, h < 2 → ∀ d ∈ (engine t p h).descs, d.oldRoom = true)

/-- A context arrives from the cellar (R152, R278): it is in the cache or, while that has a place, in the pin overflow,
and is asked for no more; a corrected word is counted for its cellar channel; an uncorrectable one is counted, and the
pipe is closed: at once, or CLOSING while a packet of it is on the wire. -/
def Obligations.ContextsArrive : Prop :=
  ∀ (n : PipeId) (s : State), n.val ∈ s.sched.fills →
    (∃ t, exec (.contextFill n .good) s = .next t ∧ n.val ∉ t.sched.fills ∧
      (s.sched.overflow.length < 2048 →
        t.sched.cache.any (fun c => c.1 = n.val) = true ∨ n.val ∈ t.sched.overflow) ∧ t.sched.pipes = s.sched.pipes) ∧
    (∃ t, exec (.contextFill n .corrected) s = .next t ∧ n.val ∉ t.sched.fills ∧
      t.sump.cel0Ce = s.sump.cel0Ce + (if celOf s n = 0 then 1 else 0) ∧
      t.sump.cel1Ce = s.sump.cel1Ce + (if celOf s n = 0 then 0 else 1)) ∧
    (∃ t, exec (.contextFill n .uncorrectable) s = .next t ∧
      (pipe t n = none ∨ ∃ y, pipe t n = some y ∧ y.state = .closing) ∧ t.sump.memUe = true ∧
      t.sump.cel0Ue = s.sump.cel0Ue + (if celOf s n = 0 then 1 else 0) ∧
      t.sump.cel1Ue = s.sump.cel1Ue + (if celOf s n = 0 then 0 else 1))

/-- What takes a burst off its engine (R104, R191, R199, R202, R203, R214): after NRDY, STALL, a NAK outside a setup
stage, the report of a burst's end, the end of a split's close and a babble behind a hub, the engine of the pipe's half
holds no descriptor of the pipe; a babble directly on half 1 takes the half out of service. -/
def Obligations.BurstsLeaveTheEngine : Prop :=
  (∀ (n : PipeId) (x : Pipe) (d : Desc) (s : State), OnWire s n x d → pHalf x = 0 →
    x.kind ≠ .iso → ∃ t, exec (.nrdyReceived n) s = .next t ∧ ∀ e ∈ (engine t x.port 0).descs, e.pipe ≠ n.val) ∧
  (∀ (n : PipeId) (x : Pipe) (d : Desc) (s : State), OnWire s n x d → x.kind ≠ .iso →
    (x.split = false ∨ d.csplit = true) →
    ∃ t, exec (.stallReceived n) s = .next t ∧ ∀ e ∈ (engine t x.port (pHalf x)).descs, e.pipe ≠ n.val) ∧
  (∀ (n : PipeId) (x : Pipe) (d : Desc) (s : State), OnWire s n x d → pHalf x = 1 →
    x.kind ≠ .iso → (x.kind ≠ .control ∨ x.stage ≠ 0 ∨ (x.split = true ∧ d.csplit = false)) →
    ∃ t, exec (.nakReceived n) s = .next t ∧ ∀ e ∈ (engine t x.port 1).descs, e.pipe ≠ n.val) ∧
  (∀ (n : PipeId) (x : Pipe) (d : Desc) (s : State), descOf s n = some (x, d) → burstDue s x d = true →
    d.onWire = false →
    ∃ t, exec (.burstEnd n) s = .next t ∧ ∀ f ∈ (engine t x.port (pHalf x)).descs, f.pipe ≠ n.val) ∧
  (∀ (n : PipeId) (x y : Pipe) (d e : Desc) (s : State), descOf s n = some (x, d) → burstDue s x d = true →
    d.onWire = true → descOf (isoOutSent n x s) n = some (y, e) →
    ∃ t, exec (.burstEnd n) s = .next t ∧ ∀ f ∈ (engine t y.port (pHalf y)).descs, f.pipe ≠ n.val) ∧
  (∀ (n : PipeId) (x : Pipe) (d : Desc) (s : State), descOf s n = some (x, d) → x.kind ≠ .iso →
    descOf (isoOutSent n x s) n = some (x, d)) ∧
  (∀ (n : PipeId) (x : Pipe) (s : State), pipe s n = some x → x.state = .closing → x.split = true → x.splitOut = true →
    ∃ t, exec (.splitCloseTimeout n) s = .next t ∧ (∀ e ∈ (engine t x.port (pHalf x)).descs, e.pipe ≠ n.val) ∧
      (x.x = none → (∀ kv ∈ s.cis.xfers, kv.2.pipe ≠ some n.val) → pipe t n = none)) ∧
  (∀ (p : Port) (s : State), inState s p 1 .enabled = true → exec (.endOfFrameGuard p none) s = .next s) ∧
  (∀ (p : Port) (n : PipeId) (x : Pipe) (s : State), babbles s p n = some x → pathTo s p 6 x.addr ≠ [] →
    ∃ t, exec (.endOfFrameGuard p (some n)) s = .next t ∧ ∀ e ∈ (engine t p 1).descs, e.pipe ≠ n.val) ∧
  (∀ (p : Port) (n : PipeId) (x : Pipe) (s : State), babbles s p n = some x → pathTo s p 6 x.addr = [] →
    ∃ t, exec (.endOfFrameGuard p (some n)) s = .next t ∧ (halfReg t p 1).st = .disabled)

/-- Bus errors (R195, Table 7-2): the first and the second on a packet are counted as retries of the half; the third
is counted in XERRS and ends the burst. A burst of a pipe that is CLOSING is not retried (R214), so the pipe is not
that. -/
def Obligations.BusErrorsAreCounted : Prop :=
  ∀ (n : PipeId) (x : Pipe) (d : Desc) (s : State), OnWire s n x d → x.kind ≠ .iso → x.state ≠ .closing →
    let counted := fun (t : State) =>
      (engine t x.port (pHalf x)).retries = (engine s x.port (pHalf x)).retries + (if x.errs < 2 then 1 else 0) ∧
      (engine t x.port (pHalf x)).xerrs = (engine s x.port (pHalf x)).xerrs + (if x.errs < 2 then 0 else 1) ∧
      (2 ≤ x.errs → ∀ e ∈ (engine t x.port (pHalf x)).descs, e.pipe ≠ n.val)
    (∃ t, exec (.responseTimeout n) s = .next t ∧ counted t) ∧
    (x.split = true → d.csplit = true → ∃ t, exec (.hubErrReceived n) s = .next t ∧ counted t) ∧
    (∀ pkt k, x.x = some k → receiving s x = true → (x.split = false ∨ d.csplit = true) →
      (pkt.crcOk = false ∨ pkt.typeOk = false) →
      ∃ t, exec (.dataPacketReceived n pkt) s = .next t ∧ counted t) ∧
    (∀ a k, x.x = some k → sending s x d = true → (x.split = false ∨ d.csplit = true) →
      (a.allowed = false ∨ a.retry = true) → ∃ t, exec (.ackReceived n a) s = .next t ∧ counted t) ∧
    (x.kind = .control → x.stage = 0 → pHalf x = 1 → (x.split = false ∨ d.csplit = true) →
      ∃ t, exec (.nakReceived n) s = .next t ∧ counted t)

/-- Packets that pass (R197, R198, R202, R204, R205, R212): the burst's descriptor has carried one more; the
acknowledgement of a PING carries none; a start-split that is acknowledged has its complete-split due; a NYET to a
complete-split that is not the last costs one more, at the handshake's charge for the pipe's speed (Table 5-4); a NYET
to data of a high-speed OUT passes the packet. -/
def Obligations.PacketsAreCarried : Prop :=
  (∀ (n : PipeId) (k : Nat) (x : Pipe) (d : Desc) (y : Xfer) (pkt : InPacket) (s : State), OnWire s n x d →
    x.x = some k → receiving s x = true → (x.split = false ∨ d.csplit = true) →
    pkt.crcOk = true → pkt.typeOk = true → x.kind ≠ .iso → xfer s k = some y →
    (if pHalf x = 0 then pkt.seq % 32 = x.seq.toNat else pkt.seq % 2 = (x.seq &&& 1).toNat) →
    pkt.data.length ≤ x.mps → ((total s y).2 = true → y.inPos + pkt.data.length ≤ (total s y).1) →
    ∃ t e, exec (.dataPacketReceived n pkt) s = .next t ∧
      (engine t x.port (pHalf x)).descs.find? (fun d => d.pipe = n.val) = some e ∧ e.carried = d.carried + 1 ∧
      e.used = d.used + pipeCharge x pkt.data.length ∧ e.charged = d.charged) ∧
  (∀ (n : PipeId) (k : Nat) (x : Pipe) (d : Desc) (a : Ack) (s : State), OnWire s n x d →
    x.x = some k → sending s x d = true → x.split = true → d.csplit = false → a.allowed = true →
    exec (.ackReceived n a) s = .next (modDesc n (fun d => { d with csplit := true }) s)) ∧
  (∀ (n : PipeId) (k : Nat) (x : Pipe) (d : Desc) (a : Ack) (y : Xfer) (s : State), OnWire s n x d →
    x.x = some k → xfer s k = some y → sending s x d = true → (x.split = false ∨ d.csplit = true) →
    a.allowed = true → a.retry = false →
    (pings s x = false ∨ x.seq.getLsbD 1 = false ∨ (x.kind = .control ∧ (x.stage = 0 ∨ x.stage = 2))) →
    ∃ t e, exec (.ackReceived n a) s = .next t ∧
      (engine t x.port (pHalf x)).descs.find? (fun d => d.pipe = n.val) = some e ∧
      e.carried = (if x.kind = .control ∧ (x.stage = 0 ∨ x.stage = 2) then 1 else d.carried + 1) ∧
      e.charged = d.charged) ∧
  (∀ (n : PipeId) (k : Nat) (x : Pipe) (d : Desc) (a : Ack) (s : State), OnWire s n x d → x.x = some k →
    sending s x d = true → a.allowed = true → a.retry = false → pings s x = true → x.seq.getLsbD 1 = true →
    ∃ t e, exec (.ackReceived n a) s = .next t ∧
      (engine t x.port (pHalf x)).descs.find? (fun d => d.pipe = n.val) = some e ∧ e.carried = d.carried ∧
      e.used = d.used + hsCharge x.speed) ∧
  (∀ (n : PipeId) (k : Nat) (x : Pipe) (d : Desc) (s : State), OnWire s n x d → x.x = some k →
    pHalf x = 1 → x.split = true → d.csplit = true → (periodic x = false ∨ x.splits ≠ []) →
    ∃ t e, exec (.nyetReceived n) s = .next t ∧
      (engine t x.port 1).descs.find? (fun d => d.pipe = n.val) = some e ∧ e.used = d.used + hsCharge x.speed ∧
      e.charged = d.charged + hsCharge x.speed ∧ e.carried = d.carried) ∧
  (∀ (n : PipeId) (k : Nat) (x : Pipe) (d : Desc) (y : Xfer) (s : State), OnWire s n x d → x.x = some k →
    xfer s k = some y → pHalf x = 1 → x.split = false → pings s x = true → x.seq.getLsbD 1 = false →
    ∃ t e, exec (.nyetReceived n) s = .next t ∧
      (engine t x.port 1).descs.find? (fun d => d.pipe = n.val) = some e ∧ e.carried = d.carried + 1)

/-- ERDY (R160, Table 5-2): a second ERDY for a pipe that is not dispatched yet is dropped and counted in SCH_STRAY, for
a pipe and for a stream's own pipe, and so is one for a pipe that is READY, halted, closing or not open; the first one
for an ACTIVE pipe is kept in ERDY_PEND; a parked pipe with entries is READY again. -/
def Obligations.ErdyIsHonouredOnce : Prop :=
  (∀ (n : PipeId) (st : Nat) (x : Pipe) (s : State), pipe s n = some x → x.kind ≠ .streamEp →
    (x.state = .ready ∨ x.state = .halted ∨ x.state = .closing ∨
      x.erdyPend = true ∧ x.stopping = false ∧ (x.state = .active ∨ x.state = .held)) →
    exec (.erdyReceived n st) s = .next { ungate s with sched := { s.sched with stray := s.sched.stray + 1 } }) ∧
  (∀ (n : PipeId) (st : Nat) (e x : Pipe) (s : State), pipe s n = some e → e.kind = .streamEp → 1 ≤ st →
    st ≤ e.streams → pipe s (e.link + st - 1) = some x →
    (x.erdyPend = true ∧ (x.ents ≠ [] ∨ x.state ≠ .parked) ∨
      x.state = .ready ∧ x.ents ≠ [] ∧ x.sstate = 2 ∧ e.curStream = st) →
    ∃ t y, exec (.erdyReceived n st) s = .next t ∧ t.sched.stray = s.sched.stray + 1 ∧
      pipe t (e.link + st - 1) = some y ∧ y.state = x.state ∧ y.erdyPend = x.erdyPend ∧ y.ents = x.ents) ∧
  (∀ (n : PipeId) (st : Nat) (x : Pipe) (s : State), pipe s n = some x → x.kind ≠ .streamEp → x.state = .stopped →
    ∃ t y, exec (.erdyReceived n st) s = .next t ∧ pipe t n = some y ∧ y.state = .stopped ∧ y.erdyPend = true ∧
      y.ents = x.ents ∧ t.sched.stray = s.sched.stray + (if x.erdyPend then 1 else 0)) ∧
  (∀ (n : PipeId) (st : Nat) (s : State), pipe s n = none →
    exec (.erdyReceived n st) s = .next { ungate s with sched := { s.sched with stray := s.sched.stray + 1 } }) ∧
  (∀ (n : PipeId) (st : Nat) (x : Pipe) (s : State), pipe s n = some x → x.kind ≠ .streamEp → x.state = .active →
    x.erdyPend = false → x.stopping = false →
    ∃ t, exec (.erdyReceived n st) s = .next t ∧ pipe t n = some { x with erdyPend := true } ∧
      t.sched.stray = s.sched.stray) ∧
  (∀ (n : PipeId) (st : Nat) (x : Pipe) (s : State), pipe s n = some x → x.kind ≠ .streamEp → x.state = .parked →
    x.ents ≠ [] → x.x ≠ none →
    ∃ t, exec (.erdyReceived n st) s = .next t ∧ pipe t n = some { x with state := .ready, waitErdy := false } ∧
      t.sched.stray = s.sched.stray)

/-! ### Root ports (file 06) -/

/-- Requests of PRT_SC (R172, R175–R178, Tables 6-3, 6-4): a reset takes a half that is ENABLED, SUSPENDED, RESUMING or
DISABLED to RESETTING, a warm one when WPR asks for it and from DISABLED and RESUMING; a disable, a suspend and a resume
act where Table 6-3 has them; a request that changes nothing is counted in PRT_CNT.IGNORED. -/
def Obligations.PortRequestsAct : Prop :=
  ∀ (p : Port) (h : Half) (v : Word) (s : State), answers s 0 = true → portUp s p = true →
    (tst v 4 = true → (∃ t, exec (.portReset p h v) s = .next t ∧
      ((halfReg s p h).st = .enabled ∨ (halfReg s p h).st = .suspended →
        (halfReg t p h).st = .resetting ∧ (halfReg t p h).warm = tst v 5) ∧
      ((halfReg s p h).st = .disabled ∨ (halfReg s p h).st = .resuming →
        (halfReg t p h).st = .resetting ∧ (halfReg t p h).warm = true) ∧
      ((halfReg s p h).st = .poweredOff ∨ (halfReg s p h).st = .resetting →
        (halfReg t p h).st = (halfReg s p h).st ∧ (port t p).ignored = (port s p).ignored + 1 +
          BitVec.ofNat 8 (b1 (tst v 5) + b1 (tst v 6) + b1 (tst v 8) + b1 (tst v 7))))) ∧
    (tst v 5 = true → ∃ t, exec (.warmPortReset p h v) s = .next t ∧
      ((halfReg s p h).st = .enabled ∨ (halfReg s p h).st = .suspended ∨ (halfReg s p h).st = .disabled ∨
        (halfReg s p h).st = .resuming → (halfReg t p h).st = .resetting ∧ (halfReg t p h).warm = true)) ∧
    (tst v 6 = true → tst v 4 = false → tst v 5 = false → ∃ t, exec (.portDisable p h v) s = .next t ∧
      ((halfReg s p h).st = .enabled ∨ (halfReg s p h).st = .suspended → (halfReg t p h).st = .disabled) ∧
      ((halfReg s p h).st = .resetting ∨ (halfReg s p h).st = .resuming →
        (halfReg t p h).st = (halfReg s p h).st ∧ (port t p).ignored = (port s p).ignored + 1 +
          BitVec.ofNat 8 (b1 (tst v 8) + b1 (tst v 7)))) ∧
    (tst v 7 = true → tst v 4 = false → tst v 5 = false → tst v 6 = false → tst v 8 = false →
      ∃ t, exec (.portSuspend p h v) s = .next t ∧ (halfReg t p h).st = (halfReg s p h).st ∧
        ((halfReg s p h).st = .enabled → isoOpen s p h = false → (halfReg t p h).suspending = true) ∧
        ((halfReg s p h).st = .enabled → isoOpen s p h = true →
          (halfReg t p h).suspending = (halfReg s p h).suspending ∧ (port t p).ignored = (port s p).ignored + 1)) ∧
    (tst v 8 = true → tst v 4 = false → tst v 5 = false → tst v 6 = false →
      ∃ t, exec (.portResume p h v) s = .next t ∧
        ((halfReg s p h).st = .suspended → (halfReg t p h).st = .resuming ∧ (halfReg t p h).rsHost = true ∧
          (halfReg t p h).wHost = true ∧ (halfReg t p h).hostE = (halfReg s p h).hostE + 1))

/-- How resets, suspends and resumes end (Table 6-4, R178, R179). -/
def Obligations.PortMovesEnd : Prop :=
  (∀ (p : Port) (h : Half) (v : Fin 7) (s : State), inState s p h .resetting = true → speedAllowed s p h v = true →
    ∃ t, exec (.portResetComplete p h v) s = .next t ∧ (halfReg t p h).st = .enabled ∧ (halfReg t p h).prc = true ∧
      (halfReg t p h).prcE = (halfReg s p h).prcE + 1 ∧ (halfReg t p h).ccs = true ∧
      (halfReg t p h).speed = BitVec.ofNat 3 v.val) ∧
  (∀ (p : Port) (h : Half) (s : State), inState s p h .resetting = true →
    ∃ t, exec (.portResetTimeout p h) s = .next t ∧
      (if h = 0 ∧ (halfReg s p 0).warm = false then (halfReg t p 0).st = .resetting ∧ (halfReg t p 0).warm = true
       else (halfReg t p h).st = .disabled ∧ (halfReg t p h).errE = (halfReg s p h).errE + 1 ∧
        (halfReg t p h).prcE = (halfReg s p h).prcE + 1)) ∧
  (∀ (p : Port) (h : Half) (s : State), inState s p h .enabled = true → (halfReg s p h).suspending = true →
    ∃ t, exec (.suspendComplete p h) s = .next t ∧ (halfReg t p h).suspending = false ∧
      (halfReg t p h).plcE = (halfReg s p h).plcE + 1 ∧
      (halfReg t p h).st = (if (halfReg s p h).wakeWith then .resuming else .suspended)) ∧
  (∀ (p : Port) (h : Half) (s : State), inState s p h .resuming = true →
    ∃ t, exec (.resumeComplete p h) s = .next t ∧ (halfReg t p h).st = .enabled ∧
      (halfReg t p h).plcE = (halfReg s p h).plcE + 1) ∧
  (∀ (p : Port) (s : State), inState s p 0 .resuming = true →
    ∃ t, exec (.u3ExitTimeout p) s = .next t ∧ (halfReg t p 0).st = .disabled ∧
      (halfReg t p 0).pecE = (halfReg s p 0).pecE + 1 ∧ (halfReg t p 0).errE = (halfReg s p 0).errE + 1) ∧
  (∀ (p : Port) (h : Half) (s : State), inState s p h .suspended = true ∨ inState s p h .resuming = true →
    ∃ t, exec (.unitWake p h) s = .next t ∧ (halfReg t p h).st = .resuming ∧ (halfReg t p h).rsUnit = true ∧
      (halfReg t p h).unitE = (halfReg s p h).unitE + 1) ∧
  (∀ (p : Port) (s : State), inState s p 1 .enabled = true → (halfReg s p 1).lstate = 2 →
    exec (.unitWake p 1) s = .next { s with out := s.out ++ [.bus p.val 1 .resume] }) ∧
  (∀ (p : Port) (a : BitVec 7) (s : State), inState s p 0 .enabled = true →
    ∃ t, exec (.functionWakeNotification p a) s = .next t ∧ (halfReg t p 0).fwake = true ∧ (halfReg t p 0).wAddr = a ∧
      (halfReg t p 0).unitE = (halfReg s p 0).unitE + 1 ∧
      ((halfReg s p 0).suspending = true → (halfReg t p 0).wakeWith = true ∧ t.out = s.out))

/-- Connects, failed trainings, disconnects, link failures and the loss of lane 1 (Table 6-3, R180). -/
def Obligations.PortConnections : Prop :=
  (∀ (p : Port) (v : Fin 4) (s : State), inState s p 0 .disconnected = true → (halfReg s p 0).lstate ≠ 4 →
    ssAllowed s p v = true →
    (∃ t, exec (.ssTrainingComplete p v false) s = .next t ∧ (halfReg t p 0).st = .enabled ∧
      (halfReg t p 0).ccs = true ∧ (halfReg t p 0).cscE = (halfReg s p 0).cscE + 1 ∧
      (halfReg t p 0).speed = BitVec.ofNat 3 v.val) ∧
    exec (.ssTrainingComplete p v true) s = .next (modHalf p 0 (fun x => { x with lstate := 10, tries := 0 }) s)) ∧
  (∀ (p : Port) (s : State), inState s p 0 .disconnected = true → (halfReg s p 0).lstate ≠ 4 →
    ∃ t, exec (.trainingFailed p) s = .next t ∧ (halfReg t p 0).st = .disconnected ∧ (halfReg t p 0).lstate = 4 ∧
      (halfReg t p 0).errE = (halfReg s p 0).errE + 1 ∧ (halfReg t p 0).tries = 0) ∧
  (∀ (p : Port) (s : State), inState s p 0 .disconnected = true → (halfReg s p 0).lstate ≠ 4 →
    (halfReg s p 0).lstate ≠ 9 →
    ∃ t, exec (.pollingTimeout p) s = .next t ∧ (halfReg t p 0).st = .disconnected ∧
      (compEn s p = true → (halfReg t p 0).lstate = 9) ∧
      (compEn s p = false → (halfReg s p 0).tries + 1 < trainTries s p → (halfReg t p 0).lstate = 5 ∧
        (halfReg t p 0).tries = (halfReg s p 0).tries + 1 ∧
        (halfReg t p 0).trainFail = (halfReg s p 0).trainFail + 1) ∧
      (compEn s p = false → trainTries s p ≤ (halfReg s p 0).tries + 1 → (halfReg t p 0).lstate = 4 ∧
        (halfReg t p 0).errE = (halfReg s p 0).errE + 1)) ∧
  (∀ (p : Port) (low : Bool) (s : State), inState s p 1 .disconnected = true →
    ∃ t, exec (.usb2ConnectDebounce p low) s = .next t ∧ (halfReg t p 1).st = .disabled ∧ (halfReg t p 1).ccs = true ∧
      (halfReg t p 1).speed = (if low then 6 else 5) ∧ (halfReg t p 1).cscE = (halfReg s p 1).cscE + 1) ∧
  (∀ (p : Port) (h : Half) (s : State), portUp s p = true → (halfReg s p h).st ≠ .poweredOff →
    (halfReg s p h).st ≠ .disconnected →
    ∃ t, exec (.disconnectDetected p h) s = .next t ∧ (halfReg t p h).st = .disconnected ∧
      (halfReg t p h).ccs = false ∧ (halfReg t p h).cscE = (halfReg s p h).cscE + 1) ∧
  (∀ (p : Port) (h : Half) (s : State), inState s p h .enabled = true →
    ∃ t, exec (.linkFailure p h) s = .next t ∧ (halfReg t p h).st = .disabled ∧
      (halfReg t p h).pecE = (halfReg s p h).pecE + 1 ∧ (halfReg t p h).errE = (halfReg s p h).errE + 1 ∧
      (halfReg t p h).linkErr = (halfReg s p h).linkErr + 1) ∧
  (∀ (p : Port) (s : State), inState s p 0 .enabled = true → (halfReg s p 0).lanes = 2 →
    (halfReg s p 0).lstate = 0 →
    ∃ t, exec (.lane1Loss p) s = .next t ∧ (halfReg t p 0).dgcE = (halfReg s p 0).dgcE + 1 ∧
      (halfReg t p 0).recov = (halfReg s p 0).recov + 1 ∧ (halfReg t p 0).linkErr = (halfReg s p 0).linkErr + 1 ∧
      (halfReg t p 0).lanes = 1 ∧
      (halfReg t p 0).speed = BitVec.ofNat 3 (x1Speed (halfReg s p 0).speed.toNat))

/-- Type-C and port power (R168–R171): each CC reading takes the band of R168 that it lies in, and keeps the band it had
between two bands; a condition is accepted after its debounce; PP holds what is written. -/
def Obligations.PortPowerAndTypeC : Prop :=
  (∀ (p : Port) (v : Word) (s : State), answers s 0 = true → portUp s p = true →
    ∃ t, exec (.portPowerWrite p v) s = .next t ∧ (port t p).pp = tst v 0) ∧
  (∀ (p : Port) (a b : Nat) (s : State), portFused s p = true →
    let band := fun (old : BitVec 2) (mv : Nat) => if 2600 < mv then 0 else if 850 ≤ mv ∧ mv ≤ 2450 then 1
      else if mv < 750 then 2 else old
    ∃ t, exec (.ccLevelChange p a b) s = .next t ∧ (port t p).ccNow1 = band (port s p).ccNow1 a ∧
      (port t p).ccNow2 = band (port s p).ccNow2 b ∧ Touches [.portReg] s t ∧
      ∀ q, q ≠ p.val → port t q = port s q) ∧
  (∀ (p : Port) (s : State), ccRead s p = true →
    ((port s p).ccNow1 ≠ (port s p).cc1 ∨ (port s p).ccNow2 ≠ (port s p).cc2) →
    ∃ t, exec (.ccDebounceExpiry p) s = .next t ∧ (port t p).cc1 = (port s p).ccNow1 ∧
      (port t p).cc2 = (port s p).ccNow2 ∧
      (port t p).attached = decide (((port s p).ccNow1 = 1) ≠ ((port s p).ccNow2 = 1)) ∧
      (port t p).tcChg = true ∧ (port t p).tcE = (port s p).tcE + 1)

/-- Link power states (R182–R184, R221): a request of the unit is answered LXU or taken; the idle timers enter U1, U2
and L1 and count the entry; at U0 or L0 the packets that waited leave in their order, an ITP first, and the idle
period that begins takes the timeouts of the active set. -/
def Obligations.LinkPowerStates : Prop :=
  (∀ (p : Port) (u2 : Bool) (s : State), awake s p u2 = true →
    ((if u2 then u2To s p else u1To s p) = 0 ∨ periodicOpen s p 0 = true ∨ burstWaits s p 0 = true) →
    exec (.u1U2RequestRx p u2) s = .next { s with out := s.out ++ [.bus p.val 0 .lxu] }) ∧
  (∀ (p : Port) (u2 : Bool) (s : State), awake s p u2 = true → (if u2 then u2To s p else u1To s p) ≠ 0 →
    periodicOpen s p 0 = false → burstWaits s p 0 = false →
    ∃ t, exec (.u1U2RequestRx p u2) s = .next t ∧ (halfReg t p 0).lstate = (if u2 then 2 else 1) ∧
      (halfReg t p 0).u1Ent = (halfReg s p 0).u1Ent + (if u2 then 0 else 1) ∧
      (halfReg t p 0).u2Ent = (halfReg s p 0).u2Ent + (if u2 then 1 else 0) ∧ t.out = s.out) ∧
  (∀ (p : Port) (u2 : Bool) (s : State), awake s p u2 = true → (if u2 then u2To s p else u1To s p) ≠ 0 →
    (if u2 then u2To s p else u1To s p) ≠ 0xFF → periodicOpen s p 0 = false → burstWaits s p 0 = false →
    ∃ t, exec (.linkIdleTimeout p u2) s = .next t ∧ (halfReg t p 0).lstate = (if u2 then 2 else 1) ∧
      (halfReg t p 0).u1Ent = (halfReg s p 0).u1Ent + (if u2 then 0 else 1) ∧
      (halfReg t p 0).u2Ent = (halfReg s p 0).u2Ent + (if u2 then 1 else 0) ∧
      t.out = s.out ++ [.bus p.val 0 (.lgo (if u2 then 2 else 1))]) ∧
  (∀ (p : Port) (s : State), inState s p 1 .enabled = true → (halfReg s p 1).lstate = 0 →
    fld (halfReg s p 1).lpm 16 8 ≠ 0 →
    (port s p).units.any (fun kv => kv.2.half = 1 && kv.2.parent = 0) = true → periodicOpen s p 1 = false →
    burstWaits s p 1 = false →
    ∃ t, exec (.lpmIdleTimeout p) s = .next t ∧ (halfReg t p 1).lstate = 2 ∧
      (halfReg t p 1).u2Ent = (halfReg s p 1).u2Ent + 1 ∧
      t.out = s.out ++ [.bus p.val 1 (.lpm (fld (halfReg s p 1).lpm 24 4) (tst (halfReg s p 1).lpm 28))]) ∧
  (∀ (p : Port) (h : Half) (s : State), portUp s p = true → asleep s p h = true →
    (h = 0 ∨ (halfReg s p h).itpDue = false) →
    ∃ t, exec (.linkU0Reached p h) s = .next t ∧ (halfReg t p h).lstate = 0 ∧ (halfReg t p h).txHeld = [] ∧
      (halfReg t p h).lpm = cfgLpm s p ∧
      ((halfReg s p h).lpm = cfgLpm s p → t.out = s.out ++ (if (halfReg s p h).itpDue then
          [.bus p.val 0 (.itp ((ptime s p).num.toNat % 16384) (itpDelta s p))] else []) ++
        (halfReg s p h).txHeld.map (fun k => .bus p.val h.val k)))

/-! ### The timebase (file 08) -/

/-- The master interval (R219, R223): the tick adds one to ISO_MIC and starts at position 0; a read of ISO_MIC takes the
snapshot of the position. -/
def Obligations.MasterIntervalTicks : Prop :=
  (∀ s : State, s.iso.running = true →
    exec .masterIntervalTick s = .next { s with iso := { s.iso with mic := s.iso.mic + 1, pos := 0 } }) ∧
  (∀ s : State, answers s 0 = true → exec .isoMicRead s = .next { wakeLink (ungate s) with
    iso := { s.iso with snap := s.iso.pos }, out := s.out ++ [.readData s.iso.mic] }) ∧
  (∀ s : State, answers s 0 = false → exec .isoMicRead s = .next { wakeLink s with out := s.out ++ [.unsupported 0] })

/-- The lock to AREF (R225–R227, Table 8-3): each event of the table leaves the timebase as its row says, and nothing
else of it changes: the state, with LOCK_CHG and LOCK_E for every change of it; the anchor, valid in LOCKED only; the
losses; the range errors; and the measured deviation with its class. -/
def Obligations.LockStatesMove : Prop :=
  let moved := fun (dst : LockSt) (b : Timebase) =>
    { b with lock := dst, anchValid := b.anchValid && dst = .locked, lockChg := true, lockE := b.lockE + 1 }
  let bad := fun (s : State) (b : Timebase) => match b.lock with
    | .locked =>
      let h := { moved .holdover b with losses := b.losses + 1 }
      if fld (cfg s 0x300000) 8 12 = 0 then moved .free h else h
    | .acquiring => moved .free b
    | _ => b
  let good := fun (b : Timebase) => if b.lock = .holdover then moved .acquiring b else b
  let inRange' := fun (dev : BitVec 16) (old : Bool) =>
    if dev.toInt.natAbs ≤ 10000 then true else if 12000 < dev.toInt.natAbs then false else old
  (∀ (ph : BitVec 16) (s : State), s.iso.lock = .acquiring → arefOk s = true →
    ∃ t, exec (.lockAcquired ph) s = .next t ∧
      t.iso = { moved .locked s.iso with anchValid := true, anchN := s.iso.mic + 1, anchPh := ph }) ∧
  (∀ s : State, s.iso.lock = .acquiring →
    ∃ t, exec .acquisitionTimeout s = .next t ∧
      t.iso = { moved .free s.iso with rangeErr := true, rangeE := s.iso.rangeE + 1 }) ∧
  (∀ s : State, s.iso.lock = .locked →
    ∃ t, exec .arefPhaseError s = .next t ∧ t.iso = { moved .acquiring s.iso with losses := s.iso.losses + 1 }) ∧
  (∀ s : State, s.iso.arefPresent = true →
    ∃ t, exec .arefLost s = .next t ∧
      t.iso = (if s.iso.arefIn then bad s { s.iso with arefPresent := false }
        else { s.iso with arefPresent := false })) ∧
  (∀ (dev : BitVec 16) (s : State), s.iso.arefPresent = true →
    let b := { s.iso with afreq := dev, arefIn := inRange' dev s.iso.arefIn }
    ∃ t, exec (.arefRangeChange dev) s = .next t ∧
      t.iso = (if b.arefIn = s.iso.arefIn then b else if b.arefIn then good b else bad s b)) ∧
  (∀ (dev : BitVec 16) (s : State), s.iso.arefPresent = false →
    let b := { s.iso with arefPresent := true, afreq := dev, arefIn := inRange' dev s.iso.arefIn }
    ∃ t, exec (.arefReturn dev) s = .next t ∧ t.iso = (if b.arefIn then good b else b)) ∧
  (∀ s : State, s.iso.lock = .holdover →
    ∃ t, exec .holdoverTimeout s = .next t ∧ t.iso = moved .free s.iso)

/-- Adjustment requests (R229–R232): a request of the designated unit, with ADJ_EN set, is counted, clamped to the limit
of ISO_PCFG and taken as the target, and the port is in MODE 1; any other is counted in ADJ_DROP and changes nothing
else but that it brings the FAB clock back (R387). -/
def Obligations.AdjustmentsAreClamped : Prop :=
  ∀ (p : Port) (a : BitVec 7) (v : Int) (s : State), inState s p 0 .enabled = true →
    let x := ptime s p
    (tst (cfg s (0x300100 + p.val * 0x10)) 0 = true → a.toNat = fld (cfg s (0x300100 + p.val * 0x10)) 1 7 →
      ∃ t, exec (.busIntervalAdjustment p a v) s = .next t ∧
        ptime t p = { x with mode := 1, adjRx := x.adjRx + 1, since := if x.mode = 1 then x.since else 0,
                             target := max (-trimLimit s p) (min (trimLimit s p) v) } ∧
        (∀ q, q ≠ p.val → ptime t q = ptime s q) ∧ { t.iso with ports := [] } = { s.iso with ports := [] }) ∧
    (tst (cfg s (0x300100 + p.val * 0x10)) 0 = false ∨ a.toNat ≠ fld (cfg s (0x300100 + p.val * 0x10)) 1 7 →
      exec (.busIntervalAdjustment p a v) s =
        .next (modPtime p (fun x => { x with adjDrop := x.adjDrop + 1 }) (ungate s)))

/-! ### The sump (file 10) -/

/-- Walks (R267, R268, Table 10-1): a hub that answers and whose port toward the unit is sound sends the walk on to the
next; one that does not answer is the origin, and so is a port that is not sound; where every hub and port is sound, the
pipe is halted with the report's status, unless an origin that was recorded meanwhile covers it: then the report is an
echo of that one; and a sweep that is complete no longer runs (R270). -/
def Obligations.WalksFindTheOrigin : Prop :=
  (∀ (p : Port) (h : Half) (w : Walk) (hub hp : Nat) (rest : List (Nat × Nat)) (s : State),
     find s.sump.walks (p.val * 2 + h.val) = some w → w.probing = true → w.path = (hub, hp) :: rest →
     (halfReg s w.report.port w.report.half).st = .enabled →
     exec (.probeResult p h .noAnswer) s = .next (endWalk (p.val * 2 + h.val)
       (recordOrigin (originOf s w hub hp false) w.report s)) ∧
     (∀ c e u o l, linkOk w.report.half (.status c e u o l) = false →
       exec (.probeResult p h (.status c e u o l)) s = .next (endWalk (p.val * 2 + h.val)
         (recordOrigin (originOf s w hub hp true) w.report s))) ∧
     (∀ c e u o l, linkOk w.report.half (.status c e u o l) = true →
       (rest = [] → originOver s w.report.port w.report.half w.report.addr = none →
         exec (.probeResult p h (.status c e u o l)) s = .next (endWalk (p.val * 2 + h.val)
           (haltPipe w.report.pipe w.report.status w.report.errinfo s))) ∧
       (∀ k, rest = [] → originOver s w.report.port w.report.half w.report.addr = some k →
         exec (.probeResult p h (.status c e u o l)) s = .next (endWalk (p.val * 2 + h.val) (echo k w.report s))) ∧
       (rest ≠ [] → exec (.probeResult p h (.status c e u o l)) s = .next { s with sump := { s.sump with
         walks := insert s.sump.walks (p.val * 2 + h.val) { w with path := rest, probing := false } } }))) ∧
  (∀ (k : Fn) (s : State), (origin s k).mode = .held → (origin s k).sweeping = true →
     ∃ t, exec (.sweepComplete k) s = .next t ∧ (origin t k).sweeping = false ∧
       ((origin s k).held ≠ 0 → (∀ r ∈ s.sump.intake, covers s (origin s k) r.port r.half r.addr = false) →
         (origin t k).mode = .held))

/-! ### Cellar (files 10, 17) -/

/-- Memory errors of the cellar (R278, R280, R281, Table 10-3): corrected and uncorrectable words are counted for their
channel; a lost training counts a retraining; a channel that fails leaves service. -/
def Obligations.CellarErrorsAreCounted : Prop :=
  (∀ (c : Fin 2) (n : Nat) (lost : List (Word × CellarLoss)) (s : State), (celReg s c).inSvc = true →
    (celReg s c).selfRefresh = false →
    ∃ t, exec (.cellarScrub c n lost) s = .next t ∧
      t.sump.cel0Ce = s.sump.cel0Ce + (if c = 0 then BitVec.ofNat _ n else 0) ∧
      t.sump.cel1Ce = s.sump.cel1Ce + (if c = 0 then 0 else BitVec.ofNat _ n) ∧
      t.sump.cel0Ue = s.sump.cel0Ue + (if c = 0 then BitVec.ofNat _ lost.length else 0) ∧
      t.sump.cel1Ue = s.sump.cel1Ue + (if c = 0 then 0 else BitVec.ofNat _ lost.length) ∧
      (lost ≠ [] → t.sump.memUe = true)) ∧
  (∀ (c : Fin 2) (s : State), (celReg s c).inSvc = true → (celReg s c).selfRefresh = false →
    exec (.cellarTrainingLoss c) s = .next (modCel c (fun x => { x with retrains := x.retrains + 1 }) s)) ∧
  (∀ (c : Fin 2) (s : State), (celReg s c).inSvc = true →
    ∃ t, exec (.cellarChannelFail c) s = .next t ∧ (celReg t c).inSvc = false ∧
      (∀ d : Fin 2, d ≠ c → celReg t d = celReg s d))

/-! ### Cistern and pumps (file 09) -/

/-- Shared pages and bindings (R241, R246, R256, R259): a grant gives a job the pages that it may have; a channel takes
the first job of its class, and halts at once when an error of the job is latched; an expired slice sends the job to the
end of its class. -/
def Obligations.JobsAreBound : Prop :=
  (∀ (r : PageReq) (rest : List PageReq) (s : State), s.cis.reqs = r :: rest →
    ∃ t, exec .sharedPageGrant s = .next t ∧
      ∀ x, xfer s r.place = some x → x.q ≠ 4096 →
        xfer t r.place = some { x with shared := x.shared + grantable s x r.pages } ∧
        t.cis.sharedFree = s.cis.sharedFree - grantable s x r.pages ∧ t.cis.reqs = rest) ∧
  (∀ (n : Pump) (k : Nat) (x : Xfer) (s : State), headJob s (nextClass s n) = some k → xfer s k = some x →
    idleChan s (nextClass s n) = some n.val →
    let y := { x with chan := some n.val, moved := 0, latched := none }
    let z := match curEnt s y with | some e => openCuts s y e | none => y
    (x.latched = none → movable s z = true → ∃ t, exec (.jobBind n) s = .next t ∧ xfer t k = some z ∧
      (pump t n).job = some k ∧ (pump t n).staged = 0 ∧ (pump t n).st = .run ∧ (pump t n).halts = (pump s n).halts) ∧
    (∀ a kd zero, x.latched = some (a, kd, zero) → ∃ t, exec (.jobBind n) s = .next t ∧ xfer t k = some z ∧
      (pump t n).job = some k ∧ (pump t n).staged = 0 ∧ (pump t n).st = .halted ∧
      (pump t n).halts = (pump s n).halts + 1 ∧ (pump t n).errAddr = BitVec.ofNat 64 a ∧
      (pump t n).kind = BitVec.ofNat 3 kd ∧ (pump t n).errAfterZero = zero)) ∧
  (∀ (n : Pump) (k : Nat) (x : Xfer) (s : State), (pump s n).job = some k → xfer s k = some x →
    (pump s n).st = .run → sliceUsed s x = true → x.reads = [] → x.chan = some n.val →
    ∃ t, exec (.sliceExpiry n) s = .next t ∧ (pump t n).st = .idle ∧ (pump t n).job = none ∧
      xfer t k = some { x with chan := none, moved := 0 } ∧
      classQueue t (x.iso || x.urg) = classQueue s (x.iso || x.urg) ++ [k] ∧
      classQueue t (!(x.iso || x.urg)) = classQueue s (!(x.iso || x.urg)))

/-- Pump reads and writes (R247–R253, R259, R279): a read leaves with the job's address and length and is outstanding
until it returns; its data count for the channel; a failed one is counted; a beat is staged until the write is whole,
which then leaves; an uncorrectable word raises MEM_UE. -/
def Obligations.PumpsMoveData : Prop :=
  (∀ (n k : Nat) (x : Xfer) (w : Want) (s : State), readChan s = some n → readJob s n = some (k, x, w) →
    pumpTag s = true →
    ∃ t, exec .pumpReadIssue s = .next t ∧ t.out = s.out ++ [.read x.inst w.addr w.len] ∧
      t.cis.readSeq = s.cis.readSeq + 1 ∧
      t.host.reads = s.host.reads ++ [{ ref := .pump k s.cis.readSeq, fn := x.inst, addr := w.addr, len := w.len }]) ∧
  (∀ (k num : Nat) (o : OutRead) (a : ReadAnswer) (s : State), outRead s (.pump k num) = some o → o.silent = true →
    (∀ bs, a = .data bs → bs.length = o.len) →
    exec (.pumpReadCompletion k num a) s = .next { retireRead (.pump k num) s with
      cis := { s.cis with sharedFree := s.cis.sharedFree + o.pages } }) ∧
  (∀ (k num : Nat) (o : OutRead) (e : ErrKind) (s : State), outRead s (.pump k num) = some o → o.silent = false →
    ∃ t, exec (.pumpReadCompletion k num (.error e)) s = .next t ∧ t.host.herrEdges = s.host.herrEdges + 1 ∧
      t.host.herrValid = true) ∧
  (∀ (k num c : Nat) (o : OutRead) (x : Xfer) (r : JobRead) (bs : List Byte) (s : State),
    outRead s (.pump k num) = some o → o.silent = false → o.discard = false → bs.length = o.len →
    xfer s k = some x → x.reads.find? (fun r => r.num = num) = some r → r.run = none → x.chan = some c →
    ∃ t, exec (.pumpReadCompletion k num (.data bs)) s = .next t ∧
      (pump t c).moved = (pump s c).moved + (if x.type = .out then wd bs.length else 0)) ∧
  (∀ (n k : Nat) (x : Xfer) (w : Write) (s : State), beatChan s = some n → beatReady s n = some (k, x, w) →
    (pump s n).staged + beat w (pump s n).staged ≠ w.len →
    ∃ t, exec (.pumpWriteIssue .good) s = .next t ∧
      (pump t n).staged = (pump s n).staged + beat w (pump s n).staged ∧ (pump t n).st = (pump s n).st ∧
      t.out = s.out) ∧
  (∀ (n k : Nat) (x : Xfer) (w : Write) (s : State), beatChan s = some n → beatReady s n = some (k, x, w) →
    (pump s n).staged + beat w (pump s n).staged = w.len →
    ∃ t, exec (.pumpWriteIssue .good) s = .next t ∧
      s.out ++ [.write x.inst w.addr (w.bytes.take w.len)] <+: t.out) ∧
  (∀ (n k : Nat) (x : Xfer) (w : Write) (again : Bool) (s : State), beatChan s = some n →
    beatReady s n = some (k, x, w) →
    (∃ t, exec (.pumpWriteIssue (.uncorrectable again)) s = .next t ∧ t.sump.memUe = true ∧
      t.sump.ueE = s.sump.ueE + 1 ∧ t.sump.cisUe = s.sump.cisUe + 1 ∧
      t.sump.cisRet = s.sump.cisRet + (if again then 1 else 0)) ∧
    (∃ t, exec (.pumpWriteIssue .staging) s = .next t ∧ t.sump.memUe = true ∧ t.sump.ueE = s.sump.ueE + 1 ∧
      t.sump.chipUe = s.sump.chipUe + 1 ∧ t.sump.cisUe = s.sump.cisUe) ∧
    ∃ t, exec (.pumpWriteIssue .corrected) s = .next t ∧ t.sump.cisCe = s.sump.cisCe + 1)

/-- PMP_CTL (Table 9-2, R254, R260, R282): PAUSE of a channel in service takes IDLE to PAUSED and RUN to PAUSING, and to
PAUSED once nothing of the job is in flight; clearing it undoes this; a write that changes nothing does nothing; of a
channel that is OFF it is stored and the access is recorded; ACK frees a HALTED channel and no other. -/
def Obligations.PumpControl : Prop :=
  ∀ (n : Pump) (v : Word) (s : State), answers s 0 = true →
    ((pump s n).st ≠ .off → offCode s (0xE00000 + n.val * 0x100) = none →
      (tst v 0 = true → tst v 1 = false → ∃ t, exec (.pumpPauseSet n v) s = .next t ∧ (pump t n).pause = true ∧
        ((pump s n).pause = true → t = wakeLink (ungate s)) ∧
        ((pump s n).pause = false → (pump s n).st = .idle → (pump t n).st = .paused) ∧
        (∀ k x, (pump s n).pause = false → (pump s n).st = .run → (pump s n).job = some k → xfer s k = some x →
          x.reads ≠ [] → (pump t n).st = .pausing ∧ (pump t n).job = some k) ∧
        (∀ k x, (pump s n).pause = false → (pump s n).st = .run → (pump s n).removing = none →
          (pump s n).job = some k → xfer s k = some x → x.reads = [] → (pump s n).staged = 0 → x.type ≠ .copy →
          (pump t n).st = .paused ∧ (pump t n).job = some k)) ∧
      (tst v 0 = false → tst v 1 = false → ∃ t, exec (.pumpPauseClear n v) s = .next t ∧ (pump t n).pause = false ∧
        ((pump s n).pause = false → t = wakeLink (ungate s)) ∧
        ((pump s n).pause = true → (pump s n).st = .pausing → (pump t n).st = .run) ∧
        ((pump s n).pause = true → (pump s n).st = .paused →
          (pump t n).st = (if (pump s n).job.isSome then .run else .idle))) ∧
      (tst v 1 = true → ∃ t, exec (.pumpHaltAck n v) s = .next t ∧
        ((pump s n).st = .halted → (pump t n).st ≠ .halted) ∧
        ((pump s n).st ≠ .halted → tst v 0 = (pump s n).pause → t = wakeLink (ungate s)))) ∧
    ((pump s n).st = .off →
      (tst v 0 = true → ∃ t, exec (.pumpPauseSet n v) s = .next t ∧ (pump t n).pause = true ∧ (pump t n).st = .off ∧
        t.sump.accCount = s.sump.accCount + 1) ∧
      (tst v 0 = false → ∃ t, exec (.pumpPauseClear n v) s = .next t ∧ (pump t n).pause = false ∧
        (pump t n).st = .off ∧ t.sump.accCount = s.sump.accCount + 1) ∧
      (tst v 1 = true → ∃ t, exec (.pumpHaltAck n v) s = .next t ∧ (pump t n).pause = tst v 0 ∧
        (pump t n).st = .off ∧ t.sump.accCount = s.sump.accCount + 1))

/-! ### Commands of queue 0 (file 12) -/

/-- The verdict of R318 and R319: a packet whose opcode no table gives, and one that fails a check, is refused: CMD_STAT
counts it, and nothing in the block changes but the queues, what they send, and, for PM_ENTER, the charge of R392. -/
def Obligations.PacketsAreJudged : Prop :=
  (∀ (c : Packet) (s : State), cmdReady s c = true → cOp c ∉ opcodes →
    ∃ t, exec (.undefinedCommand c) s = .next t ∧ t.cmd = { s.cmd with refused := s.cmd.refused + 1 } ∧
      Touches [.l1, .msg, .fnMsg, .queues, .cmd, .devWake, .tunnel, .gate, .heldEv, .out] s t) ∧
  (∀ (i : Instr) (r : Nat × Nat) (s : State), Looked i s → verdict i s = some r →
    ∃ t, exec i s = .next t ∧ t.cmd = { s.cmd with refused := s.cmd.refused + 1 } ∧
      Touches [.l1, .msg, .fnMsg, .queues, .cmd, .devWake, .tunnel, .pmReg, .gate, .heldEv, .out] s t) ∧
  (∀ (i : Instr) (c : Packet) (r : CmdRow) (s : State), cmdRow i = some (c, r) → cInst c ≠ 0 → r.tenants = false →
    verdict i s ≠ none)

/-- Accepted queue commands (Table 12-3, R69, R82, R83): a created queue is DISABLED with the fields of its packet and
HEAD 0; a deleted one is gone; an enabled one fetches from HEAD with no entry; a disabled one drains, and its generation
advances when it has drained. -/
def Obligations.QueueCommandsAct : Prop :=
  (∀ (c : Packet) (s : State), Taken (.queueCreate c) s →
    ∃ t, exec (.queueCreate c) s = .next t ∧ t.cmd = s.cmd ∧
      queue t (cQueue c) = some { newQueue c with stDirty := quiet s (cInst c) }) ∧
  (∀ (c : Packet) (s : State), Taken (.queueDelete c) s →
    ∃ t, exec (.queueDelete c) s = .next t ∧ t.cmd = s.cmd ∧ queue t (cQueue c) = none) ∧
  (∀ (c : Packet) (x : Queue) (s : State), Taken (.queueEnable c) s → queue s (cQueue c) = some x →
    ∃ t, exec (.queueEnable c) s = .next t ∧ t.cmd = s.cmd ∧ ∃ y, queue t (cQueue c) = some y ∧ y.st = .enabled ∧
      y.errCell = false ∧ (x.isEvent = false → y.head = x.head ∧ y.fetch = x.head ∧ y.ents = [] ∧ y.cur = 0)) ∧
  (∀ (c : Packet) (x : Queue) (s : State), Taken (.queueDisable c) s → queue s (cQueue c) = some x →
    x.st = .disabled →
    exec (.queueDisable c) s = .next (ok c x.head (wd x.gen.toNat) 0 (taken c s))) ∧
  (∀ (c : Packet) (x : Queue) (s : State), Taken (.queueDisable c) s → queue s (cQueue c) = some x →
    x.st ≠ .disabled →
    ∃ t, exec (.queueDisable c) s = .next t ∧ t.cmd = s.cmd ∧ ∃ y, queue t (cQueue c) = some y ∧
      ((y.st = .draining ∧ y.drainCmd = some c.index ∧ y.gen = x.gen) ∨
       (y.st = .disabled ∧ y.drainCmd = none ∧ y.gen = x.gen + 1 ∧ y.ents = [])))

/-- Accepted unit commands (R166, R167, R322): UNIT_ADDRESS reserves the lowest free address, or the named one, for its
SET_ADDRESS, at whose end the unit takes it, or it is free again; UNIT_RELEASE frees it; UNIT_ASSIGN gives the unit to
its owner. -/
def Obligations.UnitCommandsAct : Prop :=
  (∀ (c : Packet) (a : Nat) (s : State), Taken (.unitAddress c) s → takenAddr s c = some a →
    ∃ t, exec (.unitAddress c) s = .next t ∧ t.cmd = s.cmd ∧
      (engine t (uPort c) (uHalf c)).setAddr = some (c.index, a) ∧ (engine t (uPort c) (uHalf c)).setSent = false ∧
      (port t (uPort c)).reserved = (port s (uPort c)).reserved ++ [a] ∧
      (port t (uPort c)).units = (port s (uPort c)).units ∧ addrTaken s (uPort c) a = false ∧
      (uAddr c ≠ 0 → a = uAddr c) ∧ (uAddr c = 0 → ∀ b, 0 < b → b < a → addrTaken s (uPort c) b = true)) ∧
  (∀ (p : Port) (h : Half) (i : Word) (a : Nat) (e : Ent) (s : State), (engine s p h).setAddr = some (i, a) →
    (engine s p h).setSent = true → inState s p h .enabled = true → ent s 0 i = some e →
    ∃ t, exec (.setAddressRecoveryEnd p h .ok) s = .next t ∧ unitAt t p a = some (newUnit h e.dw) ∧
      (engine t p h).setAddr = none ∧ a ∉ (port t p).reserved ∧
      ∀ b, b ≠ a → unitAt t p b = unitAt s p b) ∧
  (∀ (p : Port) (h : Half) (i : Word) (a : Nat) (r : SetAddrResult) (s : State),
    (engine s p h).setAddr = some (i, a) → r ≠ .ok →
    (if r = .unitGone then inState s p h .enabled = false
     else (engine s p h).setSent = true ∧ inState s p h .enabled = true) →
    ∃ t, exec (.setAddressRecoveryEnd p h r) s = .next t ∧ (engine t p h).setAddr = none ∧
      a ∉ (port t p).reserved ∧ (port t p).units = (port s p).units) ∧
  (∀ (c : Packet) (s : State), Taken (.unitRelease c) s →
    ∃ t, exec (.unitRelease c) s = .next t ∧ t.cmd = s.cmd ∧ unitAt t (uPort c) (uAddr c) = none ∧
      ∀ b, b ≠ uAddr c → unitAt t (uPort c) b = unitAt s (uPort c) b) ∧
  (∀ (c : Packet) (u : Machine.Unit) (s : State), Taken (.unitAssign c) s → unitAt s (uPort c) (uAddr c) = some u →
    ∃ t, exec (.unitAssign c) s = .next t ∧ t.cmd = s.cmd ∧
      unitAt t (uPort c) (uAddr c) = some { u with inst := uOwner c } ∧
      ∀ b, b ≠ uAddr c → unitAt t (uPort c) b = unitAt s (uPort c) b)

/-- Accepted pipe commands (R133–R135, R157, R192, R323–R326, Table 5-2): an opened pipe is IDLE with the fields of its
packet; a closed one that no burst holds is gone; a stopped one is STOPPED, or stops at the end of its burst; either
withdraws a burst that has no packet on the wire; a started one goes to PARKED, IDLE or READY; a reset one starts again
from SEQ 0; of a stream endpoint they act on the pipe of each stream alike; a query writes the context, and changes no
pipe. -/
def Obligations.PipeCommandsAct : Prop :=
  (∀ (c : Packet) (k : PKind) (s : State), Taken (.pipeOpen c) s → oKind c = some k →
    ∃ t x, exec (.pipeOpen c) s = .next t ∧ t.cmd = s.cmd ∧ pipe t (cPipe c) = some x ∧
      x = { opened c k s with placed := s.sched.stamp, opened := s.sched.stamp } ∧ x.state = .idle ∧
      t.sched.stamp = s.sched.stamp + 1) ∧
  (∀ (c : Packet) (x : Pipe) (s : State), Taken (.pipeClose c) s → pipe s (cPipe c) = some x → x.kind ≠ .streamEp →
    ∃ t, exec (.pipeClose c) s = .next t ∧ t.cmd = s.cmd ∧
      ((x.state ≠ .active ∨ (descOf s (cPipe c) = none ∧ x.splitOut = false)) → pipe t (cPipe c) = none) ∧
      (x.state = .active → (descOf s (cPipe c) ≠ none ∨ x.splitOut = true) →
        (∀ d, descOf s (cPipe c) = some (x, d) → d.onWire = true) →
        pipe t (cPipe c) = some { x with state := .closing, stopping := false, cmds := x.cmds ++ [c.index] }) ∧
      (∀ d, x.state = .active → descOf s (cPipe c) = some (x, d) → d.onWire = false →
        ∀ e ∈ (engine t x.port (pHalf x)).descs, e.pipe ≠ cPipe c)) ∧
  (∀ (c : Packet) (x : Pipe) (s : State), Taken (.pipeStop c) s → pipe s (cPipe c) = some x → x.kind ≠ .streamEp →
    ∃ t, exec (.pipeStop c) s = .next t ∧ t.cmd = s.cmd ∧
      (x.state = .active → (∀ d, descOf s (cPipe c) = some (x, d) → d.onWire = true) →
        pipe t (cPipe c) = some { x with stopping := true, cmds := x.cmds ++ [c.index],
                                         stoppedAt := some (ptime s x.port).num }) ∧
      (∀ d, x.state = .active → descOf s (cPipe c) = some (x, d) → d.onWire = false → x.kind ≠ .stream →
        (∃ y, pipe t (cPipe c) = some y ∧ y.state = .stopped) ∧
        ∀ e ∈ (engine t x.port (pHalf x)).descs, e.pipe ≠ cPipe c) ∧
      (x.state = .idle ∨ x.state = .ready ∨ x.state = .parked →
        pipe t (cPipe c) = some { x with
          state := .stopped, block := 0, rdyLatch := x.rdyLatch || decide (x.state = .ready),
          stoppedAt := some (ptime s x.port).num })) ∧
  (∀ (c : Packet) (x : Pipe) (s : State), Taken (.pipeStart c) s → pipe s (cPipe c) = some x → x.kind ≠ .streamEp →
    ∃ t, exec (.pipeStart c) s = .next t ∧ t.cmd = s.cmd ∧
      (x.waitErdy = true → x.erdyPend = false →
        pipe t (cPipe c) = some { x with state := .parked, rdyLatch := false, erdyPend := false }) ∧
      (x.waitErdy = false ∨ x.erdyPend = true → x.ents = [] →
        pipe t (cPipe c) = some { x with state := .idle, rdyLatch := false, erdyPend := false, waitErdy := false }) ∧
      (x.waitErdy = false ∨ x.erdyPend = true → x.ents ≠ [] → x.x ≠ none →
        pipe t (cPipe c) = some { x with state := .ready, rdyLatch := false, erdyPend := false, waitErdy := false } ∧
        (periodic x = false → cPipe c ∈ listOf t x.port x.group))) ∧
  (∀ (c : Packet) (x : Pipe) (s : State), Taken (.pipeReset c) s → pipe s (cPipe c) = some x → x.kind ≠ .streamEp →
    ∃ t, exec (.pipeReset c) s = .next t ∧ t.cmd = s.cmd ∧
      (x.ents = [] → pipe t (cPipe c) = some { x with state := .idle, seq := 0, errs := 0 }) ∧
      (x.ents ≠ [] → x.x ≠ none → pipe t (cPipe c) = some { x with state := .ready, seq := 0, errs := 0 })) ∧
  (∀ (c : Packet) (x : Pipe) (s : State), pipe s (cPipe c) = some x → x.kind = .streamEp →
    (Taken (.pipeClose c) s → ∃ t, exec (.pipeClose c) s = .next t ∧ t.cmd = s.cmd ∧
      ∀ n ∈ actsOn s (cPipe c), ∀ y, pipe s n = some y → y.state ≠ .active → pipe t n = none) ∧
    (Taken (.pipeStop c) s → ∃ t, exec (.pipeStop c) s = .next t ∧ t.cmd = s.cmd ∧
      ∀ n ∈ actsOn s (cPipe c), ∀ y, pipe s n = some y → y.state = .idle ∨ y.state = .ready ∨ y.state = .parked →
        (pipe t n).map (fun z => z.state) = some .stopped) ∧
    (Taken (.pipeStart c) s → ∃ t, exec (.pipeStart c) s = .next t ∧ t.cmd = s.cmd ∧
      ∀ n ∈ actsOn s (cPipe c), ∀ y, pipe s n = some y → y.state = .stopped →
        (pipe t n).map (fun z => z.state) = some (if y.waitErdy && !y.erdyPend then .parked
          else if y.ents.isEmpty then .idle else .ready)) ∧
    (Taken (.pipeReset c) s → ∃ t, exec (.pipeReset c) s = .next t ∧ t.cmd = s.cmd ∧
      ∀ n ∈ actsOn s (cPipe c), ∀ y, pipe s n = some y → y.state = .halted →
        (pipe t n).map (fun z => (z.state, z.seq, z.errs)) = some (if y.ents.isEmpty then .idle else .ready, 0, 0))) ∧
  (∀ (c : Packet) (x : Pipe) (s : State), Taken (.pipeQuery c) s → pipe s (cPipe c) = some x →
    ∃ t, exec (.pipeQuery c) s = .next t ∧ t.cmd = s.cmd ∧ t.sched = s.sched ∧ t.cis = s.cis ∧
      (x.ents ≠ [] → t = ok c (wd (pipeCode x.state)) 0 0 (hostWrite (addr64 c.dw[3] c.dw[4])
        ((contextDws (taken c s) x 0 ++ streamDws x).map wordBytes).flatten (taken c s)))) ∧
  (∀ (idx : Word) (n : Nat) (x : Pipe) (s : State), pipe s n = some x → x.state = .ready → x.block = 1 →
    pipe (stopOne idx s n) n =
      some { x with state := .stopped, block := 0, rdyLatch := true, stoppedAt := some (ptime s x.port).num } ∧
    pipe (stopOne idx (unblock n 1 s) n) n =
      some { x with state := .stopped, block := 0, rdyLatch := true, stoppedAt := some (ptime s x.port).num })

/-- Accepted commands of origins, the fault log, halted pumps and instances (R260, R274, R275, R286, R306): a released
or dropped origin is FREE; LOG_READ writes the named records and changes no record; PUMP_ACK frees the channel; an
instance reset begins, or joins the one that runs. -/
def Obligations.FaultCommandsAct : Prop :=
  (∀ (c : Packet) (s : State), Taken (.originRelease c) s →
    ∃ t, exec (.originRelease c) s = .next t ∧ t.cmd = s.cmd ∧ origin t (cOrigin c) = {}) ∧
  (∀ (c : Packet) (s : State), Taken (.originDrop c) s →
    ∃ t, exec (.originDrop c) s = .next t ∧ t.cmd = s.cmd ∧ origin t (cOrigin c) = {}) ∧
  (∀ (c : Packet) (s : State), Taken (.logRead c) s →
    ∃ t, exec (.logRead c) s = .next t ∧ t.sump = s.sump ∧
      t = ok c (wd (cCount c)) s.sump.logSeq 0 (hostWrite (addr64 c.dw[4] c.dw[5])
        ((List.range (cCount c)).map (fun i => logBytes s (c.dw[2] + wd i))).flatten (taken c s))) ∧
  (∀ (c : Packet) (s : State), Taken (.pumpAck c) s →
    (pump s (fld c.dw[2] 0 6)).st = .halted ∧
    ∃ t, exec (.pumpAck c) s = .next t ∧ t.cmd = s.cmd ∧ (pump t (fld c.dw[2] 0 6)).st ≠ .halted) ∧
  (∀ (c : Packet) (s : State), Taken (.instanceResetCommand c) s →
    cInst c ≠ 0 ∧
    ∃ t, exec (.instanceResetCommand c) s = .next t ∧ t.cmd = s.cmd ∧ (inst t (cInst c)).st = .resetting ∧
      ((inst s (cInst c)).st ≠ .resetting → (inst t (cInst c)).runCause = 1 ∧
        (inst t (cInst c)).rstCmds = [c.index] ∧ (inst t (cInst c)).merged = false) ∧
      ((inst s (cInst c)).st = .resetting → (inst t (cInst c)).runCause = (inst s (cInst c)).runCause ∧
        (inst t (cInst c)).rstCmds = (inst s (cInst c)).rstCmds ++ [c.index] ∧ (inst t (cInst c)).merged = true))

/-- Configuration sets (R142, R327–R330): CFG_WRITE writes the attic in pair order and makes it dirty; CFG_READ replies
with the register in the set that it names; CFG_COPY copies the active set; CFG_SWAP waits for a later tick, which
exchanges the sets whole, advances the generation and cuts every group's deficit to its new quantum, to 0 where its
weight is 0. -/
def Obligations.ConfigurationCommandsAct : Prop :=
  (∀ (c : Packet) (s : State), Taken (.cfgWrite c) s →
    ∃ t, exec (.cfgWrite c) s = .next t ∧ t.cmd = { s.cmd with dirty := true } ∧ t.cfg.active = s.cfg.active ∧
      (∀ a, (∀ p ∈ pairs c, p.1 ≠ a) → setGet t.cfg.attic a = setGet s.cfg.attic a) ∧
      (∀ j, j < cPairs c → (∀ k, j < k → k < cPairs c → (pair c k).1 ≠ (pair c j).1) →
        ∃ m, cfgMask (pair c j).1 = some m ∧ setGet t.cfg.attic (pair c j).1 = (pair c j).2 &&& m)) ∧
  (∀ (c : Packet) (s : State), Taken (.cfgRead c) s →
    ∃ t, exec (.cfgRead c) s = .next t ∧ t.cfg = s.cfg ∧
      t = ok c (setGet (if tst c.dw[3] 0 then s.cfg.active else s.cfg.attic) (fld c.dw[2] 0 24)) 0 0 (taken c s)) ∧
  (∀ (c : Packet) (s : State), Taken (.cfgCopy c) s →
    ∃ t, exec (.cfgCopy c) s = .next t ∧ t.cfg = { active := s.cfg.active, attic := s.cfg.active } ∧
      t.cmd = { s.cmd with dirty := true }) ∧
  (∀ (c : Packet) (s : State), Taken (.cfgSwap c) s →
    exec (.cfgSwap c) s = .next { taken c s with
      cmd := { s.cmd with pendSwap := true, swapCmd := some c.index, swapMic := s.iso.mic } }) ∧
  (∀ s : State, s.cmd.pendSwap = true → s.iso.running = true → s.iso.pos = 0 → s.iso.mic ≠ s.cmd.swapMic →
    (∀ p, Sorted (psched s p).deficit) →
    ∃ t, exec .cfgSwapCommit s = .next t ∧ t.cfg = { active := s.cfg.attic, attic := s.cfg.active } ∧
      t.cmd = { s.cmd with gen := s.cmd.gen + 1, dirty := false, pendSwap := false, swapCmd := none } ∧
      ∀ (p : Port) (g : Nat), (psched t p).cursor = (psched s p).cursor ∧
        getD 0 (psched t p).deficit g =
          (if cfgGroup t g = 0 then 0 else min (getD 0 (psched s p).deficit g) (quantum t g))) ∧
  (∀ (c : Packet) (s : State), Taken (.diagEcho c) s →
    exec (.diagEcho c) s = .next (ok c c.dw[2] c.dw[3] c.dw[4] (taken c s)))

/-- Parts out of service and back, bindings and power states (R185–R188, R257, R332, R334–R336, R365, R386, R393): each
accepted command with the state that the part has after it. -/
def Obligations.ServiceCommandsAct : Prop :=
  (∀ (c : Packet) (r : PortTest) (s : State), Taken (.portService c r) s →
    ∃ t, exec (.portService c r) s = .next t ∧ t.cmd = s.cmd ∧
      (sReturn c = false → (port t (sPort c)).inService = false ∧ (port t (sPort c)).powered = !tst c.dw[2] 9 ∧
        t.glb.capChg = true) ∧
      (sReturn c = true → r = .calibrationFailed ∨ r = .lane0OrUsb2Failed →
        (port t (sPort c)).inService = false ∧ t.glb = s.glb) ∧
      (sReturn c = true → r = .ok ∨ r = .lane1Failed → (port t (sPort c)).inService = true ∧
        (port t (sPort c)).powered = true ∧ t.glb.capChg = true ∧
        (halfReg t (sPort c) 0).lane1Fail = decide (r = .lane1Failed))) ∧
  (∀ (c : Packet) (pass : Bool) (s : State), Taken (.pumpService c pass) s →
    ∃ t, exec (.pumpService c pass) s = .next t ∧ t.cmd = s.cmd ∧
      (sReturn c = true → pass = true → (pump t (sPump c)).st = .idle ∧ t.glb.capChg = true) ∧
      (sReturn c = true → pass = false → t.cis = s.cis ∧ t.glb = s.glb) ∧
      (sReturn c = false → (pump t (sPump c)).pause = true ∧
        ((pump s (sPump c)).st = .idle → (pump s (sPump c)).pause = false →
          (pump t (sPump c)).st = .off ∧ (pump t (sPump c)).removing = none ∧ t.glb.capChg = true) ∧
        (∀ k x, (pump s (sPump c)).st = .run → (pump s (sPump c)).pause = false → (pump s (sPump c)).job = some k →
          xfer s k = some x → x.reads ≠ [] →
          (pump t (sPump c)).st = .pausing ∧ (pump t (sPump c)).removing = some c.index))) ∧
  (∀ (c : Packet) (r : CellarTest) (s : State), Taken (.cellarService c r) s →
    ∃ t, exec (.cellarService c r) s = .next t ∧ t.cmd = s.cmd ∧
      ((∀ f, r ≠ .channelFailed f) →
        (sReturn c = false → (celReg t (sCel c)).inSvc = false ∧ t.glb.capChg = true) ∧
        (sReturn c = true → (celReg t (sCel c)).inSvc = decide (r = .ok)) ∧
        celReg t (1 - sCel c) = celReg s (1 - sCel c) ∧
        (sReturn c = true → r ≠ .ok → t.glb = s.glb ∧ t.sump = s.sump)) ∧
      (∀ f, r = .channelFailed f → (celReg t f.val).inSvc = false ∧
        t = ok c 2 (wd (pipeCap (failInService f.val (taken c s)))) 0 (failInService f.val (taken c s)))) ∧
  (∀ (c : Packet) (s : State), Taken (.chanBind c) s →
    ∃ t, exec (.chanBind c) s = .next t ∧ t.cmd = s.cmd ∧ (chan t (bChan c)).bound = !bUnbind c ∧
      (bUnbind c = false → (chan t (bChan c)).port = bPort c ∧ (chan t (bChan c)).hubBound = bHub c ∧
        (bHub c = true → (chan t (bChan c)).hubAddr = bAddr c ∧ (chan t (bChan c)).hubPort = bHubPort c) ∧
        (bHub c = false → (port t (bPort c)).channel = some (bChan c)))) ∧
  (∀ (c : Packet) (s : State), Taken (.pmEnter c) s →
    ∃ t, exec (.pmEnter c) s = .next t ∧ t.cmd = s.cmd ∧ t.pm.seq = s.pm.seq + 1 ∧
      (s.pm.entry = none → 2 ≤ mSt c → target c ≠ s.pm.st → graceMs s ≠ 0 → ∃ r, t.pm.entry = some r ∧
        r.target = target c ∧ r.seq = s.pm.seq + 1 ∧ r.mask = BitVec.ofNat 9 (fld c.dw[4] 0 9)) ∧
      (s.pm.entry ≠ none → mSt c ≠ 0 → t.pm.entry = s.pm.entry ∧ ∃ r, t.pm.pend = some r ∧ r.target = target c) ∧
      (s.pm.entry ≠ none → mSt c = 0 → t.pm.aborts = s.pm.aborts + 1) ∧
      (s.pm.entry = none → mSt c = 1 → refusers s .idle (pmPerm s) = [] → t.pm.st = .idle) ∧
      (s.pm.entry = none → mSt c = 0 → t.pm.st = .run))

/-- Firmware images (R338–R343, Table 12-15): a staged chunk is read, programmed and counted; the last one makes the
slot valid only when its check passes; an activation pauses the processor, ends with the new image running, or with
the old one and FALLBACKS; the boot record follows, and with COMMIT the OTP level rises. A read left over from a staging
that has ended is discarded, and its error recorded. -/
def Obligations.FirmwareActs : Prop :=
  (∀ (c : Packet) (s : State), Taken (.fwStage c) s →
    ∃ t, exec (.fwStage c) s = .next t ∧ t.cmd = s.cmd ∧ t.fw.chunk = some c.index ∧ t.fw.chunkRead = true ∧
      t.fw.chunkLen = fLen c ∧ t.fw.chunkLast = tst c.dw[2] 0 ∧
      (fOff c = 0 → t.fw.staging = true ∧ t.fw.staged = 0 ∧ slotValid t t.fw.stageB = false ∧
        (s.boot.recovery = false → t.fw.stageB = !s.fw.runB)) ∧
      (fOff c ≠ 0 → t.fw.staged = s.fw.staged ∧ t.fw.stageB = s.fw.stageB)) ∧
  (∀ (first : Nat) (o : OutRead) (bs : List Byte) (s : State), outRead s (.stage first) = some o → o.discard = true →
    exec (.stageChunkReadReturn first (.data bs)) s = .next (retireRead (.stage first) s)) ∧
  (∀ (first : Nat) (o : OutRead) (bs : List Byte) (s : State), outRead s (.stage first) = some o → o.discard = false →
    let u := retireRead (.stage first) s
    let h := putHeader (s.fw.staged + first) (bs.take o.len) s.fw.header
    (u.host.reads.any (fun r => isStage r.ref && !r.discard) = false →
      exec (.stageChunkReadReturn first (.data bs)) s = .next (emit (.flash 1 s.fw.chunkLen) { u with
        fw := { s.fw with header := h, chunkRead := false } })) ∧
    (u.host.reads.any (fun r => isStage r.ref && !r.discard) = true →
      exec (.stageChunkReadReturn first (.data bs)) s = .next { u with fw := { s.fw with header := h } })) ∧
  (∀ (first : Nat) (o : OutRead) (i : Word) (k : ErrKind) (s : State), outRead s (.stage first) = some o →
    s.fw.chunk = some i →
    ∃ t, exec (.stageChunkReadReturn first (.error k)) s = .next t ∧ t.host.herrEdges = s.host.herrEdges + 1 ∧
      (o.discard = false → t.fw.chunk = none ∧ t.fw.staging = false) ∧
      (o.discard = true → t.fw.chunk = some i ∧ t.fw.staging = s.fw.staging)) ∧
  (∀ (i : Word) (r : FlashResult) (s : State), s.fw.chunk = some i → s.fw.chunkRead = false →
    resultFits s.fw.chunkLast r = true →
    let n := s.fw.staged + s.fw.chunkLen
    ∃ t, exec (.flashChunkProgrammed r) s = .next t ∧ t.fw.chunk = none ∧
      (r = .programmed → t.fw.staged = n ∧ t.fw.staging = s.fw.staging) ∧
      (∀ v, r = .checked v → imageFault s.fw.header (some n) v s.fw.otp = none →
        slotValid t s.fw.stageB = true ∧ slotVer t s.fw.stageB = imageVer s.fw.header ∧
        slotRb t s.fw.stageB = hdrDw s.fw.header 8 ∧ t.fw.staging = false) ∧
      (r = .failed → t.fw.staging = false ∧ ∀ b, slotValid t b = slotValid s b) ∧
      (∀ v, r = .checked v → imageFault s.fw.header (some n) v s.fw.otp ≠ none →
        t.fw.staging = false ∧ ∀ b, slotValid t b = slotValid s b)) ∧
  (∀ (c : Packet) (recheck : Bool) (s : State), Taken (.fwActivate c recheck) s →
    ∃ t, exec (.fwActivate c recheck) s = .next t ∧
      (recheck = true → t.cmd = { s.cmd with paused := true } ∧ t.fw = { s.fw with
        activating := true, actCmd := some c.index, actCommit := tst c.dw[2] 0, actRecord := true }) ∧
      (recheck = false → t = reply c.index stInvalid 0x0A 0 0 0 (taken c s))) ∧
  (∀ (i us : Word) (s : State), s.fw.actCmd = some i →
    ∃ t, exec (.fwReadyReport us) s = .next t ∧
      (s.boot.flrHeld = false → t.cmd = { s.cmd with paused := false } ∧ t.fw.runB = otherB s ∧
        t.fw.ver = slotVer s (otherB s) ∧ t.fw.activating = false ∧ t.fw.actCmd = none ∧
        t.fw.updates = s.fw.updates ++ (if s.fw.actRecord then [{
          slotB := otherB s, ver := slotVer s (otherB s), rb := slotRb s (otherB s), commit := s.fw.actCommit }] else []) ∧
        t.fw.fallbacks = s.fw.fallbacks ∧ t.boot.recovery = false)) ∧
  (∀ (i us : Word) (s : State), s.fw.actCmd = some i →
    ∃ t, exec (.fwReadyTimeout us) s = .next t ∧
      (s.boot.flrHeld = false → t.cmd = { s.cmd with paused := false } ∧ t.fw.runB = s.fw.runB ∧
        t.fw.ver = s.fw.ver ∧ t.fw.activating = false ∧ t.fw.actCmd = none ∧ t.fw.updates = s.fw.updates ∧
        t.fw.fallbacks = s.fw.fallbacks + 1)) ∧
  (∀ (u : BootUpdate) (us : List BootUpdate) (s : State), s.fw.updates = u :: us →
    ∃ t, exec .bootRecordWritten s = .next t ∧ s.out ++ [.flash 2 (b1 u.slotB)] <+: t.out ∧
      t.fw.updates = us ∧ t.fw.recSlotB = u.slotB ∧ t.fw.recSeq = s.fw.recSeq + 1 ∧
      t.fw.otp = (if u.commit then max s.fw.otp u.rb else s.fw.otp)) ∧
  (∀ (c : Packet) (s : State), Taken (.fwQuery c) s →
    exec (.fwQuery c) s = .next (ok c (fwVer s)
      (if slotValid s (otherB s) then wd (slotVer s (otherB s)).toNat else 0) (fwStat s) (taken c s)))

/-! ### The device port (file 13) -/

/-- The device port (R346, R349–R351, R353, R355, R357, R360, Table 13-4): EN, VBUS, bus resets, suspend, resume, remote
wake and link power move it as Table 13-4 has it; a tunnel transfer is taken, answered NRDY or discarded; the loopback
test enables the port and disables it at its end. -/
def Obligations.DevicePortMoves : Prop :=
  (∀ (v : Word) (s : State), answers s 0 = true → offCode s 0xC00000 = none →
    (tst v 0 = true → ∃ t, exec (.devportEnable v) s = .next t ∧
      (s.dev.en = false → s.boot.recovery = false → t.dev.en = true ∧ t.dev.st = .detached ∧ t.dev.tunnel = tst v 1 ∧
        t.dev.ssOff = tst v 2 ∧ t.dev.xinst = BitVec.ofNat 8 (fld v 8 8) ∧ t.dev.lstate = 5 ∧
        (tst v 3 = false → t.out = s.out ++ [.power .dev true, .clamp .dev false, .devAttach true])) ∧
      (s.dev.en = false → s.boot.recovery = true → tst v 3 = false → t.dev.en = false ∧ t.dev.st = s.dev.st ∧
        t.out = s.out) ∧
      (s.dev.en = true → tst v 3 = false → t = wakeLink (ungate s))) ∧
    (tst v 0 = false → s.dev.st ≠ .suspended ∨ s.dev.en = true → ∃ t, exec (.devportDisable v) s = .next t ∧
      (s.dev.en = true → t.dev.en = false ∧ t.dev.st = .off ∧ t.dev.vbus = false ∧
        (devOn s = true → t.dev.addr = 0 ∧ t.dev.config = 0 ∧ t.dev.resets = s.dev.resets + 1)) ∧
      (s.dev.en = false → t = { wakeLink (ungate s) with dev := { s.dev with
        tunnel := tst v 1, ssOff := tst v 2, xinst := BitVec.ofNat 8 (fld v 8 8) } })) ∧
    (tst v 3 = true → tst v 0 = true → s.dev.en = true → ∃ t, exec (.devportRemoteWake v) s = .next t ∧
      (s.dev.st = .suspended → s.dev.rwe = true → s.dev.waking = false →
        t.dev = { s.dev with waking := true } ∧ t.out = s.out ++ [.devWake 0]) ∧
      (s.dev.st ≠ .suspended ∨ s.dev.rwe = false ∨ s.dev.waking = true → t = wakeLink (ungate s)))) ∧
  (∀ (c : DevSpeed) (s : State), s.dev.st = .detached → (s.dev.ssOff = true → c ≠ .gen2x1 ∧ c ≠ .gen1x1) →
    ∃ t, exec (.devVbusPresent c) s = .next t ∧ t.dev.st = .default ∧ t.dev.vbus = true ∧ t.dev.conn = some c ∧
      t.dev.stChg = true ∧ t.dev.stE = s.dev.stE + 1) ∧
  (∀ (stage : Fin 4) (req : Byte) (s : State), devOn s = true →
    ∃ t, exec (.devVbusAbsent stage req) s = .next t ∧ t.dev.st = .detached ∧ t.dev.vbus = false ∧ t.dev.conn = none ∧
      t.dev.addr = 0 ∧ t.dev.config = 0 ∧ t.dev.resets = s.dev.resets + 1 ∧ t.dev.rstE = s.dev.rstE + 1) ∧
  (∀ (k : DevReset) (stage : Fin 4) (req : Byte) (s : State), devOn s = true → (k = .usb2 ↔ devSuper s = false) →
    ∃ t, exec (.devportBusReset k stage req) s = .next t ∧ t.dev.st = .default ∧ t.dev.addr = 0 ∧ t.dev.config = 0 ∧
      t.dev.rwe = false ∧ t.dev.rstChg = true ∧ t.dev.rstE = s.dev.rstE + 1 ∧ t.dev.resets = s.dev.resets + 1) ∧
  (∀ s : State, devOn s = true → s.dev.st ≠ .suspended →
    ∃ t, exec .devportSuspend s = .next t ∧ t.dev.st = .suspended ∧ t.dev.was = s.dev.st ∧ t.dev.waking = false ∧
      t.dev.stE = s.dev.stE + 1 ∧ t.dev.addr = s.dev.addr ∧ t.dev.config = s.dev.config) ∧
  (∀ (host : Bool) (s : State), s.dev.st = .suspended → (host = true ∨ s.dev.waking = true) →
    ∃ t, exec (.devportHostResume host) s = .next t ∧ t.dev.st = s.dev.was ∧ t.dev.lstate = 0 ∧
      t.dev.wsrcHost = host ∧ t.dev.wsrcDev = s.dev.waking ∧ t.dev.waking = false ∧
      t.dev.addr = s.dev.addr ∧ t.dev.config = s.dev.config) ∧
  (∀ (k : DevLpm) (s : State), devOn s = true → s.dev.st ≠ .suspended → (k = .l1 ↔ devSuper s = false) →
    let yes := match k with | .u1 => s.dev.u1Acc | .u2 => s.dev.u2Acc | .l1 => s.dev.l1Acc
    exec (.devportLpmRequest k) s = .next { s with
      out := s.out ++ [.devLpmReply yes]
      dev := { s.dev with lstate := if yes then (match k with | .u1 => 1 | .u2 => 2 | .l1 => 4) else s.dev.lstate } }) ∧
  (∀ (p : Fin 16) (st : BitVec 16) (s : State), tunnelOpen s = true → p ≠ 0 → st ≠ 0 → st.toNat ≤ 65533 →
    (∀ bs, ∃ t, exec (.tunnelRequest p st bs) s = .next t ∧
      (tunRoom s p.val st.toNat = false → 32 ≤ bs.length → fld (dwordAt bs 0) 0 8 = 1 →
        fld (dwordAt bs 0) 8 8 ≠ 0x20 → t.out = s.out ++ [.devNrdy false p.val st.toNat] ∧
        t.dev.reqs = s.dev.reqs ∧ (p.val, st.toNat) ∈ t.dev.outNrdy) ∧
      (bs.length < 32 ∨ fld (dwordAt bs 0) 0 8 ≠ 1 →
        t.dev.abandoned = s.dev.abandoned + 1 ∧ t.dev.reqs = s.dev.reqs ∧ t.out = s.out) ∧
      (tunRoom s p.val st.toNat = true → 32 ≤ bs.length → fld (dwordAt bs 0) 0 8 = 1 →
        fld (dwordAt bs 0) 8 8 ≠ 0x20 →
        t = newRequest p.val st.toNat (fun k => dwordAt bs (4 * k)) (bs.drop 32) (devAwake (ungate s)))) ∧
    (∀ tag, ∃ t, exec (.tunnelCancel p st tag) s = .next t ∧
      ((∀ r ∈ s.dev.reqs, r.pair = p.val → r.stream = st.toNat → fld r.dw0 24 8 = tag.toNat → r.ended ≠ none) →
        t.dev.abandoned = s.dev.abandoned + 1 ∧ t.dev.reqs = s.dev.reqs ∧ t.out = s.out) ∧
      (∀ r, s.dev.reqs.find? (fun r => r.pair = p.val && r.stream = st.toNat && fld r.dw0 24 8 = tag.toNat &&
          r.ended.isNone) = some r → t = endRequest r (devAwake (ungate s)))) ∧
    (∀ r c, s.dev.reqs.find? (fun r => r.pair = p.val && r.stream = st.toNat) = some r → r.ended = some c →
      ∃ t, exec (.tunnelInSelection p st) s = .next t ∧ t.dev.reqs = s.dev.reqs.erase r ∧
        s.out ++ [.devData p.val st.toNat (trailer r c)] <+: t.out) ∧
    (∃ t, exec (.tunnelInSelection p st) s = .next t ∧
      ((∀ r ∈ s.dev.reqs, r.pair = p.val → r.stream ≠ st.toNat) →
        t.out = s.out ++ [.devNrdy true p.val st.toNat] ∧ (p.val, st.toNat) ∈ t.dev.inNrdy ∧
        t.dev.reqs = s.dev.reqs))) ∧
  (∀ (c : Packet) (reached : Bool) (s : State), Taken (.diagLoopback c reached) s →
    ∃ t, exec (.diagLoopback c reached) s = .next t ∧ t.cmd = s.cmd ∧
      (reached = true → t.dev.looping = true ∧ t.dev.en = true ∧ t.dev.st = .address ∧
        t.dev.conn = some (lConn c) ∧ ∃ a, t.dev.loopCmd = some (c.index, (uPort c).val, a) ∧
        t.dev.addr = BitVec.ofNat 7 a ∧ unitAt t (uPort c) a ≠ none) ∧
      (reached = false → t.dev.looping = false ∧ t.dev.en = false ∧ t.dev.st = .off)) ∧
  (∀ (i : Word) (p a errors : Nat) (s : State), s.dev.loopCmd = some (i, p, a) →
    ∃ t, exec (.loopbackDurationEnd errors) s = .next t ∧ t.dev.looping = false ∧ t.dev.loopCmd = none ∧
      t.dev.en = false ∧ unitAt t p a = none)

/-- Control requests of the device port (R341, R347–R349, R351, Table 13-3): in an activation pause answered NRDY, or
NAK at the USB 2.0 speeds; otherwise each request has its answer and its move, and one that the state or the table
does not allow is stalled. -/
def Obligations.ControlRequestsAreAnswered : Prop :=
  (∀ (a : BitVec 7) (v i alt : Nat) (f : DevFeature) (d : Descriptor) (m n : BitVec 16) (bs : List Byte) (s : State),
    devOn s = true → s.dev.st ≠ .suspended → s.cmd.paused = true →
    ∀ c ∈ [Instr.getDescriptor d, .setAddress a, .setConfiguration v, .setInterface i alt, .setFeature f, .getInfo m n,
      .getExports m n, .getLog m n, .notice m n bs],
    exec c s = .next { s with out := s.out ++ [if devSuper s then .devNrdy true 0 0 else .devNak] }) ∧
  (∀ (t r : Byte) (s : State), devOn s = true → s.dev.st ≠ .suspended → s.cmd.paused = true →
    t.toNat / 32 % 4 = 2 → (t.toNat, r.toNat) ∉ vendorRequests → exec (.unknownVendorRequest t r) s =
      .next { s with out := s.out ++ [if devSuper s then .devNrdy true 0 0 else .devNak] }) ∧
  ∀ s : State, devOn s = true → s.dev.st ≠ .suspended → s.cmd.paused = false →
    (∀ d, exec (.getDescriptor d) s = .next (emit (.devDescriptor d (descValues s d)) (devAwake (ungate s)))) ∧
    (∀ a, ∃ t, exec (.setAddress a) s = .next t ∧
      (s.dev.st = .configured → t.dev.addr = s.dev.addr ∧ t.dev.st = .configured ∧ t.out = s.out ++ [.devStall]) ∧
      (s.dev.st = .default → t.dev.addr = (if a = 0 then s.dev.addr else a) ∧
        t.dev.st = (if a = 0 then .default else .address) ∧ t.out = s.out ++ [.devControl []]) ∧
      (s.dev.st = .address → t.dev.addr = a ∧ t.dev.st = (if a = 0 then .default else .address) ∧
        t.out = s.out ++ [.devControl []])) ∧
    (∀ v, ∃ t, exec (.setConfiguration v) s = .next t ∧
      (s.dev.st = .address → v = 1 → t.dev.st = .configured ∧ t.dev.config = 1 ∧ t.dev.alt1 = false) ∧
      (s.dev.st = .configured → v = 0 → t.dev.st = .address ∧ t.dev.config = 0 ∧ t.dev.alt1 = false) ∧
      (s.dev.st = .default ∨ 1 < v → t.dev.st = s.dev.st ∧ t.dev.config = s.dev.config ∧
        t.out = s.out ++ [.devStall])) ∧
    (∀ i alt, ∃ t, exec (.setInterface i alt) s = .next t ∧
      (s.dev.st = .configured → hasTunnel s = true → i = 1 → alt = 1 → t.dev.alt1 = true ∧
        t.out = s.out ++ [.devControl []]) ∧
      (s.dev.st = .configured → hasTunnel s = true → i = 1 → alt = 0 → t.dev.alt1 = false) ∧
      (s.dev.st ≠ .configured ∨ 1 < i ∨ 1 < alt → t.dev.alt1 = s.dev.alt1 ∧ t.out = s.out ++ [.devStall])) ∧
    (∀ w, ∃ t, exec (.setFeature (.functionSuspend w)) s = .next t ∧
      t.dev.rwe = (if devSuper s then w else s.dev.rwe) ∧
      t.out = s.out ++ [if devSuper s then .devControl [] else .devStall]) ∧
    (∃ t, exec (.setFeature .deviceRemoteWakeup) s = .next t ∧
      t.dev.rwe = (if devSuper s then s.dev.rwe else true) ∧
      t.out = s.out ++ [if devSuper s then .devStall else .devControl []]) ∧
    exec (.getInfo 0 0) s = .next (emit (.devControl (infoBytes s)) (devAwake (ungate s))) ∧
    exec (.getExports 0 0) s = .next (emit (.devControl (exportBytes s)) (devAwake (ungate s))) ∧
    (∀ n : BitVec 16, n ≠ 0 → n.toNat ≤ 16 →
      exec (.getLog n 0) s = .next (emit (.devControl (latestLog n.toNat s)) (devAwake (ungate s)))) ∧
    (∀ bs, bs ≠ [] → bs.length ≤ 248 → ∃ t, exec (.notice 0 0 bs) s = .next t ∧
      t.free = s.free + 1 ∧ t.out.getLast? = some (.devControl []) ∧
      (0 < s.sump.logCap.toNat → s.sump.logSeq.toNat + 13 < 2 ^ 32 → s.sump.logSeq.toNat < t.sump.logSeq.toNat)) ∧
    (∀ (m n : BitVec 16) (bs : List Byte), (n ≠ 0 ∨ m ≠ 0 → ∀ c ∈ [Instr.getInfo m n, .getExports m n, .notice m n bs],
        exec c s = .next (emit .devStall (devAwake (ungate s)))) ∧
      (n ≠ 0 ∨ m = 0 ∨ 16 < m.toNat → exec (.getLog m n) s = .next (emit .devStall (devAwake (ungate s)))) ∧
      (bs = [] ∨ 248 < bs.length → exec (.notice m n bs) s = .next (emit .devStall (devAwake (ungate s))))) ∧
    (∀ t r : Byte, t.toNat / 32 % 4 = 2 → (t.toNat, r.toNat) ∉ vendorRequests →
      exec (.unknownVendorRequest t r) s = .next (emit .devStall (devAwake (ungate s))))

/-! ### Power channels (file 14) -/

/-- Power channels (R365–R380, Table 14-2): enabling, disabling and CLR; trips with their cause, counter and off time;
seats and their debounce; group supplies; the cool gate with retries and lockout; the thermal model. -/
def Obligations.ChannelsMove : Prop :=
  (∀ (c : Chan) (v : Word) (s : State), answers s 0 = true → offCode s (chBase c) = none →
    (tst v 0 = true → tst v 1 = false → ∃ t, exec (.channelEnable c v) s = .next t ∧ (chan t c).en = true ∧
      (chan t c).st = (if (chan s c).st = .off then .unseated else (chan s c).st)) ∧
    (tst v 0 = false → ∃ t, exec (.channelDisable c v) s = .next t ∧ (chan t c).en = false ∧ (chan t c).st = .off ∧
      ((chan s c).st = .on → (chan t c).vgChg = true ∧ (chan t c).vgE = (chan s c).vgE + 1)) ∧
    (tst v 1 = true → tst v 0 = true → (chan s c).en = true → (chan s c).st ≠ .off →
      ∃ t, exec (.channelClr c v) s = .next t ∧
        ((chan s c).st = .ramp ∨ (chan s c).st = .on → chan t c = chan s c) ∧
        ((chan s c).st = .lockout → (chan t c).count = 0 ∧
          (chan t c).st = (if permission s c then .ramp else .armed)) ∧
        ((chan s c).st ≠ .ramp → (chan s c).st ≠ .on → (chan s c).st ≠ .lockout →
          chan t c = { chan s c with count := 0 }))) ∧
  (∀ (c : Chan) (found : List TripCause) (s : State), gateOn s (chan s c) = true →
    let x := chan s c
    ∃ t, exec (.hardShort c found) s = .next t ∧ (chan t c).st = .cooling ∧ (chan t c).cause = 1 ∧
      (chan t c).trip = true ∧ (chan t c).tripE = x.tripE + 1 ∧ (chan t c).shorts = x.shorts + 1 ∧
      (chan t c).thermal = x.thermal + (if .thermal ∈ found ∧ causeHolds x .thermal = true then 1 else 0) ∧
      (chan t c).lowVbus = x.lowVbus + (if .lowVbus ∈ found ∧ causeHolds x .lowVbus = true then 1 else 0) ∧
      (chan t c).supply = x.supply + (if .supply ∈ found then 1 else 0) ∧
      (chan t c).offLeft = offMs x * 10 ∧ s.out ++ [.gate c false, .gateFast c] <+: t.out) ∧
  (∀ (c : Chan) (found : List TripCause) (s : State), (chan s c).st = .ramp → (chan s c).rampLeft = 0 →
    ∃ t, exec (.rampTimeout c found) s = .next t ∧ (chan t c).st = .cooling ∧
      (.short ∉ found → .thermal ∉ found → (chan t c).cause = 3) ∧ (.short ∈ found → (chan t c).cause = 1) ∧
      (chan t c).lowVbus = (chan s c).lowVbus + 1 ∧ (chan t c).offLeft = offMs (chan s c) * 10) ∧
  (∀ (c : Chan) (found : List TripCause) (s : State), limitLow (chan s c) = true → (chan s c).limLeft = 0 →
    ∃ t, exec (.onLimitTimeout c found) s = .next t ∧ (chan t c).st = .cooling ∧
      (.short ∉ found → .thermal ∉ found → (chan t c).cause = 3) ∧ (.short ∈ found → (chan t c).cause = 1) ∧
      (chan t c).lowVbus = (chan s c).lowVbus + 1 ∧ (chan t c).vgE = (chan s c).vgE + 1) ∧
  (∀ (c : Chan) (s : State), (chan s c).st = .ramp → s.mgmt.gatesHeld = false →
    ∃ t, exec (.vbusGoodReached c) s = .next t ∧ (chan t c).st = .on ∧ (chan t c).vgChg = true ∧
      (chan t c).vgE = (chan s c).vgE + 1 ∧ (chan t c).count = (chan s c).count) ∧
  (∀ (c : Chan) (a b : Bool) (s : State), chanUp s c = true → (a = false ∨ b = false) →
    ((chan s c).seatA ≠ a ∨ (chan s c).seatB ≠ b) →
    ∃ t, exec (.seatOpen c a b) s = .next t ∧ (chan t c).seatA = a ∧ (chan t c).seatB = b ∧
      (chan t c).st = (if (chan s c).st = .off then .off else .unseated)) ∧
  (∀ (c : Chan) (s : State), chanUp s c = true → ((chan s c).seatA = false ∨ (chan s c).seatB = false) →
    ∃ t, exec (.seatClose c) s = .next t ∧ (chan t c).seatA = true ∧ (chan t c).seatB = true ∧
      ((chan s c).st = .unseated → coolGate (chan s c) = true → (chan t c).st = .debounce ∧
        (chan t c).seatLeft = seatTime (chan s c)) ∧
      ((chan s c).st ≠ .unseated ∨ coolGate (chan s c) = false → (chan t c).st = (chan s c).st)) ∧
  (∀ (c : Chan) (s : State), (chan s c).st = .debounce → (chan s c).seatLeft = 0 →
    ∃ t, exec (.seatDebounceExpiry c) s = .next t ∧
      (permission s c = true → (chan t c).st = .ramp ∧ (chan t c).cfg = chCfg s c 0x100 ∧
        (chan t c).retry = chCfg s c 0x104) ∧
      (permission s c = false → (chan t c).st = .armed)) ∧
  (∀ (g : Fin 2) (s : State), chanUp s (g.val * 8) = true → isLow s g = false →
    ∃ t, exec (.supplyLow g) s = .next t ∧ isLow t g = true ∧
      (∀ c ∈ groupOf g, (chan s c).st = .ramp ∨ (chan s c).st = .on → (chan t c).st = .cooling ∧
        (chan t c).cause = 4 ∧ (chan t c).supply = (chan s c).supply + 1 ∧ (chan t c).count = (chan s c).count) ∧
      (∀ c, c ∉ groupOf g ∨ ((chan s c).st ≠ .ramp ∧ (chan s c).st ≠ .on) → chan t c = chan s c)) ∧
  (∀ (g : Fin 2) (s : State), chanUp s (g.val * 8) = true → isLow s g = true →
    (∀ c ∈ groupOf g, (chan s c).st ≠ .ramp ∧ (chan s c).st ≠ .on) →
    ∃ t, exec (.supplyRestored g) s = .next t ∧ isLow t g = false ∧
      (∀ c ∈ groupOf g, (chan s c).st = .armed →
        (chan t c).st = (if permission (setLow g false s) c then .ramp else .armed)) ∧
      (∀ c, c ∉ groupOf g ∨ (chan s c).st ≠ .armed → chan t c = chan s c)) ∧
  (∀ (c : Chan) (s : State), chanUp s c = true → coolGate (chan s c) = true →
    ∃ t, exec (.coolGateOpen c) s = .next t ∧
      ((chan s c).st = .cooling → (chan s c).cause ≠ 4 → retries (chan s c) ≤ (chan s c).count →
        (chan t c).st = .lockout ∧ (chan t c).lock = true ∧ (chan t c).lockE = (chan s c).lockE + 1) ∧
      ((chan s c).st = .cooling → ((chan s c).cause = 4 ∨ (chan s c).count < retries (chan s c)) →
        (chan t c).st = (if permission s c then .ramp else .armed) ∧
        (permission s c = true → (chan t c).count = (chan s c).count + (if (chan s c).cause = 4 then 0 else 1))) ∧
      ((chan s c).st ≠ .cooling → (chan s c).st ≠ .unseated → t = s)) ∧
  (∀ (c : Chan) (m : ChanSample) (s : State), chanUp s c = true →
    let x := { heat (chan s c) m with
      senseFault := badSense (chan s c) m, tNow := if badSense (chan s c) m then (chan s c).tNow else m.tmeas }
    ∃ t, exec (.thermalModelUpdate c m) s = .next t ∧ (chan t c).dj = x.dj ∧ (chan t c).db = x.db ∧
      (chan t c).iout = m.iout ∧ (chan t c).vout = m.vout ∧
      (gateOn s (chan s c) = true → (tTrip x : Rat) ≤ tUse x → (chan t c).st = .cooling ∧
        (.short ∉ m.found → (chan t c).cause = 2) ∧ (.short ∈ m.found → (chan t c).cause = 1) ∧
        (chan t c).thermal = (chan s c).thermal + 1 ∧ (chan t c).offLeft = offMs (chan s c) * 10) ∧
      (gateOn s (chan s c) = true → tUse x < (tTrip x : Rat) → (chan t c).st = (chan s c).st ∧
        (chan t c).offLeft = (chan s c).offLeft - 1) ∧
      (badSense (chan s c) m = true → (chan s c).senseFault = false →
        (chan t c).senseE = (chan s c).senseE + 1 ∧ (chan t c).senseErr = true))

/-! ### Power management (file 15) -/

/-- Power states (R387–R397): an entry that no refuser holds back reaches its state; one that a refuser holds back is
aborted, or refused at the end of its grace; the FAB clock is gated in a quiet IDLE; an armed source wakes SLEEP and
DEEP, a wake pin OFF too; a source that the running entry watches aborts it, another does nothing; and a wake that stops
says at which step. -/
def Obligations.PowerStatesMove : Prop :=
  (∀ (r : PmReq) (s : State), s.pm.entry = some r →
    (∃ t, exec .pmRefusersCleared s = .next t ∧
      (refusers s r.target r.perm = [] → r.target = .sleep → t.pm.st = .sleep ∧ t.pm.was = s.pm.st ∧ t.pm.entry = none ∧
        t.pm.entries = s.pm.entries + 1 ∧ t.pm.armed = (r.mask ||| 0x004) &&& 0x1FF ∧ t.iso.running = false ∧
        t.cfg = s.cfg ∧ t.qe = s.qe) ∧
      (refusers s r.target r.perm = [] → r.target = .deep → t.pm.st = .deep ∧ t.pm.was = s.pm.st ∧ t.pm.kept = r.rooms ∧
        t.pm.armed = (r.mask ||| 0x004) &&& 0x107 ∧ t.boot.fwReady = false ∧ t.qe.queues = State.reset.qe.queues ∧
        (∀ a, r.rooms.getLsbD (a / 131072) = true → getD 0 t.pm.rooms a = getD 0 s.pm.rooms a) ∧
        (∀ a, r.rooms.getLsbD (a / 131072) = false → getD 0 t.pm.rooms a = 0)) ∧
      (refusers s r.target r.perm = [] → r.target = .off → t.pm.st = .off ∧ t.pm.scr = s.pm.scr ∧
        t.pm.rooms = [] ∧ t.pm.armed = (r.mask ||| 0x004) &&& 0x001 ∧ t.boot.up = false) ∧
      (refusers s r.target r.perm ≠ [] → t.pm.aborts = s.pm.aborts + 1 ∧ (s.pm.pend = none → t.pm.entry = none ∧
        t.pm.st = s.pm.st))) ∧
    (∀ ms, ∃ t, exec (.pmGraceExpiry ms) s = .next t ∧
      (refusers s r.target r.perm = [] → t = reach r s) ∧
      (refusers s r.target r.perm ≠ [] → s.pm.pend = none → t.pm.refusals = s.pm.refusals + 1 ∧ t.pm.entry = none ∧
        t.pm.st = s.pm.st))) ∧
  (∀ s : State, s.pm.st = .idle → s.pm.gated = false → fabQuiet s = true →
    exec .fabClockGate s = .next { s with pm := { s.pm with gated := true, gates := s.pm.gates + 1 } }) ∧
  (∀ (o : BootOutcome) (w : WakeOutcome) (s : State),
    ∃ t, exec (.wakePinAssert o w) s = .next t ∧
      ((s.pm.st = .run ∨ s.pm.st = .idle) → s.pm.entry = none → t = s) ∧
      (∀ e, s.pm.st ≠ .off → s.pm.entry = some e → e.mask.getLsbD 0 = true → sourcesOf e.target ≠ 0 →
        t.pm.aborts = s.pm.aborts + 1) ∧
      (∀ e, s.pm.st ≠ .off → s.pm.entry = some e → e.mask.getLsbD 0 = false → t = s) ∧
      (s.pm.st = .deep → s.pm.entry = none → s.pm.pend = none → s.pm.armed.getLsbD 0 = true → w.imageOk = true →
        t.pm.st = s.pm.was ∧ t.pm.fired = 1 ∧ t.boot.up = true ∧ t.boot.fwReady = true ∧ t.boot.cause = 3 ∧
        t.iso.running = true) ∧
      (s.pm.st = .sleep → s.pm.entry = none → s.pm.pend = none → s.pm.armed.getLsbD 0 = true →
        t.pm.st = s.pm.was ∧ t.pm.fired = 1 ∧ t.iso.running = true) ∧
      (s.pm.st = .off → s.pm.armed.getLsbD 0 = true → s.pm.pend = none →
        t.pm.st = .run ∧ t.pm.fired = 1 ∧ t.boot.up = true)) ∧
  (∀ (w : WakeOutcome) (s : State), s.pm.st = .sleep ∨ s.pm.st = .deep → s.pm.armed.getLsbD 1 = true →
    ∃ t, exec (.wakeTimerExpiry w) s = .next t ∧
      (s.pm.entry = none → s.pm.pend = none → s.pm.st = .sleep → t.pm.st = s.pm.was ∧ t.pm.fired = 2 ∧
        t.iso.running = true ∧ t.iso.mic = s.iso.mic + wd (ivlsIn w.time.aonTicks)) ∧
      (s.pm.entry = none → s.pm.pend = none → s.pm.st = .deep → w.imageOk = true → t.pm.st = s.pm.was ∧
        t.pm.fired = 2 ∧ t.boot.up = true ∧ t.boot.fwReady = true ∧ t.boot.cause = 3) ∧
      (s.pm.entry = none → s.pm.st = .deep → w.imageOk = false → t.pm.st = .deep ∧ t.pm.wfail = true ∧
        t.pm.wfailStep = 5 ∧ t.pm.wfailE = s.pm.wfailE + 1 ∧ t.pm.fired = 2)) ∧
  (∀ (b : Fin 9) (w : WakeOutcome) (s : State), 2 ≤ b.val →
    ∃ t, exec (.wakeSourceFired b w) s = .next t ∧
      (∀ e, s.pm.entry = some e → ((e.mask ||| 0x004) &&& sourcesOf e.target).getLsbD b.val = true →
        t.pm.aborts = s.pm.aborts + 1) ∧
      (∀ e, s.pm.entry = some e → ((e.mask ||| 0x004) &&& sourcesOf e.target).getLsbD b.val = false → t = s) ∧
      (s.pm.entry = none → s.pm.armed.getLsbD b.val = false → t = s) ∧
      (s.pm.entry = none → s.pm.pend = none → s.pm.armed.getLsbD b.val = true →
        s.pm.st = .sleep ∨ (s.pm.st = .deep ∧ w.imageOk = true) →
        t.pm.st = s.pm.was ∧ t.pm.fired = BitVec.ofNat 9 (2 ^ b.val))) ∧
  (∀ (b : Fin 9) (k : Fin 8) (s : State), s.pm.st = .sleep ∨ s.pm.st = .deep → s.pm.armed.getLsbD b.val = true →
    2 ≤ k.val → k.val ≤ 6 →
    ∃ t, exec (.wakeStepTimeout b k) s = .next t ∧ t.pm = { s.pm with
      fired := BitVec.ofNat 9 (2 ^ b.val), wfail := true, wfailStep := BitVec.ofNat 3 k.val
      wfailE := s.pm.wfailE + 1
      aonWake := s.pm.aonWake || decide (s.pm.st = .deep ∧ b.val ≠ 2 ∧ s.boot.perst = true) })

/-! ### Start-up (file 16) -/

/-- Start-up, power fail and resets (R312, R406–R416, Table 16-6): the sequence runs the image of the slot that the boot
record names, or the other with FALLBACKS, or recovery; a power fail keeps PM_SCR; a controller reset takes both
configuration sets to their reset values and ends every origin. -/
def Obligations.StartUpRuns : Prop :=
  (∀ (o : BootOutcome) (s : State), s.boot.up = false → s.boot.failed = false → s.pm.st = .run →
    let fw := { s.fw with otp := max s.fw.otp o.otp.val }
    let first := !o.recordBad && s.fw.recSlotB
    ∃ t, exec (.powerOn o) s = .next t ∧ t.boot.up = true ∧ t.boot.cause = 0 ∧ t.iso.running = true ∧
      t.fw.otp = max s.fw.otp o.otp.val ∧ t.qe.queues = State.reset.qe.queues ∧
      (∀ i, slotRuns o fw first = some i → t.boot.fwReady = true ∧
        t.boot.recovery = false ∧ t.boot.fallback = false ∧ t.fw.runB = first ∧ t.fw.ver = i.1) ∧
      (∀ i, slotRuns o fw first = none → slotRuns o fw (!first) = some i → t.boot.fwReady = true ∧
        t.boot.fallback = true ∧ t.fw.fallbacks = 1 ∧ t.fw.runB = (!first) ∧ t.fw.ver = i.1) ∧
      ((∀ b, slotRuns o fw b = none) → t.boot.recovery = true ∧ t.boot.fwReady = false)) ∧
  (∀ s : State, s.boot.up = true ∨ s.pm.st = .deep →
    ∃ t, exec .powerFail s = .next t ∧ t.boot.failed = true ∧ t.boot.up = false ∧ t.pm.scr = s.pm.scr ∧
      t.pm.cool = s.pm.cool ∧ t.fw.otp = s.fw.otp ∧ t.fw.recSeq = s.fw.recSeq ∧
      ∀ c, (chan t c).st = .off ∧ (chan t c).bound = false) ∧
  (∀ s : State, s.boot.up = true ∨ s.pm.st = .deep ∨ s.pm.st = .off →
    ∃ t, exec .dieOvertempTrip s = .next t ∧ t.boot.failed = true ∧ t.boot.up = false ∧ t.boot.hot = true ∧
      t.pm.scr = s.pm.scr ∧ t.pm.cool = s.pm.cool) ∧
  (∀ (o : BootOutcome) (die : Int) (s : State), s.boot.failed = true → (s.boot.hot = false ∨ die ≤ 95) →
    ∃ t, exec (.powerFailRestart o die) s = .next t ∧ t.boot.failed = false ∧ t.boot.up = true ∧ t.boot.hot = false ∧
      (s.boot.flrHeld = false → t.boot.cause = 1)) ∧
  (∀ (o : BootOutcome) (die : Int) (s : State), s.boot.hot = true → 95 < die →
    exec (.powerFailRestart o die) s = .next s) ∧
  (∀ s : State, ∃ t, exec .vaonLoss s = .next t ∧ t.boot = { perst := s.boot.perst } ∧ t.pm = {} ∧
    t.fw.otp = s.fw.otp ∧ t.isL = s.isL) ∧
  (∀ s : State, s.boot.xtalWait = true →
    exec .xtal32kReady s = .next { s with boot := { s.boot with xtalWait := false, onXtal := true } } ∧
    exec .xtal32kTimeout s = .next { s with boot := { s.boot with xtalWait := false, rcOnly := true } }) ∧
  (∀ (c : Image) (s : State), s.boot.otherCheck = true →
    let part := if s.fw.runB then s.fw.partA else s.fw.partB
    ∃ t, exec (.slotBackgroundCheck c) s = .next t ∧ t.boot.otherCheck = false ∧
      (part = false → imageFault c.header none c.verified s.fw.otp = none → slotValid t (!s.fw.runB) = true ∧
        slotVer t (!s.fw.runB) = imageVer c.header) ∧
      (part = true ∨ imageFault c.header none c.verified s.fw.otp ≠ none → t.fw = s.fw) ∧
      slotValid t s.fw.runB = slotValid s s.fw.runB) ∧
  (∀ s : State, cfgUp s = true →
    ((s.boot.fwReady = false ∨ s.cmd.paused = true ∨ s.pm.st = .sleep) →
      exec .pfFunctionLevelReset s = .next { wakeLink s with boot := { s.boot with flrHeld := true } }) ∧
    (s.boot.fwReady = true → s.cmd.paused = false → s.pm.st ≠ .sleep →
      ∃ t, exec .pfFunctionLevelReset s = .next t ∧ t.boot.cause = 4 ∧ t.boot.flrHeld = false ∧ t.cfg = {} ∧
        t.sump.origins = [] ∧ t.sump.walks = [] ∧ t.cmd.pendSwap = false ∧ t.fw.staging = false ∧
        t.host.vfEnable = false ∧ t.iso.mic = s.iso.mic))

/-! ### Management interfaces (file 18) -/

/-- The SMBus target, the UART and JTAG (R438, R439, R441, R442, Table 18-8): each block read answers its registers in
order; an unsupported protocol is answered with NACK or an empty block, and without the management supply every
address match with NACK; received characters are discarded; where SLEEP armed them, an address match and a start bit
wake the block, and the answer follows the wake; while an entry watches them they abort it; each JTAG instruction
shifts out what its register captures, and the test instructions hold every gate off. -/
def Obligations.ManagementAnswers : Prop :=
  let answered := fun (t : State) => t.out.getLast?.any (fun o => match o with
    | .smbus _ | .smbusNack => true
    | _ => false)
  (∀ (pec : Bool) (s : State), mgtUp s = true → awakeFor 6 s = true →
    let block := fun (t : State) (code n : Nat) (as : List Nat) => ∃ ws : List Word,
      t.out.getLast? = some (.smbus (smbAnswer code pec (ws.map (fun w => (wordBytes w).take n)).flatten)) ∧
      ws.length = as.length ∧
      ((∀ a ∈ as, offCode s a = none) → s.pm.st ≠ .sleep → ws = as.map (fun a => bar0Word (ungate s) a) ∧
        t.out = s.out ++ [.smbus (smbAnswer code pec (ws.map (fun w => (wordBytes w).take n)).flatten)] ∧
        t.sump = s.sump)
    (∃ t, exec (.ident pec) s = .next t ∧ block t 1 4 [0x0, 0x4, 0x8]) ∧
    (∃ t, exec (.status pec) s = .next t ∧ block t 2 4 [0x2000, 0x10, 0xF00000, 0x300C]) ∧
    (∃ t, exec (.capacity pec) s = .next t ∧ block t 3 4 [0x20, 0x24, 0x28, 0x2C, 0x30, 0x34, 0x38, 0x3C]) ∧
    (∃ t, exec (.channels pec) s = .next t ∧ block t 5 2 ((List.range 16).map (fun c => 0xD00004 + c * 0x1000))) ∧
    (∃ t, exec (.faults pec) s = .next t ∧ block t 6 4 [0xF80000, 0xF80040])) ∧
  (∀ (now : BitVec 16) (pec : Bool) (s : State), mgtUp s = true → awakeFor 6 s = true →
    ∃ t, exec (.thermal now pec) s = .next t ∧ s.mgmt.tHigh.toInt ≤ t.mgmt.tHigh.toInt ∧
      now.toInt ≤ t.mgmt.tHigh.toInt ∧ (t.mgmt.tHigh = now ∨ t.mgmt.tHigh = s.mgmt.tHigh) ∧
      t.out = s.out ++
        [.smbus (smbAnswer 4 pec (wordBytes (pack [(now.toNat, 0), (t.mgmt.tHigh.toNat, 16)])))]) ∧
  (∀ (code : Byte) (read pec : Bool) (s : State), mgtUp s = true → awakeFor 6 s = true →
    exec (.smbusUnsupported code read pec) s = .next { s with
      out := s.out ++ [if read then .smbus (smbAnswer code.toNat pec []) else .smbusNack] }) ∧
  (∀ (code : Nat) (bs : List Byte), bs.length < 256 →
    (smbAnswer code false bs).head? = some (BitVec.ofNat 8 bs.length) ∧ (smbAnswer code false bs).tail = bs ∧
    smbAnswer code false bs <+: smbAnswer code true bs ∧ (smbAnswer code true bs).length = bs.length + 2) ∧
  (∀ (c : Instr) (now : BitVec 16) (code : Byte) (read pec : Bool) (s : State), mgtUp s = false →
    c ∈ [Instr.ident pec, .status pec, .capacity pec, .channels pec, .faults pec, .thermal now pec,
      .smbusUnsupported code read pec] →
    exec c s = .next { s with out := s.out ++ [.smbusNack] }) ∧
  (∀ (e : PmReq) (now : BitVec 16) (code : Byte) (read pec : Bool) (s : State), mgtUp s = true → s.pm.entry = some e →
    (((e.mask ||| 0x004) &&& sourcesOf e.target).getLsbD 6 = true →
      ∀ c ∈ [Instr.ident pec, .status pec, .capacity pec, .channels pec, .faults pec, .thermal now pec,
        .smbusUnsupported code read pec],
      ∃ t, exec c s = .next t ∧ t.pm.aborts = s.pm.aborts + 1 ∧ answered t = true) ∧
    (((e.mask ||| 0x004) &&& sourcesOf e.target).getLsbD 7 = true →
      ∀ c, ∃ t, exec (.uartRxCharacter c) s = .next t ∧ t.pm.aborts = s.pm.aborts + 1)) ∧
  (∀ (now : BitVec 16) (code : Byte) (read pec : Bool) (s : State), mgtUp s = true → s.pm.st = .sleep →
    s.pm.entry = none → s.pm.pend = none →
    (s.pm.armed.getLsbD 6 = true →
      ∀ c ∈ [Instr.ident pec, .status pec, .capacity pec, .channels pec, .faults pec, .thermal now pec,
        .smbusUnsupported code read pec],
      ∃ t, exec c s = .next t ∧ t.pm.st = s.pm.was ∧ t.pm.fired = 0x40 ∧ answered t = true) ∧
    (s.pm.armed.getLsbD 7 = true → ∀ c, ∃ t, exec (.uartRxCharacter c) s = .next t ∧ t.pm.st = s.pm.was ∧
      t.pm.fired = 0x80)) ∧
  (∀ s : State, mgtUp s = true → exec .smbusClockTimeout s = .next { s with out := s.out ++ [.smbusRelease] }) ∧
  (∀ (c : Byte) (s : State), awakeFor 7 s = true → exec (.uartRxCharacter c) s = .next s) ∧
  (∀ s : State, mgtUp s = true →
    (∀ code, exec (.bypass code) s = .next { s with
      mgmt := { s.mgmt with ir := .bypass }, out := s.out ++ [.tdo [false]] }) ∧
    (exec .idcode s = .next { s with mgmt := { s.mgmt with ir := .idcode }, out := s.out ++ [.tdo (wordBits idWord)] } ∧
      idWord &&& 0xFFFFF001 = 0x18160001) ∧
    (∀ chain, ∃ t bs, exec (.samplePreload chain) s = .next t ∧ bs.length = chain.length ∧
      t.out = s.out ++ [.tdo bs] ∧ t.mgmt = { s.mgmt with ir := .sample, chain := chain } ∧
      t.free = s.free + chain.length) ∧
    let held := fun (t : State) (j : JtagInstr) (m : Nat) => t.mgmt = { s.mgmt with ir := j, gatesHeld := true } ∧
      t.out.getLast? = some (.pins m) ∧ (∀ c : Chan, gateOn t (chan t c) = false) ∧
      ∀ c : Chan, gateOn s (chan s c) = true → .gate c false ∈ t.out
    (∃ t, exec .extest s = .next t ∧ held t .extest 1) ∧ (∃ t, exec .clamp s = .next t ∧ held t .clamp 2) ∧
    (∃ t, exec .highz s = .next t ∧ held t .highz 3))
end

