-- ==== Sys2Proof/Laws/Maps.lean ====
section
/-! SUPPORT. Finite maps with a default: what a read answers after a write, and that every write keeps the canonical
form. -/

set_option Elab.async false

namespace Sys2Proof.Machine

open Sys2Proof

section Maps

variable {α : Type}

theorem find_insert_same (m : Sparse α) (a : Nat) (x : α) : find (insert m a x) a = some x := by
  induction m with
  | nil => simp [insert, find]
  | cons kv m ih => obtain ⟨k, v⟩ := kv; unfold insert; split_ifs <;> simp_all [find]; omega

theorem find_insert_other (m : Sparse α) {a b : Nat} (x : α) (h : b ≠ a) : find (insert m a x) b = find m b := by
  induction m with
  | nil => simp [insert, find, h.symm]
  | cons kv m ih => obtain ⟨k, v⟩ := kv; unfold insert; split_ifs <;> simp_all [find, h.symm, eq_comm]

theorem find_erase_same (m : Sparse α) (a : Nat) : find (erase m a) a = none := by
  induction m with
  | nil => rfl
  | cons kv m ih => obtain ⟨k, v⟩ := kv; unfold erase; split_ifs <;> simp_all [find]

theorem find_erase_other (m : Sparse α) {a b : Nat} (h : b ≠ a) : find (erase m a) b = find m b := by
  induction m with
  | nil => rfl
  | cons kv m ih =>
    obtain ⟨k, v⟩ := kv
    unfold erase
    split_ifs with hk
    · subst hk; simp [find, h.symm, ih]
    · simp [find, ih]

theorem getD_setD_same [DecidableEq α] (d : α) (m : Sparse α) (a : Nat) (x : α) : getD d (setD d m a x) a = x := by
  unfold getD setD
  split_ifs with h
  · simp [find_erase_same, h]
  · simp [find_insert_same]

theorem getD_setD_other [DecidableEq α] (d : α) (m : Sparse α) {a b : Nat} (x : α) (h : b ≠ a) :
    getD d (setD d m a x) b = getD d m b := by
  unfold getD setD
  split_ifs
  · rw [find_erase_other m h]
  · rw [find_insert_other m x h]

theorem getD_setD [DecidableEq α] (d : α) (m : Sparse α) (a b : Nat) (x : α) :
    getD d (setD d m a x) b = if b = a then x else getD d m b := by
  split_ifs with h
  · rw [h, getD_setD_same]
  · exact getD_setD_other d m x h

/-! ### The canonical form -/

theorem mem_erase {m : Sparse α} {a : Nat} {y : Nat × α} (h : y ∈ erase m a) : y ∈ m ∧ y.1 ≠ a := by
  induction m with
  | nil => simp [erase] at h
  | cons kv m ih =>
    obtain ⟨k, v⟩ := kv
    unfold erase at h
    split_ifs at h with hk
    · exact ⟨List.mem_cons_of_mem _ (ih h).1, (ih h).2⟩
    · rcases List.mem_cons.mp h with rfl | h
      · exact ⟨List.mem_cons_self .., hk⟩
      · exact ⟨List.mem_cons_of_mem _ (ih h).1, (ih h).2⟩

theorem sorted_erase {m : Sparse α} (a : Nat) (h : Sorted m) : Sorted (erase m a) := by
  induction m with
  | nil => exact h
  | cons kv m ih =>
    obtain ⟨k, v⟩ := kv
    have hm := List.pairwise_cons.mp h
    unfold erase
    split_ifs
    · exact ih hm.2
    · exact List.pairwise_cons.mpr ⟨fun y hy => hm.1 y (mem_erase hy).1, ih hm.2⟩

theorem mem_insert {m : Sparse α} {a : Nat} {x : α} {y : Nat × α} (h : y ∈ insert m a x) : y = (a, x) ∨ y ∈ m := by
  induction m with
  | nil => simpa [insert] using h
  | cons kv m ih =>
    obtain ⟨k, v⟩ := kv
    unfold insert at h
    split_ifs at h
    · simpa using h
    · rcases List.mem_cons.mp h with rfl | h
      · exact Or.inl rfl
      · exact Or.inr (List.mem_cons_of_mem _ h)
    · rcases List.mem_cons.mp h with rfl | h
      · exact Or.inr (List.mem_cons_self ..)
      · exact (ih h).imp id (List.mem_cons_of_mem _)

theorem sorted_insert {m : Sparse α} (a : Nat) (x : α) (h : Sorted m) : Sorted (insert m a x) := by
  induction m with
  | nil => simp [insert, Sorted]
  | cons kv m ih =>
    obtain ⟨k, v⟩ := kv
    have hm := List.pairwise_cons.mp h
    unfold insert
    split_ifs with h1 h2
    · refine List.pairwise_cons.mpr ⟨fun y hy => ?_, h⟩
      rcases List.mem_cons.mp hy with rfl | hy
      · exact h1
      · exact Nat.lt_trans h1 (hm.1 y hy)
    · subst h2; exact List.pairwise_cons.mpr ⟨fun y hy => hm.1 y hy, hm.2⟩
    · refine List.pairwise_cons.mpr ⟨fun y hy => ?_, ih hm.2⟩
      rcases mem_insert hy with rfl | hy
      · simp only; omega
      · exact hm.1 y hy

/-- Every write keeps the canonical form of a map with a default. -/
theorem canon_setD [DecidableEq α] {d : α} {m : Sparse α} (a : Nat) (x : α) (h : Canon d m) : Canon d (setD d m a x) := by
  unfold setD
  split_ifs with hx
  · exact ⟨sorted_erase a h.1, fun y hy => h.2 y (mem_erase hy).1⟩
  · refine ⟨sorted_insert a x h.1, fun y hy => ?_⟩
    rcases mem_insert hy with rfl | hy
    · exact hx
    · exact h.2 y hy

/-- A filter keeps the canonical form. -/
theorem canon_filter {d : α} {m : Sparse α} (p : Nat × α → Bool) (h : Canon d m) : Canon d (m.filter p) :=
  ⟨h.1.filter p, fun y hy => h.2 y (List.mem_filter.mp hy).1⟩

end Maps

/-! ### Byte memory -/

theorem wf_nil : Memory.wf [] := ⟨List.Pairwise.nil, fun _ h => nomatch h⟩

/-- A write of bytes keeps the memory canonical. -/
theorem wf_writeBytes {m : Sparse Byte} (bs : List Byte) (a : Nat) (h : Memory.wf m) :
    Memory.wf (writeBytes m a bs) := by
  induction bs generalizing m a with
  | nil => exact h
  | cons b bs ih => exact ih (a + 1) (canon_setD a b h)

/-- A byte outside the bytes written reads as before. -/
theorem getD_writeBytes_outside (m : Sparse Byte) (a b : Nat) (bs : List Byte) (h : b < a ∨ a + bs.length ≤ b) :
    getD 0 (writeBytes m a bs) b = getD 0 m b := by
  induction bs generalizing m a with
  | nil => rfl
  | cons x xs ih =>
    simp only [List.length_cons] at h
    rw [writeBytes, ih _ _ (by omega), getD_setD_other _ _ _ (by omega)]

/-- The byte at a place within the bytes written is the one written there. -/
theorem getD_writeBytes_inside (m : Sparse Byte) (a k : Nat) (bs : List Byte) (h : k < bs.length) :
    getD 0 (writeBytes m a bs) (a + k) = bs[k] := by
  induction bs generalizing m a k with
  | nil => simp at h
  | cons x xs ih =>
    cases k with
    | zero => rw [Nat.add_zero, writeBytes, getD_writeBytes_outside _ _ _ _ (by omega), getD_setD_same]; rfl
    | succ n =>
      have := ih (setD 0 m a x) (a + 1) n (by simpa using h)
      rw [writeBytes, show a + (n + 1) = a + 1 + n by omega, this]; rfl

end Sys2Proof.Machine
end

