-- ==== Sys2Proof/Laws/Frame.lean ====
section
/-! SUPPORT. How frames compose: `Eff ps s t` says that `t` comes from `s` with only the listed parts changed and with
everything kept that every command keeps. One lemma per update of a record of `State`, and one per way of composing. -/

set_option Elab.async false

namespace Sys2Proof.Machine

open Sys2Proof

/-- Only the listed parts have changed, and what every command keeps is kept. -/
structure Eff (ps : List Part) (s t : State) : Prop where
  touches : Touches ps s t
  keeps : Keeps s t

theorem Part.Same.refl (s : State) (p : Part) : p.Same s s := by
  cases p <;> first | rfl | exact fun _ => rfl

theorem Part.Same.trans {s t u : State} (p : Part) (h : p.Same s t) (k : p.Same t u) : p.Same s u := by
  cases p <;> first | exact Eq.trans k h | exact fun i => Eq.trans (k i) (h i)

theorem Keeps.refl (s : State) : Keeps s s := ⟨id, rfl, Nat.le_refl _, id, rfl, List.prefix_rfl⟩

theorem Keeps.trans {s t u : State} (h : Keeps s t) (k : Keeps t u) : Keeps s u :=
  ⟨fun n => k.names (h.names n), k.fuse.trans h.fuse, h.otp.trans k.otp, fun w => k.rooms (h.rooms w), k.pending.trans h.pending,
    h.out.trans k.out⟩

theorem Touches.refl (ps : List Part) (s : State) : Touches ps s s := fun p _ => Part.Same.refl s p

theorem Eff.refl (ps : List Part) (s : State) : Eff ps s s := ⟨Touches.refl ps s, Keeps.refl s⟩

theorem Touches.weaken {ps qs : List Part} {s t : State} (h : Touches qs s t) (sub : qs ⊆ ps) : Touches ps s t :=
  fun p hp => h p (fun m => hp (sub m))

theorem Touches.trans {ps : List Part} {s t u : State} (h : Touches ps s t) (k : Touches ps t u) : Touches ps s u :=
  fun p hp => (h p hp).trans p (k p hp)

/-- A further function is applied. -/
theorem Eff.step {qs ps : List Part} {s t u : State} (k : Eff qs t u) (h : Eff ps s t) (sub : qs ⊆ ps := by decide) :
    Eff ps s u :=
  ⟨h.touches.trans (k.touches.weaken sub), h.keeps.trans k.keeps⟩

theorem Eff.weaken {qs ps : List Part} {s t : State} (k : Eff qs s t) (sub : qs ⊆ ps := by decide) : Eff ps s t :=
  ⟨k.touches.weaken sub, k.keeps⟩

theorem Eff.ite {ps : List Part} {s t u : State} {c : Prop} {i : Decidable c} (h : Eff ps s t) (k : Eff ps s u) :
    Eff ps s (if c then t else u) := by split <;> assumption

theorem Eff.foldl {α : Type} {ps : List Part} {s t : State} {f : State → α → State}
    (hf : ∀ (x : α) (t : State), Eff ps t (f t x)) (h : Eff ps s t) (l : List α) : Eff ps s (l.foldl f t) := by
  induction l generalizing t with
  | nil => exact h
  | cons x xs ih => exact ih ((hf x t).step h (fun _ m => m))

/-- A fold that carries a value beside the state. -/
theorem Eff.foldl_fst {α β : Type} {ps : List Part} {s : State} {t : State × β} {f : State × β → α → State × β}
    (hf : ∀ (x : α) (t : State × β), Eff ps t.1 (f t x).1) (h : Eff ps s t.1) (l : List α) :
    Eff ps s (l.foldl f t).1 := by
  induction l generalizing t with
  | nil => exact h
  | cons x xs ih => exact ih ((hf x t).step h (fun _ m => m))

/-- By way of an intermediate state. -/
theorem Eff.via {ps : List Part} {s u : State} (t : State) (h : Eff ps s t) (k : Eff ps s t → Eff ps s u) :
    Eff ps s u := k h

/-! ### Side conditions: what an update of one record of `State` may change -/

/-- An update of `State.host`. -/
structure HostIfUpd (ps : List Part) (a b : HostIf) : Prop where
  link : Part.link ∈ ps ∨
    (b.speed, b.width, b.reversed, b.tenBit, b.mps, b.mrrs, b.l1Entries, b.idleUs, b.holdIso, b.linkUp, b.aspmL11, b.aspmL12, b.pciL11, b.pciL12, b.cplTimeoutOff, b.cplTimeout, b.ari, b.vfEnable, b.numVfs) = (a.speed, a.width, a.reversed, a.tenBit, a.mps, a.mrrs, a.l1Entries, a.idleUs, a.holdIso, a.linkUp, a.aspmL11, a.aspmL12, a.pciL11, a.pciL12, a.cplTimeoutOff, a.cplTimeout, a.ari, a.vfEnable, a.numVfs) := by first | exact Or.inl (by decide) | exact Or.inr rfl
  l1 : Part.l1 ∈ ps ∨
    b.l1 = a.l1 := by first | exact Or.inl (by decide) | exact Or.inr rfl
  herr : Part.herr ∈ ps ∨
    (b.herrAddr, b.herrInst, b.herrValid, b.herrKind, b.herrSource, b.herrEdges) = (a.herrAddr, a.herrInst, a.herrValid, a.herrKind, a.herrSource, a.herrEdges) := by first | exact Or.inl (by decide) | exact Or.inr rfl
  reads : Part.reads ∈ ps ∨
    b.reads = a.reads := by first | exact Or.inl (by decide) | exact Or.inr rfl
  late : Part.late ∈ ps ∨
    b.timedOut = a.timedOut := by first | exact Or.inl (by decide) | exact Or.inr rfl
  msg : Part.msg ∈ ps ∨
    (b.ltrNeed, b.peWake) = (a.ltrNeed, a.peWake) := by first | exact Or.inl (by decide) | exact Or.inr rfl

theorem HostIfUpd.refl (ps : List Part) (a : HostIf) : HostIfUpd ps a a where
  link := Or.inr rfl
  l1 := Or.inr rfl
  herr := Or.inr rfl
  reads := Or.inr rfl
  late := Or.inr rfl
  msg := Or.inr rfl

/-- An update of `State.qe`. -/
structure QueueEngineUpd (ps : List Part) (a b : QueueEngine) : Prop where
  queues : Part.queues ∈ ps ∨
    b.queues = a.queues := by first | exact Or.inl (by decide) | exact Or.inr rfl
  dbdrop : Part.dbdrop ∈ ps ∨
    b.dbdrop = a.dbdrop := by first | exact Or.inl (by decide) | exact Or.inr rfl
  fences : Part.fences ∈ ps ∨
    b.fences = a.fences := by first | exact Or.inl (by decide) | exact Or.inr rfl

theorem QueueEngineUpd.refl (ps : List Part) (a : QueueEngine) : QueueEngineUpd ps a a where
  queues := Or.inr rfl
  dbdrop := Or.inr rfl
  fences := Or.inr rfl

/-- An update of `State.iso`. -/
structure TimebaseUpd (ps : List Part) (a b : Timebase) : Prop where
  clock : Part.clock ∈ ps ∨
    (b.running, b.mic, b.pos, b.snap) = (a.running, a.mic, a.pos, a.snap) := by first | exact Or.inl (by decide) | exact Or.inr rfl
  lock : Part.lock ∈ ps ∨
    { b with running := false, mic := 0, pos := 0, snap := 0, ports := [] } = { a with running := false, mic := 0, pos := 0, snap := 0, ports := [] } := by first | exact Or.inl (by decide) | exact Or.inr rfl
  portTime : Part.portTime ∈ ps ∨
    b.ports = a.ports := by first | exact Or.inl (by decide) | exact Or.inr rfl

theorem TimebaseUpd.refl (ps : List Part) (a : Timebase) : TimebaseUpd ps a a where
  clock := Or.inr rfl
  lock := Or.inr rfl
  portTime := Or.inr rfl

/-- An update of `State.sump`. -/
structure SumpUpd (ps : List Part) (a b : Sump) : Prop where
  origins : Part.origins ∈ ps ∨
    (b.origins, b.walks, b.intake) = (a.origins, a.walks, a.intake) := by first | exact Or.inl (by decide) | exact Or.inr rfl
  sumpFlags : Part.sumpFlags ∈ ps ∨
    (b.overflow, b.memUe, b.ovfE, b.ueE) = (a.overflow, a.memUe, a.ovfE, a.ueE) := by first | exact Or.inl (by decide) | exact Or.inr rfl
  acc : Part.acc ∈ ps ∨
    (b.accAddr, b.accBlock, b.accInst, b.accWrite, b.accSource, b.accValid, b.accCount) = (a.accAddr, a.accBlock, a.accInst, a.accWrite, a.accSource, a.accValid, a.accCount) := by first | exact Or.inl (by decide) | exact Or.inr rfl
  memErr : Part.memErr ∈ ps ∨
    (b.ceThresh, b.ueMax, b.cisCe, b.cisUe, b.chipCe, b.chipUe, b.cel0Ce, b.cel0Ue, b.cel1Ce, b.cel1Ue, b.cisRet, b.ceTimes) = (a.ceThresh, a.ueMax, a.cisCe, a.cisUe, a.chipCe, a.chipUe, a.cel0Ce, a.cel0Ue, a.cel1Ce, a.cel1Ue, a.cisRet, a.ceTimes) := by first | exact Or.inl (by decide) | exact Or.inr rfl
  log : Part.log ∈ ps ∨
    (b.logSeq, b.logCap, b.log) = (a.logSeq, a.logCap, a.log) := by first | exact Or.inl (by decide) | exact Or.inr rfl

theorem SumpUpd.refl (ps : List Part) (a : Sump) : SumpUpd ps a a where
  origins := Or.inr rfl
  sumpFlags := Or.inr rfl
  acc := Or.inr rfl
  memErr := Or.inr rfl
  log := Or.inr rfl

/-- An update of `State.glb`. -/
structure GlbUpd (ps : List Part) (a b : Glb) : Prop where
  scratch : Part.scratch ∈ ps ∨
    b.scratch = a.scratch := by first | exact Or.inl (by decide) | exact Or.inr rfl
  capFlag : Part.capFlag ∈ ps ∨
    (b.capChg, b.capE) = (a.capChg, a.capE) := by first | exact Or.inl (by decide) | exact Or.inr rfl
  cellar : Part.cellar ∈ ps ∨
    (b.c0, b.c1, b.sizeGib, b.celRate) = (a.c0, a.c1, a.sizeGib, a.celRate) := by first | exact Or.inl (by decide) | exact Or.inr rfl

theorem GlbUpd.refl (ps : List Part) (a : Glb) : GlbUpd ps a a where
  scratch := Or.inr rfl
  capFlag := Or.inr rfl
  cellar := Or.inr rfl

/-- An update of `State.fw`. -/
structure FirmwareUpd (ps : List Part) (a b : Firmware) : Prop where
  fwSlots : Part.fwSlots ∈ ps ∨
    { b with logHeld := [], logAbsent := 0, devHeld := [] } = { a with logHeld := [], logAbsent := 0, devHeld := [] } := by first | exact Or.inl (by decide) | exact Or.inr rfl
  fwHeld : Part.fwHeld ∈ ps ∨
    (b.logHeld, b.logAbsent, b.devHeld) = (a.logHeld, a.logAbsent, a.devHeld) := by first | exact Or.inl (by decide) | exact Or.inr rfl
  otp : a.otp ≤ b.otp := by first | exact Nat.le_refl _ | exact Nat.le_max_left _ _

theorem FirmwareUpd.refl (ps : List Part) (a : Firmware) : FirmwareUpd ps a a where
  fwSlots := Or.inr rfl
  fwHeld := Or.inr rfl

/-- An update of `State.dev`. -/
structure DevPortUpd (ps : List Part) (a b : DevPort) : Prop where
  devReg : Part.devReg ∈ ps ∨
    { b with tq := {}, reqs := [], flowing := [], inNrdy := [], outNrdy := [], waking := false } = { a with tq := {}, reqs := [], flowing := [], inNrdy := [], outNrdy := [], waking := false } := by first | exact Or.inl (by decide) | exact Or.inr rfl
  devWake : Part.devWake ∈ ps ∨
    b.waking = a.waking := by first | exact Or.inl (by decide) | exact Or.inr rfl
  tunnel : Part.tunnel ∈ ps ∨
    (b.tq, b.reqs, b.flowing, b.inNrdy, b.outNrdy) = (a.tq, a.reqs, a.flowing, a.inNrdy, a.outNrdy) := by first | exact Or.inl (by decide) | exact Or.inr rfl

theorem DevPortUpd.refl (ps : List Part) (a : DevPort) : DevPortUpd ps a a where
  devReg := Or.inr rfl
  devWake := Or.inr rfl
  tunnel := Or.inr rfl

/-- An update of `State.pm`. -/
structure PmUpd (ps : List Part) (a b : Pm) : Prop where
  pmReg : Part.pmReg ∈ ps ∨
    { b with gated := false, held := [], cool := [], scr := [], rooms := [], room0 := none, room1 := none, kept := 0, srKept := false, keptLog := none, mic := none } = { a with gated := false, held := [], cool := [], scr := [], rooms := [], room0 := none, room1 := none, kept := 0, srKept := false, keptLog := none, mic := none } := by first | exact Or.inl (by decide) | exact Or.inr rfl
  gate : Part.gate ∈ ps ∨
    b.gated = a.gated := by first | exact Or.inl (by decide) | exact Or.inr rfl
  heldEv : Part.heldEv ∈ ps ∨
    b.held = a.held := by first | exact Or.inl (by decide) | exact Or.inr rfl
  cool : Part.cool ∈ ps ∨
    b.cool = a.cool := by first | exact Or.inl (by decide) | exact Or.inr rfl
  store : Part.store ∈ ps ∨
    (b.scr, b.rooms, b.room0, b.room1, b.kept, b.srKept, b.keptLog, b.mic) = (a.scr, a.rooms, a.room0, a.room1, a.kept, a.srKept, a.keptLog, a.mic) := by first | exact Or.inl (by decide) | exact Or.inr rfl
  canon : Memory.wf a.rooms → Memory.wf b.rooms := by exact id

theorem PmUpd.refl (ps : List Part) (a : Pm) : PmUpd ps a a where
  pmReg := Or.inr rfl
  gate := Or.inr rfl
  heldEv := Or.inr rfl
  cool := Or.inr rfl
  store := Or.inr rfl

/-- A change of one element of `State.funcs`. -/
structure FuncUpd (ps : List Part) (a b : Func) : Prop where
  fnCfg : Part.fnCfg ∈ ps ∨ (b.memEnable, b.busMaster, b.dstate, b.msixEnable, b.funcMask, b.pmeEnable, b.corReport, b.nfReport) = (a.memEnable, a.busMaster, a.dstate, a.msixEnable, a.funcMask, a.pmeEnable, a.corReport, a.nfReport) := by first | exact Or.inl (by decide) | exact Or.inr rfl
  fnErr : Part.fnErr ∈ ps ∨ b.aer = a.aer := by first | exact Or.inl (by decide) | exact Or.inr rfl
  fnMsg : Part.fnMsg ∈ ps ∨ (b.pmeStatus, b.vecs) = (a.pmeStatus, a.vecs) := by first | exact Or.inl (by decide) | exact Or.inr rfl

/-- A change of `State.funcs`. -/
structure FuncsUpd (ps : List Part) (a b : Sparse Func) : Prop where
  fnCfg : Part.fnCfg ∈ ps ∨ ∀ i, ((getD {} b i).memEnable, (getD {} b i).busMaster, (getD {} b i).dstate, (getD {} b i).msixEnable, (getD {} b i).funcMask, (getD {} b i).pmeEnable, (getD {} b i).corReport, (getD {} b i).nfReport) = ((getD {} a i).memEnable, (getD {} a i).busMaster, (getD {} a i).dstate, (getD {} a i).msixEnable, (getD {} a i).funcMask, (getD {} a i).pmeEnable, (getD {} a i).corReport, (getD {} a i).nfReport)
  fnErr : Part.fnErr ∈ ps ∨ ∀ i, (getD {} b i).aer = (getD {} a i).aer
  fnMsg : Part.fnMsg ∈ ps ∨ ∀ i, ((getD {} b i).pmeStatus, (getD {} b i).vecs) = ((getD {} a i).pmeStatus, (getD {} a i).vecs)

theorem FuncsUpd.refl (ps : List Part) (a : Sparse Func) : FuncsUpd ps a a where
  fnCfg := Or.inr (fun _ => rfl)
  fnErr := Or.inr (fun _ => rfl)
  fnMsg := Or.inr (fun _ => rfl)

/-- A change of one element of `State.ports`. -/
structure PortRegUpd (ps : List Part) (a b : PortReg) : Prop where
  halves : Part.halves ∈ ps ∨ (b.h0, b.h1) = (a.h0, a.h1) := by first | exact Or.inl (by decide) | exact Or.inr rfl
  units : Part.units ∈ ps ∨ (b.units, b.reserved) = (a.units, a.reserved) := by first | exact Or.inl (by decide) | exact Or.inr rfl
  engines : Part.engines ∈ ps ∨ (b.e0, b.e1) = (a.e0, a.e1) := by first | exact Or.inl (by decide) | exact Or.inr rfl
  bursts : Part.bursts ∈ ps ∨ (b.e0.bursts, b.e1.bursts) = (a.e0.bursts, a.e1.bursts) := by first | exact Or.inl (by decide) | exact Or.inr rfl
  portReg : Part.portReg ∈ ps ∨ { b with h0 := {}, h1 := {}, units := [], reserved := [], e0 := {}, e1 := {} } = { a with h0 := {}, h1 := {}, units := [], reserved := [], e0 := {}, e1 := {} } := by first | exact Or.inl (by decide) | exact Or.inr rfl

/-- A change of `State.ports`. -/
structure PortsUpd (ps : List Part) (a b : Sparse PortReg) : Prop where
  halves : Part.halves ∈ ps ∨ ∀ i, ((getD {} b i).h0, (getD {} b i).h1) = ((getD {} a i).h0, (getD {} a i).h1)
  units : Part.units ∈ ps ∨ ∀ i, ((getD {} b i).units, (getD {} b i).reserved) = ((getD {} a i).units, (getD {} a i).reserved)
  engines : Part.engines ∈ ps ∨ ∀ i, ((getD {} b i).e0, (getD {} b i).e1) = ((getD {} a i).e0, (getD {} a i).e1)
  bursts : Part.bursts ∈ ps ∨ ∀ i, ((getD {} b i).e0.bursts, (getD {} b i).e1.bursts) = ((getD {} a i).e0.bursts, (getD {} a i).e1.bursts)
  portReg : Part.portReg ∈ ps ∨ ∀ i, { (getD {} b i) with h0 := {}, h1 := {}, units := [], reserved := [], e0 := {}, e1 := {} } = { (getD {} a i) with h0 := {}, h1 := {}, units := [], reserved := [], e0 := {}, e1 := {} }

theorem PortsUpd.refl (ps : List Part) (a : Sparse PortReg) : PortsUpd ps a a where
  halves := Or.inr (fun _ => rfl)
  units := Or.inr (fun _ => rfl)
  engines := Or.inr (fun _ => rfl)
  bursts := Or.inr (fun _ => rfl)
  portReg := Or.inr (fun _ => rfl)

/-- A change of one element of `State.insts`. -/
structure InstUpd (ps : List Part) (a b : Inst) : Prop where
  instState : Part.instState ∈ ps ∨ (b.st, b.runCause, b.merged, b.rstCmds, b.entsRemoved, b.remove, b.removing) = (a.st, a.runCause, a.merged, a.rstCmds, a.entsRemoved, a.remove, a.removing) := by first | exact Or.inl (by decide) | exact Or.inr rfl
  mailbox : Part.mailbox ∈ ps ∨ (b.t2m, b.m2t, b.t2mE, b.m2tE, b.drops, b.paneT2m, b.paneM2t) = (a.t2m, a.m2t, a.t2mE, a.m2tE, a.drops, a.paneT2m, a.paneM2t) := by first | exact Or.inl (by decide) | exact Or.inr rfl
  resetRec : Part.resetRec ∈ ps ∨ (b.rstDone, b.rstE, b.resets, b.cause, b.lastUs) = (a.rstDone, a.rstE, a.resets, a.cause, a.lastUs) := by first | exact Or.inl (by decide) | exact Or.inr rfl

/-- A change of `State.insts`. -/
structure InstsUpd (ps : List Part) (a b : Sparse Inst) : Prop where
  instState : Part.instState ∈ ps ∨ ∀ i, ((getD {} b i).st, (getD {} b i).runCause, (getD {} b i).merged, (getD {} b i).rstCmds, (getD {} b i).entsRemoved, (getD {} b i).remove, (getD {} b i).removing) = ((getD {} a i).st, (getD {} a i).runCause, (getD {} a i).merged, (getD {} a i).rstCmds, (getD {} a i).entsRemoved, (getD {} a i).remove, (getD {} a i).removing)
  mailbox : Part.mailbox ∈ ps ∨ ∀ i, ((getD {} b i).t2m, (getD {} b i).m2t, (getD {} b i).t2mE, (getD {} b i).m2tE, (getD {} b i).drops, (getD {} b i).paneT2m, (getD {} b i).paneM2t) = ((getD {} a i).t2m, (getD {} a i).m2t, (getD {} a i).t2mE, (getD {} a i).m2tE, (getD {} a i).drops, (getD {} a i).paneT2m, (getD {} a i).paneM2t)
  resetRec : Part.resetRec ∈ ps ∨ ∀ i, ((getD {} b i).rstDone, (getD {} b i).rstE, (getD {} b i).resets, (getD {} b i).cause, (getD {} b i).lastUs) = ((getD {} a i).rstDone, (getD {} a i).rstE, (getD {} a i).resets, (getD {} a i).cause, (getD {} a i).lastUs)

theorem InstsUpd.refl (ps : List Part) (a : Sparse Inst) : InstsUpd ps a a where
  instState := Or.inr (fun _ => rfl)
  mailbox := Or.inr (fun _ => rfl)
  resetRec := Or.inr (fun _ => rfl)

/-- A record update of `State`: every changed field changes only listed parts. -/
theorem Eff.upd {ps : List Part} {s t : State} {i : Bool} {h : HostIf} {f : Sparse Func} {q : QueueEngine} {sc : Sched} {p : Sparse PortReg} {b : Timebase} {c : Cistern} {u : Sump} {g : CfgSets} {n : Sparse Inst} {l : Glb} {k : CmdProc} {w : Firmware} {o : Boot} {d : DevPort} {a : Chans} {m : Pm} {j : Mgmt} {e : List Instr} {x : List Out} {r : Nat}
    (hs : Eff ps s t)
    (hi : i = t.isL := by exact rfl)
    (he : e = t.pending := by exact rfl)
    (h_host : HostIfUpd ps t.host h := by first | exact HostIfUpd.refl _ _ | (split <;> exact {}) | exact {})
    (h_qe : QueueEngineUpd ps t.qe q := by first | exact QueueEngineUpd.refl _ _ | (split <;> exact {}) | exact {})
    (h_iso : TimebaseUpd ps t.iso b := by first | exact TimebaseUpd.refl _ _ | (split <;> exact {}) | exact {})
    (h_sump : SumpUpd ps t.sump u := by first | exact SumpUpd.refl _ _ | (split <;> exact {}) | exact {})
    (h_glb : GlbUpd ps t.glb l := by first | exact GlbUpd.refl _ _ | (split <;> exact {}) | exact {})
    (h_fw : FirmwareUpd ps t.fw w := by first | exact FirmwareUpd.refl _ _ | (split <;> exact {}) | exact {})
    (h_dev : DevPortUpd ps t.dev d := by first | exact DevPortUpd.refl _ _ | (split <;> exact {}) | exact {})
    (h_pm : PmUpd ps t.pm m := by first | exact PmUpd.refl _ _ | (split <;> exact {}) | exact {})
    (h_funcs : FuncsUpd ps t.funcs f := by exact FuncsUpd.refl _ _)
    (h_ports : PortsUpd ps t.ports p := by exact PortsUpd.refl _ _)
    (h_insts : InstsUpd ps t.insts n := by exact InstsUpd.refl _ _)
    (h_sched : Part.sched ∈ ps ∨ sc = t.sched := by first | exact Or.inr rfl | exact Or.inl (by decide))
    (h_cis : Part.cistern ∈ ps ∨ c = t.cis := by first | exact Or.inr rfl | exact Or.inl (by decide))
    (h_cfg : Part.sets ∈ ps ∨ g = t.cfg := by first | exact Or.inr rfl | exact Or.inl (by decide))
    (h_cmd : Part.cmd ∈ ps ∨ k = t.cmd := by first | exact Or.inr rfl | exact Or.inl (by decide))
    (h_boot : Part.boot ∈ ps ∨ o = t.boot := by first | exact Or.inr rfl | exact Or.inl (by decide))
    (h_chans : Part.chans ∈ ps ∨ a = t.chans := by first | exact Or.inr rfl | exact Or.inl (by decide))
    (h_mgmt : Part.mgmt ∈ ps ∨ j = t.mgmt := by first | exact Or.inr rfl | exact Or.inl (by decide))
    (h_free : Part.freeCount ∈ ps ∨ r = t.free := by first | exact Or.inr rfl | exact Or.inl (by decide))
    (h_out : (Part.out ∈ ps ∧ t.out <+: x) ∨ x = t.out := by
      first | exact Or.inr rfl | exact Or.inl ⟨by decide, List.prefix_append _ _⟩)
    (h_names : NamesApart t → Sorted q.queues := by first | exact And.left | (split <;> exact And.left))
    (h_room1 : NamesApart t → ∀ r1, m.room1 = some r1 → Sorted r1.queues := by
      first | exact And.right | (split <;> exact And.right)) :
    Eff ps s ⟨i, h, f, q, sc, p, b, c, u, g, n, l, k, w, o, d, a, m, j, e, x, r⟩ := by
  refine ⟨fun y hy => (hs.touches y hy).trans y ?_, hs.keeps.trans ⟨fun n => ⟨h_names n, h_room1 n⟩, hi, h_fw.otp, h_pm.canon, he, ?_⟩⟩
  · cases y <;> first
    | exact h_host.link.resolve_left hy
    | exact h_host.l1.resolve_left hy
    | exact h_host.herr.resolve_left hy
    | exact h_host.reads.resolve_left hy
    | exact h_host.late.resolve_left hy
    | exact h_host.msg.resolve_left hy
    | exact h_qe.queues.resolve_left hy
    | exact h_qe.dbdrop.resolve_left hy
    | exact h_qe.fences.resolve_left hy
    | exact h_iso.clock.resolve_left hy
    | exact h_iso.lock.resolve_left hy
    | exact h_iso.portTime.resolve_left hy
    | exact h_sump.origins.resolve_left hy
    | exact h_sump.sumpFlags.resolve_left hy
    | exact h_sump.acc.resolve_left hy
    | exact h_sump.memErr.resolve_left hy
    | exact h_sump.log.resolve_left hy
    | exact h_glb.scratch.resolve_left hy
    | exact h_glb.capFlag.resolve_left hy
    | exact h_glb.cellar.resolve_left hy
    | exact h_fw.fwSlots.resolve_left hy
    | exact h_fw.fwHeld.resolve_left hy
    | exact h_dev.devReg.resolve_left hy
    | exact h_dev.devWake.resolve_left hy
    | exact h_dev.tunnel.resolve_left hy
    | exact h_pm.pmReg.resolve_left hy
    | exact h_pm.gate.resolve_left hy
    | exact h_pm.heldEv.resolve_left hy
    | exact h_pm.cool.resolve_left hy
    | exact h_pm.store.resolve_left hy
    | exact h_funcs.fnCfg.resolve_left hy
    | exact h_funcs.fnErr.resolve_left hy
    | exact h_funcs.fnMsg.resolve_left hy
    | exact h_ports.halves.resolve_left hy
    | exact h_ports.units.resolve_left hy
    | exact h_ports.engines.resolve_left hy
    | exact h_ports.bursts.resolve_left hy
    | exact h_ports.portReg.resolve_left hy
    | exact h_insts.instState.resolve_left hy
    | exact h_insts.mailbox.resolve_left hy
    | exact h_insts.resetRec.resolve_left hy
    | exact h_sched.resolve_left hy
    | exact h_cis.resolve_left hy
    | exact h_cfg.resolve_left hy
    | exact h_cmd.resolve_left hy
    | exact h_boot.resolve_left hy
    | exact h_chans.resolve_left hy
    | exact h_mgmt.resolve_left hy
    | exact h_free.resolve_left hy
    | exact h_out.resolve_left (fun k => hy k.1)
  · rcases h_out with h | h
    · exact h.2
    · rw [h]

/-! ### One element of a map of `State` -/

theorem FuncsUpd.setD {ps : List Part} (m : Sparse Func) (k : Nat) (x : Func) (h : FuncUpd ps (getD {} m k) x) :
    FuncsUpd ps m (setD {} m k x) where
  fnCfg := h.fnCfg.imp_right fun e i => by rw [getD_setD]; split_ifs with hi; (subst hi; exact e); rfl
  fnErr := h.fnErr.imp_right fun e i => by rw [getD_setD]; split_ifs with hi; (subst hi; exact e); rfl
  fnMsg := h.fnMsg.imp_right fun e i => by rw [getD_setD]; split_ifs with hi; (subst hi; exact e); rfl

theorem setFn_eff {ps : List Part} {s t : State} {k : Nat} {x : Func} (hs : Eff ps s t)
    (h : FuncUpd ps (fn t k) x) : Eff ps s (setFn k x t) :=
  Eff.upd hs (h_funcs := FuncsUpd.setD _ _ _ h)

theorem modFn_eff {ps : List Part} {s t : State} {k : Nat} {g : Func → Func} (hs : Eff ps s t)
    (h : ∀ x, FuncUpd ps x (g x)) : Eff ps s (modFn k g t) :=
  setFn_eff hs (h _)

theorem PortsUpd.setD {ps : List Part} (m : Sparse PortReg) (k : Nat) (x : PortReg) (h : PortRegUpd ps (getD {} m k) x) :
    PortsUpd ps m (setD {} m k x) where
  halves := h.halves.imp_right fun e i => by rw [getD_setD]; split_ifs with hi; (subst hi; exact e); rfl
  units := h.units.imp_right fun e i => by rw [getD_setD]; split_ifs with hi; (subst hi; exact e); rfl
  engines := h.engines.imp_right fun e i => by rw [getD_setD]; split_ifs with hi; (subst hi; exact e); rfl
  bursts := h.bursts.imp_right fun e i => by rw [getD_setD]; split_ifs with hi; (subst hi; exact e); rfl
  portReg := h.portReg.imp_right fun e i => by rw [getD_setD]; split_ifs with hi; (subst hi; exact e); rfl

theorem setPort_eff {ps : List Part} {s t : State} {k : Nat} {x : PortReg} (hs : Eff ps s t)
    (h : PortRegUpd ps (port t k) x) : Eff ps s (setPort k x t) :=
  Eff.upd hs (h_ports := PortsUpd.setD _ _ _ h)

theorem modPort_eff {ps : List Part} {s t : State} {k : Nat} {g : PortReg → PortReg} (hs : Eff ps s t)
    (h : ∀ x, PortRegUpd ps x (g x)) : Eff ps s (modPort k g t) :=
  setPort_eff hs (h _)

/-- A change of an engine that keeps its descriptors' pipes and its counters. -/
theorem modEngine_keep {ps : List Part} {s t : State} {p h : Nat} {g : Engine → Engine} (hs : Eff ps s t)
    (hg : ∀ e, (g e).bursts = e.bursts) (sub : [.engines] ⊆ ps := by decide) : Eff ps s (modEngine p h g t) := by
  unfold modEngine
  refine modPort_eff hs (fun x => ?_)
  split
  · exact { engines := Or.inl (sub (by decide)), bursts := Or.inr (by rw [hg]) }
  · exact { engines := Or.inl (sub (by decide)), bursts := Or.inr (by rw [hg]) }

theorem InstsUpd.setD {ps : List Part} (m : Sparse Inst) (k : Nat) (x : Inst) (h : InstUpd ps (getD {} m k) x) :
    InstsUpd ps m (setD {} m k x) where
  instState := h.instState.imp_right fun e i => by rw [getD_setD]; split_ifs with hi; (subst hi; exact e); rfl
  mailbox := h.mailbox.imp_right fun e i => by rw [getD_setD]; split_ifs with hi; (subst hi; exact e); rfl
  resetRec := h.resetRec.imp_right fun e i => by rw [getD_setD]; split_ifs with hi; (subst hi; exact e); rfl

theorem setInst_eff {ps : List Part} {s t : State} {k : Nat} {x : Inst} (hs : Eff ps s t)
    (h : InstUpd ps (inst t k) x) : Eff ps s (setInst k x t) :=
  Eff.upd hs (h_insts := InstsUpd.setD _ _ _ h)

theorem modInst_eff {ps : List Part} {s t : State} {k : Nat} {g : Inst → Inst} (hs : Eff ps s t)
    (h : ∀ x, InstUpd ps x (g x)) : Eff ps s (modInst k g t) :=
  setInst_eff hs (h _)

end Sys2Proof.Machine
end

