-- ==== Sys2Proof/Laws/OpsEff.lean ====
section
/-! SUPPORT. What each operation of Machine/Ops.lean can change: one lemma per function. -/

set_option Elab.async false

namespace Sys2Proof.Machine

open Sys2Proof

theorem takeFree_eff {s : State} : Eff [.freeCount] s (takeFree s).2 := by
  unfold takeFree
  dsimp only; refine Eff.upd ?_; exact Eff.refl _ _

theorem setVec_eff {i v : Nat} {x : MsixVec} {s : State} : Eff [.fnMsg] s (setVec i v x s) := by
  unfold setVec
  refine modFn_eff ?_ (fun _ => {}); exact Eff.refl _ _

theorem setQueue_eff {q : Nat} {x : Queue} {s : State} : Eff [.queues, .tunnel] s (setQueue q x s) := by
  unfold setQueue
  exact Eff.ite (Eff.upd (Eff.refl _ _)) (Eff.upd (Eff.refl _ _) (h_names := fun n => sorted_insert _ _ n.1))

theorem modQueue_eff {q : Nat} {g : Queue → Queue} {s : State} : Eff [.queues, .tunnel] s (modQueue q g s) := by
  unfold modQueue
  split; refine Eff.step setQueue_eff ?_; exact Eff.refl _ _; exact Eff.refl _ _

theorem delQueue_eff {q : Nat} {s : State} : Eff [.queues] s (delQueue q s) := by
  unfold delQueue
  exact Eff.upd (Eff.refl _ _) (h_names := fun n => sorted_erase _ n.1)

theorem setPipe_eff {n : Nat} {x : Pipe} {s : State} : Eff [.sched] s (setPipe n x s) := by
  unfold setPipe
  refine Eff.upd ?_; exact Eff.refl _ _

theorem modPipe_eff {n : Nat} {g : Pipe → Pipe} {s : State} : Eff [.sched] s (modPipe n g s) := by
  unfold modPipe
  split; refine Eff.step setPipe_eff ?_; exact Eff.refl _ _; exact Eff.refl _ _

theorem delPipe_eff {n : Nat} {s : State} : Eff [.sched] s (delPipe n s) := by
  unfold delPipe
  refine Eff.upd ?_; exact Eff.refl _ _

theorem setPsched_eff {p : Nat} {x : PortSched} {s : State} : Eff [.sched] s (setPsched p x s) := by
  unfold setPsched
  refine Eff.upd ?_; exact Eff.refl _ _

theorem modPsched_eff {p : Nat} {g : PortSched → PortSched} {s : State} : Eff [.sched] s (modPsched p g s) := by
  unfold modPsched
  refine Eff.step setPsched_eff ?_; exact Eff.refl _ _

theorem modHalf_eff {p h : Nat} {g : HalfReg → HalfReg} {s : State} : Eff [.halves] s (modHalf p h g s) := by
  unfold modHalf
  refine modPort_eff ?_ (fun _ => by split <;> exact {}); exact Eff.refl _ _

theorem modEngine_eff {p h : Nat} {g : Engine → Engine} {s : State} : Eff [.engines, .bursts] s (modEngine p h g s) := by
  unfold modEngine
  refine modPort_eff ?_ (fun _ => by split <;> exact {}); exact Eff.refl _ _

theorem modPtime_eff {p : Nat} {g : PortTime → PortTime} {s : State} : Eff [.portTime] s (modPtime p g s) := by
  unfold modPtime
  refine Eff.upd ?_; exact Eff.refl _ _

theorem setXfer_eff {k : Nat} {x : Xfer} {s : State} : Eff [.cistern] s (setXfer k x s) := by
  unfold setXfer
  refine Eff.upd ?_; exact Eff.refl _ _

theorem modXfer_eff {k : Nat} {g : Xfer → Xfer} {s : State} : Eff [.cistern] s (modXfer k g s) := by
  unfold modXfer
  split; refine Eff.step setXfer_eff ?_; exact Eff.refl _ _; exact Eff.refl _ _

theorem modPump_eff {n : Nat} {g : PumpReg → PumpReg} {s : State} : Eff [.cistern] s (modPump n g s) := by
  unfold modPump
  refine Eff.upd ?_; exact Eff.refl _ _

theorem setOrigin_eff {k : Nat} {o : Origin} {s : State} : Eff [.origins] s (setOrigin k o s) := by
  unfold setOrigin
  refine Eff.upd ?_; exact Eff.refl _ _

theorem modOrigin_eff {k : Nat} {g : Origin → Origin} {s : State} : Eff [.origins] s (modOrigin k g s) := by
  unfold modOrigin
  refine Eff.step setOrigin_eff ?_; exact Eff.refl _ _

theorem setChan_eff {c : Nat} {x : ChanReg} {s : State} : Eff [.chans] s (setChan c x s) := by
  unfold setChan
  refine Eff.upd ?_; exact Eff.refl _ _

theorem modChan_eff {c : Nat} {g : ChanReg → ChanReg} {s : State} : Eff [.chans] s (modChan c g s) := by
  unfold modChan
  refine Eff.step setChan_eff ?_; exact Eff.refl _ _

theorem emit_eff {o : Out} {s : State} : Eff [.out] s (emit o s) := by
  unfold emit
  refine Eff.upd ?_; exact Eff.refl _ _

theorem switchOff_eff {s : State} {d : Domain} : Eff [.out] s (switchOff s d) := by
  unfold switchOff
  refine Eff.step emit_eff ?_; refine Eff.step emit_eff ?_; exact Eff.refl _ _

theorem switchOn_eff {s : State} {d : Domain} : Eff [.out] s (switchOn s d) := by
  unfold switchOn
  refine Eff.step emit_eff ?_; refine Eff.step emit_eff ?_; exact Eff.refl _ _

theorem ungate_eff {s : State} : Eff [.gate] s (ungate s) := by
  unfold ungate
  refine Eff.upd ?_; exact Eff.refl _ _

theorem wakeLink_eff {s : State} : Eff [.l1] s (wakeLink s) := by
  unfold wakeLink
  refine Eff.upd ?_; exact Eff.refl _ _

theorem tlp_eff {o : Out} {s : State} : Eff [.l1, .gate, .out] s (tlp o s) := by
  unfold tlp
  refine Eff.step emit_eff ?_; refine Eff.step wakeLink_eff ?_; refine Eff.step ungate_eff ?_; exact Eff.refl _ _

theorem answerTlp_eff {o : Out} {s : State} : Eff [.l1, .out] s (answerTlp o s) := by
  unfold answerTlp
  refine Eff.step emit_eff ?_; refine Eff.step wakeLink_eff ?_; exact Eff.refl _ _

theorem bus_eff {p h : Nat} {k : BusPkt} {s : State} : Eff [.halves, .out] s (bus p h k s) := by
  unfold bus
  refine Eff.ite ?_ ?_; refine Eff.step emit_eff ?_; exact Eff.refl _ _
  extract_lets +onlyGivenNames x3; refine Eff.via x3 ?_ (fun h3 => ?_); unfold x3; rotate_left; clear_value x3; rotate_left
  refine Eff.ite ?_ ?_; refine Eff.step emit_eff ?_; exact Eff.refl _ _; exact Eff.refl _ _
  refine Eff.step modHalf_eff ?_; assumption

theorem idleStart_eff {p h : Nat} {s : State} : Eff [.halves, .out] s (idleStart p h s) := by
  unfold idleStart
  extract_lets +onlyGivenNames x0; extract_lets +onlyGivenNames x1; refine Eff.ite ?_ ?_; exact Eff.refl _ _
  extract_lets +onlyGivenNames x4; refine Eff.via x4 ?_ (fun h4 => ?_); unfold x4; rotate_left; clear_value x4; rotate_left
  refine Eff.step modHalf_eff ?_; exact Eff.refl _ _; refine Eff.ite ?_ ?_; refine Eff.step bus_eff ?_; assumption
  assumption

theorem issueRead_eff {ref : ReadRef} {i addr len : Nat} {s : State} : Eff [.l1, .reads, .gate, .out] s (issueRead
    ref i addr len s) := by
  unfold issueRead
  extract_lets +onlyGivenNames x0
  extract_lets +onlyGivenNames x1; refine Eff.via x1 ?_ (fun h1 => ?_); unfold x1; rotate_left; clear_value x1; rotate_left
  refine Eff.ite ?_ ?_; refine Eff.step tlp_eff ?_; exact Eff.refl _ _; exact Eff.refl _ _; refine Eff.upd ?_
  assumption

theorem sendAt_eff {s : State} {k : Nat} : Eff [.l1, .reads, .gate, .out] s (sendAt s k) := by
  unfold sendAt
  split; refine Eff.ite ?_ ?_; refine Eff.step tlp_eff ?_; refine Eff.upd ?_; exact Eff.refl _ _; exact Eff.refl _ _
  exact Eff.refl _ _

theorem sendWaiting_eff {s : State} : Eff [.l1, .reads, .gate, .out] s (sendWaiting s) := by
  unfold sendWaiting
  refine Eff.foldl (fun _ _ => ?_) ?_ _; refine Eff.step sendAt_eff ?_; exact Eff.refl _ _; exact Eff.refl _ _

theorem retireRead_eff {r : ReadRef} {s : State} : Eff [.l1, .reads, .gate, .out] s (retireRead r s) := by
  unfold retireRead
  refine Eff.step sendWaiting_eff ?_; refine Eff.step wakeLink_eff ?_; refine Eff.upd ?_; exact Eff.refl _ _

theorem dropReads_eff {f : OutRead → Bool} {s : State} : Eff [.reads] s (dropReads f s) := by
  unfold dropReads
  extract_lets +onlyGivenNames x0; refine Eff.upd ?_; exact Eff.refl _ _

theorem trySend_eff {i v : Nat} {s : State} : Eff [.l1, .fnMsg, .gate, .out] s (trySend i v s) := by
  unfold trySend
  extract_lets +onlyGivenNames x0; refine Eff.ite ?_ ?_; refine Eff.step tlp_eff ?_; refine Eff.step setVec_eff ?_
  exact Eff.refl _ _; exact Eff.refl _ _

theorem sendAll_eff {i : Nat} {s : State} : Eff [.l1, .fnMsg, .gate, .out] s (sendAll i s) := by
  unfold sendAll
  refine Eff.foldl (fun _ _ => ?_) ?_ _; refine Eff.step trySend_eff ?_; exact Eff.refl _ _; exact Eff.refl _ _

theorem assertWake_eff {s : State} : Eff [.msg, .out] s (assertWake s) := by
  unfold assertWake
  refine Eff.ite ?_ ?_; exact Eff.refl _ _; refine Eff.step emit_eff ?_; refine Eff.upd ?_; exact Eff.refl _ _

theorem pme_eff {i : Nat} {s : State} : Eff [.l1, .msg, .fnMsg, .gate, .out] s (pme i s) := by
  unfold pme
  extract_lets +onlyGivenNames x0
  extract_lets +onlyGivenNames x1; refine Eff.via x1 ?_ (fun h1 => ?_); unfold x1; rotate_left; clear_value x1; rotate_left
  refine setFn_eff ?_ {}; exact Eff.refl _ _; refine Eff.ite ?_ ?_; assumption; refine Eff.ite ?_ ?_
  refine Eff.step assertWake_eff ?_; assumption; refine Eff.ite ?_ ?_; exact Eff.refl _ _
  refine Eff.step tlp_eff ?_; assumption

theorem due_eff {i v : Nat} {s : State} : Eff [.l1, .msg, .fnMsg, .gate, .out] s (due i v s) := by
  unfold due
  extract_lets +onlyGivenNames x0
  extract_lets +onlyGivenNames x1; refine Eff.via x1 ?_ (fun h1 => ?_); unfold x1; rotate_left; clear_value x1; rotate_left
  refine Eff.step setVec_eff ?_; exact Eff.refl _ _; refine Eff.ite ?_ ?_; refine Eff.step trySend_eff ?_
  assumption; refine Eff.step pme_eff ?_; assumption

theorem cause_eff {i v : Nat} {s : State} : Eff [.l1, .msg, .fnMsg, .gate, .out] s (cause i v s) := by
  unfold cause
  extract_lets +onlyGivenNames x0; extract_lets +onlyGivenNames x1; extract_lets +onlyGivenNames x2
  refine Eff.ite ?_ ?_; refine Eff.step due_eff ?_; refine Eff.step setVec_eff ?_; exact Eff.refl _ _
  extract_lets +onlyGivenNames x7; refine Eff.via x7 ?_ (fun h7 => ?_); unfold x7; rotate_left; clear_value x7; rotate_left
  refine Eff.step setVec_eff ?_; exact Eff.refl _ _; refine Eff.ite ?_ ?_; refine Eff.step due_eff ?_; assumption
  assumption

theorem logPush_eff {kind : Nat} {interval : Word} {pay : List Word} {s : State} : Eff [.log] s (logPush kind
    interval pay s) := by
  unfold logPush
  extract_lets +onlyGivenNames x0; extract_lets +onlyGivenNames x1; extract_lets +onlyGivenNames x2
  refine Eff.upd ?_; exact Eff.refl _ _

theorem logRec_eff {kind : Nat} {pay : List Word} {s : State} : Eff [.log, .fwHeld] s (logRec kind pay s) := by
  unfold logRec
  refine Eff.ite ?_ ?_; refine Eff.step logPush_eff ?_; exact Eff.refl _ _; refine Eff.ite ?_ ?_; refine Eff.upd ?_
  exact Eff.refl _ _; refine Eff.upd ?_; exact Eff.refl _ _

theorem writeState_eff {q : Nat} {s : State} : Eff [.l1, .queues, .tunnel, .gate, .out] s (writeState q s) := by
  unfold writeState
  split; refine Eff.ite ?_ ?_; exact Eff.refl _ _; refine Eff.ite ?_ ?_; refine Eff.step setQueue_eff ?_
  exact Eff.refl _ _; refine Eff.step tlp_eff ?_; refine Eff.step setQueue_eff ?_; exact Eff.refl _ _
  exact Eff.refl _ _

theorem writeHead_eff {q : Nat} {s : State} : Eff [.l1, .gate, .out] s (writeHead q s) := by
  unfold writeHead
  split; refine Eff.ite ?_ ?_; exact Eff.refl _ _; refine Eff.step tlp_eff ?_; exact Eff.refl _ _
  exact Eff.refl _ _

theorem writeEvent_eff {q : Nat} {e : Ev} {s : State} : Eff [.l1, .msg, .fnMsg, .queues, .tunnel, .gate, .out] s
    (writeEvent q e s) := by
  unfold writeEvent
  split
  extract_lets +onlyGivenNames x1; refine Eff.via x1 ?_ (fun h1 => ?_); unfold x1; rotate_left; clear_value x1; rotate_left
  exact Eff.refl _ _; refine Eff.step tlp_eff ?_; exact Eff.refl _ _
  extract_lets +onlyGivenNames x5; refine Eff.via x5 ?_ (fun h5 => ?_); unfold x5; rotate_left; clear_value x5; rotate_left
  refine Eff.step setQueue_eff ?_; assumption
  extract_lets +onlyGivenNames x8; refine Eff.via x8 ?_ (fun h8 => ?_); unfold x8; rotate_left; clear_value x8; rotate_left
  refine Eff.step writeHead_eff ?_; assumption; refine Eff.ite ?_ ?_; refine Eff.step trySend_eff ?_; assumption
  refine Eff.step cause_eff ?_; assumption

theorem flushEvents_eff {n q : Nat} {s : State} : Eff [.l1, .msg, .fnMsg, .queues, .tunnel, .gate, .out] s
    (flushEvents n q s) := by
  induction n generalizing s with
  | zero => exact Eff.refl _ _
  | succ n ih =>
    unfold flushEvents
    repeat' first
      | with_reducible exact Eff.refl _ _
      | with_reducible refine Eff.ite ?_ ?_
      | with_reducible refine Eff.step ih ?_ (by decide)
      | with_reducible refine Eff.step writeEvent_eff ?_ (by decide)
      | with_reducible refine Eff.step setQueue_eff ?_ (by decide)
      | split

theorem event_eff {i : Nat} {code : Nat} {pay : List Word} {s : State} : Eff [.l1, .msg, .fnMsg, .queues, .tunnel,
    .gate, .heldEv, .out] s (event i code pay s) := by
  unfold event
  refine Eff.ite ?_ ?_; refine Eff.upd ?_; exact Eff.refl _ _
  extract_lets +onlyGivenNames x3; refine Eff.via x3 ?_ (fun h3 => ?_); unfold x3; rotate_left; clear_value x3; rotate_left
  refine Eff.step ungate_eff ?_; exact Eff.refl _ _; split; assumption; refine Eff.ite ?_ ?_
  refine Eff.step writeState_eff ?_; refine Eff.step setQueue_eff ?_; assumption; extract_lets +onlyGivenNames x12
  extract_lets +onlyGivenNames x13
  extract_lets +onlyGivenNames x14; refine Eff.via x14 ?_ (fun h14 => ?_); unfold x14; rotate_left; clear_value x14; rotate_left
  refine Eff.step setQueue_eff ?_; assumption
  extract_lets +onlyGivenNames x17; refine Eff.via x17 ?_ (fun h17 => ?_); unfold x17; rotate_left; clear_value x17; rotate_left
  refine Eff.ite ?_ ?_; refine Eff.step cause_eff ?_; assumption; assumption; refine Eff.step flushEvents_eff ?_
  assumption

theorem events_eff {is : List Nat} {code : Nat} {pay : List Word} {s : State} : Eff [.l1, .msg, .fnMsg, .queues,
    .tunnel, .gate, .heldEv, .out] s (events is code pay s) := by
  unfold events
  refine Eff.foldl (fun _ _ => ?_) ?_ _; refine Eff.step event_eff ?_; exact Eff.refl _ _; exact Eff.refl _ _

theorem queueStateEvent_eff {q : Nat} {s : State} : Eff [.l1, .msg, .fnMsg, .queues, .tunnel, .gate, .heldEv, .out]
    s (queueStateEvent q s) := by
  unfold queueStateEvent
  split; refine Eff.step events_eff ?_; exact Eff.refl _ _; exact Eff.refl _ _

theorem writeCpls_eff {q : Nat} {x : Queue} {es : List Ent} {s : State} : Eff [.l1, .gate, .out] s (writeCpls q x es s).2 := by
  induction es generalizing s with
  | nil => exact Eff.refl _ _
  | cons e es ih =>
    unfold writeCpls
    split
    · exact Eff.step ih (Eff.step tlp_eff (Eff.refl _ _))
    · exact ih

theorem iocCauses_eff {x : Queue} {es : List Ent} {s : State} : Eff [.l1, .msg, .fnMsg, .gate, .out] s (iocCauses x es s) := by
  induction es generalizing s with
  | nil => exact Eff.refl _ _
  | cons e es ih =>
    unfold iocCauses
    refine Eff.step ih (Eff.ite (Eff.step cause_eff (Eff.refl _ _)) (Eff.refl _ _))

theorem remoteWake_eff {iface : Nat} {s : State} : Eff [.devWake, .out] s (remoteWake iface s) := by
  unfold remoteWake
  refine Eff.ite ?_ ?_; refine Eff.step emit_eff ?_; refine Eff.upd ?_; exact Eff.refl _ _; exact Eff.refl _ _

theorem tunErdy_eff {pair stream : Nat} {s : State} : Eff [.devWake, .tunnel, .out] s (tunErdy pair stream s) := by
  unfold tunErdy
  refine Eff.ite ?_ ?_; refine Eff.step remoteWake_eff ?_; exact Eff.refl _ _; refine Eff.ite ?_ ?_
  refine Eff.step emit_eff ?_; refine Eff.upd ?_; exact Eff.refl _ _; exact Eff.refl _ _

theorem tellRoom_eff {s : State} : Eff [.tunnel, .out] s (tellRoom s) := by
  unfold tellRoom
  refine Eff.foldl (fun _ _ => ?_) ?_ _; refine Eff.ite ?_ ?_; refine Eff.step emit_eff ?_; refine Eff.upd ?_
  exact Eff.refl _ _; exact Eff.refl _ _; exact Eff.refl _ _

theorem sendTrailer_eff {r : TunReq} {c : CplDw} {s : State} : Eff [.tunnel, .out] s (sendTrailer r c s) := by
  unfold sendTrailer
  extract_lets +onlyGivenNames x0
  extract_lets +onlyGivenNames x1; refine Eff.via x1 ?_ (fun h1 => ?_); unfold x1; rotate_left; clear_value x1; rotate_left
  refine Eff.step emit_eff ?_; exact Eff.refl _ _
  extract_lets +onlyGivenNames x4; refine Eff.via x4 ?_ (fun h4 => ?_); unfold x4; rotate_left; clear_value x4; rotate_left
  refine Eff.ite ?_ ?_; refine Eff.step emit_eff ?_; assumption; assumption; refine Eff.step tellRoom_eff ?_
  refine Eff.upd ?_; assumption

theorem offerTrailer_eff {r : TunReq} {s : State} : Eff [.devWake, .tunnel, .out] s (offerTrailer r s) := by
  unfold offerTrailer
  split; refine Eff.ite ?_ ?_; exact Eff.refl _ _; refine Eff.ite ?_ ?_; refine Eff.step sendTrailer_eff ?_
  exact Eff.refl _ _; refine Eff.step tunErdy_eff ?_; exact Eff.refl _ _; exact Eff.refl _ _

theorem publishTunnel_eff {s : State} : Eff [.devWake, .tunnel, .out] s (publishTunnel s) := by
  unfold publishTunnel
  extract_lets +onlyGivenNames x0; extract_lets +onlyGivenNames x1; extract_lets +onlyGivenNames x2
  extract_lets +onlyGivenNames x3; refine Eff.via x3 ?_ (fun h3 => ?_); unfold x3; rotate_left; clear_value x3; rotate_left
  refine Eff.upd ?_; exact Eff.refl _ _; refine Eff.step tellRoom_eff ?_; refine Eff.foldl (fun _ _ => ?_) ?_ _
  split; refine Eff.step offerTrailer_eff ?_; exact Eff.refl _ _; exact Eff.refl _ _; assumption

theorem publish_eff {q : Nat} {s : State} : Eff [.l1, .msg, .fnMsg, .queues, .devWake, .tunnel, .gate, .out] s
    (publish q s) := by
  unfold publish
  refine Eff.ite ?_ ?_; refine Eff.step publishTunnel_eff ?_; exact Eff.refl _ _; split; refine Eff.ite ?_ ?_
  exact Eff.refl _ _
  extract_lets +onlyGivenNames x6; refine Eff.via x6.2 ?_ (fun h6 => ?_); unfold x6; rotate_left; clear_value x6; rotate_left
  exact Eff.refl _ _; refine Eff.step writeCpls_eff ?_; exact Eff.refl _ _; extract_lets +onlyGivenNames x10
  extract_lets +onlyGivenNames x11; refine Eff.via x11 ?_ (fun h11 => ?_); unfold x11; rotate_left; clear_value x11; rotate_left
  refine Eff.step setQueue_eff ?_; assumption; refine Eff.step tellRoom_eff ?_; refine Eff.ite ?_ ?_; assumption
  refine Eff.step iocCauses_eff ?_; refine Eff.step writeHead_eff ?_; assumption

theorem endEntDw_eff {q : Nat} {i : Word} {c : CplDw} {s : State} : Eff [.queues, .tunnel] s (endEntDw q i c s) := by
  unfold endEntDw
  refine Eff.step modQueue_eff ?_; exact Eff.refl _ _

theorem drainEnd_eff {q : Nat} {s : State} : Eff [.l1, .msg, .fnMsg, .queues, .devWake, .tunnel, .gate, .heldEv,
    .out] s (drainEnd q s) := by
  unfold drainEnd
  split; refine Eff.ite ?_ ?_
  extract_lets +onlyGivenNames x2; refine Eff.via x2 ?_ (fun h2 => ?_); unfold x2; rotate_left; clear_value x2; rotate_left
  exact Eff.refl _ _; exact Eff.refl _ _; refine Eff.step setQueue_eff ?_; exact Eff.refl _ _
  extract_lets +onlyGivenNames x7; refine Eff.via x7 ?_ (fun h7 => ?_); unfold x7; rotate_left; clear_value x7; rotate_left
  refine Eff.step queueStateEvent_eff ?_; refine Eff.step writeState_eff ?_; refine Eff.step writeHead_eff ?_
  assumption; split; refine Eff.step publish_eff ?_; refine Eff.step endEntDw_eff ?_; assumption; assumption

theorem flush_eff {q : Nat} {s : State} : Eff [.l1, .msg, .fnMsg, .queues, .devWake, .tunnel, .gate, .heldEv, .out]
    s (flush q s) := by
  unfold flush
  refine Eff.step drainEnd_eff ?_; refine Eff.step publish_eff ?_; exact Eff.refl _ _

theorem modEnt_eff {q : Nat} {i : Word} {g : Ent → Ent} {s : State} : Eff [.queues, .tunnel] s (modEnt q i g s) := by
  unfold modEnt
  refine Eff.step modQueue_eff ?_; exact Eff.refl _ _

theorem complete_eff {q : Nat} {i : Word} {c : Cpl} {s : State} : Eff [.l1, .msg, .fnMsg, .queues, .devWake,
    .tunnel, .gate, .heldEv, .out] s (complete q i c s) := by
  unfold complete
  refine Eff.step flush_eff ?_; refine Eff.step endEntDw_eff ?_; exact Eff.refl _ _

theorem aerMark_eff {i : Nat} {e : AerErr} {advisory : Bool} {s : State} : Eff [.l1, .fnErr, .gate, .freeCount,
    .out] s (aerMark i e advisory s) := by
  unfold aerMark
  extract_lets +onlyGivenNames x0; extract_lets +onlyGivenNames x1; extract_lets +onlyGivenNames x2
  extract_lets +onlyGivenNames x3
  extract_lets +onlyGivenNames x4; refine Eff.via x4 ?_ (fun h4 => ?_); unfold x4; rotate_left; clear_value x4; rotate_left
  refine setFn_eff ?_ {}; refine Eff.upd ?_; exact Eff.refl _ _; refine Eff.ite ?_ ?_; refine Eff.ite ?_ ?_
  refine Eff.step tlp_eff ?_; assumption; assumption; refine Eff.ite ?_ ?_; refine Eff.step tlp_eff ?_; assumption
  assumption

theorem hostError_eff {i : Nat} {k : ErrKind} {source addr : Nat} {s : State} : Eff [.l1, .herr, .fnErr, .log, .fwHeld, .gate, .freeCount, .out] s
    (hostError i k source addr s) := by
  unfold hostError
  dsimp only
  split <;> exact Eff.step logRec_eff (Eff.step aerMark_eff (Eff.upd (Eff.refl _ _)))

end Sys2Proof.Machine
end

