-- ==== Sys2Proof/Laws/CapacityEff.lean ====
section
/-! SUPPORT. What each operation of Machine/Capacity.lean can change: one lemma per function. -/

set_option Elab.async false

namespace Sys2Proof.Machine

open Sys2Proof

theorem modCel_eff {c : Nat} {g : CelReg → CelReg} {s : State} : Eff [.cellar] s (modCel c g s) := by
  unfold modCel
  refine Eff.upd ?_; exact Eff.refl _ _

theorem capEvent_eff {res : Nat} {returned failed : Bool} {ix : Nat} {s : State} : Eff [.l1, .msg, .fnMsg, .queues,
    .tunnel, .gate, .heldEv, .out] s (capEvent res returned failed ix s) := by
  unfold capEvent
  refine Eff.step event_eff ?_; exact Eff.refl _ _

theorem capChange_eff {res : Nat} {returned failed : Bool} {ix : Nat} {s : State} : Eff [.l1, .msg, .fnMsg, .queues,
    .capFlag, .tunnel, .gate, .heldEv, .out] s (capChange res returned failed ix s) := by
  unfold capChange
  refine Eff.step capEvent_eff ?_; refine Eff.upd ?_; exact Eff.refl _ _

theorem reply_eff {idx : Word} {status detail : Nat} {a b c : Word} {s : State} : Eff [.l1, .msg, .fnMsg, .queues,
    .devWake, .tunnel, .gate, .heldEv, .out] s (reply idx status detail a b c s) := by
  unfold reply
  refine Eff.step flush_eff ?_; refine Eff.step endEntDw_eff ?_; exact Eff.refl _ _

theorem portServiceEvent_eff {p : Nat} {ret off : Bool} {result closed : Nat} {s : State} : Eff [.l1, .msg, .fnMsg,
    .queues, .tunnel, .gate, .heldEv, .out] s (portServiceEvent p ret off result closed s) := by
  unfold portServiceEvent
  refine Eff.step event_eff ?_; exact Eff.refl _ _

theorem portRemoved_eff {p : Port} {s : State} : Eff [.l1, .msg, .fnMsg, .queues, .sched, .portReg, .capFlag,
    .devWake, .tunnel, .gate, .heldEv, .out] s (portRemoved p s) := by
  unfold portRemoved
  split; refine Eff.ite ?_ ?_; exact Eff.refl _ _
  extract_lets +onlyGivenNames x3; refine Eff.via x3 ?_ (fun h3 => ?_); unfold x3; rotate_left; clear_value x3; rotate_left
  exact Eff.refl _ _; refine modPort_eff ?_ (fun _ => {}); refine Eff.ite ?_ ?_; refine Eff.step switchOff_eff ?_
  exact Eff.refl _ _; exact Eff.refl _ _
  extract_lets +onlyGivenNames x10; refine Eff.via x10 ?_ (fun h10 => ?_); unfold x10; rotate_left; clear_value x10; rotate_left
  refine Eff.step modPsched_eff ?_; assumption; refine Eff.step reply_eff ?_
  refine Eff.step portServiceEvent_eff ?_; refine Eff.step capChange_eff ?_; assumption

theorem pumpOff_eff {n : Nat} {s : State} : Eff [.l1, .msg, .fnMsg, .queues, .cistern, .capFlag, .devWake, .tunnel,
    .gate, .heldEv, .out] s (pumpOff n s) := by
  unfold pumpOff
  split; refine Eff.ite ?_ ?_
  extract_lets +onlyGivenNames x2; refine Eff.via x2 ?_ (fun h2 => ?_); unfold x2; rotate_left; clear_value x2; rotate_left
  exact Eff.refl _ _; exact Eff.refl _ _; refine Eff.step modPump_eff ?_; exact Eff.refl _ _
  refine Eff.step reply_eff ?_; refine Eff.step capChange_eff ?_; assumption

end Sys2Proof.Machine
end

