-- ==== Sys2Proof/Laws/TransferEff.lean ====
section
/-! SUPPORT. What each operation of Machine/Transfer.lean can change: one lemma per function. -/

set_option Elab.async false

namespace Sys2Proof.Machine

open Sys2Proof

theorem setList_eff {p g : Nat} {l : List Nat} {s : State} : Eff [.sched] s (setList p g l s) := by
  unfold setList
  refine Eff.step modPsched_eff ?_; exact Eff.refl _ _

theorem needCtx_eff {n : Nat} {s : State} : Eff [.sched] s (needCtx n s) := by
  unfold needCtx
  refine Eff.ite ?_ ?_; exact Eff.refl _ _; refine Eff.upd ?_; exact Eff.refl _ _

theorem link_eff {n : Nat} {atHead : Bool} {s : State} : Eff [.sched] s (link n atHead s) := by
  unfold link
  split; refine Eff.ite ?_ ?_; exact Eff.refl _ _; extract_lets +onlyGivenNames x3; refine Eff.step needCtx_eff ?_
  refine Eff.step setList_eff ?_; exact Eff.refl _ _; exact Eff.refl _ _

theorem lowerPend_eff {n : Nat} {x : Pipe} {c : Nat} {s : State} : Eff [.sched] s (lowerPend n x c s) := by
  unfold lowerPend
  extract_lets +onlyGivenNames x0; refine Eff.step modPsched_eff ?_; refine Eff.step modPipe_eff ?_
  exact Eff.refl _ _

theorem dropKlass_eff {n : Nat} {s : State} : Eff [.sched] s (dropKlass n s) := by
  unfold dropKlass
  split; refine Eff.ite ?_ ?_; refine Eff.step modPsched_eff ?_; refine Eff.step lowerPend_eff ?_
  exact Eff.refl _ _; exact Eff.refl _ _; exact Eff.refl _ _

theorem unlink_eff {n : Nat} {s : State} : Eff [.sched] s (unlink n s) := by
  unfold unlink
  split; refine Eff.step dropKlass_eff ?_; refine Eff.step setList_eff ?_; exact Eff.refl _ _; exact Eff.refl _ _

theorem blockPipe_eff {n why : Nat} {s : State} : Eff [.sched] s (blockPipe n why s) := by
  unfold blockPipe
  extract_lets +onlyGivenNames x0; refine Eff.via x0 ?_ (fun h0 => ?_); unfold x0; rotate_left; clear_value x0; rotate_left
  refine Eff.step unlink_eff ?_; exact Eff.refl _ _; extract_lets +onlyGivenNames x3; refine Eff.step modPipe_eff ?_
  refine Eff.upd ?_; assumption

theorem unblock_eff {n why : Nat} {s : State} : Eff [.sched] s (unblock n why s) := by
  unfold unblock
  split; refine Eff.ite ?_ ?_; refine Eff.step link_eff ?_; refine Eff.step setPipe_eff ?_; exact Eff.refl _ _
  exact Eff.refl _ _; exact Eff.refl _ _

theorem markStarted_eff {q : Nat} {i : Word} {s : State} : Eff [.queues, .tunnel] s (markStarted q i s) := by
  unfold markStarted
  refine Eff.step modEnt_eff ?_; exact Eff.refl _ _

theorem takeShared_eff {k n : Nat} {s : State} : Eff [.cistern] s (takeShared k n s) := by
  unfold takeShared
  split; extract_lets +onlyGivenNames x1; extract_lets +onlyGivenNames x2; extract_lets +onlyGivenNames x3
  extract_lets +onlyGivenNames x4; refine Eff.via x4 ?_ (fun h4 => ?_); unfold x4; rotate_left; clear_value x4; rotate_left
  exact Eff.refl _ _; refine Eff.step setXfer_eff ?_; exact Eff.refl _ _; refine Eff.upd ?_; assumption

theorem giveShared_eff {k n : Nat} {s : State} : Eff [.cistern] s (giveShared k n s) := by
  unfold giveShared
  split; extract_lets +onlyGivenNames x1
  extract_lets +onlyGivenNames x2; refine Eff.via x2 ?_ (fun h2 => ?_); unfold x2; rotate_left; clear_value x2; rotate_left
  exact Eff.refl _ _; refine Eff.step setXfer_eff ?_; exact Eff.refl _ _; refine Eff.upd ?_; assumption

theorem feedTunnel_eff {f k : Nat} {s : State} : Eff [.cistern, .tunnel] s (feedTunnel f k s) := by
  induction f generalizing s with
  | zero =>
    unfold feedTunnel
    exact Eff.refl _ _
  | succ k ih =>
    unfold feedTunnel
    split; refine Eff.ite ?_ ?_; exact Eff.refl _ _; split; extract_lets +onlyGivenNames x4; refine Eff.ite ?_ ?_
    exact Eff.refl _ _; extract_lets +onlyGivenNames x7
    extract_lets +onlyGivenNames x8; refine Eff.via x8 ?_ (fun h8 => ?_); unfold x8; rotate_left; clear_value x8; rotate_left
    exact Eff.refl _ _; exact Eff.refl _ _; refine Eff.step setXfer_eff ?_; exact Eff.refl _ _
    extract_lets +onlyGivenNames x13
    extract_lets +onlyGivenNames x14; refine Eff.via x14 ?_ (fun h14 => ?_); unfold x14; rotate_left; clear_value x14; rotate_left
    refine Eff.upd ?_; assumption; refine Eff.step ih ?_; assumption

theorem dropPages_eff {k : Nat} {kept : Page → Bool} {s : State} : Eff [.sched, .cistern] s (dropPages k kept s) := by
  unfold dropPages
  split; extract_lets +onlyGivenNames x1; extract_lets +onlyGivenNames x2
  extract_lets +onlyGivenNames x3; refine Eff.via x3 ?_ (fun h3 => ?_); unfold x3; rotate_left; clear_value x3; rotate_left
  exact Eff.refl _ _; refine Eff.step setXfer_eff ?_; exact Eff.refl _ _; refine Eff.ite ?_ ?_; assumption
  extract_lets +onlyGivenNames x9; extract_lets +onlyGivenNames x10
  extract_lets +onlyGivenNames x11; refine Eff.via x11 ?_ (fun h11 => ?_); unfold x11; rotate_left; clear_value x11; rotate_left
  refine Eff.ite ?_ ?_; assumption; refine Eff.step giveShared_eff ?_; assumption; split
  refine Eff.step unblock_eff ?_; assumption; assumption

theorem turnPages_eff {k pos : Nat} {s : State} : Eff [.sched, .cistern] s (turnPages k pos s) := by
  unfold turnPages
  refine Eff.step dropPages_eff ?_; exact Eff.refl _ _

theorem tunnelOffer_eff {k : Nat} {s : State} : Eff [.sched, .cistern, .devWake, .tunnel, .out] s (tunnelOffer k s) := by
  unfold tunnelOffer
  split; refine Eff.ite ?_ ?_; exact Eff.refl _ _; split; extract_lets +onlyGivenNames x4; refine Eff.ite ?_ ?_
  exact Eff.refl _ _; refine Eff.ite ?_ ?_
  extract_lets +onlyGivenNames x8; refine Eff.via x8 ?_ (fun h8 => ?_); unfold x8; rotate_left; clear_value x8; rotate_left
  refine Eff.step tunErdy_eff ?_; exact Eff.refl _ _; exact Eff.refl _ _; exact Eff.refl _ _
  refine Eff.step emit_eff ?_; exact Eff.refl _ _; refine Eff.step turnPages_eff ?_; refine Eff.step setXfer_eff ?_
  assumption

theorem queueJob_eff {k : Nat} {s : State} : Eff [.sched, .cistern, .devWake, .tunnel, .out] s (queueJob k s) := by
  unfold queueJob
  split; refine Eff.ite ?_ ?_
  extract_lets +onlyGivenNames x2; refine Eff.via x2 ?_ (fun h2 => ?_); unfold x2; rotate_left; clear_value x2; rotate_left
  refine Eff.ite ?_ ?_; exact Eff.refl _ _; refine Eff.ite ?_ ?_; refine Eff.upd ?_; exact Eff.refl _ _
  refine Eff.upd ?_; exact Eff.refl _ _; exact Eff.refl _ _; refine Eff.step tunnelOffer_eff ?_
  refine Eff.step feedTunnel_eff ?_; exact Eff.refl _ _; split; refine Eff.step unblock_eff ?_; assumption
  assumption

theorem unbind_eff {k : Nat} {s : State} : Eff [.l1, .msg, .fnMsg, .queues, .cistern, .capFlag, .devWake, .tunnel,
    .gate, .heldEv, .out] s (unbind k s) := by
  unfold unbind
  split; split
  extract_lets +onlyGivenNames x2; refine Eff.via x2 ?_ (fun h2 => ?_); unfold x2; rotate_left; clear_value x2; rotate_left
  exact Eff.refl _ _; exact Eff.refl _ _; refine Eff.step setXfer_eff ?_; exact Eff.refl _ _
  refine Eff.step pumpOff_eff ?_; refine Eff.step modPump_eff ?_; assumption

theorem dequeueJob_eff {k : Nat} {s : State} : Eff [.cistern] s (dequeueJob k s) := by
  unfold dequeueJob
  refine Eff.upd ?_; exact Eff.refl _ _

theorem nextJob_eff {f k : Nat} {s : State} : Eff [.l1, .msg, .fnMsg, .queues, .cistern, .capFlag, .devWake,
    .tunnel, .gate, .heldEv, .out] s (nextJob f k s) := by
  induction f generalizing s with
  | zero =>
    unfold nextJob
    exact Eff.refl _ _
  | succ k ih =>
    unfold nextJob
    split; refine Eff.ite ?_ ?_
    extract_lets +onlyGivenNames x2; refine Eff.via x2 ?_ (fun h2 => ?_); unfold x2; rotate_left; clear_value x2; rotate_left
    exact Eff.refl _ _; exact Eff.refl _ _; refine Eff.step dequeueJob_eff ?_; refine Eff.step unbind_eff ?_
    exact Eff.refl _ _; split; refine Eff.ite ?_ ?_; refine Eff.step ih ?_; refine Eff.step modXfer_eff ?_
    assumption; assumption; assumption

theorem settleJob_eff {k : Nat} {s : State} : Eff [.l1, .msg, .fnMsg, .queues, .sched, .cistern, .capFlag, .devWake,
    .tunnel, .gate, .heldEv, .out] s (settleJob k s) := by
  unfold settleJob
  extract_lets +onlyGivenNames x0; refine Eff.via x0 ?_ (fun h0 => ?_); unfold x0; rotate_left; clear_value x0; rotate_left
  refine Eff.step nextJob_eff ?_; exact Eff.refl _ _; split; split; refine Eff.ite ?_ ?_
  refine Eff.step unbind_eff ?_; assumption; assumption; refine Eff.step queueJob_eff ?_; assumption; assumption

theorem modDesc_eff {ps : List Part} {n : Nat} {g : Desc → Desc} {s t : State} (hg : ∀ d, (g d).pipe = d.pipe)
    (h : Eff ps s t) (sub : [.engines] ⊆ ps := by decide) : Eff ps s (modDesc n g t) := by
  unfold modDesc
  split
  · refine modEngine_keep h (fun e => ?_) sub
    simp only [Engine.bursts, List.map_map, Prod.mk.injEq, and_true]
    refine List.map_congr_left fun d _ => ?_
    simp only [Function.comp]
    split
    · exact hg d
    · rfl
  · exact h

theorem replyStop_eff {n code : Nat} {c : Word} {s : State} : Eff [.l1, .msg, .fnMsg, .queues, .devWake, .tunnel,
    .gate, .out] s (replyStop n code c s) := by
  unfold replyStop
  refine Eff.ite ?_ ?_; exact Eff.refl _ _; split; extract_lets +onlyGivenNames x3; extract_lets +onlyGivenNames x4
  refine Eff.step publish_eff ?_; refine Eff.step endEntDw_eff ?_; exact Eff.refl _ _; exact Eff.refl _ _

theorem replyPipe_eff {n : Nat} {code : Nat} {s : State} : Eff [.l1, .msg, .fnMsg, .queues, .sched, .devWake,
    .tunnel, .gate, .out] s (replyPipe n code s) := by
  unfold replyPipe
  split; refine Eff.foldl (fun _ _ => ?_) ?_ _; refine Eff.step replyStop_eff ?_; exact Eff.refl _ _
  refine Eff.step setPipe_eff ?_; exact Eff.refl _ _; exact Eff.refl _ _

theorem dropCtx_eff {n : Nat} {s : State} : Eff [.sched] s (dropCtx n s) := by
  unfold dropCtx
  refine Eff.upd ?_; exact Eff.refl _ _

theorem ltrUpdate_eff {s : State} : Eff [.l1, .msg, .gate, .out] s (ltrUpdate s) := by
  unfold ltrUpdate
  extract_lets +onlyGivenNames x0; refine Eff.ite ?_ ?_; exact Eff.refl _ _; refine Eff.step tlp_eff ?_
  refine Eff.upd ?_; exact Eff.refl _ _

theorem closeEndpoint_eff {x : Pipe} {s : State} : Eff [.sched] s (closeEndpoint x s) := by
  unfold closeEndpoint
  split; refine Eff.ite ?_ ?_; refine Eff.step dropCtx_eff ?_; refine Eff.step delPipe_eff ?_; exact Eff.refl _ _
  exact Eff.refl _ _; exact Eff.refl _ _

theorem erasePipe_eff {n : Nat} {s : State} : Eff [.l1, .msg, .fnMsg, .queues, .sched, .halves, .engines, .portReg,
    .capFlag, .devWake, .tunnel, .gate, .heldEv, .out] s (erasePipe n s) := by
  unfold erasePipe
  split
  extract_lets +onlyGivenNames x1; refine Eff.via x1 ?_ (fun h1 => ?_); unfold x1; rotate_left; clear_value x1; rotate_left
  exact Eff.refl _ _; refine Eff.step unlink_eff ?_; exact Eff.refl _ _
  extract_lets +onlyGivenNames x5; refine Eff.via x5 ?_ (fun h5 => ?_); unfold x5; rotate_left; clear_value x5; rotate_left
  refine Eff.ite ?_ ?_; refine Eff.step modPsched_eff ?_; assumption; assumption
  extract_lets +onlyGivenNames x10; refine Eff.via x10 ?_ (fun h10 => ?_); unfold x10; rotate_left; clear_value x10; rotate_left
  refine modEngine_keep ?_ (fun _ => rfl); assumption
  extract_lets +onlyGivenNames x13; refine Eff.via x13 ?_ (fun h13 => ?_); unfold x13; rotate_left; clear_value x13; rotate_left
  refine Eff.step ltrUpdate_eff ?_; refine Eff.step closeEndpoint_eff ?_; refine Eff.step dropCtx_eff ?_
  refine Eff.step delPipe_eff ?_; assumption; refine Eff.step portRemoved_eff ?_; refine Eff.ite ?_ ?_
  refine Eff.step idleStart_eff ?_; assumption; assumption

theorem endEntry_eff {q : Nat} {i : Word} {c : Cpl} {wrote : Option Nat} {s : State} : Eff [.l1, .reads, .msg,
    .fnMsg, .queues, .devWake, .tunnel, .gate, .heldEv, .out] s (endEntry q i c wrote s) := by
  unfold endEntry
  split; refine Eff.ite ?_ ?_
  extract_lets +onlyGivenNames x2; refine Eff.via x2 ?_ (fun h2 => ?_); unfold x2; rotate_left; clear_value x2; rotate_left
  refine Eff.step complete_eff ?_; exact Eff.refl _ _; refine Eff.step complete_eff ?_; exact Eff.refl _ _
  refine Eff.step modEnt_eff ?_; exact Eff.refl _ _; refine Eff.ite ?_ ?_; assumption
  refine Eff.step issueRead_eff ?_; assumption

theorem detach_eff {n : Nat} {q : Nat} {i : Word} {s : State} : Eff [.sched] s (detach n q i s) := by
  unfold detach
  refine Eff.step modPipe_eff ?_; exact Eff.refl _ _

theorem stampNow_eff {k : Nat} {s : State} : Eff [.cistern] s (stampNow k s) := by
  unfold stampNow
  split; refine Eff.ite ?_ ?_; exact Eff.refl _ _; refine Eff.step setXfer_eff ?_; exact Eff.refl _ _
  exact Eff.refl _ _

theorem markPacket_eff {k pos : Nat} {s : State} : Eff [.cistern] s (markPacket k pos s) := by
  unfold markPacket
  split; extract_lets +onlyGivenNames x1; refine Eff.step setXfer_eff ?_; exact Eff.refl _ _; exact Eff.refl _ _

theorem freeXfer_eff {k : Nat} {s : State} : Eff [.l1, .reads, .msg, .fnMsg, .queues, .cistern, .capFlag, .devWake,
    .tunnel, .gate, .heldEv, .out] s (freeXfer k s) := by
  unfold freeXfer
  split
  extract_lets +onlyGivenNames x1; refine Eff.via x1 ?_ (fun h1 => ?_); unfold x1; rotate_left; clear_value x1; rotate_left
  exact Eff.refl _ _; refine Eff.step dequeueJob_eff ?_; refine Eff.step unbind_eff ?_; exact Eff.refl _ _
  extract_lets +onlyGivenNames x6; refine Eff.via x6 ?_ (fun h6 => ?_); unfold x6; rotate_left; clear_value x6; rotate_left
  refine Eff.step giveShared_eff ?_; assumption; extract_lets +onlyGivenNames x9; extract_lets +onlyGivenNames x10
  extract_lets +onlyGivenNames x11; extract_lets +onlyGivenNames x12; extract_lets +onlyGivenNames x13
  extract_lets +onlyGivenNames x14
  extract_lets +onlyGivenNames x15; refine Eff.via x15 ?_ (fun h15 => ?_); unfold x15; rotate_left; clear_value x15; rotate_left
  refine Eff.upd ?_; assumption; refine Eff.upd ?_; assumption

theorem newXfer_eff {k : Nat} {y : Xfer} {s : State} : Eff [.sched, .cistern] s (newXfer k y s) := by
  unfold newXfer
  extract_lets +onlyGivenNames x0; refine Eff.via x0 ?_ (fun h0 => ?_); unfold x0; rotate_left; clear_value x0; rotate_left
  refine Eff.step setXfer_eff ?_; exact Eff.refl _ _; extract_lets +onlyGivenNames x3; refine Eff.upd ?_; assumption

theorem activate_eff {n : Nat} {x : Pipe} {r : EntRef} {d : Slot} {s : State} : Eff [.sched, .cistern] s (activate n
    x r d s) := by
  unfold activate
  split; refine Eff.step modPipe_eff ?_; refine Eff.step newXfer_eff ?_; exact Eff.refl _ _; exact Eff.refl _ _

theorem askPages_eff {m k : Nat} {s : State} : Eff [.cistern] s (askPages m k s) := by
  unfold askPages
  split; extract_lets +onlyGivenNames x1; extract_lets +onlyGivenNames x2; extract_lets +onlyGivenNames x3
  extract_lets +onlyGivenNames x4; refine Eff.upd ?_; exact Eff.refl _ _; exact Eff.refl _ _

theorem grantPages_eff {r : PageReq} {s : State} : Eff [.sched, .cistern, .devWake, .tunnel, .out] s (grantPages r
    s) := by
  unfold grantPages
  extract_lets +onlyGivenNames x0
  extract_lets +onlyGivenNames x1; refine Eff.via x1 ?_ (fun h1 => ?_); unfold x1; rotate_left; clear_value x1; rotate_left
  refine Eff.upd ?_; exact Eff.refl _ _
  extract_lets +onlyGivenNames x4; refine Eff.via x4 ?_ (fun h4 => ?_); unfold x4; rotate_left; clear_value x4; rotate_left
  refine Eff.step queueJob_eff ?_; refine Eff.step takeShared_eff ?_; assumption; split
  refine Eff.step unblock_eff ?_; assumption; assumption

theorem grantAll_eff {s : State} : Eff [.sched, .cistern, .devWake, .tunnel, .out] s (grantAll s) := by
  unfold grantAll
  refine Eff.foldl (fun _ _ => ?_) ?_ _; refine Eff.step grantPages_eff ?_; exact Eff.refl _ _; exact Eff.refl _ _

theorem leaveWord_eff {q : Nat} {i : Word} {sig : Nat × Nat × Nat} {c : Cpl} {s : State} : Eff [.queues, .tunnel] s
    (leaveWord q i sig c s) := by
  unfold leaveWord
  refine Eff.step modQueue_eff ?_; exact Eff.refl _ _

theorem endFollowers_eff {n : Option Nat} {q : Nat} {sig : Nat × Nat × Nat} {c : Cpl} {es : List Ent} {s : State} :
    Eff [.l1, .msg, .fnMsg, .queues, .sched, .devWake, .tunnel, .gate, .heldEv, .out] s (endFollowers n q sig c es
    s) := by
  induction es generalizing s with
  | nil =>
    unfold endFollowers
    exact Eff.refl _ _
  | cons e es ih =>
    unfold endFollowers
    extract_lets +onlyGivenNames x0; refine Eff.via x0 ?_ (fun h0 => ?_); unfold x0; rotate_left; clear_value x0; rotate_left
    split; refine Eff.step detach_eff ?_; exact Eff.refl _ _; exact Eff.refl _ _
    extract_lets +onlyGivenNames x5; refine Eff.via x5 ?_ (fun h5 => ?_); unfold x5; rotate_left; clear_value x5; rotate_left
    refine Eff.ite ?_ ?_; refine Eff.step leaveWord_eff ?_; assumption; assumption; refine Eff.step ih ?_
    refine Eff.step complete_eff ?_; assumption

theorem endIdle_eff {n : Nat} {r : EntRef} {s : State} : Eff [.l1, .msg, .fnMsg, .queues, .sched, .devWake, .tunnel,
    .gate, .heldEv, .out] s (endIdle n r s) := by
  unfold endIdle
  split; refine Eff.step endFollowers_eff ?_; exact Eff.refl _ _; exact Eff.refl _ _

theorem emptied_eff {n : Nat} {s : State} : Eff [.sched] s (emptied n s) := by
  unfold emptied
  split; refine Eff.ite ?_ ?_; refine Eff.step setPipe_eff ?_; refine Eff.step unlink_eff ?_; exact Eff.refl _ _
  exact Eff.refl _ _; exact Eff.refl _ _

theorem startHead_eff {f n : Nat} {s : State} : Eff [.l1, .msg, .fnMsg, .queues, .sched, .cistern, .devWake,
    .tunnel, .gate, .heldEv, .out] s (startHead f n s) := by
  induction f generalizing s with
  | zero =>
    unfold startHead
    exact Eff.refl _ _
  | succ k ih =>
    unfold startHead
    split; split; refine Eff.ite ?_ ?_; exact Eff.refl _ _; refine Eff.ite ?_ ?_; refine Eff.step ih ?_
    refine Eff.step emptied_eff ?_; refine Eff.step endIdle_eff ?_; exact Eff.refl _ _; split; refine Eff.ite ?_ ?_
    refine Eff.ite ?_ ?_; split; refine Eff.step askPages_eff ?_; refine Eff.step queueJob_eff ?_
    refine Eff.step activate_eff ?_; exact Eff.refl _ _; exact Eff.refl _ _; refine Eff.step blockPipe_eff ?_
    exact Eff.refl _ _; exact Eff.refl _ _; exact Eff.refl _ _; exact Eff.refl _ _; exact Eff.refl _ _

theorem startHeads_eff {n : Nat} {s : State} : Eff [.l1, .msg, .fnMsg, .queues, .sched, .cistern, .devWake, .tunnel,
    .gate, .heldEv, .out] s (startHeads n s) := by
  unfold startHeads
  refine Eff.step startHead_eff ?_; exact Eff.refl _ _

theorem nextHead_eff {n : Nat} {s : State} : Eff [.l1, .msg, .fnMsg, .queues, .sched, .cistern, .devWake, .tunnel,
    .gate, .heldEv, .out] s (nextHead n s) := by
  unfold nextHead
  split; split; refine Eff.ite ?_ ?_; refine Eff.step emptied_eff ?_; exact Eff.refl _ _
  refine Eff.step startHeads_eff ?_; exact Eff.refl _ _; refine Eff.step startHeads_eff ?_; exact Eff.refl _ _
  exact Eff.refl _ _; exact Eff.refl _ _

theorem clearErrs_eff {n : Nat} {s : State} : Eff [.sched, .engines] s (clearErrs n s) := by
  unfold clearErrs
  split; refine modEngine_keep ?_ (fun _ => rfl); refine Eff.step setPipe_eff ?_; exact Eff.refl _ _
  exact Eff.refl _ _

theorem detachXfer_eff {k : Nat} {s : State} : Eff [.l1, .msg, .fnMsg, .queues, .sched, .engines, .cistern,
    .devWake, .tunnel, .gate, .heldEv, .out] s (detachXfer k s) := by
  unfold detachXfer
  split; split; refine Eff.ite ?_ ?_; extract_lets +onlyGivenNames x3
  extract_lets +onlyGivenNames x4; refine Eff.via x4 ?_ (fun h4 => ?_); unfold x4; rotate_left; clear_value x4; rotate_left
  exact Eff.refl _ _; exact Eff.refl _ _; exact Eff.refl _ _; refine modDesc_eff (fun _ => ?_) ?_
  (first | rfl | (split <;> rfl)); exact Eff.refl _ _; refine Eff.step nextHead_eff ?_
  refine Eff.step clearErrs_eff ?_; refine Eff.step modPipe_eff ?_; assumption

theorem closeDone_eff {n : Nat} {s : State} : Eff [.l1, .msg, .fnMsg, .queues, .sched, .halves, .engines, .portReg,
    .capFlag, .devWake, .tunnel, .gate, .heldEv, .out] s (closeDone n s) := by
  unfold closeDone
  split; refine Eff.ite ?_ ?_
  extract_lets +onlyGivenNames x2; refine Eff.via x2 ?_ (fun h2 => ?_); unfold x2; rotate_left; clear_value x2; rotate_left
  exact Eff.refl _ _; exact Eff.refl _ _; refine Eff.foldl (fun _ _ => ?_) ?_ _; refine Eff.step complete_eff ?_
  refine Eff.step detach_eff ?_; exact Eff.refl _ _; exact Eff.refl _ _; refine Eff.step erasePipe_eff ?_
  refine Eff.step replyPipe_eff ?_; assumption

theorem endChain_eff {x : Xfer} {pos : Nat} {c : Cpl} {chain : List Ent} {s : State} : Eff [.l1, .reads, .msg,
    .fnMsg, .queues, .sched, .devWake, .tunnel, .gate, .heldEv, .out] s (endChain x pos c chain s) := by
  unfold endChain
  split; extract_lets +onlyGivenNames x1; extract_lets +onlyGivenNames x2; extract_lets +onlyGivenNames x3
  extract_lets +onlyGivenNames x4; refine Eff.via x4 ?_ (fun h4 => ?_); unfold x4; rotate_left; clear_value x4; rotate_left
  refine Eff.step leaveWord_eff ?_; exact Eff.refl _ _; split; refine Eff.step detach_eff ?_; exact Eff.refl _ _
  exact Eff.refl _ _
  extract_lets +onlyGivenNames x11; refine Eff.via x11 ?_ (fun h11 => ?_); unfold x11; rotate_left; clear_value x11; rotate_left
  refine Eff.ite ?_ ?_; refine Eff.step leaveWord_eff ?_; assumption; assumption
  extract_lets +onlyGivenNames x16; refine Eff.via x16 ?_ (fun h16 => ?_); unfold x16; rotate_left; clear_value x16; rotate_left
  refine Eff.step endEntry_eff ?_; assumption; refine Eff.step endFollowers_eff ?_; assumption

theorem keepPlace_eff {k : Nat} {x : Xfer} {s : State} : Eff [.cistern] s (keepPlace k x s) := by
  unfold keepPlace
  split; refine Eff.step setXfer_eff ?_; exact Eff.refl _ _; exact Eff.refl _ _

theorem dropXfer_eff {k : Nat} {c : Cpl} {s : State} : Eff [.l1, .reads, .msg, .fnMsg, .queues, .sched, .halves,
    .engines, .portReg, .cistern, .capFlag, .devWake, .tunnel, .gate, .heldEv, .out] s (dropXfer k c s) := by
  unfold dropXfer
  split; extract_lets +onlyGivenNames x1; extract_lets +onlyGivenNames x2
  extract_lets +onlyGivenNames x3; refine Eff.via x3 ?_ (fun h3 => ?_); unfold x3; rotate_left; clear_value x3; rotate_left
  exact Eff.refl _ _; refine Eff.step keepPlace_eff ?_; refine Eff.step endChain_eff ?_
  refine Eff.step freeXfer_eff ?_; refine Eff.step detachXfer_eff ?_; exact Eff.refl _ _; split
  refine Eff.step closeDone_eff ?_; assumption; assumption

theorem startCopy_eff {r : EntRef} {s : State} : Eff [.l1, .reads, .msg, .fnMsg, .queues, .sched, .halves, .engines,
    .portReg, .cistern, .capFlag, .devWake, .tunnel, .gate, .heldEv, .out] s (startCopy r s) := by
  unfold startCopy
  split; split; extract_lets +onlyGivenNames x2
  extract_lets +onlyGivenNames x3; refine Eff.via x3 ?_ (fun h3 => ?_); unfold x3; rotate_left; clear_value x3; rotate_left
  exact Eff.refl _ _; refine Eff.upd ?_; exact Eff.refl _ _; refine Eff.upd ?_; exact Eff.refl _ _
  extract_lets +onlyGivenNames x9; refine Eff.via x9 ?_ (fun h9 => ?_); unfold x9; rotate_left; clear_value x9; rotate_left
  refine Eff.step newXfer_eff ?_; assumption; refine Eff.ite ?_ ?_; refine Eff.step dropXfer_eff ?_; assumption
  refine Eff.step askPages_eff ?_; refine Eff.step queueJob_eff ?_; assumption

theorem retryBlocked_eff {s : State} : Eff [.l1, .reads, .msg, .fnMsg, .queues, .sched, .halves, .engines, .portReg,
    .cistern, .capFlag, .devWake, .tunnel, .gate, .heldEv, .out] s (retryBlocked s) := by
  unfold retryBlocked
  extract_lets +onlyGivenNames x0; refine Eff.via x0 ?_ (fun h0 => ?_); unfold x0; rotate_left; clear_value x0; rotate_left
  refine Eff.foldl (fun _ _ => ?_) ?_ _; refine Eff.step startHeads_eff ?_; refine Eff.step unblock_eff ?_
  exact Eff.refl _ _; exact Eff.refl _ _; refine Eff.foldl (fun _ _ => ?_) ?_ _; refine Eff.step startCopy_eff ?_
  exact Eff.refl _ _; assumption

theorem endXfer_eff {k : Nat} {c : Cpl} {s : State} : Eff [.l1, .reads, .msg, .fnMsg, .queues, .sched, .halves,
    .engines, .portReg, .cistern, .capFlag, .devWake, .tunnel, .gate, .heldEv, .out] s (endXfer k c s) := by
  unfold endXfer
  refine Eff.step retryBlocked_eff ?_; refine Eff.step dropXfer_eff ?_; exact Eff.refl _ _

theorem freeBarrier_eff {q : Nat} {i : Word} {s : State} : Eff [.l1, .reads, .msg, .fnMsg, .queues, .sched, .halves,
    .engines, .portReg, .cistern, .capFlag, .devWake, .tunnel, .gate, .heldEv, .out] s (freeBarrier q i s) := by
  unfold freeBarrier
  split; refine Eff.step retryBlocked_eff ?_; refine Eff.upd ?_; exact Eff.refl _ _; exact Eff.refl _ _

theorem passEntries_eff {f k : Nat} {s : State} : Eff [.l1, .reads, .msg, .fnMsg, .queues, .sched, .cistern,
    .capFlag, .devWake, .tunnel, .gate, .heldEv, .out] s (passEntries f k s) := by
  induction f generalizing s with
  | zero =>
    unfold passEntries
    exact Eff.refl _ _
  | succ k ih =>
    unfold passEntries
    split; split; extract_lets +onlyGivenNames x2; extract_lets +onlyGivenNames x3; extract_lets +onlyGivenNames x4
    refine Eff.ite ?_ ?_; extract_lets +onlyGivenNames x6
    extract_lets +onlyGivenNames x7; refine Eff.via x7 ?_ (fun h7 => ?_); unfold x7; rotate_left; clear_value x7; rotate_left
    exact Eff.refl _ _; exact Eff.refl _ _; exact Eff.refl _ _; split; refine Eff.step modPipe_eff ?_
    refine Eff.step detach_eff ?_; exact Eff.refl _ _; exact Eff.refl _ _
    extract_lets +onlyGivenNames x16; refine Eff.via x16 ?_ (fun h16 => ?_); unfold x16; rotate_left; clear_value x16; rotate_left
    refine Eff.step endEntry_eff ?_; assumption
    extract_lets +onlyGivenNames x19; refine Eff.via x19 ?_ (fun h19 => ?_); unfold x19; rotate_left; clear_value x19; rotate_left
    refine Eff.ite ?_ ?_; refine Eff.step markStarted_eff ?_; assumption; assumption
    extract_lets +onlyGivenNames x24; refine Eff.via x24 ?_ (fun h24 => ?_); unfold x24; rotate_left; clear_value x24; rotate_left
    refine Eff.ite ?_ ?_; assumption; refine Eff.step dequeueJob_eff ?_; refine Eff.step unbind_eff ?_; assumption
    refine Eff.step ih ?_; refine Eff.step modXfer_eff ?_; assumption

theorem progress_eff {k : Nat} {s : State} : Eff [.l1, .reads, .msg, .fnMsg, .queues, .sched, .halves, .engines,
    .portReg, .cistern, .capFlag, .devWake, .tunnel, .gate, .heldEv, .out] s (progress k s) := by
  unfold progress
  extract_lets +onlyGivenNames x0; refine Eff.via x0 ?_ (fun h0 => ?_); unfold x0; rotate_left; clear_value x0; rotate_left
  refine Eff.step passEntries_eff ?_; refine Eff.step tunnelOffer_eff ?_; exact Eff.refl _ _; split
  extract_lets +onlyGivenNames x5; refine Eff.via x5 ?_ (fun h5 => ?_); unfold x5; rotate_left; clear_value x5; rotate_left
  assumption; refine Eff.ite ?_ ?_; refine Eff.step markStarted_eff ?_; assumption; assumption; refine Eff.ite ?_ ?_
  refine Eff.step settleJob_eff ?_; assumption; split; extract_lets +onlyGivenNames x15
  extract_lets +onlyGivenNames x16; refine Eff.via x16 ?_ (fun h16 => ?_); unfold x16; rotate_left; clear_value x16; rotate_left
  refine Eff.ite ?_ ?_; refine Eff.step endXfer_eff ?_; assumption; refine Eff.step settleJob_eff ?_; assumption
  refine Eff.ite ?_ ?_; assumption; refine Eff.step detachXfer_eff ?_; assumption; refine Eff.ite ?_ ?_
  refine Eff.step endXfer_eff ?_; assumption; refine Eff.step settleJob_eff ?_; assumption

theorem endBus_eff {k : Nat} {c : Cpl} {s : State} : Eff [.l1, .reads, .msg, .fnMsg, .queues, .sched, .halves,
    .engines, .portReg, .cistern, .capFlag, .devWake, .tunnel, .gate, .heldEv, .out] s (endBus k c s) := by
  unfold endBus
  split; extract_lets +onlyGivenNames x1; refine Eff.step progress_eff ?_; refine Eff.step setXfer_eff ?_
  exact Eff.refl _ _; exact Eff.refl _ _

theorem endAll_eff {n : Nat} {started other : Cpl} {s : State} : Eff [.l1, .reads, .msg, .fnMsg, .queues, .sched,
    .halves, .engines, .portReg, .cistern, .capFlag, .devWake, .tunnel, .gate, .heldEv, .out] s (endAll n started
    other s) := by
  unfold endAll
  split; extract_lets +onlyGivenNames x1; extract_lets +onlyGivenNames x2
  extract_lets +onlyGivenNames x3; refine Eff.via x3 ?_ (fun h3 => ?_); unfold x3; rotate_left; clear_value x3; rotate_left
  exact Eff.refl _ _; refine Eff.foldl (fun _ _ => ?_) ?_ _; refine Eff.step complete_eff ?_
  refine Eff.step detach_eff ?_; exact Eff.refl _ _; exact Eff.refl _ _; split; refine Eff.step endBus_eff ?_
  assumption; assumption

end Sys2Proof.Machine
end

