-- ==== Sys2Proof/Laws/AttachEff.lean ====
section
/-! SUPPORT. What each operation of Machine/Attach.lean can change: one lemma per function. -/

set_option Elab.async false

namespace Sys2Proof.Machine

open Sys2Proof

theorem cutPages_eff {k pos : Nat} {s : State} : Eff [.cistern] s (cutPages k pos s) := by
  unfold cutPages
  refine Eff.step modXfer_eff ?_; exact Eff.refl _ _

theorem chainKnown_eff {k : Nat} {s : State} : Eff [.l1, .reads, .msg, .fnMsg, .queues, .sched, .halves, .engines,
    .portReg, .cistern, .capFlag, .devWake, .tunnel, .gate, .heldEv, .out] s (chainKnown k s) := by
  unfold chainKnown
  split; extract_lets +onlyGivenNames x1; extract_lets +onlyGivenNames x2; extract_lets +onlyGivenNames x3
  refine Eff.ite ?_ ?_; refine Eff.ite ?_ ?_; refine Eff.step progress_eff ?_; refine Eff.step modXfer_eff ?_
  refine Eff.step cutPages_eff ?_; split; unfold x3; beta_reduce; refine Eff.ite ?_ ?_
  refine Eff.step modPipe_eff ?_; refine Eff.step unlink_eff ?_; exact Eff.refl _ _; exact Eff.refl _ _
  exact Eff.refl _ _; refine Eff.step progress_eff ?_; exact Eff.refl _ _; split; extract_lets +onlyGivenNames x20
  extract_lets +onlyGivenNames x21; refine Eff.ite ?_ ?_; exact Eff.refl _ _; refine Eff.ite ?_ ?_
  refine Eff.ite ?_ ?_; refine Eff.step unblock_eff ?_; refine Eff.step modPipe_eff ?_; exact Eff.refl _ _
  exact Eff.refl _ _; refine Eff.ite ?_ ?_; clear_value x21; split; refine Eff.ite ?_ ?_
  refine Eff.step unblock_eff ?_; exact Eff.refl _ _; refine Eff.step endBus_eff ?_; exact Eff.refl _ _
  refine Eff.step endBus_eff ?_; exact Eff.refl _ _; refine Eff.ite ?_ ?_; refine Eff.step endBus_eff ?_
  unfold x3; beta_reduce; refine Eff.ite ?_ ?_; refine Eff.step modPipe_eff ?_; refine Eff.step unlink_eff ?_
  refine Eff.step cutPages_eff ?_; exact Eff.refl _ _; refine Eff.step cutPages_eff ?_; exact Eff.refl _ _
  refine Eff.step endBus_eff ?_; exact Eff.refl _ _; exact Eff.refl _ _; exact Eff.refl _ _

theorem readyCancel_eff {n : Nat} {x : Pipe} {s : State} : Eff [.sched, .freeCount] s (readyCancel n x s) := by
  unfold readyCancel
  refine Eff.ite ?_ ?_
  extract_lets +onlyGivenNames x1; refine Eff.via x1.2 ?_ (fun h1 => ?_); unfold x1; rotate_left; clear_value x1; rotate_left
  exact Eff.refl _ _; refine Eff.step takeFree_eff ?_; exact Eff.refl _ _; refine Eff.ite ?_ ?_
  refine Eff.step modPipe_eff ?_; refine Eff.upd ?_; assumption; assumption

theorem pipeAttach_eff {n : Nat} {r : EntRef} {d : Slot} {s : State} : Eff [.l1, .reads, .msg, .fnMsg, .queues,
    .sched, .halves, .engines, .portReg, .cistern, .capFlag, .devWake, .tunnel, .gate, .heldEv, .freeCount, .out] s
    (pipeAttach n r d s) := by
  unfold pipeAttach
  split; extract_lets +onlyGivenNames x1
  extract_lets +onlyGivenNames x2; refine Eff.via x2 ?_ (fun h2 => ?_); unfold x2; rotate_left; clear_value x2; rotate_left
  exact Eff.refl _ _; refine Eff.step needCtx_eff ?_; exact Eff.refl _ _; split; refine Eff.step complete_eff ?_
  assumption; refine Eff.step startHeads_eff ?_; refine Eff.step link_eff ?_; refine Eff.step setPipe_eff ?_
  assumption
  extract_lets +onlyGivenNames x13; refine Eff.via x13 ?_ (fun h13 => ?_); unfold x13; rotate_left; clear_value x13; rotate_left
  refine Eff.ite ?_ ?_; refine Eff.step readyCancel_eff ?_; assumption; assumption
  extract_lets +onlyGivenNames x18; refine Eff.via x18 ?_ (fun h18 => ?_); unfold x18; rotate_left; clear_value x18; rotate_left
  refine Eff.step modPipe_eff ?_; assumption
  extract_lets +onlyGivenNames x21; refine Eff.via x21 ?_ (fun h21 => ?_); unfold x21; rotate_left; clear_value x21; rotate_left
  refine Eff.ite ?_ ?_; refine Eff.step startHeads_eff ?_; assumption; assumption; split
  refine Eff.step unblock_eff ?_; refine Eff.step progress_eff ?_; refine Eff.step askPages_eff ?_; assumption
  assumption

theorem attachCopy_eff {q : Nat} {i : Word} {s : State} : Eff [.l1, .reads, .msg, .fnMsg, .queues, .sched, .halves,
    .engines, .portReg, .cistern, .capFlag, .devWake, .tunnel, .gate, .heldEv, .out] s (attachCopy q i s) := by
  unfold attachCopy
  refine Eff.step retryBlocked_eff ?_; refine Eff.upd ?_; exact Eff.refl _ _

theorem attachOp_eff {q : Nat} {x : Queue} {e : Ent} {s : State} : Eff [.l1, .reads, .msg, .fnMsg, .queues, .sched,
    .halves, .engines, .portReg, .cistern, .capFlag, .devWake, .tunnel, .gate, .heldEv, .freeCount, .out] s
    (attachOp q x e s) := by
  unfold attachOp
  extract_lets +onlyGivenNames x0; extract_lets +onlyGivenNames x1; split; unfold x1; beta_reduce
  refine Eff.step complete_eff ?_; exact Eff.refl _ _; exact Eff.refl _ _; refine Eff.step modQueue_eff ?_
  exact Eff.refl _ _; refine Eff.step attachCopy_eff ?_; exact Eff.refl _ _; refine Eff.ite ?_ ?_
  unfold x1; beta_reduce; refine Eff.step complete_eff ?_; exact Eff.refl _ _; split; unfold x1; beta_reduce
  refine Eff.step complete_eff ?_; exact Eff.refl _ _; split; unfold x1; beta_reduce
  refine Eff.step complete_eff ?_; exact Eff.refl _ _; extract_lets +onlyGivenNames x23; refine Eff.ite ?_ ?_
  unfold x1; beta_reduce; refine Eff.step complete_eff ?_; exact Eff.refl _ _; refine Eff.step pipeAttach_eff ?_
  refine Eff.step modEnt_eff ?_; exact Eff.refl _ _

theorem attach_eff {q : Nat} {x : Queue} {e : Ent} {s : State} : Eff [.l1, .reads, .msg, .fnMsg, .queues, .sched,
    .halves, .engines, .portReg, .cistern, .capFlag, .devWake, .tunnel, .gate, .heldEv, .freeCount, .out] s (attach
    q x e s) := by
  unfold attach
  extract_lets +onlyGivenNames x0; extract_lets +onlyGivenNames x1
  extract_lets +onlyGivenNames x2; refine Eff.via x2 ?_ (fun h2 => ?_); unfold x2; rotate_left; clear_value x2; rotate_left
  refine Eff.step modEnt_eff ?_; exact Eff.refl _ _
  extract_lets +onlyGivenNames x5; refine Eff.via x5 ?_ (fun h5 => ?_); unfold x5; rotate_left; clear_value x5; rotate_left
  refine Eff.foldl (fun _ _ => ?_) ?_ _; refine Eff.step chainKnown_eff ?_; exact Eff.refl _ _; assumption
  extract_lets +onlyGivenNames x10; refine Eff.via x10 ?_ (fun h10 => ?_); unfold x10; rotate_left; clear_value x10; rotate_left
  refine Eff.step modQueue_eff ?_; assumption; clear_value x1; split; extract_lets +onlyGivenNames x15
  refine Eff.step complete_eff ?_; refine Eff.ite ?_ ?_; refine Eff.step leaveWord_eff ?_; assumption; assumption
  extract_lets +onlyGivenNames x21
  extract_lets +onlyGivenNames x22; refine Eff.via x22 ?_ (fun h22 => ?_); unfold x22; rotate_left; clear_value x22; rotate_left
  refine Eff.ite ?_ ?_; refine Eff.step attachOp_eff ?_; assumption; assumption
  refine Eff.foldl (fun _ _ => ?_) ?_ _; refine Eff.step chainKnown_eff ?_; exact Eff.refl _ _; assumption

theorem attachAll_eff {f q : Nat} {s : State} : Eff [.l1, .reads, .msg, .fnMsg, .queues, .sched, .halves, .engines,
    .portReg, .cistern, .capFlag, .devWake, .tunnel, .gate, .heldEv, .freeCount, .out] s (attachAll f q s) := by
  induction f generalizing s with
  | zero =>
    unfold attachAll
    exact Eff.refl _ _
  | succ k ih =>
    unfold attachAll
    refine Eff.ite ?_ ?_; exact Eff.refl _ _; split; refine Eff.ite ?_ ?_; exact Eff.refl _ _; split
    refine Eff.step ih ?_; refine Eff.step attach_eff ?_; exact Eff.refl _ _; exact Eff.refl _ _; exact Eff.refl _ _

end Sys2Proof.Machine
end

