-- ==== Sys2Proof/Laws/QueuesEff.lean ====
section
/-! SUPPORT. What each operation of Machine/Queues.lean can change: one lemma per function. -/

set_option Elab.async false

namespace Sys2Proof.Machine

open Sys2Proof

theorem cellRead_eff {q : QueueId} {s : State} : Eff [.l1, .reads, .gate, .out] s (cellRead q s) := by
  unfold cellRead
  split; refine Eff.step issueRead_eff ?_; exact Eff.refl _ _; exact Eff.refl _ _

theorem dropDoorbell_eff {s : State} : Eff [.dbdrop] s (dropDoorbell s) := by
  unfold dropDoorbell
  refine Eff.upd ?_; exact Eff.refl _ _

theorem ring_eff {q : QueueId} {s : State} : Eff [.l1, .reads, .queues, .dbdrop, .tunnel, .gate, .out] s (ring q s) := by
  unfold ring
  split; refine Eff.step dropDoorbell_eff ?_; exact Eff.refl _ _; refine Eff.ite ?_ ?_
  refine Eff.step dropDoorbell_eff ?_; exact Eff.refl _ _; refine Eff.ite ?_ ?_; exact Eff.refl _ _
  refine Eff.ite ?_ ?_; refine Eff.step setQueue_eff ?_; exact Eff.refl _ _; refine Eff.step cellRead_eff ?_
  exact Eff.refl _ _

theorem doorbell_eff {d : Doorbell} {s : State} : Eff [.l1, .reads, .queues, .dbdrop, .tunnel, .gate, .out] s
    (doorbell d s) := by
  unfold doorbell
  split; refine Eff.ite ?_ ?_; refine Eff.step ring_eff ?_; refine Eff.step wakeLink_eff ?_
  refine Eff.step ungate_eff ?_; exact Eff.refl _ _; refine Eff.step answerTlp_eff ?_; exact Eff.refl _ _
  refine Eff.ite ?_ ?_; refine Eff.step answerTlp_eff ?_; exact Eff.refl _ _; split; refine Eff.step ring_eff ?_
  refine Eff.step wakeLink_eff ?_; refine Eff.step ungate_eff ?_; exact Eff.refl _ _
  refine Eff.step dropDoorbell_eff ?_; refine Eff.step wakeLink_eff ?_; refine Eff.step ungate_eff ?_
  exact Eff.refl _ _

theorem stopQueue_eff {q : Nat} {cell : Bool} {k : ErrKind} {s : State} : Eff [.l1, .msg, .fnMsg, .queues, .tunnel,
    .gate, .heldEv, .out] s (stopQueue q cell k s) := by
  unfold stopQueue
  split; refine Eff.ite ?_ ?_
  extract_lets +onlyGivenNames x2; refine Eff.via x2 ?_ (fun h2 => ?_); unfold x2; rotate_left; clear_value x2; rotate_left
  exact Eff.refl _ _; exact Eff.refl _ _; refine Eff.step setQueue_eff ?_; exact Eff.refl _ _
  refine Eff.step queueStateEvent_eff ?_; refine Eff.step writeState_eff ?_; assumption

theorem afterCell_eff {q : QueueId} {s : State} : Eff [.l1, .reads, .queues, .tunnel, .gate, .out] s (afterCell q s) := by
  unfold afterCell
  split; refine Eff.ite ?_ ?_; refine Eff.step cellRead_eff ?_; refine Eff.step setQueue_eff ?_; exact Eff.refl _ _
  exact Eff.refl _ _; exact Eff.refl _ _

theorem cellReturn_eff {q : QueueId} {r : OutRead} {a : CellAnswer} {s : State} : Eff [.l1, .herr, .reads, .msg,
    .fnErr, .fnMsg, .queues, .log, .fwHeld, .tunnel, .gate, .heldEv, .freeCount, .out] s (cellReturn q r a s) := by
  unfold cellReturn
  extract_lets +onlyGivenNames x0; refine Eff.via x0 ?_ (fun h0 => ?_); unfold x0; rotate_left; clear_value x0; rotate_left
  refine Eff.step retireRead_eff ?_; exact Eff.refl _ _; split
  extract_lets +onlyGivenNames x4; refine Eff.via x4 ?_ (fun h4 => ?_); unfold x4; rotate_left; clear_value x4; rotate_left
  refine Eff.ite ?_ ?_; refine Eff.step afterCell_eff ?_; assumption; split; refine Eff.ite ?_ ?_
  refine Eff.step afterCell_eff ?_; refine Eff.step flushEvents_eff ?_; refine Eff.step setQueue_eff ?_; assumption
  assumption; assumption; refine Eff.ite ?_ ?_; assumption; refine Eff.step hostError_eff ?_; assumption
  refine Eff.ite ?_ ?_; refine Eff.step afterCell_eff ?_; assumption; refine Eff.step stopQueue_eff ?_; assumption

theorem reserve_eff {q n : Nat} {i : Word} {s : State} : Eff [.queues, .tunnel, .freeCount] s (reserve q n i s) := by
  induction n generalizing s i with
  | zero =>
    unfold reserve
    exact Eff.refl _ _
  | succ k ih =>
    unfold reserve
    extract_lets +onlyGivenNames x0; refine Eff.via x0.2 ?_ (fun h0 => ?_); unfold x0; rotate_left; clear_value x0; rotate_left
    refine Eff.step takeFree_eff ?_; exact Eff.refl _ _; extract_lets +onlyGivenNames x3
    extract_lets +onlyGivenNames x4; refine Eff.step ih ?_; refine Eff.step modQueue_eff ?_; assumption

theorem slotReads_eff {q : Nat} {x : Queue} {f n : Nat} {i : Word} {s : State} : Eff [.l1, .reads, .gate, .out] s
    (slotReads q x f n i s) := by
  induction f generalizing s n i with
  | zero =>
    unfold slotReads
    exact Eff.refl _ _
  | succ k ih =>
    unfold slotReads
    extract_lets +onlyGivenNames x0; refine Eff.ite ?_ ?_; exact Eff.refl _ _; refine Eff.step ih ?_
    refine Eff.step issueRead_eff ?_; exact Eff.refl _ _

theorem readSlots_eff {q : Nat} {x : Queue} {n : Nat} {i : Word} {s : State} : Eff [.l1, .reads, .queues, .tunnel,
    .gate, .freeCount, .out] s (readSlots q x n i s) := by
  unfold readSlots
  refine Eff.step slotReads_eff ?_; refine Eff.step reserve_eff ?_; exact Eff.refl _ _

/-- The accounts of a turn leave the queues their numbers. -/
theorem turnAccounts_sorted {s : State} {q : Nat} (h : Sorted s.qe.queues) : Sorted (turnAccounts s q) := by
  unfold turnAccounts
  refine List.pairwise_map.mpr (h.imp fun {x y} k => ?_)
  split_ifs <;> exact k

theorem fetchTurn_eff {q : Nat} {x : Queue} {n : Nat} {s : State} : Eff [.l1, .reads, .queues, .tunnel, .gate, .freeCount, .out] s (fetchTurn q x n s) := by
  unfold fetchTurn
  have h := Eff.upd (ps := [.l1, .reads, .queues, .tunnel, .gate, .freeCount, .out]) (q := { s.qe with queues := turnAccounts s q }) (Eff.refl _ s)
    (h_names := fun n => turnAccounts_sorted n.1)
  have k := readSlots_eff (q := q) (x := x) (n := min n (2 ^ x.log2 - x.fetch.toNat % 2 ^ x.log2)) (i := x.fetch)
    |>.step h
  exact Eff.ite k (readSlots_eff.step k)

theorem fetchFail_eff {q : QueueId} {first : Word} {k : ErrKind} {s : State} : Eff [.l1, .reads, .msg, .fnMsg,
    .queues, .sched, .halves, .engines, .portReg, .cistern, .capFlag, .devWake, .tunnel, .gate, .heldEv, .freeCount,
    .out] s (fetchFail q first k s) := by
  unfold fetchFail
  split; extract_lets +onlyGivenNames x1
  extract_lets +onlyGivenNames x2; refine Eff.via x2 ?_ (fun h2 => ?_); unfold x2; rotate_left; clear_value x2; rotate_left
  exact Eff.refl _ _; refine Eff.step setQueue_eff ?_; exact Eff.refl _ _
  extract_lets +onlyGivenNames x6; refine Eff.via x6 ?_ (fun h6 => ?_); unfold x6; rotate_left; clear_value x6; rotate_left
  refine Eff.step dropReads_eff ?_; assumption; refine Eff.step stopQueue_eff ?_; refine Eff.step attachAll_eff ?_
  refine Eff.step tellRoom_eff ?_; assumption

theorem fetchReturn_eff {q : QueueId} {first : Word} {r : OutRead} {a : FetchAnswer} {s : State} : Eff [.l1, .herr,
    .reads, .msg, .fnErr, .fnMsg, .queues, .sched, .halves, .engines, .portReg, .cistern, .log, .capFlag, .fwHeld,
    .devWake, .tunnel, .gate, .heldEv, .freeCount, .out] s (fetchReturn q first r a s) := by
  unfold fetchReturn
  extract_lets +onlyGivenNames x0; refine Eff.via x0 ?_ (fun h0 => ?_); unfold x0; rotate_left; clear_value x0; rotate_left
  refine Eff.step retireRead_eff ?_; exact Eff.refl _ _; split; refine Eff.ite ?_ ?_; assumption
  extract_lets +onlyGivenNames x6; refine Eff.via x6 ?_ (fun h6 => ?_); unfold x6; rotate_left; clear_value x6; rotate_left
  refine Eff.ite ?_ ?_; assumption; refine Eff.step attachAll_eff ?_; refine Eff.step modQueue_eff ?_; assumption
  refine Eff.step hostError_eff ?_; assumption; refine Eff.ite ?_ ?_; assumption; refine Eff.step fetchFail_eff ?_
  assumption

theorem barrierReturn_eff {q : QueueId} {i : Word} {r : OutRead} {err : Option ErrKind} {s : State} : Eff [.l1,
    .herr, .reads, .msg, .fnErr, .fnMsg, .queues, .sched, .halves, .engines, .portReg, .cistern, .log, .capFlag,
    .fwHeld, .devWake, .tunnel, .gate, .heldEv, .freeCount, .out] s (barrierReturn q i r err s) := by
  unfold barrierReturn
  extract_lets +onlyGivenNames x0; refine Eff.via x0 ?_ (fun h0 => ?_); unfold x0; rotate_left; clear_value x0; rotate_left
  refine Eff.step retireRead_eff ?_; exact Eff.refl _ _; refine Eff.ite ?_ ?_; assumption; split; split; split
  refine Eff.step freeBarrier_eff ?_; refine Eff.step flush_eff ?_; refine Eff.step endEntDw_eff ?_; assumption
  refine Eff.step freeBarrier_eff ?_; refine Eff.step flush_eff ?_; refine Eff.step endEntDw_eff ?_
  refine Eff.step hostError_eff ?_; assumption; assumption; assumption

theorem fenceSet_eff {i j : Nat} {v : Word} {s : State} : Eff [.fences] s (fenceSet i j v s) := by
  unfold fenceSet
  refine Eff.upd ?_; exact Eff.refl _ _

theorem enableQueue_eff {q : QueueId} {s : State} : Eff [.l1, .reads, .msg, .fnMsg, .queues, .tunnel, .gate, .out] s
    (enableQueue q s) := by
  unfold enableQueue
  split
  extract_lets +onlyGivenNames x1; refine Eff.via x1 ?_ (fun h1 => ?_); unfold x1; rotate_left; clear_value x1; rotate_left
  exact Eff.refl _ _; refine Eff.step setQueue_eff ?_; exact Eff.refl _ _
  extract_lets +onlyGivenNames x5; refine Eff.via x5 ?_ (fun h5 => ?_); unfold x5; rotate_left; clear_value x5; rotate_left
  refine Eff.ite ?_ ?_; assumption; refine Eff.step cellRead_eff ?_; assumption; refine Eff.step flushEvents_eff ?_
  refine Eff.step writeState_eff ?_; assumption

theorem disableQueue_eff {ps : List Part} {q : QueueId} {cmd : Option Word} {stop : State → State} {s t : State}
    (hf : ∀ u, Eff ps u (stop u)) (h : Eff ps s t) (sub : [.l1, .reads, .msg, .fnMsg, .queues, .devWake, .tunnel, .gate, .heldEv, .out] ⊆ ps := by decide) :
    Eff ps s (disableQueue q cmd stop t) := by
  unfold disableQueue
  have e : ∀ {qs}, qs ⊆ [.l1, .reads, .msg, .fnMsg, .queues, .devWake, .tunnel, .gate, .heldEv, .out] → qs ⊆ ps := fun k _ m => sub (k m)
  split
  · exact flush_eff.step ((hf _).step (writeState_eff.step (setQueue_eff.step (dropReads_eff.step h
      (e (by decide))) (e (by decide))) (e (by decide))) (fun _ m => m)) (e (by decide))
  · exact h

end Sys2Proof.Machine
end

