-- ==== Sys2Proof/Laws/SumpEff.lean ====
section
/-! SUPPORT. What each operation of Machine/Sump.lean can change: one lemma per function. -/

set_option Elab.async false

namespace Sys2Proof.Machine

open Sys2Proof

theorem originEvent_eff {k cause absorbed : Nat} {o : Origin} {s : State} : Eff [.l1, .msg, .fnMsg, .queues, .log,
    .fwHeld, .tunnel, .gate, .heldEv, .out] s (originEvent k cause absorbed o s) := by
  unfold originEvent
  extract_lets +onlyGivenNames x0
  extract_lets +onlyGivenNames x1; refine Eff.via x1 ?_ (fun h1 => ?_); unfold x1; rotate_left; clear_value x1; rotate_left
  refine Eff.step event_eff ?_; exact Eff.refl _ _
  extract_lets +onlyGivenNames x4; refine Eff.via x4 ?_ (fun h4 => ?_); unfold x4; rotate_left; clear_value x4; rotate_left
  refine Eff.foldl (fun _ _ => ?_) ?_ _; refine Eff.step event_eff ?_; exact Eff.refl _ _; assumption
  refine Eff.step logRec_eff ?_; assumption

theorem freeIfEmpty_eff {k : Nat} {s : State} : Eff [.l1, .msg, .fnMsg, .queues, .origins, .log, .fwHeld, .tunnel,
    .gate, .heldEv, .out] s (freeIfEmpty k s) := by
  unfold freeIfEmpty
  extract_lets +onlyGivenNames x0; refine Eff.ite ?_ ?_; refine Eff.step setOrigin_eff ?_
  refine Eff.step originEvent_eff ?_; exact Eff.refl _ _; exact Eff.refl _ _

theorem closeEnded_eff {n : Nat} {x : Pipe} {c : Cpl} {s : State} : Eff [.l1, .reads, .msg, .fnMsg, .queues, .sched,
    .halves, .engines, .portReg, .cistern, .capFlag, .devWake, .tunnel, .gate, .heldEv, .out] s (closeEnded n x c s) := by
  unfold closeEnded
  refine Eff.step closeDone_eff ?_; split; refine Eff.step endBus_eff ?_; exact Eff.refl _ _; exact Eff.refl _ _

theorem haltPipe_eff {n status errinfo : Nat} {s : State} : Eff [.l1, .reads, .msg, .fnMsg, .queues, .sched,
    .halves, .engines, .portReg, .cistern, .capFlag, .devWake, .tunnel, .gate, .heldEv, .out] s (haltPipe n status
    errinfo s) := by
  unfold haltPipe
  split; refine Eff.ite ?_ ?_; exact Eff.refl _ _; refine Eff.ite ?_ ?_; refine Eff.step closeEnded_eff ?_
  exact Eff.refl _ _; extract_lets +onlyGivenNames x6; extract_lets +onlyGivenNames x7
  extract_lets +onlyGivenNames x8; refine Eff.via x8 ?_ (fun h8 => ?_); unfold x8; rotate_left; clear_value x8; rotate_left
  exact Eff.refl _ _; refine Eff.step unlink_eff ?_; exact Eff.refl _ _
  extract_lets +onlyGivenNames x12; refine Eff.via x12 ?_ (fun h12 => ?_); unfold x12; rotate_left; clear_value x12; rotate_left
  refine Eff.step modPipe_eff ?_; assumption
  extract_lets +onlyGivenNames x15; refine Eff.via x15 ?_ (fun h15 => ?_); unfold x15; rotate_left; clear_value x15; rotate_left
  split; refine Eff.step endBus_eff ?_; assumption; assumption
  extract_lets +onlyGivenNames x20; refine Eff.via x20 ?_ (fun h20 => ?_); unfold x20; rotate_left; clear_value x20; rotate_left
  split; refine Eff.ite ?_ ?_; refine Eff.ite ?_ ?_; refine Eff.step setPipe_eff ?_; assumption
  refine Eff.step link_eff ?_; assumption; assumption; assumption; refine Eff.ite ?_ ?_
  refine Eff.step replyPipe_eff ?_; assumption; assumption

theorem holdPipe_eff {k n : Nat} {s : State} : Eff [.l1, .reads, .msg, .fnMsg, .queues, .sched, .halves, .engines,
    .portReg, .cistern, .origins, .capFlag, .devWake, .tunnel, .gate, .heldEv, .out] s (holdPipe k n s) := by
  unfold holdPipe
  split; refine Eff.ite ?_ ?_; refine Eff.step closeEnded_eff ?_; exact Eff.refl _ _; refine Eff.ite ?_ ?_
  exact Eff.refl _ _
  extract_lets +onlyGivenNames x6; refine Eff.via x6 ?_ (fun h6 => ?_); unfold x6; rotate_left; clear_value x6; rotate_left
  exact Eff.refl _ _; refine Eff.step unlink_eff ?_; exact Eff.refl _ _; extract_lets +onlyGivenNames x10
  extract_lets +onlyGivenNames x11; refine Eff.via x11 ?_ (fun h11 => ?_); unfold x11; rotate_left; clear_value x11; rotate_left
  refine Eff.step modPipe_eff ?_; assumption
  extract_lets +onlyGivenNames x14; refine Eff.via x14 ?_ (fun h14 => ?_); unfold x14; rotate_left; clear_value x14; rotate_left
  refine Eff.step modOrigin_eff ?_; assumption; refine Eff.ite ?_ ?_; refine Eff.step replyPipe_eff ?_
  refine Eff.step modPipe_eff ?_; assumption; assumption

theorem leaveHeld_eff {n : Nat} {s : State} : Eff [.l1, .msg, .fnMsg, .queues, .origins, .log, .fwHeld, .tunnel,
    .gate, .heldEv, .out] s (leaveHeld n s) := by
  unfold leaveHeld
  split; refine Eff.ite ?_ ?_; refine Eff.step freeIfEmpty_eff ?_; refine Eff.step modOrigin_eff ?_
  exact Eff.refl _ _; exact Eff.refl _ _; exact Eff.refl _ _

theorem unholdXfers_eff {n : Nat} {s : State} : Eff [.l1, .reads, .msg, .fnMsg, .queues, .sched, .halves, .engines,
    .portReg, .cistern, .capFlag, .devWake, .tunnel, .gate, .heldEv, .out] s (unholdXfers n s) := by
  unfold unholdXfers
  refine Eff.foldl (fun _ _ => ?_) ?_ _; refine Eff.step progress_eff ?_; exact Eff.refl _ _; exact Eff.refl _ _

theorem closeGone_eff {n : Nat} {s : State} : Eff [.l1, .reads, .msg, .fnMsg, .queues, .sched, .halves, .engines,
    .portReg, .cistern, .origins, .log, .capFlag, .fwHeld, .devWake, .tunnel, .gate, .heldEv, .out] s (closeGone n
    s) := by
  unfold closeGone
  split; refine Eff.ite ?_ ?_; exact Eff.refl _ _; extract_lets +onlyGivenNames x3
  extract_lets +onlyGivenNames x4; refine Eff.via x4 ?_ (fun h4 => ?_); unfold x4; rotate_left; clear_value x4; rotate_left
  exact Eff.refl _ _; refine Eff.step modPipe_eff ?_; refine Eff.step unlink_eff ?_
  refine Eff.step leaveHeld_eff ?_; exact Eff.refl _ _; refine Eff.step erasePipe_eff ?_
  refine Eff.step replyPipe_eff ?_; refine Eff.step endAll_eff ?_; refine Eff.step unholdXfers_eff ?_; assumption

theorem drainReport_eff {r : Report} {s : State} : Eff [.l1, .reads, .msg, .fnMsg, .queues, .sched, .halves,
    .engines, .portReg, .cistern, .capFlag, .devWake, .tunnel, .gate, .heldEv, .out] s (drainReport r s) := by
  unfold drainReport
  split; split; refine Eff.ite ?_ ?_; refine Eff.step endBus_eff ?_; exact Eff.refl _ _; exact Eff.refl _ _
  exact Eff.refl _ _; exact Eff.refl _ _

theorem echo_eff {k : Nat} {r : Report} {s : State} : Eff [.l1, .reads, .msg, .fnMsg, .queues, .sched, .halves,
    .engines, .portReg, .cistern, .origins, .log, .capFlag, .fwHeld, .devWake, .tunnel, .gate, .heldEv, .out] s
    (echo k r s) := by
  unfold echo
  extract_lets +onlyGivenNames x0; refine Eff.via x0 ?_ (fun h0 => ?_); unfold x0; rotate_left; clear_value x0; rotate_left
  refine Eff.step modOrigin_eff ?_; exact Eff.refl _ _; split; refine Eff.ite ?_ ?_; assumption
  refine Eff.step drainReport_eff ?_; refine Eff.step holdPipe_eff ?_; assumption; refine Eff.ite ?_ ?_; assumption
  refine Eff.step closeGone_eff ?_; assumption; assumption

theorem noFault_eff {r : Report} {s : State} : Eff [.l1, .reads, .msg, .fnMsg, .queues, .sched, .halves, .engines,
    .portReg, .cistern, .capFlag, .devWake, .tunnel, .gate, .heldEv, .out] s (noFault r s) := by
  unfold noFault
  refine Eff.ite ?_ ?_; exact Eff.refl _ _; refine Eff.step haltPipe_eff ?_; exact Eff.refl _ _

theorem mergeInto_eff {k j : Nat} {s : State} : Eff [.l1, .msg, .fnMsg, .queues, .sched, .origins, .log, .fwHeld,
    .tunnel, .gate, .heldEv, .out] s (mergeInto k j s) := by
  unfold mergeInto
  extract_lets +onlyGivenNames x0; extract_lets +onlyGivenNames x1; extract_lets +onlyGivenNames x2
  extract_lets +onlyGivenNames x3; refine Eff.via x3 ?_ (fun h3 => ?_); unfold x3; rotate_left; clear_value x3; rotate_left
  refine Eff.foldl (fun _ _ => ?_) ?_ _; refine Eff.step modPipe_eff ?_; exact Eff.refl _ _; exact Eff.refl _ _
  extract_lets +onlyGivenNames x8; refine Eff.via x8 ?_ (fun h8 => ?_); unfold x8; rotate_left; clear_value x8; rotate_left
  refine Eff.step modOrigin_eff ?_; assumption
  extract_lets +onlyGivenNames x11; refine Eff.via x11 ?_ (fun h11 => ?_); unfold x11; rotate_left; clear_value x11; rotate_left
  refine Eff.step setOrigin_eff ?_; assumption; refine Eff.step originEvent_eff ?_; assumption

theorem recordAt_eff {k : Nat} {o : Origin} {s : State} : Eff [.l1, .reads, .msg, .fnMsg, .queues, .sched, .halves,
    .engines, .portReg, .cistern, .origins, .log, .capFlag, .fwHeld, .devWake, .tunnel, .gate, .heldEv, .out] s
    (recordAt k o s) := by
  unfold recordAt
  extract_lets +onlyGivenNames x0; refine Eff.via x0 ?_ (fun h0 => ?_); unfold x0; rotate_left; clear_value x0; rotate_left
  refine Eff.step setOrigin_eff ?_; exact Eff.refl _ _; extract_lets +onlyGivenNames x3
  extract_lets +onlyGivenNames x4; refine Eff.via x4 ?_ (fun h4 => ?_); unfold x4; rotate_left; clear_value x4; rotate_left
  refine Eff.foldl (fun _ _ => ?_) ?_ _; refine Eff.step mergeInto_eff ?_; exact Eff.refl _ _; assumption
  refine Eff.foldl (fun _ _ => ?_) ?_ _; refine Eff.step holdPipe_eff ?_; exact Eff.refl _ _; assumption

theorem recordOrigin_eff {o : Origin} {r : Report} {s : State} : Eff [.l1, .reads, .msg, .fnMsg, .queues, .sched,
    .halves, .engines, .portReg, .cistern, .origins, .sumpFlags, .log, .capFlag, .fwHeld, .devWake, .tunnel, .gate,
    .heldEv, .out] s (recordOrigin o r s) := by
  unfold recordOrigin
  split; refine Eff.step echo_eff ?_; exact Eff.refl _ _; split; refine Eff.step drainReport_eff ?_
  refine Eff.step recordAt_eff ?_; exact Eff.refl _ _
  extract_lets +onlyGivenNames x7; refine Eff.via x7 ?_ (fun h7 => ?_); unfold x7; rotate_left; clear_value x7; rotate_left
  refine Eff.upd ?_; exact Eff.refl _ _; refine Eff.step drainReport_eff ?_; refine Eff.step recordAt_eff ?_
  assumption

theorem portOrigin_eff {p : Port} {h : Half} {status errinfo n : Nat} {insts : Sparse Nat} {s : State} : Eff [.l1,
    .msg, .fnMsg, .queues, .origins, .log, .fwHeld, .tunnel, .gate, .heldEv, .out] s (portOrigin p h status errinfo
    n insts s) := by
  unfold portOrigin
  extract_lets +onlyGivenNames x0; refine Eff.ite ?_ ?_; exact Eff.refl _ _; refine Eff.ite ?_ ?_
  refine Eff.step modOrigin_eff ?_; exact Eff.refl _ _; extract_lets +onlyGivenNames x6
  refine Eff.step originEvent_eff ?_; refine Eff.step setOrigin_eff ?_; exact Eff.refl _ _

theorem portWalk_eff {r : Report} {s : State} : Eff [.l1, .reads, .msg, .fnMsg, .queues, .sched, .halves, .engines,
    .portReg, .cistern, .origins, .log, .capFlag, .fwHeld, .devWake, .tunnel, .gate, .heldEv, .out] s (portWalk r s) := by
  unfold portWalk
  extract_lets +onlyGivenNames x0; split; refine Eff.ite ?_ ?_; refine Eff.step echo_eff ?_; exact Eff.refl _ _
  refine Eff.step portOrigin_eff ?_; refine Eff.step closeGone_eff ?_; exact Eff.refl _ _; refine Eff.ite ?_ ?_
  exact Eff.refl _ _; refine Eff.step echo_eff ?_; exact Eff.refl _ _

theorem judge_eff {r : Report} {s : State} : Eff [.l1, .reads, .msg, .fnMsg, .queues, .sched, .halves, .engines,
    .portReg, .cistern, .origins, .log, .capFlag, .fwHeld, .devWake, .tunnel, .gate, .heldEv, .out] s (judge r s) := by
  unfold judge
  split; refine Eff.ite ?_ ?_; refine Eff.step echo_eff ?_; exact Eff.refl _ _; split; refine Eff.step echo_eff ?_
  exact Eff.refl _ _; refine Eff.ite ?_ ?_; refine Eff.step noFault_eff ?_; exact Eff.refl _ _; refine Eff.ite ?_ ?_
  refine Eff.step portWalk_eff ?_; exact Eff.refl _ _; split; refine Eff.step noFault_eff ?_; exact Eff.refl _ _
  extract_lets +onlyGivenNames x16; extract_lets +onlyGivenNames x17; refine Eff.upd ?_; exact Eff.refl _ _; split
  refine Eff.step echo_eff ?_; exact Eff.refl _ _; exact Eff.refl _ _

theorem report_eff {r : Report} {s : State} : Eff [.l1, .reads, .msg, .fnMsg, .queues, .sched, .halves, .engines,
    .portReg, .cistern, .origins, .log, .capFlag, .fwHeld, .devWake, .tunnel, .gate, .heldEv, .out] s (report r s) := by
  unfold report
  split; split; refine Eff.ite ?_ ?_; refine Eff.step echo_eff ?_; exact Eff.refl _ _; refine Eff.ite ?_ ?_
  refine Eff.upd ?_; exact Eff.refl _ _; refine Eff.step judge_eff ?_; exact Eff.refl _ _; refine Eff.upd ?_
  exact Eff.refl _ _; refine Eff.step judge_eff ?_; exact Eff.refl _ _

theorem endWalk_eff {key : Nat} {s : State} : Eff [.l1, .reads, .msg, .fnMsg, .queues, .sched, .halves, .engines,
    .portReg, .cistern, .origins, .log, .capFlag, .fwHeld, .devWake, .tunnel, .gate, .heldEv, .out] s (endWalk key
    s) := by
  unfold endWalk
  extract_lets +onlyGivenNames x0
  extract_lets +onlyGivenNames x1; refine Eff.via x1 ?_ (fun h1 => ?_); unfold x1; rotate_left; clear_value x1; rotate_left
  refine Eff.upd ?_; exact Eff.refl _ _; extract_lets +onlyGivenNames x4; extract_lets +onlyGivenNames x5
  extract_lets +onlyGivenNames x6; refine Eff.via x6 ?_ (fun h6 => ?_); unfold x6; rotate_left; clear_value x6; rotate_left
  refine Eff.upd ?_; assumption; refine Eff.foldl (fun _ _ => ?_) ?_ _; refine Eff.step report_eff ?_
  exact Eff.refl _ _; assumption

theorem noOrigin_eff {r : Report} {s : State} : Eff [.l1, .reads, .msg, .fnMsg, .queues, .sched, .halves, .engines,
    .portReg, .cistern, .origins, .log, .capFlag, .fwHeld, .devWake, .tunnel, .gate, .heldEv, .out] s (noOrigin r s) := by
  unfold noOrigin
  split; refine Eff.step echo_eff ?_; exact Eff.refl _ _; refine Eff.step noFault_eff ?_; exact Eff.refl _ _

theorem probeEnd_eff {key : Nat} {w : Walk} {a : ProbeAnswer} {s : State} : Eff [.l1, .reads, .msg, .fnMsg, .queues,
    .sched, .halves, .engines, .portReg, .cistern, .origins, .sumpFlags, .log, .capFlag, .fwHeld, .devWake, .tunnel,
    .gate, .heldEv, .out] s (probeEnd key w a s) := by
  unfold probeEnd
  split; refine Eff.step endWalk_eff ?_; refine Eff.step noOrigin_eff ?_; exact Eff.refl _ _; split
  refine Eff.step endWalk_eff ?_; refine Eff.step recordOrigin_eff ?_; exact Eff.refl _ _; refine Eff.ite ?_ ?_
  refine Eff.step endWalk_eff ?_; refine Eff.step recordOrigin_eff ?_; exact Eff.refl _ _; refine Eff.ite ?_ ?_
  refine Eff.step endWalk_eff ?_; refine Eff.step noOrigin_eff ?_; exact Eff.refl _ _; refine Eff.upd ?_
  exact Eff.refl _ _

theorem sweepEnd_eff {k : Nat} {s : State} : Eff [.l1, .reads, .msg, .fnMsg, .queues, .sched, .halves, .engines,
    .portReg, .cistern, .origins, .log, .capFlag, .fwHeld, .devWake, .tunnel, .gate, .heldEv, .out] s (sweepEnd k s) := by
  unfold sweepEnd
  extract_lets +onlyGivenNames x0; extract_lets +onlyGivenNames x1; extract_lets +onlyGivenNames x2
  extract_lets +onlyGivenNames x3; refine Eff.via x3 ?_ (fun h3 => ?_); unfold x3; rotate_left; clear_value x3; rotate_left
  refine Eff.upd ?_; exact Eff.refl _ _
  extract_lets +onlyGivenNames x6; refine Eff.via x6 ?_ (fun h6 => ?_); unfold x6; rotate_left; clear_value x6; rotate_left
  refine Eff.foldl (fun _ _ => ?_) ?_ _; refine Eff.step echo_eff ?_; exact Eff.refl _ _; assumption
  extract_lets +onlyGivenNames x11
  extract_lets +onlyGivenNames x12; refine Eff.via x12 ?_ (fun h12 => ?_); unfold x12; rotate_left; clear_value x12; rotate_left
  refine Eff.step originEvent_eff ?_; assumption; refine Eff.step freeIfEmpty_eff ?_
  refine Eff.step modOrigin_eff ?_; assumption

theorem stray_eff {s : State} : Eff [.sched] s (stray s) := by
  unfold stray
  refine Eff.upd ?_; exact Eff.refl _ _

theorem releasePipe_eff {n : Nat} {s : State} : Eff [.l1, .reads, .msg, .fnMsg, .queues, .sched, .halves, .engines,
    .portReg, .cistern, .capFlag, .devWake, .tunnel, .gate, .heldEv, .out] s (releasePipe n s) := by
  unfold releasePipe
  extract_lets +onlyGivenNames x0; refine Eff.via x0 ?_ (fun h0 => ?_); unfold x0; rotate_left; clear_value x0; rotate_left
  refine Eff.step clearErrs_eff ?_; exact Eff.refl _ _; refine Eff.step unholdXfers_eff ?_; split; split
  extract_lets +onlyGivenNames x6; refine Eff.via x6 ?_ (fun h6 => ?_); unfold x6; rotate_left; clear_value x6; rotate_left
  extract_lets +onlyGivenNames x7; refine Eff.via x7 ?_ (fun h7 => ?_); unfold x7; rotate_left; clear_value x7; rotate_left
  refine Eff.ite ?_ ?_; refine Eff.ite ?_ ?_; refine Eff.step setPipe_eff ?_; assumption
  refine Eff.step startHeads_eff ?_; refine Eff.step link_eff ?_; refine Eff.step setPipe_eff ?_; assumption
  refine Eff.step setPipe_eff ?_; assumption; refine Eff.step setPipe_eff ?_; assumption; assumption
  refine Eff.ite ?_ ?_; refine Eff.step stray_eff ?_; assumption; assumption; refine Eff.ite ?_ ?_
  refine Eff.step setPipe_eff ?_; assumption; refine Eff.step startHeads_eff ?_; refine Eff.step link_eff ?_
  refine Eff.step setPipe_eff ?_; assumption; refine Eff.ite ?_ ?_; refine Eff.step stray_eff ?_; assumption
  assumption; extract_lets +onlyGivenNames x36; refine Eff.ite ?_ ?_; refine Eff.step setPipe_eff ?_; assumption
  refine Eff.step startHeads_eff ?_; refine Eff.step link_eff ?_; refine Eff.step setPipe_eff ?_; assumption

theorem releaseOrigin_eff {k : Nat} {s : State} : Eff [.l1, .reads, .msg, .fnMsg, .queues, .sched, .halves,
    .engines, .portReg, .cistern, .origins, .log, .capFlag, .fwHeld, .devWake, .tunnel, .gate, .heldEv, .out] s
    (releaseOrigin k s) := by
  unfold releaseOrigin
  extract_lets +onlyGivenNames x0
  extract_lets +onlyGivenNames x1; refine Eff.via x1 ?_ (fun h1 => ?_); unfold x1; rotate_left; clear_value x1; rotate_left
  refine Eff.foldl (fun _ _ => ?_) ?_ _; refine Eff.step releasePipe_eff ?_; exact Eff.refl _ _; exact Eff.refl _ _
  refine Eff.step originEvent_eff ?_; refine Eff.step setOrigin_eff ?_; assumption

theorem dropOrigin_eff {k : Nat} {s : State} : Eff [.l1, .reads, .msg, .fnMsg, .queues, .sched, .halves, .engines,
    .portReg, .cistern, .origins, .log, .capFlag, .fwHeld, .devWake, .tunnel, .gate, .heldEv, .out] s (dropOrigin k
    s) := by
  unfold dropOrigin
  extract_lets +onlyGivenNames x0
  extract_lets +onlyGivenNames x1; refine Eff.via x1 ?_ (fun h1 => ?_); unfold x1; rotate_left; clear_value x1; rotate_left
  refine Eff.foldl (fun _ _ => ?_) ?_ _
  extract_lets +onlyGivenNames x3; refine Eff.via x3 ?_ (fun h3 => ?_); unfold x3; rotate_left; clear_value x3; rotate_left
  exact Eff.refl _ _; refine Eff.step originEvent_eff ?_; refine Eff.step setOrigin_eff ?_; assumption
  refine Eff.step clearErrs_eff ?_; refine Eff.step modPipe_eff ?_; exact Eff.refl _ _
  refine Eff.step unholdXfers_eff ?_; refine Eff.step endAll_eff ?_; assumption

theorem freeClosed_eff {k : Nat} {s : State} : Eff [.l1, .msg, .fnMsg, .queues, .origins, .log, .fwHeld, .tunnel,
    .gate, .heldEv, .out] s (freeClosed k s) := by
  unfold freeClosed
  extract_lets +onlyGivenNames x0; refine Eff.step originEvent_eff ?_; refine Eff.step setOrigin_eff ?_
  exact Eff.refl _ _

theorem memErrEvent_eff {where' kind a b i : Nat} {s : State} : Eff [.l1, .msg, .fnMsg, .queues, .log, .fwHeld,
    .tunnel, .gate, .heldEv, .out] s (memErrEvent where' kind a b i s) := by
  unfold memErrEvent
  extract_lets +onlyGivenNames x0; refine Eff.step logRec_eff ?_; refine Eff.step event_eff ?_; exact Eff.refl _ _

theorem countCe_eff {c n : Nat} {s : State} : Eff [.l1, .msg, .fnMsg, .queues, .memErr, .log, .fwHeld, .tunnel, .gate, .heldEv, .out] s (countCe c n s) := by
  induction n generalizing s with
  | zero =>
    unfold countCe
    exact Eff.refl _ _
  | succ k ih =>
    unfold countCe
    have h : ∀ m, SumpUpd [.l1, .msg, .fnMsg, .queues, .memErr, .log, .fwHeld, .tunnel, .gate, .heldEv, .out] s.sump { stepCe c s.sump with ceTimes := m } := fun m => by
      unfold stepCe
      split <;> exact {}
    exact ih.step (Eff.ite (memErrEvent_eff.step (Eff.upd (Eff.refl _ _) (h_sump := h _)))
      (Eff.upd (Eff.refl _ _) (h_sump := h _)))

end Sys2Proof.Machine
end

