-- ==== Sys2Proof/Laws/SchedulerEff.lean ====
section
/-! SUPPORT. What each operation of Machine/Scheduler.lean can change: one lemma per function. -/

set_option Elab.async false

namespace Sys2Proof.Machine

open Sys2Proof

/-- A context enters its set of the cache, if there is room for it. -/
theorem intoSet_eff {n : Nat} {s t : State} (h : Eff [.sched] s t) : Eff [.sched] s ((intoSet n t).getD t) := by
  unfold intoSet
  extract_lets set
  split
  · exact Eff.upd h
  · cases set.find? (fun c => !pinned t c.1) with
    | none => exact h
    | some c => exact Eff.upd h

theorem roomOver_eff {s : State} : Eff [.sched] s (roomOver s) := by
  unfold roomOver
  refine Eff.ite (Eff.refl _ _) ?_
  split
  · exact intoSet_eff (Eff.upd (Eff.refl _ _))
  · exact Eff.refl _ _

theorem pin_eff {n : Nat} {s : State} : Eff [.sched] s (pin n s) := by
  unfold pin
  extract_lets +onlyGivenNames x0; refine Eff.ite ?_ ?_
  extract_lets +onlyGivenNames x2; refine Eff.via x2 ?_ (fun h2 => ?_); unfold x2; rotate_left; clear_value x2; rotate_left
  exact Eff.refl _ _; refine Eff.step roomOver_eff ?_; exact Eff.refl _ _; refine Eff.ite ?_ ?_; refine Eff.upd ?_
  assumption; assumption

theorem touch_eff {n : Nat} {s : State} : Eff [.sched] s (touch n s) := by
  unfold touch
  extract_lets +onlyGivenNames x0; extract_lets +onlyGivenNames x1; refine Eff.step pin_eff ?_; refine Eff.upd ?_
  exact Eff.refl _ _

theorem chargeRoom_eff {p ix : Nat} {c : Int} {s : State} : Eff [.sched] s (chargeRoom p ix c s) := by
  unfold chargeRoom
  refine Eff.step modPsched_eff ?_; exact Eff.refl _ _

theorem busOut_eff {x : Pipe} {k : BusPkt} {s : State} : Eff [.halves, .out] s (busOut x k s) := by
  unfold busOut
  extract_lets +onlyGivenNames x0; refine Eff.via x0 ?_ (fun h0 => ?_); unfold x0; rotate_left; clear_value x0; rotate_left
  refine Eff.ite ?_ ?_; refine Eff.step bus_eff ?_; exact Eff.refl _ _; exact Eff.refl _ _
  refine Eff.step bus_eff ?_; assumption

theorem sendPages_eff {x : Pipe} {k m : Nat} {s : State} : Eff [.halves, .cistern, .out] s (sendPages x k m s) := by
  unfold sendPages
  split; extract_lets +onlyGivenNames x1; extract_lets +onlyGivenNames x2; extract_lets +onlyGivenNames x3
  extract_lets +onlyGivenNames x4; extract_lets +onlyGivenNames x5
  extract_lets +onlyGivenNames x6; refine Eff.via x6 ?_ (fun h6 => ?_); unfold x6; rotate_left; clear_value x6; rotate_left
  exact Eff.refl _ _; refine Eff.foldl (fun _ _ => ?_) ?_ _; refine Eff.step busOut_eff ?_; exact Eff.refl _ _
  exact Eff.refl _ _; refine Eff.step setXfer_eff ?_; assumption

theorem sendBurst_eff {n : Nat} {x : Pipe} {pl : Plan} {numP : Nat} {s : State} : Eff [.sched, .halves, .engines,
    .cistern, .out] s (sendBurst n x pl numP s) := by
  unfold sendBurst
  extract_lets +onlyGivenNames x0; extract_lets +onlyGivenNames x1; extract_lets +onlyGivenNames x2
  extract_lets +onlyGivenNames x3; extract_lets +onlyGivenNames x4
  extract_lets +onlyGivenNames x5; refine Eff.via x5 ?_ (fun h5 => ?_); unfold x5; rotate_left; clear_value x5; rotate_left
  refine Eff.step modPipe_eff ?_; exact Eff.refl _ _
  extract_lets +onlyGivenNames x8; refine Eff.via x8 ?_ (fun h8 => ?_); unfold x8; rotate_left; clear_value x8; rotate_left
  split; refine Eff.step modXfer_eff ?_; assumption; assumption
  extract_lets +onlyGivenNames x13; refine Eff.via x13 ?_ (fun h13 => ?_); unfold x13; rotate_left; clear_value x13; rotate_left
  refine Eff.ite ?_ ?_; refine Eff.step busOut_eff ?_; assumption; assumption; refine Eff.ite ?_ ?_; split
  refine Eff.step busOut_eff ?_; assumption; assumption; refine Eff.ite ?_ ?_; refine Eff.step busOut_eff ?_
  assumption; refine Eff.ite ?_ ?_; refine Eff.ite ?_ ?_; refine Eff.step busOut_eff ?_; assumption
  refine Eff.step busOut_eff ?_; assumption; refine Eff.ite ?_ ?_; refine Eff.step busOut_eff ?_; assumption
  refine Eff.ite ?_ ?_; refine Eff.step busOut_eff ?_; assumption; extract_lets +onlyGivenNames x38; split
  refine modDesc_eff (fun _ => ?_) ?_; (first | rfl | (split <;> rfl)); refine Eff.step sendPages_eff ?_; assumption
  assumption

theorem ssDone_eff {n : Nat} {x : Pipe} {s : State} : Eff [.engines] s (ssDone n x s) := by
  unfold ssDone
  refine Eff.ite ?_ ?_; refine modDesc_eff (fun _ => ?_) ?_; (first | rfl | (split <;> rfl)); exact Eff.refl _ _
  refine Eff.ite ?_ ?_; refine modDesc_eff (fun _ => ?_) ?_; (first | rfl | (split <;> rfl)); exact Eff.refl _ _
  exact Eff.refl _ _

theorem startDesc_eff {p h : Nat} {d : Desc} {s : State} : Eff [.sched, .halves, .engines, .cistern, .out] s (startDesc p h d s) := by
  unfold startDesc
  split
  · refine Eff.ite ?_ (Eff.refl _ _)
    split
    · refine Eff.ite (Eff.refl _ _) (Eff.step ssDone_eff (Eff.step sendBurst_eff (modEngine_keep (Eff.refl _ _) (fun e => ?_))))
      simp only [Engine.bursts, List.map_map, Prod.mk.injEq, and_true]
      refine List.map_congr_left fun c _ => ?_
      simp only [Function.comp]
      split <;> rfl
    · exact Eff.refl _ _
  · exact Eff.refl _ _

theorem splitDispatch_eff {n : Nat} {x : Pipe} {s : State} : Eff [.sched] s (splitDispatch n x s) := by
  unfold splitDispatch
  refine Eff.step modPipe_eff ?_; exact Eff.refl _ _

theorem startSplitOf_eff {p : Nat} {d : Desc} {s : State} : Eff [.sched, .halves, .engines, .out] s (startSplitOf p
    d s) := by
  unfold startSplitOf
  split; refine Eff.ite ?_ ?_; exact Eff.refl _ _; extract_lets +onlyGivenNames x3; extract_lets +onlyGivenNames x4
  extract_lets +onlyGivenNames x5
  extract_lets +onlyGivenNames x6; refine Eff.via x6 ?_ (fun h6 => ?_); unfold x6; rotate_left; clear_value x6; rotate_left
  exact Eff.refl _ _; refine Eff.step setPipe_eff ?_; exact Eff.refl _ _; extract_lets +onlyGivenNames x10
  refine Eff.ite ?_ ?_; refine Eff.ite ?_ ?_; assumption; refine modDesc_eff (fun _ => ?_) ?_
  (first | rfl | (split <;> rfl)); assumption; refine Eff.ite ?_ ?_; assumption; refine Eff.ite ?_ ?_
  extract_lets +onlyGivenNames x20; extract_lets +onlyGivenNames x21; extract_lets +onlyGivenNames x22
  extract_lets +onlyGivenNames x23; refine Eff.via x23 ?_ (fun h23 => ?_); unfold x23; rotate_left; clear_value x23; rotate_left
  refine Eff.step busOut_eff ?_; refine modDesc_eff (fun _ => ?_) ?_; (first | rfl | (split <;> rfl))
  refine Eff.step splitDispatch_eff ?_; assumption; refine Eff.step busOut_eff ?_
  refine Eff.step splitDispatch_eff ?_; assumption; refine Eff.step busOut_eff ?_; assumption

theorem startNext_eff {p h : Nat} {s : State} : Eff [.sched, .halves, .engines, .cistern, .out] s (startNext p h s) := by
  unfold startNext
  extract_lets +onlyGivenNames x0; refine Eff.via x0 ?_ (fun h0 => ?_); unfold x0; rotate_left; clear_value x0; rotate_left
  refine Eff.ite ?_ ?_; refine Eff.foldl (fun _ _ => ?_) ?_ _; refine Eff.step startSplitOf_eff ?_
  exact Eff.refl _ _; exact Eff.refl _ _; exact Eff.refl _ _; refine Eff.foldl (fun _ _ => ?_) ?_ _
  refine Eff.step startDesc_eff ?_; exact Eff.refl _ _; assumption

theorem dispatch_eff {n : Nat} {x : Pipe} {pl : Plan} {fromGroup : Option Nat} {s : State} : Eff [.queues, .sched,
    .halves, .engines, .bursts, .cistern, .devWake, .tunnel, .out] s (dispatch n x pl fromGroup s) := by
  unfold dispatch
  extract_lets +onlyGivenNames x0; extract_lets +onlyGivenNames x1; extract_lets +onlyGivenNames x2
  extract_lets +onlyGivenNames x3; refine Eff.via x3 ?_ (fun h3 => ?_); unfold x3; rotate_left; clear_value x3; rotate_left
  refine Eff.step setList_eff ?_; exact Eff.refl _ _
  extract_lets +onlyGivenNames x6; refine Eff.via x6 ?_ (fun h6 => ?_); unfold x6; rotate_left; clear_value x6; rotate_left
  split; split; refine Eff.step activate_eff ?_; assumption; assumption; assumption
  extract_lets +onlyGivenNames x13; refine Eff.via x13 ?_ (fun h13 => ?_); unfold x13; rotate_left; clear_value x13; rotate_left
  split
  extract_lets +onlyGivenNames x15; refine Eff.via x15 ?_ (fun h15 => ?_); unfold x15; rotate_left; clear_value x15; rotate_left
  assumption
  extract_lets +onlyGivenNames x17; refine Eff.via x17 ?_ (fun h17 => ?_); unfold x17; rotate_left; clear_value x17; rotate_left
  refine Eff.ite ?_ ?_; assumption; refine Eff.step takeShared_eff ?_; assumption
  extract_lets +onlyGivenNames x22; refine Eff.via x22 ?_ (fun h22 => ?_); unfold x22; rotate_left; clear_value x22; rotate_left
  refine Eff.step modPipe_eff ?_; assumption; extract_lets +onlyGivenNames x25
  extract_lets +onlyGivenNames x26; refine Eff.via x26 ?_ (fun h26 => ?_); unfold x26; rotate_left; clear_value x26; rotate_left
  split; refine Eff.step markStarted_eff ?_; refine Eff.step setXfer_eff ?_; assumption; assumption
  refine Eff.ite ?_ ?_; refine Eff.step askPages_eff ?_; refine Eff.step queueJob_eff ?_; assumption; assumption
  refine Eff.step lowerPend_eff ?_; refine Eff.step chargeRoom_eff ?_; assumption
  extract_lets +onlyGivenNames x40; refine Eff.via x40 ?_ (fun h40 => ?_); unfold x40; rotate_left; clear_value x40; rotate_left
  split; refine Eff.step modPsched_eff ?_; assumption; assumption; extract_lets +onlyGivenNames x45
  extract_lets +onlyGivenNames x46
  extract_lets +onlyGivenNames x47; refine Eff.via x47 ?_ (fun h47 => ?_); unfold x47; rotate_left; clear_value x47; rotate_left
  refine Eff.step modEngine_eff ?_; assumption
  extract_lets +onlyGivenNames x50; refine Eff.via x50 ?_ (fun h50 => ?_); unfold x50; rotate_left; clear_value x50; rotate_left
  refine Eff.step touch_eff ?_; assumption; split; refine Eff.ite ?_ ?_; refine Eff.step ssDone_eff ?_
  refine Eff.step sendBurst_eff ?_; assumption; assumption; assumption

theorem pickList_eff {ns : List Nat} {s : State} : Eff [.sched] s (pickList s ns).1 := by
  induction ns generalizing s with
  | nil =>
    unfold pickList
    dsimp only; exact Eff.refl _ _
  | cons e es ih =>
    unfold pickList
    split; split; split; split; dsimp only; exact Eff.refl _ _; refine Eff.step ih ?_; exact Eff.refl _ _
    refine Eff.step ih ?_; exact Eff.refl _ _; refine Eff.step ih ?_; refine Eff.step blockPipe_eff ?_
    exact Eff.refl _ _; refine Eff.step ih ?_; exact Eff.refl _ _

theorem pickAsync_eff {p f : Nat} {b : Bool} {s : State} : Eff [.sched] s (pickAsync p f s b).1 := by
  induction f generalizing s b with
  | zero =>
    unfold pickAsync
    dsimp only; exact Eff.refl _ _
  | succ k ih =>
    unfold pickAsync
    extract_lets +onlyGivenNames x0; extract_lets +onlyGivenNames x1; extract_lets +onlyGivenNames x2
    extract_lets +onlyGivenNames x3; split
    extract_lets +onlyGivenNames x5; refine Eff.via x5 ?_ (fun h5 => ?_); unfold x5; rotate_left; clear_value x5; rotate_left
    extract_lets +onlyGivenNames x6; refine Eff.via x6 ?_ (fun h6 => ?_); unfold x6; rotate_left; clear_value x6; rotate_left
    refine Eff.ite ?_ ?_; exact Eff.refl _ _; refine Eff.step modPsched_eff ?_; exact Eff.refl _ _
    extract_lets +onlyGivenNames x11; refine Eff.via x11.1 ?_ (fun h11 => ?_); unfold x11; rotate_left; clear_value x11; rotate_left
    refine Eff.ite ?_ ?_; refine Eff.step modPsched_eff ?_; exact Eff.refl _ _; exact Eff.refl _ _
    refine Eff.step ih ?_; unfold x3; beta_reduce; refine Eff.step modPsched_eff ?_; assumption
    refine Eff.step pickList_eff ?_; assumption; split; extract_lets +onlyGivenNames x23; split; dsimp only
    assumption; refine Eff.step ih ?_; unfold x3; beta_reduce; refine Eff.step modPsched_eff ?_; assumption
    refine Eff.step ih ?_; unfold x3; beta_reduce; refine Eff.step modPsched_eff ?_; assumption

theorem pickScav_eff {p : Nat} {gs : List Nat} {s : State} : Eff [.sched] s (pickScav p gs s).1 := by
  induction gs generalizing s with
  | nil =>
    unfold pickScav
    dsimp only; exact Eff.refl _ _
  | cons e es ih =>
    unfold pickScav
    split
    extract_lets +onlyGivenNames x1; refine Eff.via x1.1 ?_ (fun h1 => ?_); unfold x1; rotate_left; clear_value x1; rotate_left
    refine Eff.step ih ?_; exact Eff.refl _ _; refine Eff.step pickList_eff ?_; exact Eff.refl _ _; split; split
    dsimp only; refine Eff.step modPsched_eff ?_; assumption; refine Eff.step ih ?_; assumption
    refine Eff.step ih ?_; assumption

theorem pickPeriodic_eff {p : Nat} {ns : List Nat} {s : State} : Eff [.sched] s (pickPeriodic p s ns).1 := by
  induction ns generalizing s with
  | nil =>
    unfold pickPeriodic
    dsimp only; exact Eff.refl _ _
  | cons e es ih =>
    unfold pickPeriodic
    split; split; refine Eff.step ih ?_; exact Eff.refl _ _; split; split; split; dsimp only; exact Eff.refl _ _
    refine Eff.step ih ?_; exact Eff.refl _ _; refine Eff.step ih ?_; exact Eff.refl _ _; refine Eff.step ih ?_
    refine Eff.ite ?_ ?_; refine Eff.step dropKlass_eff ?_; exact Eff.refl _ _; refine Eff.step modPipe_eff ?_
    exact Eff.refl _ _; refine Eff.step ih ?_; exact Eff.refl _ _

theorem sendProbe_eff {p h : Nat} {w : Walk} {hub hp : Nat} {s : State} : Eff [.sched, .halves, .origins, .out] s
    (sendProbe p h w hub hp s) := by
  unfold sendProbe
  extract_lets +onlyGivenNames x0; refine Eff.via x0 ?_ (fun h0 => ?_); unfold x0; rotate_left; clear_value x0; rotate_left
  refine Eff.foldl (fun _ _ => ?_) ?_ _; refine Eff.step chargeRoom_eff ?_; exact Eff.refl _ _; exact Eff.refl _ _
  extract_lets +onlyGivenNames x5
  extract_lets +onlyGivenNames x6; refine Eff.via x6 ?_ (fun h6 => ?_); unfold x6; rotate_left; clear_value x6; rotate_left
  refine Eff.upd ?_; assumption; refine Eff.step bus_eff ?_; assumption

theorem sendSet_eff {p h a : Nat} {s : State} : Eff [.sched, .halves, .engines, .out] s (sendSet p h a s) := by
  unfold sendSet
  extract_lets +onlyGivenNames x0; refine Eff.via x0 ?_ (fun h0 => ?_); unfold x0; rotate_left; clear_value x0; rotate_left
  refine Eff.foldl (fun _ _ => ?_) ?_ _; refine Eff.step chargeRoom_eff ?_; exact Eff.refl _ _; exact Eff.refl _ _
  extract_lets +onlyGivenNames x5; refine Eff.via x5 ?_ (fun h5 => ?_); unfold x5; rotate_left; clear_value x5; rotate_left
  split; refine Eff.step bus_eff ?_; assumption; assumption; extract_lets +onlyGivenNames x10
  refine Eff.step bus_eff ?_; refine modEngine_keep ?_ (fun _ => rfl); assumption

theorem prefetch_eff {p : Nat} {s : State} : Eff [.sched] s (prefetch p s) := by
  unfold prefetch
  refine Eff.foldl (fun _ _ => ?_) ?_ _; refine Eff.foldl (fun _ _ => ?_) ?_ _; refine Eff.step needCtx_eff ?_
  exact Eff.refl _ _; exact Eff.refl _ _; exact Eff.refl _ _

theorem decide'_eff {p : Nat} {s : State} : Eff [.queues, .sched, .halves, .engines, .bursts, .cistern, .origins,
    .devWake, .tunnel, .out] s (decide' p s) := by
  unfold decide'
  extract_lets +onlyGivenNames x0; refine Eff.via x0 ?_ (fun h0 => ?_); unfold x0; rotate_left; clear_value x0; rotate_left
  refine Eff.step grantAll_eff ?_; exact Eff.refl _ _; extract_lets +onlyGivenNames x3
  extract_lets +onlyGivenNames x4; refine Eff.via x4 ?_ (fun h4 => ?_); unfold x4; rotate_left; clear_value x4; rotate_left
  refine Eff.step prefetch_eff ?_; refine Eff.upd ?_; assumption
  extract_lets +onlyGivenNames x8; refine Eff.via x8.1 ?_ (fun h8 => ?_); unfold x8; rotate_left; clear_value x8; rotate_left
  refine Eff.step pickPeriodic_eff ?_; assumption; split; refine Eff.step dispatch_eff ?_; assumption
  extract_lets +onlyGivenNames x14; refine Eff.via x14 ?_ (fun h14 => ?_); unfold x14; rotate_left; clear_value x14; rotate_left
  assumption; split; refine Eff.step sendProbe_eff ?_; assumption; refine Eff.step sendProbe_eff ?_; assumption
  refine Eff.step sendSet_eff ?_; assumption; refine Eff.step sendSet_eff ?_; assumption
  extract_lets +onlyGivenNames x25; refine Eff.via x25.1 ?_ (fun h25 => ?_); unfold x25; rotate_left; clear_value x25; rotate_left
  refine Eff.step pickAsync_eff ?_; assumption; split; refine Eff.step dispatch_eff ?_; assumption
  refine Eff.ite ?_ ?_; assumption; extract_lets +onlyGivenNames x33
  extract_lets +onlyGivenNames x34; refine Eff.via x34.1 ?_ (fun h34 => ?_); unfold x34; rotate_left; clear_value x34; rotate_left
  refine Eff.step pickScav_eff ?_; assumption; split; refine Eff.step dispatch_eff ?_; assumption; assumption

theorem fillCtx_eff {n : Nat} {s : State} : Eff [.sched] s (fillCtx n s) := by
  unfold fillCtx
  extract_lets set a x spill
  have hx : Eff [.sched] s x := Eff.upd (Eff.refl _ _)
  have hs : Eff [.sched] s (spill x) := by
    unfold spill
    have k : Eff [.sched] s (roomOver x) := roomOver_eff.step hx
    exact Eff.ite (Eff.upd k) k
  refine Eff.ite hs ?_
  unfold intoSet
  extract_lets set
  split
  · exact Eff.upd hx
  · cases set.find? (fun c => !pinned x c.1) with
    | none => exact hs
    | some c => exact Eff.upd hx

theorem endIso_eff {n : Nat} {x : Pipe} {r : EntRef} {e : Ent} {s : State} : Eff [.l1, .reads, .msg, .fnMsg,
    .queues, .sched, .halves, .engines, .portReg, .cistern, .capFlag, .devWake, .tunnel, .gate, .heldEv, .out] s
    (endIso n x r e s) := by
  unfold endIso
  extract_lets +onlyGivenNames x0
  extract_lets +onlyGivenNames x1; refine Eff.via x1 ?_ (fun h1 => ?_); unfold x1; rotate_left; clear_value x1; rotate_left
  refine Eff.step modPipe_eff ?_; exact Eff.refl _ _; split; refine Eff.step endBus_eff ?_; assumption
  refine Eff.step nextHead_eff ?_; refine Eff.step modPipe_eff ?_; refine Eff.step complete_eff ?_
  refine Eff.step detach_eff ?_; assumption

theorem closeInterval_eff {n : Nat} {s : State} : Eff [.l1, .reads, .msg, .fnMsg, .queues, .sched, .halves,
    .engines, .portReg, .cistern, .capFlag, .devWake, .tunnel, .gate, .heldEv, .out] s (closeInterval n s) := by
  unfold closeInterval
  split; split; exact Eff.refl _ _; split; exact Eff.refl _ _; refine Eff.ite ?_ ?_; exact Eff.refl _ _
  extract_lets +onlyGivenNames x7; extract_lets +onlyGivenNames x8; extract_lets +onlyGivenNames x9
  extract_lets +onlyGivenNames x10; extract_lets +onlyGivenNames x11
  extract_lets +onlyGivenNames x12; refine Eff.via x12 ?_ (fun h12 => ?_); unfold x12; rotate_left; clear_value x12; rotate_left
  exact Eff.refl _ _; refine Eff.step setPipe_eff ?_; exact Eff.refl _ _; clear_value x7; split
  extract_lets +onlyGivenNames x18; refine Eff.via x18 ?_ (fun h18 => ?_); unfold x18; rotate_left; clear_value x18; rotate_left
  refine Eff.ite ?_ ?_; refine Eff.step endIso_eff ?_; assumption; assumption; refine Eff.step setXfer_eff ?_
  assumption
  extract_lets +onlyGivenNames x25; refine Eff.via x25 ?_ (fun h25 => ?_); unfold x25; rotate_left; clear_value x25; rotate_left
  refine Eff.ite ?_ ?_; refine Eff.step dropPages_eff ?_; assumption; assumption; extract_lets +onlyGivenNames x30
  refine Eff.ite ?_ ?_; refine Eff.step endIso_eff ?_; assumption; refine Eff.step askPages_eff ?_
  refine Eff.step queueJob_eff ?_; assumption

theorem openInterval_eff {f n : Nat} {now : Word} {s : State} : Eff [.l1, .reads, .msg, .fnMsg, .queues, .sched,
    .halves, .engines, .portReg, .cistern, .capFlag, .devWake, .tunnel, .gate, .heldEv, .out] s (openInterval f n
    now s) := by
  induction f generalizing s with
  | zero =>
    unfold openInterval
    exact Eff.refl _ _
  | succ k ih =>
    unfold openInterval
    split; split; exact Eff.refl _ _; split; exact Eff.refl _ _; refine Eff.ite ?_ ?_; exact Eff.refl _ _
    refine Eff.ite ?_ ?_; extract_lets +onlyGivenNames x8; extract_lets +onlyGivenNames x9
    extract_lets +onlyGivenNames x10; refine Eff.ite ?_ ?_; refine Eff.step ih ?_; refine Eff.step endIso_eff ?_
    refine Eff.step setPipe_eff ?_; exact Eff.refl _ _; refine Eff.step setPipe_eff ?_; exact Eff.refl _ _
    refine Eff.ite ?_ ?_; exact Eff.refl _ _; extract_lets +onlyGivenNames x20
    extract_lets +onlyGivenNames x21; refine Eff.via x21 ?_ (fun h21 => ?_); unfold x21; rotate_left; clear_value x21; rotate_left
    exact Eff.refl _ _; refine Eff.step setPipe_eff ?_; exact Eff.refl _ _; refine Eff.ite ?_ ?_
    refine Eff.step ih ?_; refine Eff.step endIso_eff ?_; assumption; refine Eff.ite ?_ ?_
    refine Eff.step endIso_eff ?_; assumption; refine Eff.ite ?_ ?_; refine Eff.step closeInterval_eff ?_
    assumption; assumption

theorem timebaseEvent_eff {cause : Nat} {port : Option Nat} {old : LockSt} {s : State} : Eff [.l1, .msg, .fnMsg,
    .queues, .tunnel, .gate, .heldEv, .out] s (timebaseEvent cause port old s) := by
  unfold timebaseEvent
  extract_lets +onlyGivenNames x0; extract_lets +onlyGivenNames x1; extract_lets +onlyGivenNames x2
  refine Eff.step events_eff ?_; exact Eff.refl _ _

theorem startPacket_eff {p h : Nat} {num : Word} {s : State} : Eff [.halves, .out] s (startPacket p h num s) := by
  unfold startPacket
  extract_lets +onlyGivenNames x0; refine Eff.ite ?_ ?_; exact Eff.refl _ _; refine Eff.ite ?_ ?_
  refine Eff.ite ?_ ?_; refine Eff.step bus_eff ?_; exact Eff.refl _ _; refine Eff.ite ?_ ?_
  refine Eff.step modHalf_eff ?_; exact Eff.refl _ _; exact Eff.refl _ _; extract_lets +onlyGivenNames x11
  refine Eff.ite ?_ ?_; refine Eff.step bus_eff ?_; exact Eff.refl _ _; refine Eff.ite ?_ ?_; exact Eff.refl _ _
  refine Eff.ite ?_ ?_; refine Eff.step bus_eff ?_; exact Eff.refl _ _; refine Eff.ite ?_ ?_
  refine Eff.step bus_eff ?_; exact Eff.refl _ _; exact Eff.refl _ _

theorem portNumber_eff {p : Nat} {s : State} : Eff [.l1, .msg, .fnMsg, .queues, .portTime, .tunnel, .gate, .heldEv,
    .out] s (portNumber p s) := by
  unfold portNumber
  extract_lets +onlyGivenNames x0; extract_lets +onlyGivenNames x1; extract_lets +onlyGivenNames x2
  extract_lets +onlyGivenNames x3
  extract_lets +onlyGivenNames x4; refine Eff.via x4 ?_ (fun h4 => ?_); unfold x4; rotate_left; clear_value x4; rotate_left
  refine Eff.step modPtime_eff ?_; exact Eff.refl _ _; refine Eff.ite ?_ ?_; refine Eff.step timebaseEvent_eff ?_
  assumption; assumption

theorem loopSend_eff {p h ix n : Nat} {dirIn : Bool} {b : Nat × Nat} {c : Nat} {s : State} : Eff [.sched, .devReg,
    .out] s (loopSend p h ix n dirIn b c s) := by
  unfold loopSend
  refine Eff.ite ?_ ?_; exact Eff.refl _ _
  extract_lets +onlyGivenNames x2; refine Eff.via x2 ?_ (fun h2 => ?_); unfold x2; rotate_left; clear_value x2; rotate_left
  refine Eff.step chargeRoom_eff ?_; exact Eff.refl _ _; refine Eff.step emit_eff ?_; refine Eff.upd ?_; assumption

theorem loopTraffic_eff {p : Nat} {s : State} : Eff [.sched, .devReg, .out] s (loopTraffic p s) := by
  unfold loopTraffic
  split; split; extract_lets +onlyGivenNames x2; extract_lets +onlyGivenNames x3; extract_lets +onlyGivenNames x4
  extract_lets +onlyGivenNames x5; refine Eff.ite ?_ ?_; refine Eff.step loopSend_eff ?_
  refine Eff.step loopSend_eff ?_; exact Eff.refl _ _; extract_lets +onlyGivenNames x10
  refine Eff.step loopSend_eff ?_; refine Eff.step loopSend_eff ?_; exact Eff.refl _ _; exact Eff.refl _ _
  exact Eff.refl _ _

theorem fabTick_eff {p : Nat} {num : Word} {s : State} : Eff [.l1, .reads, .msg, .fnMsg, .queues, .sched, .halves,
    .engines, .portReg, .cistern, .capFlag, .devWake, .tunnel, .gate, .heldEv, .out] s (fabTick p num s) := by
  unfold fabTick
  extract_lets +onlyGivenNames x0; refine Eff.via x0 ?_ (fun h0 => ?_); unfold x0; rotate_left; clear_value x0; rotate_left
  refine Eff.foldl (fun _ _ => ?_) ?_ _; refine Eff.step closeInterval_eff ?_; exact Eff.refl _ _
  exact Eff.refl _ _; extract_lets +onlyGivenNames x5
  extract_lets +onlyGivenNames x6; refine Eff.via x6 ?_ (fun h6 => ?_); unfold x6; rotate_left; clear_value x6; rotate_left
  refine Eff.foldl (fun _ _ => ?_) ?_ _; extract_lets +onlyGivenNames x8; refine Eff.step modPipe_eff ?_
  refine Eff.upd ?_; exact Eff.refl _ _; assumption
  extract_lets +onlyGivenNames x13; refine Eff.via x13 ?_ (fun h13 => ?_); unfold x13; rotate_left; clear_value x13; rotate_left
  refine Eff.foldl (fun _ _ => ?_) ?_ _; split; refine Eff.ite ?_ ?_; refine Eff.step openInterval_eff ?_
  exact Eff.refl _ _; exact Eff.refl _ _; exact Eff.refl _ _; assumption
  extract_lets +onlyGivenNames x22; refine Eff.via x22 ?_ (fun h22 => ?_); unfold x22; rotate_left; clear_value x22; rotate_left
  refine Eff.foldl (fun _ _ => ?_) ?_ _; refine Eff.step modPipe_eff ?_; exact Eff.refl _ _; assumption
  extract_lets +onlyGivenNames x27
  extract_lets +onlyGivenNames x28; refine Eff.via x28 ?_ (fun h28 => ?_); unfold x28; rotate_left; clear_value x28; rotate_left
  refine Eff.foldl (fun _ _ => ?_) ?_ _; refine Eff.step modPipe_eff ?_; exact Eff.refl _ _; assumption
  extract_lets +onlyGivenNames x33; refine Eff.via x33 ?_ (fun h33 => ?_); unfold x33; rotate_left; clear_value x33; rotate_left
  refine Eff.step modPsched_eff ?_; assumption
  extract_lets +onlyGivenNames x36; refine Eff.via x36 ?_ (fun h36 => ?_); unfold x36; rotate_left; clear_value x36; rotate_left
  refine modEngine_keep ?_ (fun _ => by simp [Engine.bursts, Function.comp_def]); assumption
  extract_lets +onlyGivenNames x39; refine Eff.via x39 ?_ (fun h39 => ?_); unfold x39; rotate_left; clear_value x39; rotate_left
  refine Eff.ite ?_ ?_; assumption; refine modEngine_keep ?_ (fun _ => by simp [Engine.bursts, Function.comp_def])
  assumption
  extract_lets +onlyGivenNames x44; refine Eff.via x44 ?_ (fun h44 => ?_); unfold x44; rotate_left; clear_value x44; rotate_left
  refine Eff.step startNext_eff ?_; refine Eff.step startNext_eff ?_; assumption
  refine Eff.foldl (fun _ _ => ?_) ?_ _; refine Eff.step pin_eff ?_; refine Eff.step needCtx_eff ?_
  exact Eff.refl _ _; assumption

theorem replaceDue_eff {p : Nat} {num : Word} {s : State} : Eff [.sched] s (replaceDue p num s) := by
  unfold replaceDue
  refine Eff.foldl (fun _ _ => ?_) ?_ _; extract_lets +onlyGivenNames x1; refine Eff.step modPipe_eff ?_
  refine Eff.upd ?_; exact Eff.refl _ _; exact Eff.refl _ _

theorem catchUp_eff {p : Nat} {s : State} : Eff [.l1, .reads, .msg, .fnMsg, .queues, .sched, .halves, .engines,
    .portReg, .cistern, .capFlag, .devWake, .tunnel, .gate, .heldEv, .out] s (catchUp p s) := by
  unfold catchUp
  split; extract_lets +onlyGivenNames x1; extract_lets +onlyGivenNames x2
  extract_lets +onlyGivenNames x3; refine Eff.via x3 ?_ (fun h3 => ?_); unfold x3; rotate_left; clear_value x3; rotate_left
  exact Eff.refl _ _; refine Eff.foldl (fun _ _ => ?_) ?_ _; refine Eff.step replaceDue_eff ?_; exact Eff.refl _ _
  refine Eff.step modPsched_eff ?_; exact Eff.refl _ _; refine Eff.step fabTick_eff ?_; assumption

theorem catchAll_eff {s : State} : Eff [.l1, .reads, .msg, .fnMsg, .queues, .sched, .halves, .engines, .portReg,
    .cistern, .capFlag, .devWake, .tunnel, .gate, .heldEv, .out] s (catchAll s) := by
  unfold catchAll
  refine Eff.foldl (fun _ _ => ?_) ?_ _; refine Eff.step catchUp_eff ?_; exact Eff.refl _ _; exact Eff.refl _ _

theorem portTick_eff {p : Nat} {s : State} : Eff [.l1, .reads, .msg, .fnMsg, .queues, .sched, .halves, .engines,
    .portReg, .portTime, .cistern, .capFlag, .devReg, .devWake, .tunnel, .gate, .heldEv, .out] s (portTick p s) := by
  unfold portTick
  extract_lets +onlyGivenNames x0; refine Eff.via x0 ?_ (fun h0 => ?_); unfold x0; rotate_left; clear_value x0; rotate_left
  refine Eff.step portNumber_eff ?_; exact Eff.refl _ _; extract_lets +onlyGivenNames x3
  extract_lets +onlyGivenNames x4; refine Eff.via x4 ?_ (fun h4 => ?_); unfold x4; rotate_left; clear_value x4; rotate_left
  refine Eff.step startPacket_eff ?_; refine Eff.step startPacket_eff ?_; assumption; refine Eff.ite ?_ ?_
  refine Eff.step modPsched_eff ?_; assumption; refine Eff.step loopTraffic_eff ?_; refine Eff.ite ?_ ?_
  refine Eff.step catchUp_eff ?_; assumption; refine Eff.step fabTick_eff ?_; assumption

end Sys2Proof.Machine
end

