-- ==== Sys2Proof/Laws/AccessEff.lean ====
section
/-! SUPPORT. What each operation of Machine/Access.lean can change: one lemma per function. -/

set_option Elab.async false

namespace Sys2Proof.Machine

open Sys2Proof

theorem offAccess_eff {b a : Nat} {write : Bool} {i : Nat} {src : AccSource} {s : State} : Eff [.l1, .msg, .fnMsg,
    .queues, .acc, .log, .fwHeld, .tunnel, .gate, .heldEv, .out] s (offAccess b a write i src s) := by
  unfold offAccess
  extract_lets +onlyGivenNames x0; extract_lets +onlyGivenNames x1; refine Eff.ite ?_ ?_; refine Eff.upd ?_
  exact Eff.refl _ _; extract_lets +onlyGivenNames x5
  extract_lets +onlyGivenNames x6; refine Eff.via x6 ?_ (fun h6 => ?_); unfold x6; rotate_left; clear_value x6; rotate_left
  refine Eff.upd ?_; exact Eff.refl _ _; refine Eff.step logRec_eff ?_; refine Eff.step event_eff ?_; assumption

theorem regWrite_eff {ps : List Part} {a : Nat} {f : State → State} {s t : State} (hf : ∀ u, Eff ps u (f u))
    (h : Eff ps s t) (sub : [.l1, .msg, .fnMsg, .queues, .acc, .log, .fwHeld, .tunnel, .gate, .heldEv, .out] ⊆ ps := by decide) :
    Eff ps s (regWrite a f t) := by
  unfold regWrite
  have e : ∀ {qs}, qs ⊆ [.l1, .msg, .fnMsg, .queues, .acc, .log, .fwHeld, .tunnel, .gate, .heldEv, .out] → qs ⊆ ps := fun k _ m => sub (k m)
  refine Eff.ite (answerTlp_eff.step h (e (by decide))) ?_
  have hu := wakeLink_eff.step (ungate_eff.step h (e (by decide))) (e (by decide))
  dsimp only
  split
  · exact offAccess_eff.step hu (e (by decide))
  · exact (hf _).step hu (fun _ m => m)

theorem offBlock_eff {b a : Nat} {write : Bool} {src : AccSource} {s : State} : Eff [.l1, .msg, .fnMsg, .queues,
    .acc, .log, .fwHeld, .tunnel, .gate, .heldEv, .out] s (offBlock b a write src s) := by
  unfold offBlock
  extract_lets +onlyGivenNames x0; refine Eff.via x0 ?_ (fun h0 => ?_); unfold x0; rotate_left; clear_value x0; rotate_left
  refine Eff.step offAccess_eff ?_; refine Eff.step ungate_eff ?_; refine Eff.ite ?_ ?_
  refine Eff.step wakeLink_eff ?_; exact Eff.refl _ _; exact Eff.refl _ _; refine Eff.ite ?_ ?_; assumption
  refine Eff.step answerTlp_eff ?_; assumption

end Sys2Proof.Machine
end

