-- ==== Sys2Proof/Laws/EngineEff.lean ====
section
/-! SUPPORT. What each operation of Machine/Engine.lean can change: one lemma per function. -/

set_option Elab.async false

namespace Sys2Proof.Machine

open Sys2Proof

theorem chargeMore_eff {n c : Nat} {s : State} : Eff [.sched, .engines] s (chargeMore n c s) := by
  unfold chargeMore
  split
  extract_lets +onlyGivenNames x1; refine Eff.via x1 ?_ (fun h1 => ?_); unfold x1; rotate_left; clear_value x1; rotate_left
  exact Eff.refl _ _; refine Eff.ite ?_ ?_; exact Eff.refl _ _; refine Eff.step chargeRoom_eff ?_
  exact Eff.refl _ _
  extract_lets +onlyGivenNames x7; refine Eff.via x7 ?_ (fun h7 => ?_); unfold x7; rotate_left; clear_value x7; rotate_left
  split; refine Eff.step modPsched_eff ?_; assumption; assumption; refine modDesc_eff (fun _ => ?_) ?_
  (first | rfl | (split <;> rfl)); assumption

theorem signal_eff {p h : Nat} {k : BusPkt} {s : State} : Eff [.halves, .out] s (signal p h k s) := by
  unfold signal
  refine Eff.ite ?_ ?_; refine Eff.step modHalf_eff ?_; exact Eff.refl _ _; refine Eff.step bus_eff ?_
  exact Eff.refl _ _

theorem sendSignals_eff {p h : Nat} {s : State} : Eff [.halves, .out] s (sendSignals p h s) := by
  unfold sendSignals
  refine Eff.ite ?_ ?_; exact Eff.refl _ _; extract_lets +onlyGivenNames x2; refine Eff.ite ?_ ?_
  exact Eff.refl _ _; refine Eff.foldl (fun _ _ => ?_) ?_ _; refine Eff.step bus_eff ?_; exact Eff.refl _ _
  refine Eff.step modHalf_eff ?_; exact Eff.refl _ _

theorem settleBurst_eff {n : Nat} {s : State} : Eff [.sched, .halves, .engines, .bursts, .out] s (settleBurst n s) := by
  unfold settleBurst
  split; extract_lets +onlyGivenNames x1; extract_lets +onlyGivenNames x2
  extract_lets +onlyGivenNames x3; refine Eff.via x3 ?_ (fun h3 => ?_); unfold x3; rotate_left; clear_value x3; rotate_left
  exact Eff.refl _ _; refine Eff.step modEngine_eff ?_; exact Eff.refl _ _
  extract_lets +onlyGivenNames x7; refine Eff.via x7 ?_ (fun h7 => ?_); unfold x7; rotate_left; clear_value x7; rotate_left
  refine Eff.ite ?_ ?_; refine Eff.step idleStart_eff ?_; assumption; assumption
  extract_lets +onlyGivenNames x12; refine Eff.via x12 ?_ (fun h12 => ?_); unfold x12; rotate_left; clear_value x12; rotate_left
  refine Eff.step sendSignals_eff ?_; assumption
  extract_lets +onlyGivenNames x15; refine Eff.via x15 ?_ (fun h15 => ?_); unfold x15; rotate_left; clear_value x15; rotate_left
  refine Eff.step chargeRoom_eff ?_; assumption
  extract_lets +onlyGivenNames x18; refine Eff.via x18 ?_ (fun h18 => ?_); unfold x18; rotate_left; clear_value x18; rotate_left
  refine Eff.ite ?_ ?_; assumption; refine Eff.ite ?_ ?_; refine Eff.step modPsched_eff ?_
  refine Eff.step modPipe_eff ?_; assumption; assumption; split; refine Eff.ite ?_ ?_; assumption
  refine Eff.step modPsched_eff ?_; assumption; assumption

theorem erdyHonoured_eff {n : Nat} {s : State} : Eff [.l1, .msg, .fnMsg, .queues, .sched, .cistern, .devWake,
    .tunnel, .gate, .heldEv, .out] s (erdyHonoured n s) := by
  unfold erdyHonoured
  split; refine Eff.ite ?_ ?_; refine Eff.step startHeads_eff ?_; refine Eff.step link_eff ?_
  refine Eff.step setPipe_eff ?_; exact Eff.refl _ _; exact Eff.refl _ _; exact Eff.refl _ _

theorem freeStreams_eff {ep : Nat} {s : State} : Eff [.l1, .msg, .fnMsg, .queues, .sched, .cistern, .devWake,
    .tunnel, .gate, .heldEv, .out] s (freeStreams ep s) := by
  unfold freeStreams
  extract_lets +onlyGivenNames x0; extract_lets +onlyGivenNames x1; refine Eff.foldl (fun _ _ => ?_) ?_ _
  refine Eff.step erdyHonoured_eff ?_; exact Eff.refl _ _; refine Eff.foldl (fun _ _ => ?_) ?_ _
  refine Eff.step unblock_eff ?_; exact Eff.refl _ _; exact Eff.refl _ _

theorem streamIdle_eff {ep : Nat} {s : State} : Eff [.l1, .msg, .fnMsg, .queues, .sched, .cistern, .devWake,
    .tunnel, .gate, .heldEv, .out] s (streamIdle ep s) := by
  unfold streamIdle
  split; refine Eff.step freeStreams_eff ?_; refine Eff.ite ?_ ?_; exact Eff.refl _ _
  refine Eff.step modPipe_eff ?_; refine Eff.step setPipe_eff ?_; exact Eff.refl _ _; exact Eff.refl _ _

theorem streamCurrent_eff {n : Nat} {x : Pipe} {s : State} : Eff [.sched] s (streamCurrent n x s) := by
  unfold streamCurrent
  refine Eff.ite ?_ ?_; exact Eff.refl _ _; split; refine Eff.ite ?_ ?_; exact Eff.refl _ _
  refine Eff.step modPipe_eff ?_; refine Eff.step setPipe_eff ?_; exact Eff.refl _ _; exact Eff.refl _ _

theorem streamDone_eff {n : Nat} {x : Pipe} {s : State} : Eff [.l1, .msg, .fnMsg, .queues, .sched, .cistern,
    .devWake, .tunnel, .gate, .heldEv, .out] s (streamDone n x s) := by
  unfold streamDone
  extract_lets +onlyGivenNames x0; refine Eff.via x0 ?_ (fun h0 => ?_); unfold x0; rotate_left; clear_value x0; rotate_left
  refine Eff.step modPipe_eff ?_; exact Eff.refl _ _; split; refine Eff.ite ?_ ?_
  refine Eff.step freeStreams_eff ?_; assumption; assumption; assumption

theorem freeTt_eff {x : Pipe} {s : State} : Eff [.sched] s (freeTt x s) := by
  unfold freeTt
  refine Eff.ite ?_ ?_; exact Eff.refl _ _; refine Eff.foldl (fun _ _ => ?_) ?_ _; refine Eff.step unblock_eff ?_
  exact Eff.refl _ _; exact Eff.refl _ _

theorem retryStore_eff {n : Nat} {x : Pipe} {s : State} : Eff [.sched, .engines] s (retryStore n x s) := by
  unfold retryStore
  extract_lets +onlyGivenNames x0; split; refine Eff.ite ?_ ?_; refine modEngine_keep ?_ (fun _ => rfl)
  refine Eff.step modPipe_eff ?_; exact Eff.refl _ _; refine modEngine_keep ?_ (fun _ => rfl); exact Eff.refl _ _
  refine modEngine_keep ?_ (fun _ => rfl); exact Eff.refl _ _

theorem unpause_eff {k : Nat} {s : State} : Eff [.l1, .msg, .fnMsg, .queues, .cistern, .capFlag, .devWake, .tunnel,
    .gate, .heldEv, .out] s (unpause k s) := by
  unfold unpause
  split; refine Eff.ite ?_ ?_; refine Eff.step unbind_eff ?_; exact Eff.refl _ _; exact Eff.refl _ _
  exact Eff.refl _ _

theorem drainCheck_eff {n : Nat} {s : State} : Eff [.l1, .reads, .msg, .fnMsg, .queues, .sched, .halves, .engines,
    .portReg, .cistern, .capFlag, .devWake, .tunnel, .gate, .heldEv, .out] s (drainCheck n s) := by
  unfold drainCheck
  split; split; refine Eff.ite ?_ ?_; refine Eff.step progress_eff ?_; refine Eff.ite ?_ ?_
  refine Eff.step unpause_eff ?_; exact Eff.refl _ _; exact Eff.refl _ _; refine Eff.ite ?_ ?_
  refine Eff.step endBus_eff ?_; refine Eff.step unpause_eff ?_; exact Eff.refl _ _; exact Eff.refl _ _
  exact Eff.refl _ _; exact Eff.refl _ _

theorem streamAfter_eff {n : Nat} {x : Pipe} {how : BurstEnd} {s : State} : Eff [.l1, .msg, .fnMsg, .queues, .sched,
    .cistern, .devWake, .tunnel, .gate, .heldEv, .out] s (streamAfter n x how s) := by
  unfold streamAfter
  refine Eff.ite ?_ ?_; exact Eff.refl _ _; refine Eff.ite ?_ ?_; refine Eff.step streamDone_eff ?_
  refine Eff.step streamIdle_eff ?_; exact Eff.refl _ _; refine Eff.step streamDone_eff ?_; exact Eff.refl _ _

theorem streamEmpty_eff {n : Nat} {x : Pipe} {s : State} : Eff [.l1, .msg, .fnMsg, .queues, .sched, .cistern,
    .devWake, .tunnel, .gate, .heldEv, .out] s (streamEmpty n x s) := by
  unfold streamEmpty
  refine Eff.ite ?_ ?_; refine Eff.step streamIdle_eff ?_; exact Eff.refl _ _; exact Eff.refl _ _

theorem burstState_eff {n : Nat} {x : Pipe} {how : BurstEnd} {s : State} : Eff [.l1, .msg, .fnMsg, .queues, .sched,
    .cistern, .devWake, .tunnel, .gate, .heldEv, .out] s (burstState n x how s) := by
  unfold burstState
  refine Eff.ite ?_ ?_
  extract_lets +onlyGivenNames x1; refine Eff.via x1 ?_ (fun h1 => ?_); unfold x1; rotate_left; clear_value x1; rotate_left
  refine Eff.ite ?_ ?_
  extract_lets +onlyGivenNames x3; refine Eff.via x3 ?_ (fun h3 => ?_); unfold x3; rotate_left; clear_value x3; rotate_left
  refine Eff.ite ?_ ?_; refine Eff.step modPipe_eff ?_; refine Eff.step dropKlass_eff ?_; exact Eff.refl _ _
  extract_lets +onlyGivenNames x8; refine Eff.via x8 ?_ (fun h8 => ?_); unfold x8; rotate_left; clear_value x8; rotate_left
  refine Eff.step dropKlass_eff ?_; exact Eff.refl _ _; refine Eff.step replyPipe_eff ?_
  refine Eff.step modPipe_eff ?_; assumption; refine Eff.step dropKlass_eff ?_; exact Eff.refl _ _
  refine Eff.ite ?_ ?_; refine Eff.ite ?_ ?_; refine Eff.step modPipe_eff ?_; assumption
  refine Eff.step startHeads_eff ?_; refine Eff.step link_eff ?_; refine Eff.step modPipe_eff ?_; assumption
  refine Eff.step modPipe_eff ?_; assumption; refine Eff.step link_eff ?_; refine Eff.step modPipe_eff ?_
  exact Eff.refl _ _
  extract_lets +onlyGivenNames x29; refine Eff.via x29 ?_ (fun h29 => ?_); unfold x29; rotate_left; clear_value x29; rotate_left
  refine Eff.ite ?_ ?_; refine Eff.step dropKlass_eff ?_; assumption; assumption; refine Eff.step startHeads_eff ?_
  assumption

theorem burstClosed_eff {n : Nat} {x : Pipe} {s : State} : Eff [.l1, .reads, .msg, .fnMsg, .queues, .sched, .halves,
    .engines, .portReg, .cistern, .capFlag, .devWake, .tunnel, .gate, .heldEv, .out] s (burstClosed n x s) := by
  unfold burstClosed
  split; refine Eff.step endAll_eff ?_; exact Eff.refl _ _; refine Eff.step endBus_eff ?_; exact Eff.refl _ _
  exact Eff.refl _ _

theorem finishBurst_eff {n : Nat} {how : BurstEnd} {s : State} : Eff [.l1, .reads, .msg, .fnMsg, .queues, .sched,
    .halves, .engines, .bursts, .portReg, .cistern, .capFlag, .devWake, .tunnel, .gate, .heldEv, .out] s
    (finishBurst n how s) := by
  unfold finishBurst
  split; exact Eff.refl _ _; extract_lets +onlyGivenNames x2
  extract_lets +onlyGivenNames x3; refine Eff.via x3 ?_ (fun h3 => ?_); unfold x3; rotate_left; clear_value x3; rotate_left
  refine Eff.step settleBurst_eff ?_; exact Eff.refl _ _
  extract_lets +onlyGivenNames x6; refine Eff.via x6 ?_ (fun h6 => ?_); unfold x6; rotate_left; clear_value x6; rotate_left
  split; refine Eff.step modXfer_eff ?_; assumption; assumption
  extract_lets +onlyGivenNames x11; refine Eff.via x11 ?_ (fun h11 => ?_); unfold x11; rotate_left; clear_value x11; rotate_left
  refine Eff.step modPipe_eff ?_; assumption
  extract_lets +onlyGivenNames x14; refine Eff.via x14 ?_ (fun h14 => ?_); unfold x14; rotate_left; clear_value x14; rotate_left
  refine Eff.ite ?_ ?_; refine Eff.step retryStore_eff ?_; assumption; assumption
  extract_lets +onlyGivenNames x19; refine Eff.via x19 ?_ (fun h19 => ?_); unfold x19; rotate_left; clear_value x19; rotate_left
  refine Eff.step freeTt_eff ?_; refine Eff.step streamAfter_eff ?_; assumption
  extract_lets +onlyGivenNames x23; refine Eff.via x23 ?_ (fun h23 => ?_); unfold x23; rotate_left; clear_value x23; rotate_left
  split; refine Eff.step burstState_eff ?_; assumption; refine Eff.step burstClosed_eff ?_; assumption; assumption
  refine Eff.step startNext_eff ?_; refine Eff.step streamEmpty_eff ?_; refine Eff.step closeDone_eff ?_
  refine Eff.step drainCheck_eff ?_; assumption

theorem withdrawUnsent_eff {n : Nat} {s : State} : Eff [.l1, .reads, .msg, .fnMsg, .queues, .sched, .halves,
    .engines, .bursts, .portReg, .cistern, .capFlag, .devWake, .tunnel, .gate, .heldEv, .out] s (withdrawUnsent n s) := by
  unfold withdrawUnsent
  split; refine Eff.ite ?_ ?_; refine Eff.step finishBurst_eff ?_; exact Eff.refl _ _; exact Eff.refl _ _
  exact Eff.refl _ _

theorem isoOutSent_eff {n : Nat} {x : Pipe} {s : State} : Eff [.l1, .reads, .msg, .fnMsg, .queues, .sched, .halves,
    .engines, .portReg, .cistern, .capFlag, .devWake, .tunnel, .gate, .heldEv, .out] s (isoOutSent n x s) := by
  unfold isoOutSent
  split; split; refine Eff.ite ?_ ?_; extract_lets +onlyGivenNames x3; extract_lets +onlyGivenNames x4
  extract_lets +onlyGivenNames x5; refine Eff.via x5 ?_ (fun h5 => ?_); unfold x5; rotate_left; clear_value x5; rotate_left
  exact Eff.refl _ _; exact Eff.refl _ _; exact Eff.refl _ _; refine Eff.step dropPages_eff ?_
  refine Eff.step setXfer_eff ?_; exact Eff.refl _ _
  extract_lets +onlyGivenNames x12; refine Eff.via x12 ?_ (fun h12 => ?_); unfold x12; rotate_left; clear_value x12; rotate_left
  refine Eff.step modPipe_eff ?_; assumption
  extract_lets +onlyGivenNames x15; refine Eff.via x15 ?_ (fun h15 => ?_); unfold x15; rotate_left; clear_value x15; rotate_left
  refine modDesc_eff (fun _ => ?_) ?_; (first | rfl | (split <;> rfl)); assumption
  extract_lets +onlyGivenNames x19; refine Eff.via x19 ?_ (fun h19 => ?_); unfold x19; rotate_left; clear_value x19; rotate_left
  refine Eff.ite ?_ ?_; refine Eff.step dropKlass_eff ?_; assumption; assumption; refine Eff.ite ?_ ?_
  refine Eff.step closeInterval_eff ?_; assumption; assumption

theorem burstEnd_eff {n : Nat} {x : Pipe} {d : Desc} {s : State} : Eff [.l1, .reads, .msg, .fnMsg, .queues, .sched,
    .halves, .engines, .bursts, .portReg, .cistern, .capFlag, .devWake, .tunnel, .gate, .heldEv, .out] s (burstEnd n
    x d s) := by
  unfold burstEnd
  extract_lets +onlyGivenNames x0; refine Eff.via x0 ?_ (fun h0 => ?_); unfold x0; rotate_left; clear_value x0; rotate_left
  refine Eff.ite ?_ ?_; refine Eff.step isoOutSent_eff ?_; exact Eff.refl _ _; exact Eff.refl _ _
  refine Eff.step finishBurst_eff ?_; assumption

theorem stampPipe_eff {x : Pipe} {s : State} : Eff [.cistern] s (stampPipe x s) := by
  unfold stampPipe
  split; refine Eff.step stampNow_eff ?_; exact Eff.refl _ _; exact Eff.refl _ _

theorem streamFailed_eff {n : Nat} {x : Pipe} {s : State} : Eff [.l1, .msg, .fnMsg, .queues, .sched, .cistern,
    .devWake, .tunnel, .gate, .heldEv, .out] s (streamFailed n x s) := by
  unfold streamFailed
  refine Eff.ite ?_ ?_; exact Eff.refl _ _; split; refine Eff.step streamDone_eff ?_; refine Eff.ite ?_ ?_
  refine Eff.step streamIdle_eff ?_; exact Eff.refl _ _; exact Eff.refl _ _; exact Eff.refl _ _

theorem errorOut_eff {n : Nat} {x : Pipe} {status errinfo : Nat} {s : State} : Eff [.l1, .reads, .msg, .fnMsg,
    .queues, .sched, .halves, .engines, .bursts, .portReg, .cistern, .origins, .log, .capFlag, .fwHeld, .devWake,
    .tunnel, .gate, .heldEv, .out] s (errorOut n x status errinfo s) := by
  unfold errorOut
  extract_lets +onlyGivenNames x0; refine Eff.via x0 ?_ (fun h0 => ?_); unfold x0; rotate_left; clear_value x0; rotate_left
  refine Eff.step modPipe_eff ?_; refine Eff.step stampPipe_eff ?_; exact Eff.refl _ _
  extract_lets +onlyGivenNames x4; refine Eff.via x4 ?_ (fun h4 => ?_); unfold x4; rotate_left; clear_value x4; rotate_left
  refine Eff.step settleBurst_eff ?_; assumption
  extract_lets +onlyGivenNames x7; refine Eff.via x7 ?_ (fun h7 => ?_); unfold x7; rotate_left; clear_value x7; rotate_left
  split; refine Eff.step modXfer_eff ?_; assumption; assumption
  extract_lets +onlyGivenNames x12; refine Eff.via x12 ?_ (fun h12 => ?_); unfold x12; rotate_left; clear_value x12; rotate_left
  refine Eff.step freeTt_eff ?_; refine Eff.step streamFailed_eff ?_; assumption; extract_lets +onlyGivenNames x16
  refine Eff.step startNext_eff ?_; refine Eff.step closeDone_eff ?_; refine Eff.step report_eff ?_; assumption

theorem resend_eff {n : Nat} {d : Desc} {s : State} : Eff [.sched, .halves, .engines, .cistern, .out] s (resend n d
    s) := by
  unfold resend
  extract_lets +onlyGivenNames x0; refine Eff.via x0 ?_ (fun h0 => ?_); unfold x0; rotate_left; clear_value x0; rotate_left
  split; refine Eff.step modXfer_eff ?_; exact Eff.refl _ _; exact Eff.refl _ _; split; split
  refine Eff.step ssDone_eff ?_; refine Eff.step sendBurst_eff ?_; assumption; assumption; assumption

theorem sendAck_eff {x : Pipe} {seq : BitVec 5} {numP : Nat} {retry : Bool} {s : State} : Eff [.halves, .out] s
    (sendAck x seq numP retry s) := by
  unfold sendAck
  refine Eff.ite ?_ ?_; exact Eff.refl _ _; refine Eff.step busOut_eff ?_; exact Eff.refl _ _

theorem sendNow_eff {n : Nat} {x : Pipe} {d : Desc} {chg : Nat} {s : State} : Eff [.sched, .halves, .engines,
    .bursts, .cistern, .out] s (sendNow n x d chg s) := by
  unfold sendNow
  refine Eff.ite ?_ ?_; refine Eff.step resend_eff ?_; exact Eff.refl _ _
  extract_lets +onlyGivenNames x3; refine Eff.via x3 ?_ (fun h3 => ?_); unfold x3; rotate_left; clear_value x3; rotate_left
  split; refine Eff.step modXfer_eff ?_; exact Eff.refl _ _; exact Eff.refl _ _; refine Eff.step modEngine_eff ?_
  assumption

theorem retryNow_eff {n : Nat} {x : Pipe} {d : Desc} {again : Nat} {s : State} : Eff [.sched, .halves, .engines,
    .bursts, .cistern, .out] s (retryNow n x d again s) := by
  unfold retryNow
  refine Eff.step sendNow_eff ?_; refine modDesc_eff (fun _ => ?_) ?_; (first | rfl | (split <;> rfl))
  refine Eff.step chargeMore_eff ?_; exact Eff.refl _ _

theorem busError_eff {n : Nat} {x : Pipe} {d : Desc} {errinfo cost : Nat} {retryAck : Bool} {s : State} : Eff [.l1,
    .reads, .msg, .fnMsg, .queues, .sched, .halves, .engines, .bursts, .portReg, .cistern, .origins, .log, .capFlag,
    .fwHeld, .devWake, .tunnel, .gate, .heldEv, .out] s (busError n x d errinfo cost retryAck s) := by
  unfold busError
  extract_lets +onlyGivenNames x0; refine Eff.via x0 ?_ (fun h0 => ?_); unfold x0; rotate_left; clear_value x0; rotate_left
  refine modDesc_eff (fun _ => ?_) ?_; (first | rfl | (split <;> rfl)); refine Eff.step stampPipe_eff ?_
  exact Eff.refl _ _; refine Eff.ite ?_ ?_; refine Eff.step dropKlass_eff ?_; refine modDesc_eff (fun _ => ?_) ?_
  (first | rfl | (split <;> rfl)); assumption; refine Eff.ite ?_ ?_; refine modDesc_eff (fun _ => ?_) ?_
  (first | rfl | (split <;> rfl)); assumption; refine Eff.ite ?_ ?_; refine Eff.step errorOut_eff ?_
  refine Eff.step modEngine_eff ?_; assumption
  extract_lets +onlyGivenNames x18; refine Eff.via x18 ?_ (fun h18 => ?_); unfold x18; rotate_left; clear_value x18; rotate_left
  refine Eff.step modPipe_eff ?_; assumption
  extract_lets +onlyGivenNames x21; refine Eff.via x21 ?_ (fun h21 => ?_); unfold x21; rotate_left; clear_value x21; rotate_left
  refine Eff.step modEngine_eff ?_; assumption; extract_lets +onlyGivenNames x24; refine Eff.ite ?_ ?_
  refine Eff.step finishBurst_eff ?_; assumption; refine Eff.ite ?_ ?_; refine Eff.ite ?_ ?_
  refine Eff.step sendAck_eff ?_; assumption; refine Eff.ite ?_ ?_; refine modDesc_eff (fun _ => ?_) ?_
  (first | rfl | (split <;> rfl)); assumption; refine Eff.step resend_eff ?_; assumption; refine Eff.ite ?_ ?_
  refine Eff.step retryNow_eff ?_; assumption; refine Eff.step finishBurst_eff ?_; assumption

theorem acceptData_eff {n k : Nat} {bs : List Byte} {s : State} : Eff [.sched, .cistern] s (acceptData n k bs s) := by
  unfold acceptData
  split; extract_lets +onlyGivenNames x1; extract_lets +onlyGivenNames x2
  extract_lets +onlyGivenNames x3; refine Eff.via x3 ?_ (fun h3 => ?_); unfold x3; rotate_left; clear_value x3; rotate_left
  exact Eff.refl _ _; refine Eff.step markPacket_eff ?_; refine Eff.step stampNow_eff ?_
  refine Eff.step setXfer_eff ?_; exact Eff.refl _ _; refine Eff.step modPipe_eff ?_; assumption

theorem isoData_eff {n k : Nat} {d : Desc} {fits full done : Bool} {s : State} : Eff [.l1, .reads, .msg, .fnMsg,
    .queues, .sched, .halves, .engines, .portReg, .cistern, .capFlag, .devWake, .tunnel, .gate, .heldEv, .out] s
    (isoData n k d fits full done s) := by
  unfold isoData
  extract_lets +onlyGivenNames x0; refine Eff.via x0 ?_ (fun h0 => ?_); unfold x0; rotate_left; clear_value x0; rotate_left
  refine Eff.step modXfer_eff ?_; exact Eff.refl _ _
  extract_lets +onlyGivenNames x3; refine Eff.via x3 ?_ (fun h3 => ?_); unfold x3; rotate_left; clear_value x3; rotate_left
  refine Eff.step queueJob_eff ?_; assumption; refine Eff.ite ?_ ?_; refine Eff.step closeInterval_eff ?_
  assumption; assumption

theorem goodData_eff {n k : Nat} {x : Pipe} {d : Desc} {pkt : InPacket} {s : State} : Eff [.l1, .reads, .msg,
    .fnMsg, .queues, .sched, .halves, .engines, .bursts, .portReg, .cistern, .origins, .log, .capFlag, .fwHeld,
    .devWake, .tunnel, .gate, .heldEv, .out] s (goodData n k x d pkt s) := by
  unfold goodData
  split; exact Eff.refl _ _; extract_lets +onlyGivenNames x2; extract_lets +onlyGivenNames x3
  extract_lets +onlyGivenNames x4; extract_lets +onlyGivenNames x5; extract_lets +onlyGivenNames x6
  extract_lets +onlyGivenNames x7; extract_lets +onlyGivenNames x8; extract_lets +onlyGivenNames x9
  extract_lets +onlyGivenNames x10
  extract_lets +onlyGivenNames x11; refine Eff.via x11 ?_ (fun h11 => ?_); unfold x11; rotate_left; clear_value x11; rotate_left
  refine Eff.step streamCurrent_eff ?_; exact Eff.refl _ _
  extract_lets +onlyGivenNames x14; refine Eff.via x14 ?_ (fun h14 => ?_); unfold x14; rotate_left; clear_value x14; rotate_left
  refine Eff.step acceptData_eff ?_; assumption
  extract_lets +onlyGivenNames x17; refine Eff.via x17 ?_ (fun h17 => ?_); unfold x17; rotate_left; clear_value x17; rotate_left
  refine Eff.step modPipe_eff ?_; assumption; extract_lets +onlyGivenNames x20
  extract_lets +onlyGivenNames x21; refine Eff.via x21 ?_ (fun h21 => ?_); unfold x21; rotate_left; clear_value x21; rotate_left
  refine modDesc_eff (fun _ => ?_) ?_; (first | rfl | (split <;> rfl)); assumption
  extract_lets +onlyGivenNames x25; refine Eff.via x25 ?_ (fun h25 => ?_); unfold x25; rotate_left; clear_value x25; rotate_left
  refine Eff.step sendAck_eff ?_; assumption; refine Eff.ite ?_ ?_; refine Eff.step isoData_eff ?_; assumption
  refine Eff.ite ?_ ?_; refine Eff.step errorOut_eff ?_; assumption; refine Eff.ite ?_ ?_; refine Eff.ite ?_ ?_
  refine Eff.step endBus_eff ?_; assumption; refine Eff.ite ?_ ?_; refine Eff.step queueJob_eff ?_
  refine Eff.step modPipe_eff ?_; assumption; refine Eff.step queueJob_eff ?_; assumption; refine Eff.ite ?_ ?_
  refine Eff.step endBus_eff ?_; assumption; refine Eff.step progress_eff ?_; refine Eff.step queueJob_eff ?_
  assumption

theorem repeatData_eff {n : Nat} {x : Pipe} {cost : Nat} {s : State} : Eff [.l1, .reads, .msg, .fnMsg, .queues,
    .sched, .halves, .engines, .bursts, .portReg, .cistern, .origins, .log, .capFlag, .fwHeld, .devWake, .tunnel,
    .gate, .heldEv, .out] s (repeatData n x cost s) := by
  unfold repeatData
  extract_lets +onlyGivenNames x0; refine Eff.via x0 ?_ (fun h0 => ?_); unfold x0; rotate_left; clear_value x0; rotate_left
  refine Eff.step sendAck_eff ?_; refine modDesc_eff (fun _ => ?_) ?_; (first | rfl | (split <;> rfl))
  refine Eff.step stampPipe_eff ?_; exact Eff.refl _ _; refine Eff.ite ?_ ?_; refine Eff.step errorOut_eff ?_
  refine Eff.step modEngine_eff ?_; assumption; refine modDesc_eff (fun _ => ?_) ?_; (first | rfl | (split <;> rfl))
  refine Eff.step modPipe_eff ?_; assumption

theorem dataPacket_eff {n k : Nat} {x : Pipe} {d : Desc} {pkt : InPacket} {s : State} : Eff [.l1, .reads, .msg,
    .fnMsg, .queues, .sched, .halves, .engines, .bursts, .portReg, .cistern, .origins, .log, .capFlag, .fwHeld,
    .devWake, .tunnel, .gate, .heldEv, .out] s (dataPacket n k x d pkt s) := by
  unfold dataPacket
  extract_lets +onlyGivenNames x0; extract_lets +onlyGivenNames x1; refine Eff.ite ?_ ?_
  refine Eff.step busError_eff ?_; exact Eff.refl _ _; refine Eff.ite ?_ ?_; refine Eff.step busError_eff ?_
  exact Eff.refl _ _; refine Eff.ite ?_ ?_
  extract_lets +onlyGivenNames x9; refine Eff.via x9 ?_ (fun h9 => ?_); unfold x9; rotate_left; clear_value x9; rotate_left
  refine Eff.ite ?_ ?_; extract_lets +onlyGivenNames x11; refine Eff.step goodData_eff ?_; exact Eff.refl _ _
  refine Eff.ite ?_ ?_; refine Eff.step sendAck_eff ?_; refine modDesc_eff (fun _ => ?_) ?_
  (first | rfl | (split <;> rfl)); exact Eff.refl _ _; refine Eff.ite ?_ ?_; refine Eff.step busError_eff ?_
  exact Eff.refl _ _; refine Eff.ite ?_ ?_; refine Eff.step repeatData_eff ?_; exact Eff.refl _ _
  refine Eff.ite ?_ ?_; refine Eff.step errorOut_eff ?_; refine modDesc_eff (fun _ => ?_) ?_
  (first | rfl | (split <;> rfl)); exact Eff.refl _ _; refine Eff.step goodData_eff ?_; exact Eff.refl _ _
  refine modDesc_eff (fun _ => ?_) ?_; (first | rfl | (split <;> rfl)); exact Eff.refl _ _; refine Eff.ite ?_ ?_
  assumption; refine Eff.step startNext_eff ?_; assumption

theorem outDone_eff {n k : Nat} {x : Pipe} {s : State} : Eff [.l1, .reads, .msg, .fnMsg, .queues, .sched, .halves,
    .engines, .portReg, .cistern, .capFlag, .devWake, .tunnel, .gate, .heldEv, .out] s (outDone n k x s) := by
  unfold outDone
  split; extract_lets +onlyGivenNames x1; refine Eff.ite ?_ ?_; refine Eff.ite ?_ ?_; refine Eff.step modPipe_eff ?_
  exact Eff.refl _ _; exact Eff.refl _ _; refine Eff.ite ?_ ?_; refine Eff.step endBus_eff ?_; exact Eff.refl _ _
  refine Eff.step progress_eff ?_; exact Eff.refl _ _; exact Eff.refl _ _

theorem fillWindow_eff {n : Nat} {s : State} : Eff [.halves, .engines, .cistern, .out] s (fillWindow n s) := by
  unfold fillWindow
  split; extract_lets +onlyGivenNames x1; split; refine Eff.ite ?_ ?_; refine modDesc_eff (fun _ => ?_) ?_
  (first | rfl | (split <;> rfl)); refine Eff.step sendPages_eff ?_; exact Eff.refl _ _; exact Eff.refl _ _
  exact Eff.refl _ _; exact Eff.refl _ _

theorem ackPacket_eff {n k : Nat} {x : Pipe} {d : Desc} {a : Ack} {s : State} : Eff [.l1, .reads, .msg, .fnMsg,
    .queues, .sched, .halves, .engines, .portReg, .cistern, .capFlag, .devWake, .tunnel, .gate, .heldEv, .out] s
    (ackPacket n k x d a s) := by
  unfold ackPacket
  split; exact Eff.refl _ _; extract_lets +onlyGivenNames x2; extract_lets +onlyGivenNames x3
  extract_lets +onlyGivenNames x4; extract_lets +onlyGivenNames x5
  extract_lets +onlyGivenNames x6; refine Eff.via x6 ?_ (fun h6 => ?_); unfold x6; rotate_left; clear_value x6; rotate_left
  refine Eff.step markPacket_eff ?_; refine Eff.step stampNow_eff ?_; refine Eff.step setXfer_eff ?_
  exact Eff.refl _ _
  extract_lets +onlyGivenNames x11; refine Eff.via x11 ?_ (fun h11 => ?_); unfold x11; rotate_left; clear_value x11; rotate_left
  refine Eff.ite ?_ ?_; assumption; refine Eff.step turnPages_eff ?_; assumption
  extract_lets +onlyGivenNames x16; refine Eff.via x16 ?_ (fun h16 => ?_); unfold x16; rotate_left; clear_value x16; rotate_left
  refine Eff.step streamCurrent_eff ?_; assumption
  extract_lets +onlyGivenNames x19; refine Eff.via x19 ?_ (fun h19 => ?_); unfold x19; rotate_left; clear_value x19; rotate_left
  refine Eff.step modPipe_eff ?_; assumption; extract_lets +onlyGivenNames x22; extract_lets +onlyGivenNames x23
  extract_lets +onlyGivenNames x24
  extract_lets +onlyGivenNames x25; refine Eff.via x25 ?_ (fun h25 => ?_); unfold x25; rotate_left; clear_value x25; rotate_left
  refine modDesc_eff (fun _ => ?_) ?_; (first | rfl | (split <;> rfl)); assumption; refine Eff.ite ?_ ?_
  refine Eff.step endBus_eff ?_; assumption; refine Eff.step fillWindow_eff ?_; refine Eff.step outDone_eff ?_
  assumption

theorem ackSetup_eff {n k : Nat} {x : Pipe} {s : State} : Eff [.sched, .engines, .cistern] s (ackSetup n k x s) := by
  unfold ackSetup
  split; extract_lets +onlyGivenNames x1
  extract_lets +onlyGivenNames x2; refine Eff.via x2 ?_ (fun h2 => ?_); unfold x2; rotate_left; clear_value x2; rotate_left
  exact Eff.refl _ _; refine Eff.step stampNow_eff ?_; exact Eff.refl _ _
  extract_lets +onlyGivenNames x6; refine Eff.via x6 ?_ (fun h6 => ?_); unfold x6; rotate_left; clear_value x6; rotate_left
  refine Eff.step modPipe_eff ?_; assumption; refine modDesc_eff (fun _ => ?_) ?_; (first | rfl | (split <;> rfl))
  assumption

theorem ackReceived_eff {n k : Nat} {x : Pipe} {d : Desc} {a : Ack} {s : State} : Eff [.l1, .reads, .msg, .fnMsg,
    .queues, .sched, .halves, .engines, .bursts, .portReg, .cistern, .origins, .log, .capFlag, .fwHeld, .devWake,
    .tunnel, .gate, .heldEv, .out] s (ackReceived n k x d a s) := by
  unfold ackReceived
  refine Eff.ite ?_ ?_; refine Eff.step busError_eff ?_; exact Eff.refl _ _; refine Eff.ite ?_ ?_
  refine modDesc_eff (fun _ => ?_) ?_; (first | rfl | (split <;> rfl)); exact Eff.refl _ _; refine Eff.ite ?_ ?_
  refine Eff.step busError_eff ?_; refine modDesc_eff (fun _ => ?_) ?_; (first | rfl | (split <;> rfl))
  exact Eff.refl _ _; refine Eff.ite ?_ ?_; refine Eff.step ackSetup_eff ?_; exact Eff.refl _ _
  refine Eff.ite ?_ ?_; refine Eff.step endBus_eff ?_; refine Eff.step stampNow_eff ?_
  refine modDesc_eff (fun _ => ?_) ?_; (first | rfl | (split <;> rfl)); exact Eff.refl _ _; refine Eff.ite ?_ ?_
  extract_lets +onlyGivenNames x22; refine Eff.via x22 ?_ (fun h22 => ?_); unfold x22; rotate_left; clear_value x22; rotate_left
  refine Eff.step ackPacket_eff ?_; exact Eff.refl _ _; refine Eff.step chargeMore_eff ?_
  refine modDesc_eff (fun _ => ?_) ?_; (first | rfl | (split <;> rfl)); exact Eff.refl _ _
  extract_lets +onlyGivenNames x29; refine Eff.via x29 ?_ (fun h29 => ?_); unfold x29; rotate_left; clear_value x29; rotate_left
  refine Eff.step modPipe_eff ?_; assumption; refine Eff.step sendNow_eff ?_; assumption

theorem nrdy_eff {n : Nat} {x : Pipe} {s : State} : Eff [.l1, .reads, .msg, .fnMsg, .queues, .sched, .halves,
    .engines, .bursts, .portReg, .cistern, .capFlag, .devWake, .tunnel, .gate, .heldEv, .out] s (nrdy n x s) := by
  unfold nrdy
  extract_lets +onlyGivenNames x0; refine Eff.via x0 ?_ (fun h0 => ?_); unfold x0; rotate_left; clear_value x0; rotate_left
  refine modDesc_eff (fun _ => ?_) ?_; (first | rfl | (split <;> rfl)); refine Eff.step stampPipe_eff ?_
  exact Eff.refl _ _
  extract_lets +onlyGivenNames x5; refine Eff.via x5 ?_ (fun h5 => ?_); unfold x5; rotate_left; clear_value x5; rotate_left
  refine Eff.step modPipe_eff ?_; assumption
  extract_lets +onlyGivenNames x8; refine Eff.via x8 ?_ (fun h8 => ?_); unfold x8; rotate_left; clear_value x8; rotate_left
  refine Eff.ite ?_ ?_; refine Eff.step modPipe_eff ?_; assumption; assumption; refine Eff.step finishBurst_eff ?_
  assumption

theorem erdyKept_eff {n : Nat} {x : Pipe} {s : State} : Eff [.sched, .freeCount] s (erdyKept n x s) := by
  unfold erdyKept
  split; refine Eff.step stray_eff ?_; exact Eff.refl _ _; refine Eff.step stray_eff ?_; exact Eff.refl _ _
  extract_lets +onlyGivenNames x5; refine Eff.via x5 ?_ (fun h5 => ?_); unfold x5; rotate_left; clear_value x5; rotate_left
  refine Eff.ite ?_ ?_; refine Eff.step readyCancel_eff ?_; exact Eff.refl _ _; exact Eff.refl _ _
  refine Eff.ite ?_ ?_; refine Eff.step stray_eff ?_; assumption; refine Eff.step modPipe_eff ?_; assumption

theorem erdyPipe_eff {n : Nat} {x : Pipe} {atHead : Bool} {s : State} : Eff [.l1, .msg, .fnMsg, .queues, .sched,
    .cistern, .devWake, .tunnel, .gate, .heldEv, .freeCount, .out] s (erdyPipe n x atHead s) := by
  unfold erdyPipe
  split; refine Eff.ite ?_ ?_; refine Eff.step erdyKept_eff ?_; exact Eff.refl _ _; refine Eff.step stray_eff ?_
  exact Eff.refl _ _; refine Eff.ite ?_ ?_; refine Eff.step link_eff ?_; exact Eff.refl _ _
  refine Eff.step stray_eff ?_; exact Eff.refl _ _; refine Eff.ite ?_ ?_; refine Eff.step setPipe_eff ?_
  exact Eff.refl _ _; refine Eff.step startHeads_eff ?_; refine Eff.step link_eff ?_; refine Eff.step setPipe_eff ?_
  exact Eff.refl _ _; refine Eff.step erdyKept_eff ?_; exact Eff.refl _ _

theorem erdyStream_eff {ep : Nat} {e : Pipe} {st : Nat} {s : State} : Eff [.l1, .msg, .fnMsg, .queues, .sched,
    .halves, .cistern, .devWake, .tunnel, .gate, .heldEv, .freeCount, .out] s (erdyStream ep e st s) := by
  unfold erdyStream
  extract_lets +onlyGivenNames x0; refine Eff.ite ?_ ?_; refine Eff.step bus_eff ?_; exact Eff.refl _ _; split
  refine Eff.step bus_eff ?_; exact Eff.refl _ _; extract_lets +onlyGivenNames x7; refine Eff.ite ?_ ?_
  extract_lets +onlyGivenNames x9; refine Eff.step bus_eff ?_; refine Eff.step erdyPipe_eff ?_
  refine Eff.step setPipe_eff ?_; exact Eff.refl _ _; extract_lets +onlyGivenNames x14
  extract_lets +onlyGivenNames x15; refine Eff.via x15 ?_ (fun h15 => ?_); unfold x15; rotate_left; clear_value x15; rotate_left
  refine Eff.step setPipe_eff ?_; exact Eff.refl _ _; refine Eff.ite ?_ ?_; refine Eff.step stray_eff ?_; assumption
  refine Eff.ite ?_ ?_; refine Eff.step erdyKept_eff ?_; assumption; extract_lets +onlyGivenNames x24
  refine Eff.step erdyPipe_eff ?_; refine Eff.step setPipe_eff ?_; refine Eff.step setPipe_eff ?_; assumption

theorem erdy_eff {n stream : Nat} {s : State} : Eff [.l1, .msg, .fnMsg, .queues, .sched, .halves, .cistern,
    .devWake, .tunnel, .gate, .heldEv, .freeCount, .out] s (erdy n stream s) := by
  unfold erdy
  split; refine Eff.ite ?_ ?_; refine Eff.step erdyStream_eff ?_; exact Eff.refl _ _
  refine Eff.step erdyPipe_eff ?_; exact Eff.refl _ _; refine Eff.step stray_eff ?_; exact Eff.refl _ _

theorem stall_eff {n : Nat} {x : Pipe} {s : State} : Eff [.l1, .reads, .msg, .fnMsg, .queues, .sched, .halves,
    .engines, .bursts, .portReg, .cistern, .origins, .log, .capFlag, .fwHeld, .devWake, .tunnel, .gate, .heldEv,
    .out] s (stall n x s) := by
  unfold stall
  refine Eff.step errorOut_eff ?_; refine modDesc_eff (fun _ => ?_) ?_; (first | rfl | (split <;> rfl))
  exact Eff.refl _ _

theorem nak_eff {n : Nat} {x : Pipe} {d : Desc} {s : State} : Eff [.l1, .reads, .msg, .fnMsg, .queues, .sched,
    .halves, .engines, .bursts, .portReg, .cistern, .origins, .log, .capFlag, .fwHeld, .devWake, .tunnel, .gate,
    .heldEv, .out] s (nak n x d s) := by
  unfold nak
  refine Eff.ite ?_ ?_; refine Eff.step busError_eff ?_; refine Eff.step modPipe_eff ?_; exact Eff.refl _ _
  extract_lets +onlyGivenNames x4; refine Eff.via x4 ?_ (fun h4 => ?_); unfold x4; rotate_left; clear_value x4; rotate_left
  refine modDesc_eff (fun _ => ?_) ?_; (first | rfl | (split <;> rfl)); refine Eff.step stampPipe_eff ?_
  exact Eff.refl _ _
  extract_lets +onlyGivenNames x9; refine Eff.via x9 ?_ (fun h9 => ?_); unfold x9; rotate_left; clear_value x9; rotate_left
  refine Eff.step modPipe_eff ?_; assumption; refine Eff.step finishBurst_eff ?_; assumption

theorem nyet_eff {n k : Nat} {x : Pipe} {d : Desc} {s : State} : Eff [.l1, .reads, .msg, .fnMsg, .queues, .sched,
    .halves, .engines, .bursts, .portReg, .cistern, .origins, .log, .capFlag, .fwHeld, .devWake, .tunnel, .gate,
    .heldEv, .out] s (nyet n k x d s) := by
  unfold nyet
  refine Eff.ite ?_ ?_
  extract_lets +onlyGivenNames x1; refine Eff.via x1 ?_ (fun h1 => ?_); unfold x1; rotate_left; clear_value x1; rotate_left
  refine Eff.ite ?_ ?_; refine Eff.step busError_eff ?_; exact Eff.refl _ _
  extract_lets +onlyGivenNames x5; refine Eff.via x5 ?_ (fun h5 => ?_); unfold x5; rotate_left; clear_value x5; rotate_left
  refine modDesc_eff (fun _ => ?_) ?_; (first | rfl | (split <;> rfl)); refine Eff.step chargeMore_eff ?_
  exact Eff.refl _ _; refine Eff.ite ?_ ?_; refine Eff.ite ?_ ?_; refine modDesc_eff (fun _ => ?_) ?_
  (first | rfl | (split <;> rfl)); assumption; refine Eff.step busError_eff ?_; assumption; refine Eff.ite ?_ ?_
  refine Eff.step startNext_eff ?_; assumption; refine modDesc_eff (fun _ => ?_) ?_; (first | rfl | (split <;> rfl))
  assumption; refine Eff.step ackPacket_eff ?_; exact Eff.refl _ _; refine Eff.step modPipe_eff ?_; assumption

theorem splitClose_eff {n : Nat} {s : State} : Eff [.l1, .reads, .msg, .fnMsg, .queues, .sched, .halves, .engines,
    .bursts, .portReg, .cistern, .capFlag, .devWake, .tunnel, .gate, .heldEv, .out] s (splitClose n s) := by
  unfold splitClose
  extract_lets +onlyGivenNames x0; refine Eff.via x0 ?_ (fun h0 => ?_); unfold x0; rotate_left; clear_value x0; rotate_left
  refine Eff.step settleBurst_eff ?_; exact Eff.refl _ _
  extract_lets +onlyGivenNames x3; refine Eff.via x3 ?_ (fun h3 => ?_); unfold x3; rotate_left; clear_value x3; rotate_left
  split; refine Eff.step freeTt_eff ?_; refine Eff.step modPipe_eff ?_; assumption; assumption
  extract_lets +onlyGivenNames x9; split; refine Eff.step closeDone_eff ?_; refine Eff.step endBus_eff ?_
  assumption; refine Eff.step closeDone_eff ?_; assumption

theorem closePipe_eff {n : Nat} {soft : Bool} {started other : Cpl} {s : State} : Eff [.l1, .reads, .msg, .fnMsg,
    .queues, .sched, .halves, .engines, .bursts, .portReg, .cistern, .origins, .log, .capFlag, .fwHeld, .devWake,
    .tunnel, .gate, .heldEv, .out] s (closePipe n soft started other s) := by
  unfold closePipe
  extract_lets +onlyGivenNames x0; refine Eff.via x0 ?_ (fun h0 => ?_); unfold x0; rotate_left; clear_value x0; rotate_left
  refine Eff.step unlink_eff ?_; refine Eff.step leaveHeld_eff ?_; exact Eff.refl _ _
  extract_lets +onlyGivenNames x4; extract_lets +onlyGivenNames x5; extract_lets +onlyGivenNames x6
  extract_lets +onlyGivenNames x7
  extract_lets +onlyGivenNames x8; refine Eff.via x8 ?_ (fun h8 => ?_); unfold x8; rotate_left; clear_value x8; rotate_left
  refine Eff.step unholdXfers_eff ?_; refine Eff.step modPipe_eff ?_; assumption; refine Eff.ite ?_ ?_; assumption
  extract_lets +onlyGivenNames x14; refine Eff.via x14 ?_ (fun h14 => ?_); unfold x14; rotate_left; clear_value x14; rotate_left
  refine Eff.step settleBurst_eff ?_; assumption
  extract_lets +onlyGivenNames x17; refine Eff.via x17 ?_ (fun h17 => ?_); unfold x17; rotate_left; clear_value x17; rotate_left
  refine Eff.step modPipe_eff ?_; assumption
  extract_lets +onlyGivenNames x20; refine Eff.via x20 ?_ (fun h20 => ?_); unfold x20; rotate_left; clear_value x20; rotate_left
  split; refine Eff.ite ?_ ?_; refine Eff.step freeTt_eff ?_; assumption; assumption; assumption
  extract_lets +onlyGivenNames x27; refine Eff.via x27 ?_ (fun h27 => ?_); unfold x27; rotate_left; clear_value x27; rotate_left
  split; refine Eff.step modXfer_eff ?_; assumption; assumption; refine Eff.step erasePipe_eff ?_
  refine Eff.step replyPipe_eff ?_; refine Eff.step endAll_eff ?_; assumption

theorem breakChain_eff {k : Nat} {x : Xfer} {c : Cpl} {s : State} : Eff [.l1, .reads, .msg, .fnMsg, .queues, .sched,
    .halves, .engines, .portReg, .cistern, .capFlag, .devWake, .tunnel, .gate, .heldEv, .out] s (breakChain k x c s) := by
  unfold breakChain
  split; extract_lets +onlyGivenNames x1
  extract_lets +onlyGivenNames x2; refine Eff.via x2 ?_ (fun h2 => ?_); unfold x2; rotate_left; clear_value x2; rotate_left
  exact Eff.refl _ _; refine Eff.upd ?_; exact Eff.refl _ _
  extract_lets +onlyGivenNames x6; refine Eff.via x6 ?_ (fun h6 => ?_); unfold x6; rotate_left; clear_value x6; rotate_left
  refine Eff.step modXfer_eff ?_; refine Eff.step cutPages_eff ?_; refine Eff.step unbind_eff ?_; assumption
  extract_lets +onlyGivenNames x11; refine Eff.via x11 ?_ (fun h11 => ?_); unfold x11; rotate_left; clear_value x11; rotate_left
  split; refine Eff.step detach_eff ?_; assumption; assumption
  extract_lets +onlyGivenNames x16; refine Eff.via x16 ?_ (fun h16 => ?_); unfold x16; rotate_left; clear_value x16; rotate_left
  refine Eff.step complete_eff ?_; assumption
  extract_lets +onlyGivenNames x19; refine Eff.via x19 ?_ (fun h19 => ?_); unfold x19; rotate_left; clear_value x19; rotate_left
  refine Eff.ite ?_ ?_; refine Eff.step leaveWord_eff ?_; assumption; assumption; refine Eff.step progress_eff ?_
  refine Eff.step endFollowers_eff ?_; split; refine Eff.step unblock_eff ?_; assumption; assumption

theorem ackJob_eff {k : Nat} {p : PumpReg} {s : State} : Eff [.l1, .reads, .msg, .fnMsg, .queues, .sched, .halves,
    .engines, .bursts, .portReg, .cistern, .capFlag, .devWake, .tunnel, .gate, .heldEv, .out] s (ackJob k p s) := by
  unfold ackJob
  split; extract_lets +onlyGivenNames x1; refine Eff.ite ?_ ?_; refine Eff.step breakChain_eff ?_
  exact Eff.refl _ _; split; refine Eff.ite ?_ ?_; refine Eff.step endXfer_eff ?_; exact Eff.refl _ _
  refine Eff.ite ?_ ?_; refine Eff.step modXfer_eff ?_; refine Eff.step unbind_eff ?_; exact Eff.refl _ _
  refine Eff.step endXfer_eff ?_; refine Eff.step finishBurst_eff ?_; exact Eff.refl _ _
  refine Eff.step endXfer_eff ?_; exact Eff.refl _ _; exact Eff.refl _ _

theorem drainBurst_eff {n k : Nat} {s : State} : Eff [.l1, .reads, .msg, .fnMsg, .queues, .sched, .halves, .engines,
    .bursts, .portReg, .cistern, .capFlag, .devWake, .tunnel, .gate, .heldEv, .out] s (drainBurst n k s) := by
  unfold drainBurst
  refine Eff.ite ?_ ?_; refine Eff.step progress_eff ?_; refine Eff.step unpause_eff ?_; exact Eff.refl _ _; split
  refine Eff.ite ?_ ?_; exact Eff.refl _ _; refine Eff.step finishBurst_eff ?_; exact Eff.refl _ _
  refine Eff.step drainCheck_eff ?_; exact Eff.refl _ _

theorem drainXfer_eff {k : Nat} {s : State} : Eff [.l1, .reads, .msg, .fnMsg, .queues, .sched, .halves, .engines,
    .bursts, .portReg, .cistern, .capFlag, .devWake, .tunnel, .gate, .heldEv, .out] s (drainXfer k s) := by
  unfold drainXfer
  split; split; refine Eff.ite ?_ ?_; refine Eff.step ackJob_eff ?_; exact Eff.refl _ _; refine Eff.ite ?_ ?_
  refine Eff.step endXfer_eff ?_; exact Eff.refl _ _; split; refine Eff.step drainBurst_eff ?_; exact Eff.refl _ _
  exact Eff.refl _ _; split; refine Eff.step drainBurst_eff ?_; exact Eff.refl _ _; refine Eff.step endXfer_eff ?_
  exact Eff.refl _ _; exact Eff.refl _ _

theorem drainEntries_eff {q : Nat} {s : State} : Eff [.l1, .reads, .msg, .fnMsg, .queues, .sched, .halves, .engines,
    .bursts, .portReg, .cistern, .capFlag, .devWake, .tunnel, .gate, .heldEv, .out] s (drainEntries q s) := by
  unfold drainEntries
  split; exact Eff.refl _ _; extract_lets +onlyGivenNames x2; extract_lets +onlyGivenNames x3
  extract_lets +onlyGivenNames x4; extract_lets +onlyGivenNames x5; extract_lets +onlyGivenNames x6
  extract_lets +onlyGivenNames x7; refine Eff.via x7 ?_ (fun h7 => ?_); unfold x7; rotate_left; clear_value x7; rotate_left
  refine Eff.foldl (fun _ _ => ?_) ?_ _; extract_lets +onlyGivenNames x9
  extract_lets +onlyGivenNames x10; refine Eff.via x10 ?_ (fun h10 => ?_); unfold x10; rotate_left; clear_value x10; rotate_left
  exact Eff.refl _ _
  extract_lets +onlyGivenNames x12; refine Eff.via x12 ?_ (fun h12 => ?_); unfold x12; rotate_left; clear_value x12; rotate_left
  refine Eff.step freeXfer_eff ?_; exact Eff.refl _ _; clear_value x9; split; refine Eff.step modPipe_eff ?_
  assumption; assumption; refine Eff.foldl (fun _ _ => ?_) ?_ _; split; refine Eff.step detach_eff ?_
  exact Eff.refl _ _; exact Eff.refl _ _; assumption; extract_lets +onlyGivenNames x26
  extract_lets +onlyGivenNames x27
  extract_lets +onlyGivenNames x28; refine Eff.via x28 ?_ (fun h28 => ?_); unfold x28; rotate_left; clear_value x28; rotate_left
  refine Eff.upd ?_; assumption
  extract_lets +onlyGivenNames x31; refine Eff.via x31 ?_ (fun h31 => ?_); unfold x31; rotate_left; clear_value x31; rotate_left
  refine Eff.step modQueue_eff ?_; assumption
  extract_lets +onlyGivenNames x34; refine Eff.via x34 ?_ (fun h34 => ?_); unfold x34; rotate_left; clear_value x34; rotate_left
  refine Eff.foldl (fun _ _ => ?_) ?_ _; refine Eff.step nextHead_eff ?_; exact Eff.refl _ _; assumption
  refine Eff.step tellRoom_eff ?_; refine Eff.step retryBlocked_eff ?_; refine Eff.foldl (fun _ _ => ?_) ?_ _
  refine Eff.step drainXfer_eff ?_; exact Eff.refl _ _; assumption

theorem admDepth_eff {v : Word} {s : State} : Eff [.queues, .tunnel] s (admDepth v s) := by
  unfold admDepth
  refine Eff.step modQueue_eff ?_; exact Eff.refl _ _

theorem adminEnable_eff {v : Word} {s : State} : Eff [.l1, .reads, .msg, .fnMsg, .queues, .tunnel, .gate, .out] s
    (adminEnable v s) := by
  unfold adminEnable
  refine Eff.ite ?_ ?_; exact Eff.refl _ _; refine Eff.ite ?_ ?_; refine Eff.step enableQueue_eff ?_
  refine Eff.step admDepth_eff ?_; exact Eff.refl _ _; exact Eff.refl _ _

theorem adminDisable_eff {v : Word} {s : State} : Eff [.l1, .reads, .msg, .fnMsg, .queues, .sched, .halves,
    .engines, .bursts, .portReg, .cistern, .capFlag, .devWake, .tunnel, .gate, .heldEv, .out] s (adminDisable v s) := by
  unfold adminDisable
  split; refine Eff.step admDepth_eff ?_; exact Eff.refl _ _; refine disableQueue_eff (fun _ => ?_) ?_
  refine Eff.step drainEntries_eff ?_; exact Eff.refl _ _; exact Eff.refl _ _
  refine disableQueue_eff (fun _ => ?_) ?_; refine Eff.step drainEntries_eff ?_; exact Eff.refl _ _
  exact Eff.refl _ _; exact Eff.refl _ _

end Sys2Proof.Machine
end

