-- ==== Sys2Proof/Laws/PortOpsEff.lean ====
section
/-! SUPPORT. What each operation of Machine/PortOps.lean can change: one lemma per function. -/

set_option Elab.async false

namespace Sys2Proof.Machine

open Sys2Proof

theorem portChange_eff {p h : Nat} {is : List Nat} {old cause closed : Nat} {s : State} : Eff [.l1, .msg, .fnMsg,
    .queues, .tunnel, .gate, .heldEv, .out] s (portChange p h is old cause closed s) := by
  unfold portChange
  extract_lets +onlyGivenNames x0; refine Eff.step events_eff ?_; exact Eff.refl _ _

theorem portWake_eff {p h : Nat} {is : List Nat} {host unit' fw aband failed : Bool} {s : State} : Eff [.l1, .msg,
    .fnMsg, .queues, .tunnel, .gate, .heldEv, .out] s (portWake p h is host unit' fw aband failed s) := by
  unfold portWake
  extract_lets +onlyGivenNames x0; refine Eff.step events_eff ?_; exact Eff.refl _ _

theorem resumeWake_eff {p h : Nat} {is : List Nat} {aband failed : Bool} {s : State} : Eff [.l1, .msg, .fnMsg,
    .queues, .tunnel, .gate, .heldEv, .out] s (resumeWake p h is aband failed s) := by
  unfold resumeWake
  extract_lets +onlyGivenNames x0; refine Eff.step portWake_eff ?_; exact Eff.refl _ _

theorem leaveMode1_eff {p : Nat} {s : State} : Eff [.l1, .msg, .fnMsg, .queues, .portTime, .tunnel, .gate, .heldEv,
    .out] s (leaveMode1 p s) := by
  unfold leaveMode1
  refine Eff.ite ?_ ?_; refine Eff.step timebaseEvent_eff ?_; refine Eff.step modPtime_eff ?_; exact Eff.refl _ _
  exact Eff.refl _ _

theorem freeUnit_eff {p a : Nat} {s : State} : Eff [.l1, .msg, .fnMsg, .queues, .units, .portTime, .tunnel, .gate,
    .heldEv, .out] s (freeUnit p a s) := by
  unfold freeUnit
  split
  extract_lets +onlyGivenNames x1; refine Eff.via x1 ?_ (fun h1 => ?_); unfold x1; rotate_left; clear_value x1; rotate_left
  exact Eff.refl _ _; refine modPort_eff ?_ (fun _ => {}); exact Eff.refl _ _; refine Eff.ite ?_ ?_
  refine Eff.step leaveMode1_eff ?_; assumption; assumption

theorem freeHalf_eff {p h : Nat} {s : State} : Eff [.l1, .msg, .fnMsg, .queues, .units, .portTime, .tunnel, .gate,
    .heldEv, .out] s (freeHalf p h s) := by
  unfold freeHalf
  refine Eff.foldl (fun _ _ => ?_) ?_ _; refine Eff.step freeUnit_eff ?_; exact Eff.refl _ _; exact Eff.refl _ _

theorem closePipes_eff {ns : List Nat} {soft : Bool} {status errinfo : Nat} {s : State} : Eff [.l1, .reads, .msg,
    .fnMsg, .queues, .sched, .halves, .engines, .bursts, .portReg, .cistern, .origins, .log, .capFlag, .fwHeld,
    .devWake, .tunnel, .gate, .heldEv, .out] s (closePipes ns soft status errinfo s) := by
  unfold closePipes
  refine Eff.foldl (fun _ _ => ?_) ?_ _; split; extract_lets +onlyGivenNames x2; refine Eff.step closePipe_eff ?_
  exact Eff.refl _ _; exact Eff.refl _ _; exact Eff.refl _ _

theorem endSet_eff {p : Port} {h : Half} {status : Nat} {s : State} : Eff [.l1, .msg, .fnMsg, .queues, .units,
    .engines, .devWake, .tunnel, .gate, .heldEv, .out] s (endSet p h status s) := by
  unfold endSet
  split
  extract_lets +onlyGivenNames x1; refine Eff.via x1 ?_ (fun h1 => ?_); unfold x1; rotate_left; clear_value x1; rotate_left
  exact Eff.refl _ _; refine modEngine_keep ?_ (fun _ => rfl); exact Eff.refl _ _
  extract_lets +onlyGivenNames x5; refine Eff.via x5 ?_ (fun h5 => ?_); unfold x5; rotate_left; clear_value x5; rotate_left
  refine modPort_eff ?_ (fun _ => {}); assumption; refine Eff.step reply_eff ?_; assumption

theorem closeHalf_eff {p : Port} {h : Half} {status errinfo : Nat} {s : State} : Eff [.l1, .reads, .msg, .fnMsg,
    .queues, .sched, .halves, .units, .engines, .bursts, .portReg, .portTime, .cistern, .origins, .log, .capFlag,
    .fwHeld, .devWake, .tunnel, .gate, .heldEv, .out] s (closeHalf p h status errinfo s).1 := by
  unfold closeHalf
  extract_lets +onlyGivenNames x0; extract_lets +onlyGivenNames x1; extract_lets +onlyGivenNames x2
  extract_lets +onlyGivenNames x3
  extract_lets +onlyGivenNames x4; refine Eff.via x4 ?_ (fun h4 => ?_); unfold x4; rotate_left; clear_value x4; rotate_left
  refine Eff.ite ?_ ?_; refine Eff.step portOrigin_eff ?_; exact Eff.refl _ _; exact Eff.refl _ _
  extract_lets +onlyGivenNames x9; refine Eff.via x9 ?_ (fun h9 => ?_); unfold x9; rotate_left; clear_value x9; rotate_left
  refine Eff.step closePipes_eff ?_; assumption
  extract_lets +onlyGivenNames x12; refine Eff.via x12 ?_ (fun h12 => ?_); unfold x12; rotate_left; clear_value x12; rotate_left
  refine Eff.ite ?_ ?_; assumption; refine Eff.step portOrigin_eff ?_; assumption
  extract_lets +onlyGivenNames x17; refine Eff.via x17 ?_ (fun h17 => ?_); unfold x17; rotate_left; clear_value x17; rotate_left
  split; refine Eff.ite ?_ ?_; assumption; refine Eff.step echo_eff ?_; assumption; assumption
  extract_lets +onlyGivenNames x24; refine Eff.via x24 ?_ (fun h24 => ?_); unfold x24; rotate_left; clear_value x24; rotate_left
  refine Eff.step endWalk_eff ?_; assumption; dsimp only; refine Eff.step freeHalf_eff ?_
  refine Eff.step endSet_eff ?_; assumption

theorem probeResult_eff {key : Nat} {w : Walk} {a : ProbeAnswer} {s : State} : Eff [.l1, .reads, .msg, .fnMsg,
    .queues, .sched, .halves, .engines, .portReg, .cistern, .origins, .sumpFlags, .log, .capFlag, .fwHeld, .devWake,
    .tunnel, .gate, .heldEv, .out] s (probeResult key w a s) := by
  unfold probeResult
  refine Eff.ite ?_ ?_; refine Eff.step endWalk_eff ?_; refine Eff.step portWalk_eff ?_; exact Eff.refl _ _
  refine Eff.step probeEnd_eff ?_; exact Eff.refl _ _

theorem leaveWalk_eff {p : Port} {h : Half} {s : State} : Eff [.l1, .reads, .msg, .fnMsg, .queues, .sched, .halves,
    .engines, .portReg, .cistern, .origins, .log, .capFlag, .fwHeld, .devWake, .tunnel, .gate, .heldEv, .out] s
    (leaveWalk p h s) := by
  unfold leaveWalk
  split; refine Eff.ite ?_ ?_; exact Eff.refl _ _; refine Eff.step endWalk_eff ?_; refine Eff.step portWalk_eff ?_
  exact Eff.refl _ _; exact Eff.refl _ _

theorem reachEnabled_eff {p : Port} {h : Half} {s : State} : Eff [.l1, .msg, .fnMsg, .queues, .origins, .log,
    .fwHeld, .tunnel, .gate, .heldEv, .out] s (reachEnabled p h s) := by
  unfold reachEnabled
  extract_lets +onlyGivenNames x0; refine Eff.ite ?_ ?_; refine Eff.step freeClosed_eff ?_; exact Eff.refl _ _
  exact Eff.refl _ _

theorem goHalf_eff {p : Port} {h : Half} {st : HalfSt} {fs : List HFlag} {cause : Nat} {close : Option (Nat × Nat)}
    {s : State} : Eff [.l1, .reads, .msg, .fnMsg, .queues, .sched, .halves, .units, .engines, .bursts, .portReg,
    .portTime, .cistern, .origins, .log, .capFlag, .fwHeld, .devWake, .tunnel, .gate, .heldEv, .out] s (goHalf p h
    st fs cause close s) := by
  unfold goHalf
  extract_lets +onlyGivenNames x0; extract_lets +onlyGivenNames x1
  extract_lets +onlyGivenNames x2; refine Eff.via x2.1 ?_ (fun h2 => ?_); unfold x2; rotate_left; clear_value x2; rotate_left
  split; refine Eff.step closeHalf_eff ?_; exact Eff.refl _ _; dsimp only; exact Eff.refl _ _
  extract_lets +onlyGivenNames x8; refine Eff.via x8 ?_ (fun h8 => ?_); unfold x8; rotate_left; clear_value x8; rotate_left
  refine Eff.step modHalf_eff ?_; assumption
  extract_lets +onlyGivenNames x11; refine Eff.via x11 ?_ (fun h11 => ?_); unfold x11; rotate_left; clear_value x11; rotate_left
  refine Eff.ite ?_ ?_; refine Eff.step idleStart_eff ?_; refine Eff.step reachEnabled_eff ?_; assumption
  refine Eff.step leaveWalk_eff ?_; assumption; refine Eff.ite ?_ ?_; assumption; refine Eff.step portChange_eff ?_
  assumption

theorem halfOn_eff {p : Port} {h : Half} {s : State} : Eff [.l1, .reads, .msg, .fnMsg, .queues, .sched, .halves,
    .units, .engines, .bursts, .portReg, .portTime, .cistern, .origins, .log, .capFlag, .fwHeld, .devWake, .tunnel,
    .gate, .heldEv, .out] s (halfOn p h s) := by
  unfold halfOn
  refine Eff.ite ?_ ?_; refine Eff.step goHalf_eff ?_; exact Eff.refl _ _; exact Eff.refl _ _

theorem halfOff_eff {p : Port} {h : Half} {ei : Nat} {s : State} : Eff [.l1, .reads, .msg, .fnMsg, .queues, .sched,
    .halves, .units, .engines, .bursts, .portReg, .portTime, .cistern, .origins, .log, .capFlag, .fwHeld, .devWake,
    .tunnel, .gate, .heldEv, .out] s (halfOff p h ei s) := by
  unfold halfOff
  split; exact Eff.refl _ _; refine Eff.step goHalf_eff ?_; exact Eff.refl _ _; refine Eff.step goHalf_eff ?_
  exact Eff.refl _ _; refine Eff.step goHalf_eff ?_; exact Eff.refl _ _; refine Eff.step goHalf_eff ?_
  exact Eff.refl _ _; refine Eff.step goHalf_eff ?_; exact Eff.refl _ _; refine Eff.step goHalf_eff ?_
  refine Eff.step resumeWake_eff ?_; exact Eff.refl _ _

theorem portPower_eff {p : Port} {detach : Bool} {s : State} : Eff [.l1, .reads, .msg, .fnMsg, .queues, .sched,
    .halves, .units, .engines, .bursts, .portReg, .portTime, .cistern, .origins, .log, .capFlag, .fwHeld, .devWake,
    .tunnel, .gate, .heldEv, .out] s (portPower p detach s) := by
  unfold portPower
  extract_lets +onlyGivenNames x0; refine Eff.ite ?_ ?_; exact Eff.refl _ _; extract_lets +onlyGivenNames x3
  extract_lets +onlyGivenNames x4; refine Eff.via x4 ?_ (fun h4 => ?_); unfold x4; rotate_left; clear_value x4; rotate_left
  refine modPort_eff ?_ (fun _ => {}); exact Eff.refl _ _; refine Eff.ite ?_ ?_; assumption; refine Eff.ite ?_ ?_
  refine Eff.step halfOn_eff ?_; refine Eff.step halfOn_eff ?_; assumption; refine Eff.step halfOff_eff ?_
  refine Eff.step halfOff_eff ?_; assumption

end Sys2Proof.Machine
end

