-- ==== Sys2Proof/Laws/PumpsEff.lean ====
section
/-! SUPPORT. What each operation of Machine/Pumps.lean can change: one lemma per function. -/

set_option Elab.async false

namespace Sys2Proof.Machine

open Sys2Proof

theorem haltEvent_eff {n : Nat} {x : Xfer} {s : State} : Eff [.l1, .msg, .fnMsg, .queues, .log, .fwHeld, .tunnel,
    .gate, .heldEv, .out] s (haltEvent n x s) := by
  unfold haltEvent
  extract_lets +onlyGivenNames x0; extract_lets +onlyGivenNames x1; extract_lets +onlyGivenNames x2
  refine Eff.step logRec_eff ?_; refine Eff.step events_eff ?_; exact Eff.refl _ _

theorem haltChan_eff {n : Nat} {x : Xfer} {addr kind : Nat} {zero : Bool} {s : State} : Eff [.l1, .msg, .fnMsg,
    .queues, .cistern, .log, .fwHeld, .tunnel, .gate, .heldEv, .out] s (haltChan n x addr kind zero s) := by
  unfold haltChan
  extract_lets +onlyGivenNames x0; refine Eff.via x0 ?_ (fun h0 => ?_); unfold x0; rotate_left; clear_value x0; rotate_left
  refine Eff.step modPump_eff ?_; exact Eff.refl _ _; refine Eff.step haltEvent_eff ?_; assumption

theorem bind_eff {n k : Nat} {x : Xfer} {s : State} : Eff [.cistern] s (bind n k x s) := by
  unfold bind
  extract_lets +onlyGivenNames x0; refine Eff.via x0 ?_ (fun h0 => ?_); unfold x0; rotate_left; clear_value x0; rotate_left
  refine Eff.step dequeueJob_eff ?_; exact Eff.refl _ _; extract_lets +onlyGivenNames x3
  extract_lets +onlyGivenNames x4; refine Eff.via x4 ?_ (fun h4 => ?_); unfold x4; rotate_left; clear_value x4; rotate_left
  refine Eff.step setXfer_eff ?_; assumption; extract_lets +onlyGivenNames x7
  extract_lets +onlyGivenNames x8; refine Eff.via x8 ?_ (fun h8 => ?_); unfold x8; rotate_left; clear_value x8; rotate_left
  refine Eff.step modPump_eff ?_; assumption
  extract_lets +onlyGivenNames x11; refine Eff.via x11 ?_ (fun h11 => ?_); unfold x11; rotate_left; clear_value x11; rotate_left
  split; refine Eff.step setXfer_eff ?_; assumption; assumption; refine Eff.step askPages_eff ?_; assumption

theorem expire_eff {k : Nat} {high : Bool} {s : State} : Eff [.l1, .msg, .fnMsg, .queues, .cistern, .capFlag,
    .devWake, .tunnel, .gate, .heldEv, .out] s (expire k high s) := by
  unfold expire
  extract_lets +onlyGivenNames x0; refine Eff.via x0 ?_ (fun h0 => ?_); unfold x0; rotate_left; clear_value x0; rotate_left
  refine Eff.step unbind_eff ?_; exact Eff.refl _ _; refine Eff.ite ?_ ?_; refine Eff.upd ?_; assumption
  refine Eff.upd ?_; assumption

theorem doRead_eff {k : Nat} {x : Xfer} {w : Want} {s : State} : Eff [.l1, .reads, .queues, .cistern, .tunnel,
    .gate, .out] s (doRead k x w s) := by
  unfold doRead
  extract_lets +onlyGivenNames x0; extract_lets +onlyGivenNames x1; extract_lets +onlyGivenNames x2
  extract_lets +onlyGivenNames x3; refine Eff.via x3 ?_ (fun h3 => ?_); unfold x3; rotate_left; clear_value x3; rotate_left
  refine Eff.step setXfer_eff ?_; exact Eff.refl _ _; extract_lets +onlyGivenNames x6
  extract_lets +onlyGivenNames x7; refine Eff.via x7 ?_ (fun h7 => ?_); unfold x7; rotate_left; clear_value x7; rotate_left
  refine Eff.upd ?_; assumption
  extract_lets +onlyGivenNames x10; refine Eff.via x10 ?_ (fun h10 => ?_); unfold x10; rotate_left; clear_value x10; rotate_left
  refine Eff.step markStarted_eff ?_; assumption; refine Eff.step askPages_eff ?_; refine Eff.step issueRead_eff ?_
  assumption

theorem pumpRead_eff {n : Nat} {s : State} : Eff [.l1, .reads, .queues, .cistern, .tunnel, .gate, .out] s (pumpRead
    n s) := by
  unfold pumpRead
  split; extract_lets +onlyGivenNames x1
  extract_lets +onlyGivenNames x2; refine Eff.via x2 ?_ (fun h2 => ?_); unfold x2; rotate_left; clear_value x2; rotate_left
  exact Eff.refl _ _; refine Eff.ite ?_ ?_; exact Eff.refl _ _; refine Eff.upd ?_; exact Eff.refl _ _
  refine Eff.step doRead_eff ?_; assumption

theorem countMoved_eff {k n : Nat} {s : State} : Eff [.cistern] s (countMoved k n s) := by
  unfold countMoved
  split
  extract_lets +onlyGivenNames x1; refine Eff.via x1 ?_ (fun h1 => ?_); unfold x1; rotate_left; clear_value x1; rotate_left
  exact Eff.refl _ _; refine Eff.step setXfer_eff ?_; exact Eff.refl _ _; split; refine Eff.step modPump_eff ?_
  assumption; assumption

theorem countLoaded_eff {k n : Nat} {x : Xfer} {s : State} : Eff [.cistern] s (countLoaded k n x s) := by
  unfold countLoaded
  refine Eff.ite ?_ ?_; refine Eff.step countMoved_eff ?_; exact Eff.refl _ _; exact Eff.refl _ _

theorem land_eff {k : Nat} {x : Xfer} {r : JobRead} {bs : List Byte} {s : State} : Eff [.cistern] s (land k x r bs
    s) := by
  unfold land
  split; refine Eff.step countLoaded_eff ?_; refine Eff.step setXfer_eff ?_; exact Eff.refl _ _
  extract_lets +onlyGivenNames x4; split; extract_lets +onlyGivenNames x6; extract_lets +onlyGivenNames x7
  refine Eff.ite ?_ ?_; extract_lets +onlyGivenNames x9; extract_lets +onlyGivenNames x10
  extract_lets +onlyGivenNames x11; refine Eff.step countLoaded_eff ?_; refine Eff.step setXfer_eff ?_
  exact Eff.refl _ _; refine Eff.step setXfer_eff ?_; exact Eff.refl _ _; refine Eff.step setXfer_eff ?_
  exact Eff.refl _ _

theorem removeDone_eff {n : Nat} {s : State} : Eff [.l1, .msg, .fnMsg, .queues, .cistern, .capFlag, .devWake,
    .tunnel, .gate, .heldEv, .out] s (removeDone n s) := by
  unfold removeDone
  extract_lets +onlyGivenNames x0; refine Eff.ite ?_ ?_; exact Eff.refl _ _; split
  extract_lets +onlyGivenNames x4; refine Eff.via x4 ?_ (fun h4 => ?_); unfold x4; rotate_left; clear_value x4; rotate_left
  refine Eff.step pumpOff_eff ?_; exact Eff.refl _ _; refine Eff.step modPump_eff ?_; refine Eff.step modXfer_eff ?_
  exact Eff.refl _ _; extract_lets +onlyGivenNames x10
  extract_lets +onlyGivenNames x11; refine Eff.via x11 ?_ (fun h11 => ?_); unfold x11; rotate_left; clear_value x11; rotate_left
  split; refine Eff.ite ?_ ?_; assumption; refine Eff.ite ?_ ?_; refine Eff.upd ?_; assumption; refine Eff.upd ?_
  assumption; assumption; refine Eff.step pumpOff_eff ?_; assumption

theorem pauseCheck_eff {n : Nat} {s : State} : Eff [.l1, .msg, .fnMsg, .queues, .cistern, .capFlag, .devWake,
    .tunnel, .gate, .heldEv, .out] s (pauseCheck n s) := by
  unfold pauseCheck
  extract_lets +onlyGivenNames x0; refine Eff.ite ?_ ?_; exact Eff.refl _ _; split; refine Eff.ite ?_ ?_
  refine Eff.step removeDone_eff ?_; refine Eff.step modPump_eff ?_; exact Eff.refl _ _; exact Eff.refl _ _
  refine Eff.step removeDone_eff ?_; refine Eff.step modPump_eff ?_; exact Eff.refl _ _

theorem readFail_eff {k : Nat} {x : Xfer} {r : JobRead} {kind : Nat} {s : State} : Eff [.l1, .msg, .fnMsg, .queues,
    .sched, .cistern, .log, .fwHeld, .devWake, .tunnel, .gate, .heldEv, .out] s (readFail k x r kind s) := by
  unfold readFail
  extract_lets +onlyGivenNames x0; split; extract_lets +onlyGivenNames x2; refine Eff.ite ?_ ?_
  refine Eff.ite ?_ ?_; refine Eff.step modPump_eff ?_; exact Eff.refl _ _; exact Eff.refl _ _
  refine Eff.step haltChan_eff ?_; exact Eff.refl _ _; extract_lets +onlyGivenNames x10
  refine Eff.step queueJob_eff ?_; refine Eff.step setXfer_eff ?_; exact Eff.refl _ _

theorem pumpReturn_eff {k num : Nat} {o : OutRead} {a : ReadAnswer} {s : State} : Eff [.l1, .herr, .reads, .msg,
    .fnErr, .fnMsg, .queues, .sched, .cistern, .log, .capFlag, .fwHeld, .devWake, .tunnel, .gate, .heldEv,
    .freeCount, .out] s (pumpReturn k num o a s) := by
  unfold pumpReturn
  extract_lets +onlyGivenNames x0; refine Eff.via x0 ?_ (fun h0 => ?_); unfold x0; rotate_left; clear_value x0; rotate_left
  refine Eff.step retireRead_eff ?_; exact Eff.refl _ _; extract_lets +onlyGivenNames x3
  extract_lets +onlyGivenNames x4; refine Eff.via x4 ?_ (fun h4 => ?_); unfold x4; rotate_left; clear_value x4; rotate_left
  refine Eff.upd ?_; assumption; refine Eff.ite ?_ ?_; assumption
  extract_lets +onlyGivenNames x9; refine Eff.via x9 ?_ (fun h9 => ?_); unfold x9; rotate_left; clear_value x9; rotate_left
  split; refine Eff.step hostError_eff ?_; assumption; assumption; refine Eff.ite ?_ ?_; assumption; split
  assumption; split; assumption; extract_lets +onlyGivenNames x20
  extract_lets +onlyGivenNames x21; refine Eff.via x21 ?_ (fun h21 => ?_); unfold x21; rotate_left; clear_value x21; rotate_left
  refine Eff.step setXfer_eff ?_; assumption; split; refine Eff.step readFail_eff ?_; assumption
  extract_lets +onlyGivenNames x27; refine Eff.via x27 ?_ (fun h27 => ?_); unfold x27; rotate_left; clear_value x27; rotate_left
  refine Eff.step land_eff ?_; assumption
  extract_lets +onlyGivenNames x30; refine Eff.via x30 ?_ (fun h30 => ?_); unfold x30; rotate_left; clear_value x30; rotate_left
  split; refine Eff.step unblock_eff ?_; assumption; assumption; split; refine Eff.step pauseCheck_eff ?_
  refine Eff.step settleJob_eff ?_; assumption; refine Eff.step queueJob_eff ?_; assumption

theorem preempt_eff {s : State} : Eff [.cistern] s (preempt s) := by
  unfold preempt
  extract_lets +onlyGivenNames x0
  extract_lets +onlyGivenNames x1; refine Eff.via x1 ?_ (fun h1 => ?_); unfold x1; rotate_left; clear_value x1; rotate_left
  refine Eff.foldl (fun _ _ => ?_) ?_ _; refine Eff.step modPump_eff ?_; exact Eff.refl _ _; exact Eff.refl _ _
  refine Eff.upd ?_; assumption

theorem writeOut_eff {n k : Nat} {x : Xfer} {w : Write} {s : State} : Eff [.l1, .reads, .msg, .fnMsg, .queues,
    .sched, .halves, .engines, .portReg, .cistern, .capFlag, .devWake, .tunnel, .gate, .heldEv, .out] s (writeOut n
    k x w s) := by
  unfold writeOut
  extract_lets +onlyGivenNames x0; refine Eff.via x0 ?_ (fun h0 => ?_); unfold x0; rotate_left; clear_value x0; rotate_left
  refine Eff.step tlp_eff ?_; exact Eff.refl _ _
  extract_lets +onlyGivenNames x3; refine Eff.via x3 ?_ (fun h3 => ?_); unfold x3; rotate_left; clear_value x3; rotate_left
  refine Eff.step modPump_eff ?_; assumption
  extract_lets +onlyGivenNames x6; refine Eff.via x6 ?_ (fun h6 => ?_); unfold x6; rotate_left; clear_value x6; rotate_left
  refine Eff.step countMoved_eff ?_; refine Eff.step setXfer_eff ?_; assumption
  extract_lets +onlyGivenNames x10; refine Eff.via x10 ?_ (fun h10 => ?_); unfold x10; rotate_left; clear_value x10; rotate_left
  refine Eff.step markStarted_eff ?_; assumption
  extract_lets +onlyGivenNames x13; refine Eff.via x13 ?_ (fun h13 => ?_); unfold x13; rotate_left; clear_value x13; rotate_left
  refine Eff.step turnPages_eff ?_; assumption; refine Eff.step pauseCheck_eff ?_; refine Eff.step progress_eff ?_
  assumption

theorem pumpBeat_eff {n : Nat} {s : State} : Eff [.l1, .reads, .msg, .fnMsg, .queues, .sched, .halves, .engines,
    .portReg, .cistern, .capFlag, .devWake, .tunnel, .gate, .heldEv, .out] s (pumpBeat n s) := by
  unfold pumpBeat
  split; exact Eff.refl _ _; extract_lets +onlyGivenNames x2
  extract_lets +onlyGivenNames x3; refine Eff.via x3 ?_ (fun h3 => ?_); unfold x3; rotate_left; clear_value x3; rotate_left
  refine Eff.ite ?_ ?_; refine Eff.step preempt_eff ?_; refine Eff.upd ?_; exact Eff.refl _ _; refine Eff.upd ?_
  exact Eff.refl _ _; extract_lets +onlyGivenNames x10
  extract_lets +onlyGivenNames x11; refine Eff.via x11 ?_ (fun h11 => ?_); unfold x11; rotate_left; clear_value x11; rotate_left
  refine Eff.step modPump_eff ?_; assumption; extract_lets +onlyGivenNames x14; extract_lets +onlyGivenNames x15
  extract_lets +onlyGivenNames x16; refine Eff.via x16 ?_ (fun h16 => ?_); unfold x16; rotate_left; clear_value x16; rotate_left
  refine Eff.step setXfer_eff ?_; assumption; refine Eff.ite ?_ ?_; refine Eff.step writeOut_eff ?_; assumption
  assumption

theorem haltBehind_eff {n : Nat} {s : State} : Eff [.l1, .msg, .fnMsg, .queues, .sched, .halves, .engines, .bursts,
    .devWake, .tunnel, .gate, .out] s (haltBehind n s) := by
  unfold haltBehind
  split; refine Eff.ite ?_ ?_; exact Eff.refl _ _
  extract_lets +onlyGivenNames x3; refine Eff.via x3 ?_ (fun h3 => ?_); unfold x3; rotate_left; clear_value x3; rotate_left
  exact Eff.refl _ _; refine Eff.step clearErrs_eff ?_; refine Eff.step unlink_eff ?_
  refine Eff.step settleBurst_eff ?_; exact Eff.refl _ _
  extract_lets +onlyGivenNames x9; refine Eff.via x9 ?_ (fun h9 => ?_); unfold x9; rotate_left; clear_value x9; rotate_left
  refine Eff.step modPipe_eff ?_; assumption; refine Eff.ite ?_ ?_; refine Eff.step replyPipe_eff ?_; assumption
  assumption

theorem pageUe_eff {k : Nat} {x : Xfer} {staging again : Bool} {s : State} : Eff [.l1, .msg, .fnMsg, .queues, .cistern, .sumpFlags, .memErr, .log, .fwHeld, .tunnel, .gate, .heldEv, .out] s (pageUe k x staging again s) := by
  unfold pageUe raiseMemUe
  exact memErrEvent_eff.step (Eff.ite (Eff.upd (Eff.upd (Eff.refl _ _))) (Eff.upd (Eff.refl _ _)))

theorem badWord_eff {n k : Nat} {x : Xfer} {staging again : Bool} {s : State} : Eff [.l1, .reads, .msg, .fnMsg,
    .queues, .sched, .halves, .engines, .bursts, .portReg, .cistern, .sumpFlags, .memErr, .log, .capFlag, .fwHeld,
    .devWake, .tunnel, .gate, .heldEv, .out] s (badWord n k x staging again s) := by
  unfold badWord
  extract_lets +onlyGivenNames x0; refine Eff.via x0 ?_ (fun h0 => ?_); unfold x0; rotate_left; clear_value x0; rotate_left
  refine Eff.step pageUe_eff ?_; exact Eff.refl _ _
  extract_lets +onlyGivenNames x3; refine Eff.via x3 ?_ (fun h3 => ?_); unfold x3; rotate_left; clear_value x3; rotate_left
  refine Eff.step modPump_eff ?_; assumption
  extract_lets +onlyGivenNames x6; refine Eff.via x6 ?_ (fun h6 => ?_); unfold x6; rotate_left; clear_value x6; rotate_left
  refine Eff.step setXfer_eff ?_; assumption; split; refine Eff.ite ?_ ?_; refine Eff.step haltPipe_eff ?_
  refine Eff.step settleBurst_eff ?_; assumption; refine Eff.step haltBehind_eff ?_; refine Eff.step endXfer_eff ?_
  assumption; refine Eff.step endXfer_eff ?_; assumption

theorem pumpWrite_eff {n : Nat} {mem : PageAnswer} {s : State} : Eff [.l1, .reads, .msg, .fnMsg, .queues, .sched,
    .halves, .engines, .bursts, .portReg, .cistern, .sumpFlags, .memErr, .log, .capFlag, .fwHeld, .devWake, .tunnel,
    .gate, .heldEv, .out] s (pumpWrite n mem s) := by
  unfold pumpWrite
  split; split; refine Eff.step pumpBeat_eff ?_; exact Eff.refl _ _; refine Eff.step pumpBeat_eff ?_
  refine Eff.step countCe_eff ?_; exact Eff.refl _ _; refine Eff.step badWord_eff ?_; exact Eff.refl _ _
  refine Eff.step badWord_eff ?_; exact Eff.refl _ _; exact Eff.refl _ _

theorem haltOver_eff {n : Nat} {s : State} : Eff [.l1, .msg, .fnMsg, .queues, .cistern, .capFlag, .devWake, .tunnel,
    .gate, .heldEv, .out] s (haltOver n s) := by
  unfold haltOver
  refine Eff.step pumpOff_eff ?_; refine Eff.step modPump_eff ?_; exact Eff.refl _ _

theorem ackHalt_eff {n : Nat} {s : State} : Eff [.l1, .reads, .msg, .fnMsg, .queues, .sched, .halves, .engines,
    .bursts, .portReg, .cistern, .capFlag, .devWake, .tunnel, .gate, .heldEv, .out] s (ackHalt n s) := by
  unfold ackHalt
  extract_lets +onlyGivenNames x0; refine Eff.ite ?_ ?_; exact Eff.refl _ _; refine Eff.step haltOver_eff ?_; split
  refine Eff.step ackJob_eff ?_; exact Eff.refl _ _; exact Eff.refl _ _

theorem setPause_eff {n : Nat} {on : Bool} {s : State} : Eff [.l1, .msg, .fnMsg, .queues, .sched, .cistern,
    .capFlag, .devWake, .tunnel, .gate, .heldEv, .out] s (setPause n on s) := by
  unfold setPause
  extract_lets +onlyGivenNames x0; refine Eff.via x0 ?_ (fun h0 => ?_); unfold x0; rotate_left; clear_value x0; rotate_left
  refine Eff.step pauseCheck_eff ?_; refine Eff.step modPump_eff ?_; exact Eff.refl _ _; split; refine Eff.ite ?_ ?_
  refine Eff.step settleJob_eff ?_; assumption; assumption; assumption

theorem writePmpCtl_eff {n : Nat} {v : Word} {s : State} : Eff [.l1, .reads, .msg, .fnMsg, .queues, .sched, .halves,
    .engines, .bursts, .portReg, .cistern, .capFlag, .devWake, .tunnel, .gate, .heldEv, .out] s (writePmpCtl n v s) := by
  unfold writePmpCtl
  extract_lets +onlyGivenNames x0; refine Eff.via x0 ?_ (fun h0 => ?_); unfold x0; rotate_left; clear_value x0; rotate_left
  refine Eff.ite ?_ ?_; exact Eff.refl _ _; refine Eff.step setPause_eff ?_; exact Eff.refl _ _
  refine Eff.ite ?_ ?_; refine Eff.step ackHalt_eff ?_; assumption; assumption

theorem pmpAccess_eff {n : Nat} {v : Word} {s : State} : Eff [.l1, .reads, .msg, .fnMsg, .queues, .sched, .halves,
    .engines, .bursts, .portReg, .cistern, .acc, .log, .capFlag, .fwHeld, .devWake, .tunnel, .gate, .heldEv, .out] s
    (pmpAccess n v s) := by
  unfold pmpAccess
  refine Eff.ite ?_ ?_; refine Eff.step modPump_eff ?_; refine Eff.step offAccess_eff ?_
  refine Eff.step wakeLink_eff ?_; refine Eff.step ungate_eff ?_; exact Eff.refl _ _
  refine regWrite_eff (fun _ => ?_) ?_; refine Eff.step writePmpCtl_eff ?_; exact Eff.refl _ _; exact Eff.refl _ _

end Sys2Proof.Machine
end

