-- ==== Sys2Proof/Laws/InstancesEff.lean ====
section
/-! SUPPORT. What each operation of Machine/Instances.lean can change: one lemma per function. -/

set_option Elab.async false

namespace Sys2Proof.Machine

open Sys2Proof

theorem setInstSt_eff {i : Nat} {st : InstSt} {s : State} : Eff [.l1, .msg, .fnMsg, .queues, .instState, .tunnel,
    .gate, .heldEv, .out] s (setInstSt i st s) := by
  unfold setInstSt
  extract_lets +onlyGivenNames x0; refine Eff.ite ?_ ?_; exact Eff.refl _ _
  extract_lets +onlyGivenNames x3; refine Eff.via x3 ?_ (fun h3 => ?_); unfold x3; rotate_left; clear_value x3; rotate_left
  refine modInst_eff ?_ (fun _ => {}); exact Eff.refl _ _; extract_lets +onlyGivenNames x6
  refine Eff.step event_eff ?_; assumption

theorem judgeInst_eff {i : Nat} {s : State} : Eff [.l1, .msg, .fnMsg, .queues, .instState, .tunnel, .gate, .heldEv,
    .out] s (judgeInst i s) := by
  unfold judgeInst
  split; refine Eff.ite ?_ ?_; exact Eff.refl _ _; refine Eff.step setInstSt_eff ?_; exact Eff.refl _ _
  refine Eff.ite ?_ ?_; exact Eff.refl _ _; refine Eff.step setInstSt_eff ?_; exact Eff.refl _ _; exact Eff.refl _ _
  exact Eff.refl _ _

theorem quiesceJob_eff {k : Nat} {s : State} : Eff [.l1, .msg, .fnMsg, .queues, .cistern, .capFlag, .devWake,
    .tunnel, .gate, .heldEv, .out] s (quiesceJob k s) := by
  unfold quiesceJob
  split; refine Eff.ite ?_ ?_; refine Eff.step unbind_eff ?_; exact Eff.refl _ _; refine Eff.step modPump_eff ?_
  exact Eff.refl _ _; exact Eff.refl _ _

theorem quiesce_eff {i : Nat} {s : State} : Eff [.l1, .reads, .msg, .fnMsg, .queues, .sched, .halves, .engines,
    .bursts, .portReg, .cistern, .capFlag, .devWake, .tunnel, .gate, .heldEv, .out] s (quiesce i s) := by
  unfold quiesce
  extract_lets +onlyGivenNames x0; refine Eff.via x0 ?_ (fun h0 => ?_); unfold x0; rotate_left; clear_value x0; rotate_left
  refine Eff.foldl (fun _ _ => ?_) ?_ _; refine Eff.step quiesceJob_eff ?_; exact Eff.refl _ _; exact Eff.refl _ _
  refine Eff.foldl (fun _ _ => ?_) ?_ _; refine Eff.step withdrawUnsent_eff ?_; exact Eff.refl _ _; assumption

theorem reissueBarriers_eff {q : Nat} {x : Queue} {s : State} : Eff [.l1, .reads, .gate, .out] s (reissueBarriers q
    x s) := by
  unfold reissueBarriers
  refine Eff.foldl (fun _ _ => ?_) ?_ _; split; extract_lets +onlyGivenNames x2; refine Eff.ite ?_ ?_
  refine Eff.step issueRead_eff ?_; exact Eff.refl _ _; exact Eff.refl _ _; exact Eff.refl _ _; exact Eff.refl _ _

theorem resumeQueue_eff {q : Nat} {s : State} : Eff [.l1, .reads, .msg, .fnMsg, .queues, .devWake, .tunnel, .gate,
    .heldEv, .out] s (resumeQueue q s) := by
  unfold resumeQueue
  split
  extract_lets +onlyGivenNames x1; refine Eff.via x1 ?_ (fun h1 => ?_); unfold x1; rotate_left; clear_value x1; rotate_left
  exact Eff.refl _ _; refine Eff.step flush_eff ?_; refine Eff.step reissueBarriers_eff ?_; exact Eff.refl _ _
  extract_lets +onlyGivenNames x6; refine Eff.via x6 ?_ (fun h6 => ?_); unfold x6; rotate_left; clear_value x6; rotate_left
  refine Eff.ite ?_ ?_; refine Eff.step writeState_eff ?_; refine Eff.step writeHead_eff ?_; assumption; assumption
  extract_lets +onlyGivenNames x12; refine Eff.via x12 ?_ (fun h12 => ?_); unfold x12; rotate_left; clear_value x12; rotate_left
  refine Eff.ite ?_ ?_; refine Eff.step afterCell_eff ?_; assumption; assumption; refine Eff.step flushEvents_eff ?_
  assumption

theorem resume_eff {i : Nat} {s : State} : Eff [.l1, .reads, .msg, .fnMsg, .queues, .sched, .cistern, .devWake,
    .tunnel, .gate, .heldEv, .out] s (resume i s) := by
  unfold resume
  extract_lets +onlyGivenNames x0
  extract_lets +onlyGivenNames x1; refine Eff.via x1 ?_ (fun h1 => ?_); unfold x1; rotate_left; clear_value x1; rotate_left
  refine Eff.foldl (fun _ _ => ?_) ?_ _; refine Eff.step resumeQueue_eff ?_; exact Eff.refl _ _; exact Eff.refl _ _
  extract_lets +onlyGivenNames x6; refine Eff.via x6 ?_ (fun h6 => ?_); unfold x6; rotate_left; clear_value x6; rotate_left
  refine Eff.foldl (fun _ _ => ?_) ?_ _; refine Eff.step queueJob_eff ?_; exact Eff.refl _ _; assumption
  extract_lets +onlyGivenNames x11; refine Eff.via x11 ?_ (fun h11 => ?_); unfold x11; rotate_left; clear_value x11; rotate_left
  refine Eff.foldl (fun _ _ => ?_) ?_ _; refine Eff.step unblock_eff ?_; exact Eff.refl _ _; assumption
  refine Eff.step sendAll_eff ?_; refine Eff.step sendWaiting_eff ?_; assumption

theorem changeFn_eff {ps : List Part} {i : Nat} {g : Func → Func} {s t : State} (hs : Eff ps s t)
    (h : ∀ x, FuncUpd ps x (g x)) (sub : [.l1, .reads, .msg, .fnCfg, .fnMsg, .queues, .sched, .halves, .engines, .bursts, .portReg, .cistern, .instState, .capFlag, .devWake, .tunnel, .gate, .heldEv, .out] ⊆ ps := by decide) : Eff ps s (changeFn i g t) := by
  unfold changeFn
  have e : ∀ {qs}, qs ⊆ [.l1, .reads, .msg, .fnCfg, .fnMsg, .queues, .sched, .halves, .engines, .bursts, .portReg, .cistern, .instState, .capFlag, .devWake, .tunnel, .gate, .heldEv, .out] → qs ⊆ ps := fun k _ m => sub (k m)
  have h1 := modFn_eff (k := i) hs h
  extract_lets was x y z
  have hy : Eff ps s y := Eff.ite (quiesce_eff.step h1 (e (by decide))) h1
  have hz : Eff ps s z := judgeInst_eff.step hy (e (by decide))
  exact Eff.ite hz (Eff.ite (resume_eff.step hz (e (by decide))) (sendAll_eff.step hz (e (by decide))))

theorem endDrainCmd_eff {x : Queue} {s : State} : Eff [.l1, .msg, .fnMsg, .queues, .devWake, .tunnel, .gate,
    .heldEv, .out] s (endDrainCmd x s) := by
  unfold endDrainCmd
  split; refine Eff.step reply_eff ?_; exact Eff.refl _ _; exact Eff.refl _ _

theorem gateQueue_eff {q : Nat} {s : State} : Eff [.l1, .msg, .fnMsg, .queues, .devWake, .tunnel, .gate, .heldEv,
    .out] s (gateQueue q s) := by
  unfold gateQueue
  split
  extract_lets +onlyGivenNames x1; refine Eff.via x1 ?_ (fun h1 => ?_); unfold x1; rotate_left; clear_value x1; rotate_left
  exact Eff.refl _ _; refine Eff.step endDrainCmd_eff ?_; exact Eff.refl _ _; refine Eff.ite ?_ ?_
  refine Eff.step setQueue_eff ?_; assumption; refine Eff.step setQueue_eff ?_; assumption

theorem gatePipe_eff {n : Nat} {s : State} : Eff [.l1, .msg, .fnMsg, .queues, .sched, .halves, .engines, .bursts,
    .origins, .log, .fwHeld, .devWake, .tunnel, .gate, .heldEv, .out] s (gatePipe n s) := by
  unfold gatePipe
  split; extract_lets +onlyGivenNames x1
  extract_lets +onlyGivenNames x2; refine Eff.via x2 ?_ (fun h2 => ?_); unfold x2; rotate_left; clear_value x2; rotate_left
  exact Eff.refl _ _; refine Eff.step unlink_eff ?_; refine Eff.step leaveHeld_eff ?_; exact Eff.refl _ _
  extract_lets +onlyGivenNames x7; refine Eff.via x7 ?_ (fun h7 => ?_); unfold x7; rotate_left; clear_value x7; rotate_left
  refine Eff.ite ?_ ?_; assumption; refine Eff.step freeTt_eff ?_; refine Eff.step settleBurst_eff ?_; assumption
  extract_lets +onlyGivenNames x13; refine Eff.via x13 ?_ (fun h13 => ?_); unfold x13; rotate_left; clear_value x13; rotate_left
  refine Eff.ite ?_ ?_; refine Eff.step replyPipe_eff ?_; assumption; assumption; refine Eff.step modPipe_eff ?_
  assumption

theorem staleReports_eff {i : Nat} {s : State} : Eff [.origins] s (staleReports i s) := by
  unfold staleReports
  extract_lets +onlyGivenNames x0; refine Eff.upd ?_; exact Eff.refl _ _

theorem hushReads_eff {i : Nat} {s : State} : Eff [.reads] s (hushReads i s) := by
  unfold hushReads
  extract_lets +onlyGivenNames x0; refine Eff.upd ?_; exact Eff.refl _ _

theorem resetTunnel_eff {i : Nat} {s : State} : Eff [.devWake, .tunnel, .out] s (resetTunnel i s) := by
  unfold resetTunnel
  refine Eff.ite ?_ ?_; exact Eff.refl _ _; extract_lets +onlyGivenNames x2; extract_lets +onlyGivenNames x3
  extract_lets +onlyGivenNames x4; extract_lets +onlyGivenNames x5
  extract_lets +onlyGivenNames x6; refine Eff.via x6 ?_ (fun h6 => ?_); unfold x6; rotate_left; clear_value x6; rotate_left
  refine Eff.upd ?_; exact Eff.refl _ _; refine Eff.foldl (fun _ _ => ?_) ?_ _; refine Eff.step offerTrailer_eff ?_
  exact Eff.refl _ _; assumption

theorem gateWork_eff {i : Nat} {s : State} : Eff [.l1, .reads, .msg, .fnMsg, .queues, .sched, .halves, .engines,
    .bursts, .cistern, .origins, .log, .instState, .capFlag, .fwHeld, .devWake, .tunnel, .gate, .heldEv, .out] s
    (gateWork i s) := by
  unfold gateWork
  extract_lets +onlyGivenNames x0; extract_lets +onlyGivenNames x1
  extract_lets +onlyGivenNames x2; refine Eff.via x2 ?_ (fun h2 => ?_); unfold x2; rotate_left; clear_value x2; rotate_left
  refine Eff.step hushReads_eff ?_; refine Eff.step staleReports_eff ?_; exact Eff.refl _ _
  extract_lets +onlyGivenNames x6; refine Eff.via x6 ?_ (fun h6 => ?_); unfold x6; rotate_left; clear_value x6; rotate_left
  refine Eff.foldl (fun _ _ => ?_) ?_ _; refine Eff.step dequeueJob_eff ?_; refine Eff.step unbind_eff ?_
  exact Eff.refl _ _; assumption; extract_lets +onlyGivenNames x12
  extract_lets +onlyGivenNames x13; refine Eff.via x13 ?_ (fun h13 => ?_); unfold x13; rotate_left; clear_value x13; rotate_left
  refine Eff.upd ?_; assumption; extract_lets +onlyGivenNames x16
  extract_lets +onlyGivenNames x17; refine Eff.via x17 ?_ (fun h17 => ?_); unfold x17; rotate_left; clear_value x17; rotate_left
  refine Eff.step resetTunnel_eff ?_; refine modInst_eff ?_ (fun _ => {}); assumption
  extract_lets +onlyGivenNames x21; refine Eff.via x21 ?_ (fun h21 => ?_); unfold x21; rotate_left; clear_value x21; rotate_left
  refine Eff.foldl (fun _ _ => ?_) ?_ _; refine Eff.step gatePipe_eff ?_; exact Eff.refl _ _; assumption
  refine Eff.step tellRoom_eff ?_; refine Eff.foldl (fun _ _ => ?_) ?_ _; refine Eff.step gateQueue_eff ?_
  exact Eff.refl _ _; assumption

theorem resetInst_eff {i cause : Nat} {cmd : Option Word} {thenRemove : Bool} {s : State} : Eff [.l1, .reads, .msg,
    .fnMsg, .queues, .sched, .halves, .engines, .bursts, .cistern, .origins, .log, .instState, .capFlag, .fwHeld,
    .devWake, .tunnel, .gate, .heldEv, .out] s (resetInst i cause cmd thenRemove s) := by
  unfold resetInst
  extract_lets +onlyGivenNames x0; refine Eff.ite ?_ ?_; refine setInst_eff ?_ {}; exact Eff.refl _ _
  extract_lets +onlyGivenNames x4; refine Eff.via x4 ?_ (fun h4 => ?_); unfold x4; rotate_left; clear_value x4; rotate_left
  refine setInst_eff ?_ {}; exact Eff.refl _ _; refine Eff.step gateWork_eff ?_; refine Eff.step setInstSt_eff ?_
  assumption

theorem clearPipe_eff {n : Nat} {s : State} : Eff [.l1, .msg, .fnMsg, .queues, .sched, .halves, .engines, .bursts,
    .portReg, .cistern, .capFlag, .devWake, .tunnel, .gate, .heldEv, .out] s (clearPipe n s) := by
  unfold clearPipe
  extract_lets +onlyGivenNames x0; refine Eff.via x0 ?_ (fun h0 => ?_); unfold x0; rotate_left; clear_value x0; rotate_left
  refine Eff.step clearErrs_eff ?_; refine Eff.step settleBurst_eff ?_; exact Eff.refl _ _
  extract_lets +onlyGivenNames x4; refine Eff.via x4 ?_ (fun h4 => ?_); unfold x4; rotate_left; clear_value x4; rotate_left
  refine Eff.step modPipe_eff ?_; assumption; split
  extract_lets +onlyGivenNames x8; refine Eff.via x8 ?_ (fun h8 => ?_); unfold x8; rotate_left; clear_value x8; rotate_left
  assumption; refine Eff.ite ?_ ?_; refine Eff.step streamIdle_eff ?_; assumption; assumption; refine Eff.ite ?_ ?_
  refine Eff.step erasePipe_eff ?_; refine Eff.step replyPipe_eff ?_; assumption; assumption

theorem clearWork_eff {i : Nat} {s : State} : Eff [.l1, .reads, .msg, .fnMsg, .queues, .fences, .sched, .halves,
    .engines, .bursts, .portReg, .cistern, .capFlag, .devWake, .tunnel, .gate, .heldEv, .out] s (clearWork i s) := by
  unfold clearWork
  extract_lets +onlyGivenNames x0; refine Eff.via x0 ?_ (fun h0 => ?_); unfold x0; rotate_left; clear_value x0; rotate_left
  refine Eff.foldl (fun _ _ => ?_) ?_ _; refine Eff.step freeXfer_eff ?_; exact Eff.refl _ _; exact Eff.refl _ _
  extract_lets +onlyGivenNames x5; refine Eff.via x5 ?_ (fun h5 => ?_); unfold x5; rotate_left; clear_value x5; rotate_left
  refine Eff.step hushReads_eff ?_; assumption
  extract_lets +onlyGivenNames x8; refine Eff.via x8 ?_ (fun h8 => ?_); unfold x8; rotate_left; clear_value x8; rotate_left
  refine Eff.foldl (fun _ _ => ?_) ?_ _; refine Eff.step clearPipe_eff ?_; exact Eff.refl _ _; assumption
  extract_lets +onlyGivenNames x13; refine Eff.via x13 ?_ (fun h13 => ?_); unfold x13; rotate_left; clear_value x13; rotate_left
  refine Eff.foldl (fun _ _ => ?_) ?_ _; refine Eff.step modQueue_eff ?_; exact Eff.refl _ _; assumption
  extract_lets +onlyGivenNames x18
  extract_lets +onlyGivenNames x19; refine Eff.via x19 ?_ (fun h19 => ?_); unfold x19; rotate_left; clear_value x19; rotate_left
  refine Eff.upd ?_; assumption; extract_lets +onlyGivenNames x22; refine modFn_eff ?_ (fun _ => {}); assumption

theorem resetReplies_eff {cmds : List Word} {cause us : Nat} {s : State} : Eff [.l1, .msg, .fnMsg, .queues,
    .devWake, .tunnel, .gate, .heldEv, .out] s (resetReplies cmds cause us s) := by
  unfold resetReplies
  refine Eff.foldl (fun _ _ => ?_) ?_ _; refine Eff.step reply_eff ?_; exact Eff.refl _ _; exact Eff.refl _ _

theorem endReset_eff {i us : Nat} {s : State} : Eff [.l1, .reads, .msg, .fnMsg, .queues, .fences, .sched, .halves,
    .engines, .bursts, .portReg, .cistern, .instState, .mailbox, .resetRec, .capFlag, .devWake, .tunnel, .gate,
    .heldEv, .out] s (endReset i us s) := by
  unfold endReset
  extract_lets +onlyGivenNames x0; extract_lets +onlyGivenNames x1
  extract_lets +onlyGivenNames x2; refine Eff.via x2 ?_ (fun h2 => ?_); unfold x2; rotate_left; clear_value x2; rotate_left
  refine Eff.step retryBlocked_eff ?_; refine Eff.step clearWork_eff ?_; exact Eff.refl _ _
  extract_lets +onlyGivenNames x6
  extract_lets +onlyGivenNames x7; refine Eff.via x7 ?_ (fun h7 => ?_); unfold x7; rotate_left; clear_value x7; rotate_left
  refine modInst_eff ?_ (fun _ => {}); assumption
  extract_lets +onlyGivenNames x10; refine Eff.via x10 ?_ (fun h10 => ?_); unfold x10; rotate_left; clear_value x10; rotate_left
  refine Eff.step event_eff ?_; assumption
  extract_lets +onlyGivenNames x13; refine Eff.via x13 ?_ (fun h13 => ?_); unfold x13; rotate_left; clear_value x13; rotate_left
  refine Eff.step resetReplies_eff ?_; assumption; refine Eff.ite ?_ ?_; assumption
  extract_lets +onlyGivenNames x18; refine Eff.via x18 ?_ (fun h18 => ?_); unfold x18; rotate_left; clear_value x18; rotate_left
  refine Eff.step setInstSt_eff ?_; assumption
  extract_lets +onlyGivenNames x21; refine Eff.via x21 ?_ (fun h21 => ?_); unfold x21; rotate_left; clear_value x21; rotate_left
  refine Eff.ite ?_ ?_; assumption; refine Eff.step cause_eff ?_; assumption; refine Eff.ite ?_ ?_
  refine Eff.step resume_eff ?_; assumption; assumption

theorem removeInst_eff {i : Nat} {s : State} : Eff [.l1, .msg, .fnCfg, .fnErr, .fnMsg, .queues, .sched, .halves,
    .units, .engines, .portReg, .instState, .resetRec, .capFlag, .devWake, .tunnel, .gate, .heldEv, .out] s
    (removeInst i s) := by
  unfold removeInst
  extract_lets +onlyGivenNames x0; refine Eff.via x0 ?_ (fun h0 => ?_); unfold x0; rotate_left; clear_value x0; rotate_left
  refine Eff.foldl (fun _ _ => ?_) ?_ _; refine Eff.step erasePipe_eff ?_; exact Eff.refl _ _; exact Eff.refl _ _
  extract_lets +onlyGivenNames x5; refine Eff.via x5 ?_ (fun h5 => ?_); unfold x5; rotate_left; clear_value x5; rotate_left
  refine Eff.foldl (fun _ _ => ?_) ?_ _; refine Eff.step delQueue_eff ?_; exact Eff.refl _ _; assumption
  extract_lets +onlyGivenNames x10; refine Eff.via x10 ?_ (fun h10 => ?_); unfold x10; rotate_left; clear_value x10; rotate_left
  refine Eff.foldl (fun _ _ => ?_) ?_ _; refine modPort_eff ?_ (fun _ => {}); exact Eff.refl _ _; assumption
  extract_lets +onlyGivenNames x15; refine Eff.via x15 ?_ (fun h15 => ?_); unfold x15; rotate_left; clear_value x15; rotate_left
  refine setFn_eff ?_ {}; assumption; extract_lets +onlyGivenNames x18
  extract_lets +onlyGivenNames x19; refine Eff.via x19 ?_ (fun h19 => ?_); unfold x19; rotate_left; clear_value x19; rotate_left
  refine modInst_eff ?_ (fun _ => {}); assumption
  extract_lets +onlyGivenNames x22; refine Eff.via x22 ?_ (fun h22 => ?_); unfold x22; rotate_left; clear_value x22; rotate_left
  refine Eff.step resetReplies_eff ?_; refine Eff.step setInstSt_eff ?_; assumption; refine Eff.ite ?_ ?_
  refine Eff.step setInstSt_eff ?_; assumption; assumption

theorem writeVfEnable_eff {on : Bool} {n : Nat} {s : State} : Eff [.link, .l1, .reads, .msg, .fnCfg, .fnMsg,
    .queues, .sched, .halves, .engines, .bursts, .cistern, .origins, .log, .instState, .capFlag, .fwHeld, .devWake,
    .tunnel, .gate, .heldEv, .out] s (writeVfEnable on n s) := by
  unfold writeVfEnable
  refine Eff.ite ?_ ?_; refine Eff.ite ?_ ?_; exact Eff.refl _ _; extract_lets +onlyGivenNames x3
  extract_lets +onlyGivenNames x4; refine Eff.via x4 ?_ (fun h4 => ?_); unfold x4; rotate_left; clear_value x4; rotate_left
  refine Eff.ite ?_ ?_; refine Eff.upd ?_; exact Eff.refl _ _; extract_lets +onlyGivenNames x8
  extract_lets +onlyGivenNames x9
  extract_lets +onlyGivenNames x10; refine Eff.via x10 ?_ (fun h10 => ?_); unfold x10; rotate_left; clear_value x10; rotate_left
  refine Eff.upd ?_; exact Eff.refl _ _; refine Eff.foldl (fun _ _ => ?_) ?_ _; refine Eff.ite ?_ ?_
  refine Eff.step setInstSt_eff ?_; exact Eff.refl _ _; exact Eff.refl _ _; assumption; refine Eff.upd ?_
  exact Eff.refl _ _; refine Eff.foldl (fun _ _ => ?_) ?_ _; refine Eff.ite ?_ ?_; exact Eff.refl _ _
  refine Eff.step resetInst_eff ?_; refine modFn_eff ?_ (fun _ => {}); exact Eff.refl _ _; assumption

theorem vfReset_eff {i : Nat} {s : State} : Eff [.l1, .reads, .msg, .fnCfg, .fnMsg, .queues, .sched, .halves,
    .engines, .bursts, .cistern, .origins, .log, .instState, .capFlag, .fwHeld, .devWake, .tunnel, .gate, .heldEv,
    .out] s (vfReset i s) := by
  unfold vfReset
  refine Eff.step resetInst_eff ?_; refine modFn_eff ?_ (fun _ => {}); exact Eff.refl _ _

theorem dropPane_eff {i : Nat} {s : State} : Eff [.mailbox] s (dropPane i s) := by
  unfold dropPane
  refine modInst_eff ?_ (fun _ => {}); exact Eff.refl _ _

theorem paneWrite_eff {byManager : Bool} {i : Nat} {m2t : Bool} {off : Nat} {bs : List Byte} {s : State} : Eff
    [.mailbox] s (paneWrite byManager i m2t off bs s) := by
  unfold paneWrite
  extract_lets +onlyGivenNames x0; refine Eff.ite ?_ ?_; refine Eff.step dropPane_eff ?_; exact Eff.refl _ _
  extract_lets +onlyGivenNames x4; refine modInst_eff ?_ (fun _ => by split <;> exact {}); exact Eff.refl _ _

theorem mboxAccess_eff {ps : List Part} {b : Bool} {i : Nat} {f : State → State} {s t : State}
    (hf : ∀ u, Eff ps u (f u)) (h : Eff ps s t) (sub : [.l1, .gate, .out] ⊆ ps := by decide) : Eff ps s (mboxAccess b i f t) := by
  unfold mboxAccess
  have e : ∀ {qs}, qs ⊆ [.l1, .gate, .out] → qs ⊆ ps := fun k _ m => sub (k m)
  exact Eff.ite (answerTlp_eff.step h (e (by decide)))
    (Eff.ite (wakeLink_eff.step (ungate_eff.step h (e (by decide))) (e (by decide)))
      ((hf _).step (wakeLink_eff.step (ungate_eff.step h (e (by decide))) (e (by decide))) (fun _ m => m)))

theorem t2mPost_eff {i : Nat} {s : State} : Eff [.l1, .msg, .fnMsg, .mailbox, .gate, .out] s (t2mPost i s) := by
  unfold t2mPost
  extract_lets +onlyGivenNames x0; refine Eff.ite ?_ ?_; exact Eff.refl _ _; refine Eff.step cause_eff ?_
  refine setInst_eff ?_ {}; exact Eff.refl _ _

theorem t2mAck_eff {i : Nat} {s : State} : Eff [.mailbox] s (t2mAck i s) := by
  unfold t2mAck
  refine modInst_eff ?_ (fun _ => {}); exact Eff.refl _ _

theorem m2tPost_eff {i : Nat} {s : State} : Eff [.l1, .msg, .fnMsg, .mailbox, .gate, .out] s (m2tPost i s) := by
  unfold m2tPost
  extract_lets +onlyGivenNames x0; refine Eff.ite ?_ ?_; exact Eff.refl _ _; refine Eff.step cause_eff ?_
  refine setInst_eff ?_ {}; exact Eff.refl _ _

theorem m2tAck_eff {i : Nat} {s : State} : Eff [.mailbox] s (m2tAck i s) := by
  unfold m2tAck
  refine modInst_eff ?_ (fun _ => {}); exact Eff.refl _ _

theorem rstAck_eff {i : Nat} {s : State} : Eff [.resetRec] s (rstAck i s) := by
  unfold rstAck
  refine modInst_eff ?_ (fun _ => {}); exact Eff.refl _ _

end Sys2Proof.Machine
end

