-- ==== Sys2Proof/Laws/ChannelsEff.lean ====
section
/-! SUPPORT. What each operation of Machine/Channels.lean can change: one lemma per function. -/

set_option Elab.async false

namespace Sys2Proof.Machine

open Sys2Proof

theorem chanState_eff {is : List Nat} {c : Nat} {old : ChanSt} {s : State} : Eff [.l1, .msg, .fnMsg, .queues,
    .tunnel, .gate, .heldEv, .out] s (chanState is c old s) := by
  unfold chanState
  extract_lets +onlyGivenNames x0; refine Eff.step events_eff ?_; exact Eff.refl _ _

theorem tellPort_eff {x : ChanReg} {s : State} : Eff [.l1, .reads, .msg, .fnMsg, .queues, .sched, .halves, .units,
    .engines, .bursts, .portReg, .portTime, .cistern, .origins, .log, .capFlag, .fwHeld, .devWake, .tunnel, .gate,
    .heldEv, .out] s (tellPort x s) := by
  unfold tellPort
  refine Eff.ite ?_ ?_; refine Eff.step portPower_eff ?_; exact Eff.refl _ _; exact Eff.refl _ _

theorem goChan_eff {c : Nat} {st : ChanSt} {g : ChanReg → ChanReg} {s : State} : Eff [.l1, .reads, .msg, .fnMsg,
    .queues, .sched, .halves, .units, .engines, .bursts, .portReg, .portTime, .cistern, .origins, .log, .capFlag,
    .fwHeld, .devWake, .tunnel, .chans, .gate, .heldEv, .out] s (goChan c st g s) := by
  unfold goChan
  extract_lets +onlyGivenNames x0; extract_lets +onlyGivenNames x1; extract_lets +onlyGivenNames x2
  extract_lets +onlyGivenNames x3; extract_lets +onlyGivenNames x4
  extract_lets +onlyGivenNames x5; refine Eff.via x5 ?_ (fun h5 => ?_); unfold x5; rotate_left; clear_value x5; rotate_left
  refine Eff.step setChan_eff ?_; exact Eff.refl _ _
  extract_lets +onlyGivenNames x8; refine Eff.via x8 ?_ (fun h8 => ?_); unfold x8; rotate_left; clear_value x8; rotate_left
  refine Eff.ite ?_ ?_; assumption; refine Eff.step emit_eff ?_; assumption
  extract_lets +onlyGivenNames x13; refine Eff.via x13 ?_ (fun h13 => ?_); unfold x13; rotate_left; clear_value x13; rotate_left
  refine Eff.ite ?_ ?_; assumption; refine Eff.ite ?_ ?_; refine Eff.step emit_eff ?_; assumption
  refine Eff.step emit_eff ?_; assumption; extract_lets +onlyGivenNames x21
  extract_lets +onlyGivenNames x22; refine Eff.via x22 ?_ (fun h22 => ?_); unfold x22; rotate_left; clear_value x22; rotate_left
  refine Eff.ite ?_ ?_; refine Eff.step tellPort_eff ?_; assumption; assumption; refine Eff.ite ?_ ?_
  refine Eff.step chanState_eff ?_; assumption; assumption

theorem startRamp_eff {c : Nat} {g : ChanReg → ChanReg} {s : State} : Eff [.l1, .reads, .msg, .fnMsg, .queues,
    .sched, .halves, .units, .engines, .bursts, .portReg, .portTime, .cistern, .origins, .log, .capFlag, .fwHeld,
    .devWake, .tunnel, .chans, .gate, .heldEv, .out] s (startRamp c g s) := by
  unfold startRamp
  refine Eff.step goChan_eff ?_; exact Eff.refl _ _

theorem recheck_eff {c : Nat} {s : State} : Eff [.l1, .reads, .msg, .fnMsg, .queues, .sched, .halves, .units,
    .engines, .bursts, .portReg, .portTime, .cistern, .origins, .log, .capFlag, .fwHeld, .devWake, .tunnel, .chans,
    .gate, .heldEv, .out] s (recheck c s) := by
  unfold recheck
  extract_lets +onlyGivenNames x0; refine Eff.ite ?_ ?_; refine Eff.step startRamp_eff ?_; exact Eff.refl _ _
  refine Eff.ite ?_ ?_
  extract_lets +onlyGivenNames x5; refine Eff.via x5 ?_ (fun h5 => ?_); unfold x5; rotate_left; clear_value x5; rotate_left
  exact Eff.refl _ _; refine Eff.step goChan_eff ?_; exact Eff.refl _ _; refine Eff.ite ?_ ?_
  refine Eff.step startRamp_eff ?_; assumption; assumption

theorem recheckPort_eff {p : Nat} {s : State} : Eff [.l1, .reads, .msg, .fnMsg, .queues, .sched, .halves, .units,
    .engines, .bursts, .portReg, .portTime, .cistern, .origins, .log, .capFlag, .fwHeld, .devWake, .tunnel, .chans,
    .gate, .heldEv, .out] s (recheckPort p s) := by
  unfold recheckPort
  split; refine Eff.step recheck_eff ?_; exact Eff.refl _ _; exact Eff.refl _ _

theorem tryDebounce_eff {c : Nat} {s : State} : Eff [.l1, .reads, .msg, .fnMsg, .queues, .sched, .halves, .units,
    .engines, .bursts, .portReg, .portTime, .cistern, .origins, .log, .capFlag, .fwHeld, .devWake, .tunnel, .chans,
    .gate, .heldEv, .out] s (tryDebounce c s) := by
  unfold tryDebounce
  extract_lets +onlyGivenNames x0; refine Eff.ite ?_ ?_; refine Eff.step goChan_eff ?_; exact Eff.refl _ _
  exact Eff.refl _ _

theorem writeEn_eff {c : Nat} {on : Bool} {s : State} : Eff [.l1, .reads, .msg, .fnMsg, .queues, .sched, .halves,
    .units, .engines, .bursts, .portReg, .portTime, .cistern, .origins, .log, .capFlag, .fwHeld, .devWake, .tunnel,
    .chans, .gate, .heldEv, .out] s (writeEn c on s) := by
  unfold writeEn
  extract_lets +onlyGivenNames x0
  extract_lets +onlyGivenNames x1; refine Eff.via x1 ?_ (fun h1 => ?_); unfold x1; rotate_left; clear_value x1; rotate_left
  refine Eff.step setChan_eff ?_; exact Eff.refl _ _; refine Eff.ite ?_ ?_; refine Eff.ite ?_ ?_
  refine Eff.step goChan_eff ?_; assumption; assumption; split; assumption; refine Eff.step goChan_eff ?_
  assumption; refine Eff.step goChan_eff ?_; assumption; refine Eff.step goChan_eff ?_; assumption
  refine Eff.step goChan_eff ?_; assumption; refine Eff.step goChan_eff ?_; assumption
  refine Eff.step goChan_eff ?_; assumption; refine Eff.step goChan_eff ?_; assumption

theorem clrChan_eff {c : Nat} {s : State} : Eff [.l1, .reads, .msg, .fnMsg, .queues, .sched, .halves, .units,
    .engines, .bursts, .portReg, .portTime, .cistern, .origins, .log, .capFlag, .fwHeld, .devWake, .tunnel, .chans,
    .gate, .heldEv, .out] s (clrChan c s) := by
  unfold clrChan
  split; exact Eff.refl _ _; exact Eff.refl _ _; refine Eff.step recheck_eff ?_; refine Eff.step goChan_eff ?_
  exact Eff.refl _ _; refine Eff.step modChan_eff ?_; exact Eff.refl _ _; refine Eff.step modChan_eff ?_
  exact Eff.refl _ _; refine Eff.step modChan_eff ?_; exact Eff.refl _ _; refine Eff.step modChan_eff ?_
  exact Eff.refl _ _; refine Eff.step modChan_eff ?_; exact Eff.refl _ _

theorem writeChCtl_eff {c : Nat} {v : Word} {s : State} : Eff [.l1, .reads, .msg, .fnMsg, .queues, .sched, .halves,
    .units, .engines, .bursts, .portReg, .portTime, .cistern, .origins, .log, .capFlag, .fwHeld, .devWake, .tunnel,
    .chans, .gate, .heldEv, .out] s (writeChCtl c v s) := by
  unfold writeChCtl
  extract_lets +onlyGivenNames x0; refine Eff.via x0 ?_ (fun h0 => ?_); unfold x0; rotate_left; clear_value x0; rotate_left
  refine Eff.step writeEn_eff ?_; exact Eff.refl _ _; refine Eff.ite ?_ ?_; refine Eff.step clrChan_eff ?_
  assumption; assumption

theorem trip_eff {c : Nat} {k : TripCause} {found : List TripCause} {s : State} : Eff [.l1, .reads, .msg, .fnMsg,
    .queues, .sched, .halves, .units, .engines, .bursts, .portReg, .portTime, .cistern, .origins, .log, .capFlag,
    .fwHeld, .devWake, .tunnel, .chans, .gate, .heldEv, .out] s (trip c k found s) := by
  unfold trip
  extract_lets +onlyGivenNames x0; extract_lets +onlyGivenNames x1; extract_lets +onlyGivenNames x2
  extract_lets +onlyGivenNames x3; extract_lets +onlyGivenNames x4
  extract_lets +onlyGivenNames x5; refine Eff.via x5 ?_ (fun h5 => ?_); unfold x5; rotate_left; clear_value x5; rotate_left
  refine Eff.ite ?_ ?_; refine Eff.ite ?_ ?_; refine Eff.step emit_eff ?_; refine Eff.step emit_eff ?_
  exact Eff.refl _ _; refine Eff.step emit_eff ?_; exact Eff.refl _ _; exact Eff.refl _ _
  extract_lets +onlyGivenNames x14
  extract_lets +onlyGivenNames x15; refine Eff.via x15 ?_ (fun h15 => ?_); unfold x15; rotate_left; clear_value x15; rotate_left
  refine Eff.step events_eff ?_; assumption; extract_lets +onlyGivenNames x18; extract_lets +onlyGivenNames x19
  extract_lets +onlyGivenNames x20; refine Eff.via x20 ?_ (fun h20 => ?_); unfold x20; rotate_left; clear_value x20; rotate_left
  refine Eff.step setChan_eff ?_; assumption; refine Eff.ite ?_ ?_; refine Eff.step chanState_eff ?_
  refine Eff.step tellPort_eff ?_; assumption; assumption

theorem seatOpen_eff {c : Nat} {a b : Bool} {s : State} : Eff [.l1, .reads, .msg, .fnMsg, .queues, .sched, .halves,
    .units, .engines, .bursts, .portReg, .portTime, .cistern, .origins, .log, .capFlag, .fwHeld, .devWake, .tunnel,
    .chans, .gate, .heldEv, .out] s (seatOpen c a b s) := by
  unfold seatOpen
  extract_lets +onlyGivenNames x0
  extract_lets +onlyGivenNames x1; refine Eff.via x1 ?_ (fun h1 => ?_); unfold x1; rotate_left; clear_value x1; rotate_left
  refine Eff.step setChan_eff ?_; exact Eff.refl _ _; split; assumption; assumption; refine Eff.step goChan_eff ?_
  assumption; refine Eff.step goChan_eff ?_; assumption; refine Eff.step goChan_eff ?_; assumption
  refine Eff.step goChan_eff ?_; assumption; refine Eff.step goChan_eff ?_; assumption
  refine Eff.step goChan_eff ?_; assumption

theorem seatClose_eff {c : Nat} {s : State} : Eff [.l1, .reads, .msg, .fnMsg, .queues, .sched, .halves, .units,
    .engines, .bursts, .portReg, .portTime, .cistern, .origins, .log, .capFlag, .fwHeld, .devWake, .tunnel, .chans,
    .gate, .heldEv, .out] s (seatClose c s) := by
  unfold seatClose
  refine Eff.step tryDebounce_eff ?_; refine Eff.step modChan_eff ?_; exact Eff.refl _ _

theorem setLow_eff {g : Fin 2} {low : Bool} {s : State} : Eff [.chans] s (setLow g low s) := by
  unfold setLow
  refine Eff.upd ?_; exact Eff.refl _ _

theorem coolOpen_eff {c : Nat} {s : State} : Eff [.l1, .reads, .msg, .fnMsg, .queues, .sched, .halves, .units,
    .engines, .bursts, .portReg, .portTime, .cistern, .origins, .log, .capFlag, .fwHeld, .devWake, .tunnel, .chans,
    .gate, .heldEv, .freeCount, .out] s (coolOpen c s) := by
  unfold coolOpen
  extract_lets +onlyGivenNames x0; split; refine Eff.ite ?_ ?_
  extract_lets +onlyGivenNames x3; refine Eff.via x3 ?_ (fun h3 => ?_); unfold x3; rotate_left; clear_value x3; rotate_left
  refine Eff.ite ?_ ?_; refine Eff.step startRamp_eff ?_; exact Eff.refl _ _; refine Eff.step goChan_eff ?_
  exact Eff.refl _ _; refine Eff.step tryDebounce_eff ?_; exact Eff.refl _ _; refine Eff.step goChan_eff ?_
  exact Eff.refl _ _; extract_lets +onlyGivenNames x13
  extract_lets +onlyGivenNames x14; refine Eff.via x14.2 ?_ (fun h14 => ?_); unfold x14; rotate_left; clear_value x14; rotate_left
  refine Eff.step takeFree_eff ?_; assumption; extract_lets +onlyGivenNames x17; refine Eff.step events_eff ?_
  assumption

theorem sampleChan_eff {c : Nat} {m : ChanSample} {s : State} : Eff [.l1, .reads, .msg, .fnMsg, .queues, .sched,
    .halves, .units, .engines, .bursts, .portReg, .portTime, .cistern, .origins, .log, .capFlag, .fwHeld, .devWake,
    .tunnel, .chans, .gate, .heldEv, .cool, .freeCount, .out] s (sampleChan c m s) := by
  unfold sampleChan
  extract_lets +onlyGivenNames x0; extract_lets +onlyGivenNames x1; extract_lets +onlyGivenNames x2
  extract_lets +onlyGivenNames x3; extract_lets +onlyGivenNames x4
  extract_lets +onlyGivenNames x5; refine Eff.via x5 ?_ (fun h5 => ?_); unfold x5; rotate_left; clear_value x5; rotate_left
  refine Eff.step setChan_eff ?_; refine Eff.upd ?_; exact Eff.refl _ _; extract_lets +onlyGivenNames x9
  extract_lets +onlyGivenNames x10; refine Eff.via x10 ?_ (fun h10 => ?_); unfold x10; rotate_left; clear_value x10; rotate_left
  refine Eff.upd ?_; assumption
  extract_lets +onlyGivenNames x13; refine Eff.via x13 ?_ (fun h13 => ?_); unfold x13; rotate_left; clear_value x13; rotate_left
  refine Eff.ite ?_ ?_; refine Eff.step events_eff ?_; assumption; assumption; refine Eff.ite ?_ ?_
  refine Eff.step trip_eff ?_; assumption; refine Eff.step tryDebounce_eff ?_; assumption

end Sys2Proof.Machine
end

