-- ==== Sys2Proof/Laws/PortsEff.lean ====
section
/-! SUPPORT. What each operation of Machine/Ports.lean can change: one lemma per function. -/

set_option Elab.async false

namespace Sys2Proof.Machine

open Sys2Proof

theorem ignore_eff {n : Nat} {p : Nat} {s : State} : Eff [.portReg] s (ignore n p s) := by
  unfold ignore
  refine modPort_eff ?_ (fun _ => {}); exact Eff.refl _ _

theorem startReset_eff {p : Port} {h : Half} {warm : Bool} {close : Option (Nat × Nat)} {s : State} : Eff [.l1,
    .reads, .msg, .fnMsg, .queues, .sched, .halves, .units, .engines, .bursts, .portReg, .portTime, .cistern,
    .origins, .log, .capFlag, .fwHeld, .devWake, .tunnel, .gate, .heldEv, .out] s (startReset p h warm close s) := by
  unfold startReset
  extract_lets +onlyGivenNames x0; refine Eff.via x0 ?_ (fun h0 => ?_); unfold x0; rotate_left; clear_value x0; rotate_left
  refine Eff.step goHalf_eff ?_; exact Eff.refl _ _; refine Eff.step signal_eff ?_; refine Eff.step modHalf_eff ?_
  assumption

theorem reqReset_eff {p : Port} {h : Half} {wpr : Bool} {s : State} : Eff [.l1, .reads, .msg, .fnMsg, .queues,
    .sched, .halves, .units, .engines, .bursts, .portReg, .portTime, .cistern, .origins, .log, .capFlag, .fwHeld,
    .devWake, .tunnel, .gate, .heldEv, .out] s (reqReset p h wpr s) := by
  unfold reqReset
  extract_lets +onlyGivenNames x0; split; refine Eff.step ignore_eff ?_; exact Eff.refl _ _
  refine Eff.step ignore_eff ?_; exact Eff.refl _ _; refine Eff.ite ?_ ?_; refine Eff.step modHalf_eff ?_
  exact Eff.refl _ _; refine Eff.step ignore_eff ?_; exact Eff.refl _ _; refine Eff.step startReset_eff ?_
  exact Eff.refl _ _; refine Eff.step startReset_eff ?_; exact Eff.refl _ _; refine Eff.step startReset_eff ?_
  exact Eff.refl _ _; refine Eff.step startReset_eff ?_; refine Eff.step resumeWake_eff ?_; exact Eff.refl _ _

theorem reqDisable_eff {p : Port} {h : Half} {s : State} : Eff [.l1, .reads, .msg, .fnMsg, .queues, .sched, .halves,
    .units, .engines, .bursts, .portReg, .portTime, .cistern, .origins, .log, .capFlag, .fwHeld, .devWake, .tunnel,
    .gate, .heldEv, .out] s (reqDisable p h s) := by
  unfold reqDisable
  split; refine Eff.step ignore_eff ?_; exact Eff.refl _ _; refine Eff.step ignore_eff ?_; exact Eff.refl _ _
  refine Eff.step ignore_eff ?_; exact Eff.refl _ _; refine Eff.step ignore_eff ?_; exact Eff.refl _ _
  exact Eff.refl _ _; refine Eff.step goHalf_eff ?_; exact Eff.refl _ _; refine Eff.step goHalf_eff ?_
  exact Eff.refl _ _

theorem reqSuspend_eff {p : Port} {h : Half} {s : State} : Eff [.halves, .portReg, .out] s (reqSuspend p h s) := by
  unfold reqSuspend
  extract_lets +onlyGivenNames x0; split; exact Eff.refl _ _; refine Eff.ite ?_ ?_; refine Eff.step ignore_eff ?_
  exact Eff.refl _ _; refine Eff.ite ?_ ?_; exact Eff.refl _ _; refine Eff.step signal_eff ?_
  refine Eff.step modHalf_eff ?_; exact Eff.refl _ _; refine Eff.step ignore_eff ?_; exact Eff.refl _ _

theorem startResume_eff {p : Port} {h : Half} {host : Bool} {s : State} : Eff [.l1, .reads, .msg, .fnMsg, .queues,
    .sched, .halves, .units, .engines, .bursts, .portReg, .portTime, .cistern, .origins, .log, .capFlag, .fwHeld,
    .devWake, .tunnel, .gate, .heldEv, .out] s (startResume p h host s) := by
  unfold startResume
  extract_lets +onlyGivenNames x0; refine Eff.via x0 ?_ (fun h0 => ?_); unfold x0; rotate_left; clear_value x0; rotate_left
  refine Eff.step goHalf_eff ?_; exact Eff.refl _ _; refine Eff.step bus_eff ?_; refine Eff.step modHalf_eff ?_
  assumption

theorem reqResume_eff {p : Port} {h : Half} {s : State} : Eff [.l1, .reads, .msg, .fnMsg, .queues, .sched, .halves,
    .units, .engines, .bursts, .portReg, .portTime, .cistern, .origins, .log, .capFlag, .fwHeld, .devWake, .tunnel,
    .gate, .heldEv, .out] s (reqResume p h s) := by
  unfold reqResume
  split; refine Eff.step startResume_eff ?_; exact Eff.refl _ _; refine Eff.step modHalf_eff ?_; exact Eff.refl _ _
  refine Eff.step ignore_eff ?_; exact Eff.refl _ _

theorem writeSc_eff {p : Port} {h : Half} {v : Word} {s : State} : Eff [.l1, .reads, .msg, .fnMsg, .queues, .sched,
    .halves, .units, .engines, .bursts, .portReg, .portTime, .cistern, .origins, .log, .capFlag, .fwHeld, .devWake,
    .tunnel, .gate, .heldEv, .out] s (writeSc p h v s) := by
  unfold writeSc
  extract_lets +onlyGivenNames x0; refine Eff.via x0 ?_ (fun h0 => ?_); unfold x0; rotate_left; clear_value x0; rotate_left
  refine Eff.step modHalf_eff ?_; exact Eff.refl _ _; extract_lets +onlyGivenNames x3
  extract_lets +onlyGivenNames x4
  extract_lets +onlyGivenNames x5; refine Eff.via x5 ?_ (fun h5 => ?_); unfold x5; rotate_left; clear_value x5; rotate_left
  refine Eff.step ignore_eff ?_; assumption; refine Eff.ite ?_ ?_; refine Eff.step reqReset_eff ?_; assumption
  refine Eff.ite ?_ ?_; refine Eff.step reqDisable_eff ?_; assumption; refine Eff.ite ?_ ?_
  refine Eff.step reqResume_eff ?_; assumption; refine Eff.ite ?_ ?_; refine Eff.step reqSuspend_eff ?_; assumption
  assumption

theorem setSpeed_eff {p h speed : Nat} {s : State} : Eff [.halves] s (setSpeed p h speed s) := by
  unfold setSpeed
  refine Eff.step modHalf_eff ?_; exact Eff.refl _ _

theorem resetTimeout_eff {p : Port} {h : Half} {s : State} : Eff [.l1, .reads, .msg, .fnMsg, .queues, .sched,
    .halves, .units, .engines, .bursts, .portReg, .portTime, .cistern, .origins, .log, .capFlag, .fwHeld, .devWake,
    .tunnel, .gate, .heldEv, .out] s (resetTimeout p h s) := by
  unfold resetTimeout
  refine Eff.ite ?_ ?_; refine Eff.step bus_eff ?_; refine Eff.step modHalf_eff ?_; exact Eff.refl _ _
  refine Eff.step goHalf_eff ?_; exact Eff.refl _ _

theorem suspendEnd_eff {p : Port} {h : Half} {s : State} : Eff [.l1, .reads, .msg, .fnMsg, .queues, .sched, .halves,
    .units, .engines, .bursts, .portReg, .portTime, .cistern, .origins, .log, .capFlag, .fwHeld, .devWake, .tunnel,
    .gate, .heldEv, .out] s (suspendEnd p h s) := by
  unfold suspendEnd
  extract_lets +onlyGivenNames x0
  extract_lets +onlyGivenNames x1; refine Eff.via x1 ?_ (fun h1 => ?_); unfold x1; rotate_left; clear_value x1; rotate_left
  refine Eff.step goHalf_eff ?_; exact Eff.refl _ _; refine Eff.ite ?_ ?_; refine Eff.step startResume_eff ?_
  assumption; assumption

theorem resumeEnd_eff {p : Port} {h : Half} {s : State} : Eff [.l1, .reads, .msg, .fnMsg, .queues, .sched, .halves,
    .units, .engines, .bursts, .portReg, .portTime, .cistern, .origins, .log, .capFlag, .fwHeld, .devWake, .tunnel,
    .gate, .heldEv, .out] s (resumeEnd p h s) := by
  unfold resumeEnd
  extract_lets +onlyGivenNames x0
  extract_lets +onlyGivenNames x1; refine Eff.via x1 ?_ (fun h1 => ?_); unfold x1; rotate_left; clear_value x1; rotate_left
  refine Eff.step goHalf_eff ?_; exact Eff.refl _ _; refine Eff.step portWake_eff ?_; assumption

theorem u3Timeout_eff {p : Port} {s : State} : Eff [.l1, .reads, .msg, .fnMsg, .queues, .sched, .halves, .units,
    .engines, .bursts, .portReg, .portTime, .cistern, .origins, .log, .capFlag, .fwHeld, .devWake, .tunnel, .gate,
    .heldEv, .out] s (u3Timeout p s) := by
  unfold u3Timeout
  extract_lets +onlyGivenNames x0; extract_lets +onlyGivenNames x1
  extract_lets +onlyGivenNames x2; refine Eff.via x2 ?_ (fun h2 => ?_); unfold x2; rotate_left; clear_value x2; rotate_left
  refine Eff.step goHalf_eff ?_; exact Eff.refl _ _; refine Eff.step portWake_eff ?_; assumption

theorem unitWake_eff {p : Port} {h : Half} {s : State} : Eff [.l1, .reads, .msg, .fnMsg, .queues, .sched, .halves,
    .units, .engines, .bursts, .portReg, .portTime, .cistern, .origins, .log, .capFlag, .fwHeld, .devWake, .tunnel,
    .gate, .heldEv, .out] s (unitWake p h s) := by
  unfold unitWake
  split; refine Eff.step startResume_eff ?_; refine Eff.step modHalf_eff ?_; exact Eff.refl _ _
  refine Eff.step modHalf_eff ?_; exact Eff.refl _ _; refine Eff.step bus_eff ?_; exact Eff.refl _ _

theorem functionWake_eff {p : Port} {a : BitVec 7} {s : State} : Eff [.l1, .msg, .fnMsg, .queues, .halves, .tunnel,
    .gate, .heldEv, .out] s (functionWake p a s) := by
  unfold functionWake
  extract_lets +onlyGivenNames x0; refine Eff.ite ?_ ?_; refine Eff.step modHalf_eff ?_; exact Eff.refl _ _
  refine Eff.step portWake_eff ?_; refine Eff.step modHalf_eff ?_; exact Eff.refl _ _

theorem trainFailed_eff {p : Port} {s : State} : Eff [.l1, .msg, .fnMsg, .queues, .halves, .tunnel, .gate, .heldEv,
    .out] s (trainFailed p s) := by
  unfold trainFailed
  extract_lets +onlyGivenNames x0; extract_lets +onlyGivenNames x1; refine Eff.step portChange_eff ?_
  refine Eff.step modHalf_eff ?_; exact Eff.refl _ _

theorem pollingTimeout_eff {p : Port} {s : State} : Eff [.l1, .msg, .fnMsg, .queues, .halves, .tunnel, .gate,
    .heldEv, .out] s (pollingTimeout p s) := by
  unfold pollingTimeout
  refine Eff.ite ?_ ?_; refine Eff.step modHalf_eff ?_; exact Eff.refl _ _; refine Eff.ite ?_ ?_
  refine Eff.step trainFailed_eff ?_; exact Eff.refl _ _; refine Eff.step modHalf_eff ?_; exact Eff.refl _ _

theorem usb2Connect_eff {p : Port} {low : Bool} {s : State} : Eff [.l1, .reads, .msg, .fnMsg, .queues, .sched,
    .halves, .units, .engines, .bursts, .portReg, .portTime, .cistern, .origins, .log, .capFlag, .fwHeld, .devWake,
    .tunnel, .gate, .heldEv, .out] s (usb2Connect p low s) := by
  unfold usb2Connect
  refine Eff.step goHalf_eff ?_; refine Eff.step modHalf_eff ?_; exact Eff.refl _ _

theorem disconnect_eff {p : Port} {h : Half} {s : State} : Eff [.l1, .reads, .msg, .fnMsg, .queues, .sched, .halves,
    .units, .engines, .bursts, .portReg, .portTime, .cistern, .origins, .log, .capFlag, .fwHeld, .devWake, .tunnel,
    .gate, .heldEv, .out] s (disconnect p h s) := by
  unfold disconnect
  split; exact Eff.refl _ _; exact Eff.refl _ _; refine Eff.step goHalf_eff ?_; exact Eff.refl _ _
  refine Eff.step goHalf_eff ?_; exact Eff.refl _ _; refine Eff.step goHalf_eff ?_; exact Eff.refl _ _
  refine Eff.step goHalf_eff ?_; exact Eff.refl _ _; refine Eff.step goHalf_eff ?_
  refine Eff.step resumeWake_eff ?_; exact Eff.refl _ _

theorem linkFail_eff {p : Port} {h : Half} {s : State} : Eff [.l1, .reads, .msg, .fnMsg, .queues, .sched, .halves,
    .units, .engines, .bursts, .portReg, .portTime, .cistern, .origins, .log, .capFlag, .fwHeld, .devWake, .tunnel,
    .gate, .heldEv, .out] s (linkFail p h s) := by
  unfold linkFail
  extract_lets +onlyGivenNames x0; refine Eff.via x0 ?_ (fun h0 => ?_); unfold x0; rotate_left; clear_value x0; rotate_left
  refine Eff.step modHalf_eff ?_; exact Eff.refl _ _
  extract_lets +onlyGivenNames x3; refine Eff.via x3 ?_ (fun h3 => ?_); unfold x3; rotate_left; clear_value x3; rotate_left
  refine Eff.step goHalf_eff ?_; assumption; refine Eff.ite ?_ ?_; refine Eff.step modHalf_eff ?_; assumption
  assumption

theorem writePp_eff {p : Port} {on : Bool} {s : State} : Eff [.l1, .reads, .msg, .fnMsg, .queues, .sched, .halves,
    .units, .engines, .bursts, .portReg, .portTime, .cistern, .origins, .log, .capFlag, .fwHeld, .devWake, .tunnel,
    .chans, .gate, .heldEv, .out] s (writePp p on s) := by
  unfold writePp
  refine Eff.ite ?_ ?_; exact Eff.refl _ _
  extract_lets +onlyGivenNames x2; refine Eff.via x2 ?_ (fun h2 => ?_); unfold x2; rotate_left; clear_value x2; rotate_left
  refine modPort_eff ?_ (fun _ => {}); exact Eff.refl _ _
  extract_lets +onlyGivenNames x5; refine Eff.via x5 ?_ (fun h5 => ?_); unfold x5; rotate_left; clear_value x5; rotate_left
  refine Eff.ite ?_ ?_; refine Eff.step emit_eff ?_; assumption; assumption; refine Eff.step recheckPort_eff ?_
  refine Eff.step portPower_eff ?_; assumption

theorem writeTc_eff {p : Port} {v : Word} {s : State} : Eff [.l1, .reads, .msg, .fnMsg, .queues, .sched, .halves,
    .units, .engines, .bursts, .portReg, .portTime, .cistern, .origins, .log, .capFlag, .fwHeld, .devWake, .tunnel,
    .chans, .gate, .heldEv, .out] s (writeTc p v s) := by
  unfold writeTc
  refine Eff.step writePp_eff ?_; refine modPort_eff ?_ (fun _ => {}); exact Eff.refl _ _

theorem acceptCc_eff {p : Port} {s : State} : Eff [.l1, .reads, .msg, .fnMsg, .queues, .sched, .halves, .units,
    .engines, .bursts, .portReg, .portTime, .cistern, .origins, .log, .capFlag, .fwHeld, .devWake, .tunnel, .chans,
    .gate, .heldEv, .out] s (acceptCc p s) := by
  unfold acceptCc
  extract_lets +onlyGivenNames x0; extract_lets +onlyGivenNames x1; extract_lets +onlyGivenNames x2
  extract_lets +onlyGivenNames x3; extract_lets +onlyGivenNames x4; extract_lets +onlyGivenNames x5
  extract_lets +onlyGivenNames x6; refine Eff.via x6 ?_ (fun h6 => ?_); unfold x6; rotate_left; clear_value x6; rotate_left
  refine setPort_eff ?_ {}; exact Eff.refl _ _
  extract_lets +onlyGivenNames x9; refine Eff.via x9 ?_ (fun h9 => ?_); unfold x9; rotate_left; clear_value x9; rotate_left
  refine Eff.step event_eff ?_; assumption; refine Eff.step recheckPort_eff ?_; refine Eff.step portPower_eff ?_
  assumption

theorem enterU_eff {p : Port} {u2 : Bool} {s : State} : Eff [.halves] s (enterU p u2 s) := by
  unfold enterU
  refine Eff.step modHalf_eff ?_; exact Eff.refl _ _

theorem unitLpm_eff {p : Port} {u2 : Bool} {s : State} : Eff [.halves, .out] s (unitLpm p u2 s) := by
  unfold unitLpm
  refine Eff.ite ?_ ?_; refine Eff.step bus_eff ?_; exact Eff.refl _ _; refine Eff.step enterU_eff ?_
  exact Eff.refl _ _

theorem enterL1_eff {p : Port} {s : State} : Eff [.halves, .out] s (enterL1 p s) := by
  unfold enterL1
  extract_lets +onlyGivenNames x0; refine Eff.step modHalf_eff ?_; refine Eff.step bus_eff ?_; exact Eff.refl _ _

theorem linkAwake_eff {p : Port} {h : Half} {s : State} : Eff [.halves, .out] s (linkAwake p h s) := by
  unfold linkAwake
  extract_lets +onlyGivenNames x0
  extract_lets +onlyGivenNames x1; refine Eff.via x1 ?_ (fun h1 => ?_); unfold x1; rotate_left; clear_value x1; rotate_left
  refine Eff.step modHalf_eff ?_; exact Eff.refl _ _
  extract_lets +onlyGivenNames x4; refine Eff.via x4 ?_ (fun h4 => ?_); unfold x4; rotate_left; clear_value x4; rotate_left
  refine Eff.ite ?_ ?_; refine Eff.step bus_eff ?_; assumption; assumption; refine Eff.step idleStart_eff ?_
  refine Eff.foldl (fun _ _ => ?_) ?_ _; refine Eff.step bus_eff ?_; exact Eff.refl _ _; assumption

theorem fitLane1_eff {p ix n : Nat} {s : State} : Eff [.l1, .reads, .msg, .fnMsg, .queues, .sched, .halves,
    .engines, .bursts, .portReg, .cistern, .origins, .log, .capFlag, .fwHeld, .devWake, .tunnel, .gate, .heldEv,
    .out] s (fitLane1 p ix n s).1 := by
  induction n generalizing s with
  | zero =>
    unfold fitLane1
    dsimp only; exact Eff.refl _ _
  | succ k ih =>
    unfold fitLane1
    split; dsimp only; exact Eff.refl _ _; split; dsimp only; exact Eff.refl _ _
    extract_lets +onlyGivenNames x6; refine Eff.via x6.1 ?_ (fun h6 => ?_); unfold x6; rotate_left; clear_value x6; rotate_left
    refine Eff.step ih ?_; refine Eff.step closePipes_eff ?_; exact Eff.refl _ _; dsimp only; assumption

theorem lane1Loss_eff {p : Port} {s : State} : Eff [.l1, .reads, .msg, .fnMsg, .queues, .sched, .halves, .engines,
    .bursts, .portReg, .cistern, .origins, .log, .capFlag, .fwHeld, .devWake, .tunnel, .gate, .heldEv, .out] s
    (lane1Loss p s) := by
  unfold lane1Loss
  extract_lets +onlyGivenNames x0; refine Eff.via x0 ?_ (fun h0 => ?_); unfold x0; rotate_left; clear_value x0; rotate_left
  refine Eff.foldl (fun _ _ => ?_) ?_ _; refine Eff.step finishBurst_eff ?_; exact Eff.refl _ _; exact Eff.refl _ _
  extract_lets +onlyGivenNames x5; extract_lets +onlyGivenNames x6
  extract_lets +onlyGivenNames x7; refine Eff.via x7 ?_ (fun h7 => ?_); unfold x7; rotate_left; clear_value x7; rotate_left
  refine Eff.step modHalf_eff ?_; assumption
  extract_lets +onlyGivenNames x10; refine Eff.via x10 ?_ (fun h10 => ?_); unfold x10; rotate_left; clear_value x10; rotate_left
  refine Eff.step modPsched_eff ?_; refine Eff.step setSpeed_eff ?_; assumption
  extract_lets +onlyGivenNames x14; refine Eff.via x14.1 ?_ (fun h14 => ?_); unfold x14; rotate_left; clear_value x14; rotate_left
  refine Eff.step fitLane1_eff ?_; assumption
  extract_lets +onlyGivenNames x17; refine Eff.via x17.1 ?_ (fun h17 => ?_); unfold x17; rotate_left; clear_value x17; rotate_left
  refine Eff.step fitLane1_eff ?_; assumption; refine Eff.step event_eff ?_; assumption

end Sys2Proof.Machine
end

