-- ==== Sys2Proof/Laws/TimebaseEff.lean ====
section
/-! SUPPORT. What each operation of Machine/Timebase.lean can change: one lemma per function. -/

set_option Elab.async false

namespace Sys2Proof.Machine

open Sys2Proof

theorem masterTick_eff {s : State} : Eff [.clock] s (masterTick s) := by
  unfold masterTick
  refine Eff.upd ?_; exact Eff.refl _ _

theorem micRead_eff {s : State} : Eff [.l1, .clock, .gate, .out] s (micRead s) := by
  unfold micRead
  refine Eff.ite ?_ ?_; refine Eff.step answerTlp_eff ?_; exact Eff.refl _ _; refine Eff.step answerTlp_eff ?_
  refine Eff.upd ?_; refine Eff.step ungate_eff ?_; exact Eff.refl _ _

theorem lockMove_eff {ps : List Part} {dst : LockSt} {n : Nat} {g : Timebase → Timebase} {s t : State} (hs : Eff ps s t)
    (h : ∀ x, TimebaseUpd [.lock] x (g x)) (sub : [.l1, .msg, .fnMsg, .queues, .lock, .tunnel, .gate, .heldEv, .out] ⊆ ps := by decide) : Eff ps s (lockMove dst n g t) := by
  unfold lockMove
  have k := h { t.iso with lock := dst, anchValid := t.iso.anchValid && dst = .locked }
  have e : ∀ {qs}, qs ⊆ [.l1, .msg, .fnMsg, .queues, .lock, .tunnel, .gate, .heldEv, .out] → qs ⊆ ps := fun k _ m => sub (k m)
  have hc := k.clock.resolve_left (by decide)
  have hp := k.portTime.resolve_left (by decide)
  have hu : ∀ b, TimebaseUpd [.lock] t.iso b → Eff [.lock] t { t with iso := b } :=
    fun b hb => Eff.upd (Eff.refl _ _) (h_iso := hb)
  refine timebaseEvent_eff.step ((hu _ ?_).step hs (e (by decide))) (e (by decide))
  split <;> exact ⟨Or.inr hc, Or.inl (by decide), Or.inr hp⟩

theorem holdEnd_eff {s : State} : Eff [.l1, .msg, .fnMsg, .queues, .lock, .tunnel, .gate, .heldEv, .out] s (holdEnd
    s) := by
  unfold holdEnd
  refine lockMove_eff ?_ (fun _ => {}); exact Eff.refl _ _

theorem enterHoldover_eff {s : State} : Eff [.l1, .msg, .fnMsg, .queues, .lock, .tunnel, .gate, .heldEv, .out] s
    (enterHoldover s) := by
  unfold enterHoldover
  extract_lets +onlyGivenNames x0; refine Eff.via x0 ?_ (fun h0 => ?_); unfold x0; rotate_left; clear_value x0; rotate_left
  refine lockMove_eff ?_ (fun _ => {}); exact Eff.refl _ _; refine Eff.ite ?_ ?_; refine Eff.step holdEnd_eff ?_
  assumption; assumption

theorem arefBad_eff {s : State} : Eff [.l1, .msg, .fnMsg, .queues, .lock, .tunnel, .gate, .heldEv, .out] s (arefBad
    s) := by
  unfold arefBad
  split; exact Eff.refl _ _; exact Eff.refl _ _; refine lockMove_eff ?_ (fun _ => {}); exact Eff.refl _ _
  refine Eff.step enterHoldover_eff ?_; exact Eff.refl _ _

theorem arefGood_eff {s : State} : Eff [.l1, .msg, .fnMsg, .queues, .lock, .tunnel, .gate, .heldEv, .out] s
    (arefGood s) := by
  unfold arefGood
  split; refine lockMove_eff ?_ (fun _ => {}); exact Eff.refl _ _; exact Eff.refl _ _

theorem measure_eff {dev : BitVec 16} {s : State} : Eff [.l1, .msg, .fnMsg, .queues, .lock, .tunnel, .gate, .heldEv,
    .out] s (measure dev s) := by
  unfold measure
  extract_lets +onlyGivenNames x0; extract_lets +onlyGivenNames x1
  extract_lets +onlyGivenNames x2; refine Eff.via x2 ?_ (fun h2 => ?_); unfold x2; rotate_left; clear_value x2; rotate_left
  refine Eff.upd ?_; exact Eff.refl _ _; refine Eff.ite ?_ ?_; assumption; refine Eff.ite ?_ ?_
  refine Eff.step arefBad_eff ?_; assumption; refine Eff.step arefGood_eff ?_; assumption

theorem arefLost_eff {s : State} : Eff [.l1, .msg, .fnMsg, .queues, .lock, .tunnel, .gate, .heldEv, .out] s
    (arefLost s) := by
  unfold arefLost
  extract_lets +onlyGivenNames x0; extract_lets +onlyGivenNames x1
  extract_lets +onlyGivenNames x2; refine Eff.via x2 ?_ (fun h2 => ?_); unfold x2; rotate_left; clear_value x2; rotate_left
  refine Eff.upd ?_; exact Eff.refl _ _; refine Eff.ite ?_ ?_; refine Eff.step arefBad_eff ?_; assumption
  assumption

theorem rejudge_eff {old : Word} {s : State} : Eff [.lock, .freeCount] s (rejudge old s) := by
  unfold rejudge
  extract_lets +onlyGivenNames x0; refine Eff.via x0.2 ?_ (fun h0 => ?_); unfold x0; rotate_left; clear_value x0; rotate_left
  refine Eff.step takeFree_eff ?_; exact Eff.refl _ _; refine Eff.ite ?_ ?_; exact Eff.refl _ _; refine Eff.upd ?_
  assumption

theorem commitLock_eff {old : Word} {s : State} : Eff [.l1, .msg, .fnMsg, .queues, .lock, .tunnel, .gate, .heldEv,
    .freeCount, .out] s (commitLock old s) := by
  unfold commitLock
  extract_lets +onlyGivenNames x0; refine Eff.via x0 ?_ (fun h0 => ?_); unfold x0; rotate_left; clear_value x0; rotate_left
  refine Eff.step rejudge_eff ?_; exact Eff.refl _ _; extract_lets +onlyGivenNames x3; split; refine Eff.ite ?_ ?_
  assumption; refine Eff.ite ?_ ?_; refine lockMove_eff ?_ (fun _ => {}); assumption
  refine lockMove_eff ?_ (fun _ => {}); assumption; refine Eff.ite ?_ ?_; refine lockMove_eff ?_ (fun _ => {})
  assumption; refine Eff.ite ?_ ?_; refine lockMove_eff ?_ (fun _ => {}); assumption; assumption
  refine Eff.ite ?_ ?_; refine lockMove_eff ?_ (fun _ => {}); assumption; refine Eff.ite ?_ ?_
  refine lockMove_eff ?_ (fun _ => {}); assumption; assumption; refine Eff.ite ?_ ?_
  refine lockMove_eff ?_ (fun _ => {}); assumption; refine Eff.ite ?_ ?_; refine lockMove_eff ?_ (fun _ => {})
  assumption; refine Eff.ite ?_ ?_; refine Eff.step holdEnd_eff ?_; assumption; assumption

theorem adjust_eff {p : Port} {a : BitVec 7} {v : Int} {s : State} : Eff [.l1, .msg, .fnMsg, .queues, .portTime,
    .tunnel, .gate, .heldEv, .out] s (adjust p a v s) := by
  unfold adjust
  refine Eff.ite ?_ ?_; refine Eff.step modPtime_eff ?_; exact Eff.refl _ _; extract_lets +onlyGivenNames x3
  extract_lets +onlyGivenNames x4
  extract_lets +onlyGivenNames x5; refine Eff.via x5 ?_ (fun h5 => ?_); unfold x5; rotate_left; clear_value x5; rotate_left
  refine Eff.step modPtime_eff ?_; exact Eff.refl _ _; refine Eff.ite ?_ ?_; refine Eff.step timebaseEvent_eff ?_
  assumption; assumption

theorem commitPcfg_eff {old : Word} {p : Nat} {s : State} : Eff [.l1, .msg, .fnMsg, .queues, .portTime, .tunnel,
    .gate, .heldEv, .out] s (commitPcfg old p s) := by
  unfold commitPcfg
  refine Eff.ite ?_ ?_; refine Eff.step leaveMode1_eff ?_; exact Eff.refl _ _; exact Eff.refl _ _

end Sys2Proof.Machine
end

