-- ==== Sys2Proof/Laws/CommandsEff.lean ====
section
/-! SUPPORT. What each operation of Machine/Commands.lean can change: one lemma per function. -/

set_option Elab.async false

namespace Sys2Proof.Machine

open Sys2Proof

theorem refuse_eff {c : Packet} {r : Nat × Nat} {s : State} : Eff [.l1, .msg, .fnMsg, .queues, .cmd, .devWake,
    .tunnel, .gate, .heldEv, .out] s (refuse c r s) := by
  unfold refuse
  refine Eff.step reply_eff ?_; refine Eff.upd ?_; exact Eff.refl _ _

theorem accept_eff {c : Packet} {s : State} : Eff [.queues, .tunnel] s (accept c s) := by
  unfold accept
  refine Eff.step modEnt_eff ?_; exact Eff.refl _ _

theorem ok_eff {c : Packet} {a b d : Word} {s : State} : Eff [.l1, .msg, .fnMsg, .queues, .devWake, .tunnel, .gate,
    .heldEv, .out] s (ok c a b d s) := by
  unfold ok
  refine Eff.step reply_eff ?_; exact Eff.refl _ _

theorem createQueue_eff {c : Packet} {s : State} : Eff [.l1, .msg, .fnMsg, .queues, .devWake, .tunnel, .gate,
    .heldEv, .out] s (createQueue c s) := by
  unfold createQueue
  extract_lets +onlyGivenNames x0; refine Eff.step ok_eff ?_; refine Eff.step writeState_eff ?_
  refine Eff.step writeHead_eff ?_; refine Eff.step setQueue_eff ?_; exact Eff.refl _ _

theorem disableCmd_eff {c : Packet} {s : State} : Eff [.l1, .reads, .msg, .fnMsg, .queues, .sched, .halves,
    .engines, .bursts, .portReg, .cistern, .capFlag, .devWake, .tunnel, .gate, .heldEv, .out] s (disableCmd c s) := by
  unfold disableCmd
  split; refine Eff.ite ?_ ?_; refine Eff.step ok_eff ?_; exact Eff.refl _ _
  refine disableQueue_eff (fun _ => ?_) ?_; refine Eff.step drainEntries_eff ?_; exact Eff.refl _ _
  exact Eff.refl _ _; exact Eff.refl _ _

theorem startAddress_eff {c : Packet} {s : State} : Eff [.units, .engines] s (startAddress c s) := by
  unfold startAddress
  split; refine modEngine_keep ?_ (fun _ => rfl); refine modPort_eff ?_ (fun _ => {}); exact Eff.refl _ _
  exact Eff.refl _ _

theorem addressEnd_eff {p : Port} {h : Half} {i : Word} {a : Nat} {r : SetAddrResult} {s : State} : Eff [.l1, .msg,
    .fnMsg, .queues, .units, .engines, .devWake, .tunnel, .gate, .heldEv, .out] s (addressEnd p h i a r s) := by
  unfold addressEnd
  extract_lets +onlyGivenNames x0; refine Eff.via x0 ?_ (fun h0 => ?_); unfold x0; rotate_left; clear_value x0; rotate_left
  refine modEngine_keep ?_ (fun _ => rfl); exact Eff.refl _ _
  extract_lets +onlyGivenNames x3; refine Eff.via x3 ?_ (fun h3 => ?_); unfold x3; rotate_left; clear_value x3; rotate_left
  refine modPort_eff ?_ (fun _ => {}); assumption; split; refine Eff.step reply_eff ?_
  refine modPort_eff ?_ (fun _ => {}); assumption; assumption; refine Eff.step reply_eff ?_; assumption

theorem assignUnit_eff {c : Packet} {s : State} : Eff [.units] s (assignUnit c s) := by
  unfold assignUnit
  refine modPort_eff ?_ (fun _ => {}); exact Eff.refl _ _

end Sys2Proof.Machine
end

