-- ==== Sys2Proof/Laws/PipeCmdsEff.lean ====
section
/-! SUPPORT. What each operation of Machine/PipeCmds.lean can change: one lemma per function. -/

set_option Elab.async false

namespace Sys2Proof.Machine

open Sys2Proof

theorem openPipes_eff {n : Nat} {x : Pipe} {s : State} : Eff [.sched] s (openPipes n x s) := by
  unfold openPipes
  extract_lets +onlyGivenNames x0; extract_lets +onlyGivenNames x1
  extract_lets +onlyGivenNames x2; refine Eff.via x2 ?_ (fun h2 => ?_); unfold x2; rotate_left; clear_value x2; rotate_left
  refine Eff.upd ?_; exact Eff.refl _ _; extract_lets +onlyGivenNames x5
  extract_lets +onlyGivenNames x6; refine Eff.via x6 ?_ (fun h6 => ?_); unfold x6; rotate_left; clear_value x6; rotate_left
  refine Eff.step setPipe_eff ?_; assumption; refine Eff.ite ?_ ?_; refine Eff.foldl (fun _ _ => ?_) ?_ _
  refine Eff.step setPipe_eff ?_; exact Eff.refl _ _; assumption; refine Eff.ite ?_ ?_
  refine Eff.step needCtx_eff ?_; assumption; assumption

theorem openPipe_eff {c : Packet} {s : State} : Eff [.l1, .msg, .fnMsg, .queues, .sched, .devWake, .tunnel, .gate,
    .heldEv, .out] s (openPipe c s) := by
  unfold openPipe
  extract_lets +onlyGivenNames x0; refine Eff.step ok_eff ?_; refine Eff.step ltrUpdate_eff ?_
  refine Eff.step openPipes_eff ?_; exact Eff.refl _ _

theorem closeCmd_eff {idx : Word} {s : State} {n : Nat} : Eff [.l1, .reads, .msg, .fnMsg, .queues, .sched, .halves,
    .engines, .bursts, .portReg, .cistern, .origins, .log, .capFlag, .fwHeld, .devWake, .tunnel, .gate, .heldEv,
    .out] s (closeCmd idx s n) := by
  unfold closeCmd
  split; extract_lets +onlyGivenNames x1; extract_lets +onlyGivenNames x2
  extract_lets +onlyGivenNames x3; refine Eff.via x3 ?_ (fun h3 => ?_); unfold x3; rotate_left; clear_value x3; rotate_left
  exact Eff.refl _ _; refine Eff.step setPipe_eff ?_; exact Eff.refl _ _; split; refine Eff.ite ?_ ?_
  refine Eff.step withdrawUnsent_eff ?_; refine Eff.step modPipe_eff ?_; assumption
  refine Eff.step closePipe_eff ?_; assumption; refine Eff.step closePipe_eff ?_; assumption
  refine Eff.step closePipe_eff ?_; assumption; refine Eff.step closePipe_eff ?_; assumption

theorem closeAll_eff {c : Packet} {s : State} : Eff [.l1, .reads, .msg, .fnMsg, .queues, .sched, .halves, .engines,
    .bursts, .portReg, .cistern, .origins, .log, .capFlag, .fwHeld, .devWake, .tunnel, .gate, .heldEv, .out] s
    (closeAll c s) := by
  unfold closeAll
  extract_lets +onlyGivenNames x0; split; refine Eff.ite ?_ ?_
  extract_lets +onlyGivenNames x3; refine Eff.via x3 ?_ (fun h3 => ?_); unfold x3; rotate_left; clear_value x3; rotate_left
  refine Eff.step closeCmd_eff ?_; exact Eff.refl _ _; exact Eff.refl _ _; refine Eff.step leaveHeld_eff ?_
  exact Eff.refl _ _
  extract_lets +onlyGivenNames x9; refine Eff.via x9 ?_ (fun h9 => ?_); unfold x9; rotate_left; clear_value x9; rotate_left
  refine Eff.step setPipe_eff ?_; assumption
  extract_lets +onlyGivenNames x12; refine Eff.via x12 ?_ (fun h12 => ?_); unfold x12; rotate_left; clear_value x12; rotate_left
  refine Eff.foldl (fun _ _ => ?_) ?_ _; refine Eff.step closeCmd_eff ?_; exact Eff.refl _ _; assumption
  extract_lets +onlyGivenNames x17; refine Eff.via x17 ?_ (fun h17 => ?_); unfold x17; rotate_left; clear_value x17; rotate_left
  refine Eff.step modPipe_eff ?_; assumption; refine Eff.ite ?_ ?_; assumption; refine Eff.step ok_eff ?_
  assumption

theorem stopOne_eff {idx : Word} {s : State} {n : Nat} : Eff [.sched] s (stopOne idx s n) := by
  unfold stopOne
  split; split; refine Eff.step setPipe_eff ?_; exact Eff.refl _ _; extract_lets +onlyGivenNames x4
  refine Eff.step modPipe_eff ?_; refine Eff.step unlink_eff ?_; exact Eff.refl _ _; extract_lets +onlyGivenNames x8
  refine Eff.step modPipe_eff ?_; refine Eff.step unlink_eff ?_; exact Eff.refl _ _
  extract_lets +onlyGivenNames x12; refine Eff.step modPipe_eff ?_; refine Eff.step unlink_eff ?_
  exact Eff.refl _ _; exact Eff.refl _ _; exact Eff.refl _ _

theorem startOne_eff {s : State} {n : Nat} : Eff [.l1, .msg, .fnMsg, .queues, .sched, .cistern, .devWake, .tunnel,
    .gate, .heldEv, .out] s (startOne s n) := by
  unfold startOne
  split; refine Eff.ite ?_ ?_; exact Eff.refl _ _; extract_lets +onlyGivenNames x3; refine Eff.ite ?_ ?_
  refine Eff.step setPipe_eff ?_; exact Eff.refl _ _; refine Eff.ite ?_ ?_; refine Eff.step setPipe_eff ?_
  exact Eff.refl _ _; refine Eff.step startHeads_eff ?_; refine Eff.step link_eff ?_; refine Eff.step setPipe_eff ?_
  exact Eff.refl _ _; exact Eff.refl _ _

theorem resetOne_eff {s : State} {n : Nat} : Eff [.l1, .msg, .fnMsg, .queues, .sched, .cistern, .devWake, .tunnel,
    .gate, .heldEv, .out] s (resetOne s n) := by
  unfold resetOne
  split; refine Eff.ite ?_ ?_; exact Eff.refl _ _; refine Eff.ite ?_ ?_; refine Eff.step setPipe_eff ?_
  exact Eff.refl _ _; refine Eff.step startHeads_eff ?_; refine Eff.step link_eff ?_; refine Eff.step setPipe_eff ?_
  exact Eff.refl _ _; exact Eff.refl _ _

theorem stateReply_eff {c : Packet} {s : State} : Eff [.l1, .msg, .fnMsg, .queues, .devWake, .tunnel, .gate,
    .heldEv, .out] s (stateReply c s) := by
  unfold stateReply
  refine Eff.ite ?_ ?_; exact Eff.refl _ _; refine Eff.step ok_eff ?_; exact Eff.refl _ _

theorem hostWrite_eff {a : Nat} {bs : List Byte} {s : State} : Eff [.l1, .gate, .out] s (hostWrite a bs s) := by
  unfold hostWrite
  refine Eff.foldl (fun _ _ => ?_) ?_ _; refine Eff.step tlp_eff ?_; exact Eff.refl _ _; exact Eff.refl _ _

theorem queryPipe_eff {c : Packet} {s : State} : Eff [.l1, .msg, .fnMsg, .queues, .devWake, .tunnel, .gate, .heldEv,
    .freeCount, .out] s (queryPipe c s) := by
  unfold queryPipe
  split
  extract_lets +onlyGivenNames x1; refine Eff.via x1.2 ?_ (fun h1 => ?_); unfold x1; rotate_left; clear_value x1; rotate_left
  exact Eff.refl _ _; split; refine Eff.step takeFree_eff ?_; exact Eff.refl _ _; dsimp only; exact Eff.refl _ _
  extract_lets +onlyGivenNames x8; refine Eff.step ok_eff ?_; refine Eff.step hostWrite_eff ?_; assumption

end Sys2Proof.Machine
end

