-- ==== Sys2Proof/Laws/ConfigCmdsEff.lean ====
section
/-! SUPPORT. What each operation of Machine/ConfigCmds.lean can change: one lemma per function. -/

set_option Elab.async false

namespace Sys2Proof.Machine

open Sys2Proof

theorem cfgWrites_eff {c : Packet} {s : State} : Eff [.sets, .cmd] s (cfgWrites c s) := by
  unfold cfgWrites
  extract_lets +onlyGivenNames x0; refine Eff.upd ?_; exact Eff.refl _ _

theorem cutDeficits_eff {s : State} : Eff [.sched] s (cutDeficits s) := by
  unfold cutDeficits
  refine Eff.foldl (fun _ _ => ?_) ?_ _; refine Eff.step modPsched_eff ?_; exact Eff.refl _ _; exact Eff.refl _ _

theorem commitSwap_eff {s : State} : Eff [.l1, .reads, .msg, .fnMsg, .queues, .sched, .halves, .units, .engines,
    .bursts, .portReg, .lock, .portTime, .cistern, .origins, .log, .sets, .capFlag, .cmd, .fwHeld, .devWake,
    .tunnel, .chans, .gate, .heldEv, .freeCount, .out] s (commitSwap s) := by
  unfold commitSwap
  extract_lets +onlyGivenNames x0; extract_lets +onlyGivenNames x1; extract_lets +onlyGivenNames x2
  extract_lets +onlyGivenNames x3; extract_lets +onlyGivenNames x4
  extract_lets +onlyGivenNames x5; refine Eff.via x5 ?_ (fun h5 => ?_); unfold x5; rotate_left; clear_value x5; rotate_left
  refine Eff.upd ?_; exact Eff.refl _ _
  extract_lets +onlyGivenNames x8; refine Eff.via x8 ?_ (fun h8 => ?_); unfold x8; rotate_left; clear_value x8; rotate_left
  refine Eff.step commitLock_eff ?_; refine Eff.step cutDeficits_eff ?_; assumption
  extract_lets +onlyGivenNames x12; refine Eff.via x12 ?_ (fun h12 => ?_); unfold x12; rotate_left; clear_value x12; rotate_left
  refine Eff.foldl (fun _ _ => ?_) ?_ _; refine Eff.step commitPcfg_eff ?_; exact Eff.refl _ _; assumption
  extract_lets +onlyGivenNames x17; refine Eff.via x17 ?_ (fun h17 => ?_); unfold x17; rotate_left; clear_value x17; rotate_left
  refine Eff.foldl (fun _ _ => ?_) ?_ _; refine Eff.step recheckPort_eff ?_; exact Eff.refl _ _
  refine Eff.step tellRoom_eff ?_; refine Eff.step retryBlocked_eff ?_; assumption
  extract_lets +onlyGivenNames x24; refine Eff.via x24 ?_ (fun h24 => ?_); unfold x24; rotate_left; clear_value x24; rotate_left
  refine Eff.step event_eff ?_; assumption; clear_value x3; split; refine Eff.step reply_eff ?_; assumption
  assumption

theorem bindChan_eff {c : Packet} {s : State} : Eff [.l1, .reads, .msg, .fnMsg, .queues, .sched, .halves, .units,
    .engines, .bursts, .portReg, .portTime, .cistern, .origins, .log, .capFlag, .fwHeld, .devWake, .tunnel, .chans,
    .gate, .heldEv, .out] s (bindChan c s) := by
  unfold bindChan
  extract_lets +onlyGivenNames x0; extract_lets +onlyGivenNames x1
  extract_lets +onlyGivenNames x2; refine Eff.via x2 ?_ (fun h2 => ?_); unfold x2; rotate_left; clear_value x2; rotate_left
  refine Eff.ite ?_ ?_; refine modPort_eff ?_ (fun _ => {}); exact Eff.refl _ _; exact Eff.refl _ _
  extract_lets +onlyGivenNames x7; refine Eff.via x7 ?_ (fun h7 => ?_); unfold x7; rotate_left; clear_value x7; rotate_left
  refine Eff.step modChan_eff ?_; assumption; extract_lets +onlyGivenNames x10
  extract_lets +onlyGivenNames x11; refine Eff.via x11 ?_ (fun h11 => ?_); unfold x11; rotate_left; clear_value x11; rotate_left
  refine Eff.ite ?_ ?_; refine modPort_eff ?_ (fun _ => {}); assumption; assumption
  extract_lets +onlyGivenNames x16; refine Eff.via x16 ?_ (fun h16 => ?_); unfold x16; rotate_left; clear_value x16; rotate_left
  refine Eff.ite ?_ ?_; refine Eff.step portPower_eff ?_; assumption; assumption
  extract_lets +onlyGivenNames x21; refine Eff.via x21 ?_ (fun h21 => ?_); unfold x21; rotate_left; clear_value x21; rotate_left
  refine Eff.ite ?_ ?_; refine Eff.step portPower_eff ?_; assumption; assumption; refine Eff.step recheck_eff ?_
  assumption

end Sys2Proof.Machine
end

