-- ==== Sys2Proof/Laws/ServiceCmdsEff.lean ====
section
/-! SUPPORT. What each operation of Machine/ServiceCmds.lean can change: one lemma per function. -/

set_option Elab.async false

namespace Sys2Proof.Machine

open Sys2Proof

theorem removeHalf_eff {p : Port} {h : Half} {s : State} : Eff [.l1, .reads, .msg, .fnMsg, .queues, .sched, .halves,
    .units, .engines, .bursts, .portReg, .portTime, .cistern, .origins, .log, .capFlag, .fwHeld, .devWake, .tunnel,
    .gate, .heldEv, .out] s (removeHalf p h s) := by
  unfold removeHalf
  extract_lets +onlyGivenNames x0
  extract_lets +onlyGivenNames x1; refine Eff.via x1 ?_ (fun h1 => ?_); unfold x1; rotate_left; clear_value x1; rotate_left
  refine Eff.ite ?_ ?_; refine Eff.step resumeWake_eff ?_; exact Eff.refl _ _; exact Eff.refl _ _
  extract_lets +onlyGivenNames x6; refine Eff.via x6 ?_ (fun h6 => ?_); unfold x6; rotate_left; clear_value x6; rotate_left
  refine Eff.step closePipes_eff ?_; assumption
  extract_lets +onlyGivenNames x9; refine Eff.via x9 ?_ (fun h9 => ?_); unfold x9; rotate_left; clear_value x9; rotate_left
  refine Eff.step freeHalf_eff ?_; refine Eff.step endWalk_eff ?_; refine Eff.step endSet_eff ?_; assumption
  extract_lets +onlyGivenNames x14; refine Eff.step modHalf_eff ?_; assumption

theorem removePort_eff {c : Packet} {s : State} : Eff [.l1, .reads, .msg, .fnMsg, .queues, .sched, .halves, .units,
    .engines, .bursts, .portReg, .portTime, .cistern, .origins, .log, .capFlag, .fwHeld, .devWake, .tunnel, .gate,
    .heldEv, .out] s (removePort c s) := by
  unfold removePort
  extract_lets +onlyGivenNames x0; extract_lets +onlyGivenNames x1
  extract_lets +onlyGivenNames x2; refine Eff.via x2 ?_ (fun h2 => ?_); unfold x2; rotate_left; clear_value x2; rotate_left
  refine modPort_eff ?_ (fun _ => {}); exact Eff.refl _ _; refine Eff.step portRemoved_eff ?_
  refine Eff.step removeHalf_eff ?_; refine Eff.step removeHalf_eff ?_; assumption

theorem returnPort_eff {c : Packet} {r : PortTest} {s : State} : Eff [.l1, .reads, .msg, .fnMsg, .queues, .sched,
    .halves, .units, .engines, .bursts, .portReg, .portTime, .cistern, .origins, .log, .capFlag, .fwHeld, .devWake,
    .tunnel, .chans, .gate, .heldEv, .out] s (returnPort c r s) := by
  unfold returnPort
  extract_lets +onlyGivenNames x0; extract_lets +onlyGivenNames x1; split; refine Eff.step ok_eff ?_
  refine Eff.step portServiceEvent_eff ?_; exact Eff.refl _ _; refine Eff.step ok_eff ?_
  refine Eff.step portServiceEvent_eff ?_; exact Eff.refl _ _; extract_lets +onlyGivenNames x9
  extract_lets +onlyGivenNames x10; refine Eff.via x10 ?_ (fun h10 => ?_); unfold x10; rotate_left; clear_value x10; rotate_left
  extract_lets +onlyGivenNames x11
  extract_lets +onlyGivenNames x12; refine Eff.via x12 ?_ (fun h12 => ?_); unfold x12; rotate_left; clear_value x12; rotate_left
  refine Eff.ite ?_ ?_; refine Eff.step switchOn_eff ?_; exact Eff.refl _ _; exact Eff.refl _ _
  extract_lets +onlyGivenNames x17; refine Eff.via x17 ?_ (fun h17 => ?_); unfold x17; rotate_left; clear_value x17; rotate_left
  refine Eff.ite ?_ ?_; refine Eff.step switchOn_eff ?_; exact Eff.refl _ _; exact Eff.refl _ _
  extract_lets +onlyGivenNames x22; refine Eff.via x22 ?_ (fun h22 => ?_); unfold x22; rotate_left; clear_value x22; rotate_left
  refine modPort_eff ?_ (fun _ => {}); assumption
  extract_lets +onlyGivenNames x25; refine Eff.via x25 ?_ (fun h25 => ?_); unfold x25; rotate_left; clear_value x25; rotate_left
  refine modPort_eff ?_ (fun _ => {}); assumption
  extract_lets +onlyGivenNames x28; refine Eff.via x28 ?_ (fun h28 => ?_); unfold x28; rotate_left; clear_value x28; rotate_left
  refine Eff.step modPtime_eff ?_; assumption; extract_lets +onlyGivenNames x31
  extract_lets +onlyGivenNames x32; refine Eff.via x32 ?_ (fun h32 => ?_); unfold x32; rotate_left; clear_value x32; rotate_left
  refine Eff.step modPtime_eff ?_; assumption; extract_lets +onlyGivenNames x35
  extract_lets +onlyGivenNames x36; refine Eff.via x36 ?_ (fun h36 => ?_); unfold x36; rotate_left; clear_value x36; rotate_left
  refine Eff.ite ?_ ?_; refine Eff.step halfOn_eff ?_; refine Eff.step halfOn_eff ?_; assumption; assumption
  extract_lets +onlyGivenNames x42; refine Eff.via x42 ?_ (fun h42 => ?_); unfold x42; rotate_left; clear_value x42; rotate_left
  refine Eff.ite ?_ ?_; refine Eff.step halfOn_eff ?_; refine Eff.step halfOn_eff ?_; assumption; assumption
  extract_lets +onlyGivenNames x48; refine Eff.via x48 ?_ (fun h48 => ?_); unfold x48; rotate_left; clear_value x48; rotate_left
  refine Eff.step portPower_eff ?_; assumption; extract_lets +onlyGivenNames x51; extract_lets +onlyGivenNames x52
  extract_lets +onlyGivenNames x53; refine Eff.via x53 ?_ (fun h53 => ?_); unfold x53; rotate_left; clear_value x53; rotate_left
  refine Eff.step portPower_eff ?_; assumption; extract_lets +onlyGivenNames x56; extract_lets +onlyGivenNames x57
  extract_lets +onlyGivenNames x58; refine Eff.via x58 ?_ (fun h58 => ?_); unfold x58; rotate_left; clear_value x58; rotate_left
  refine Eff.step capChange_eff ?_; refine Eff.step modHalf_eff ?_; assumption
  extract_lets +onlyGivenNames x62; refine Eff.via x62 ?_ (fun h62 => ?_); unfold x62; rotate_left; clear_value x62; rotate_left
  refine Eff.step capChange_eff ?_; refine Eff.step modHalf_eff ?_; assumption
  extract_lets +onlyGivenNames x66; refine Eff.via x66 ?_ (fun h66 => ?_); unfold x66; rotate_left; clear_value x66; rotate_left
  refine Eff.ite ?_ ?_; assumption; refine Eff.step capEvent_eff ?_; assumption; refine Eff.step ok_eff ?_
  refine Eff.step portServiceEvent_eff ?_; refine Eff.step recheckPort_eff ?_; assumption; refine Eff.ite ?_ ?_
  assumption; refine Eff.step capEvent_eff ?_; assumption; refine Eff.step ok_eff ?_
  refine Eff.step portServiceEvent_eff ?_; refine Eff.step recheckPort_eff ?_; assumption

theorem removePump_eff {c : Packet} {s : State} : Eff [.l1, .msg, .fnMsg, .queues, .sched, .cistern, .capFlag,
    .devWake, .tunnel, .gate, .heldEv, .out] s (removePump c s) := by
  unfold removePump
  extract_lets +onlyGivenNames x0
  extract_lets +onlyGivenNames x1; refine Eff.via x1 ?_ (fun h1 => ?_); unfold x1; rotate_left; clear_value x1; rotate_left
  refine Eff.step modPump_eff ?_; exact Eff.refl _ _
  extract_lets +onlyGivenNames x4; refine Eff.via x4 ?_ (fun h4 => ?_); unfold x4; rotate_left; clear_value x4; rotate_left
  refine Eff.step setPause_eff ?_; assumption; refine Eff.ite ?_ ?_; refine Eff.step removeDone_eff ?_; assumption
  assumption

theorem returnPump_eff {c : Packet} {pass : Bool} {s : State} : Eff [.l1, .msg, .fnMsg, .queues, .cistern, .capFlag,
    .devWake, .tunnel, .gate, .heldEv, .out] s (returnPump c pass s) := by
  unfold returnPump
  extract_lets +onlyGivenNames x0; refine Eff.ite ?_ ?_; refine Eff.step ok_eff ?_; exact Eff.refl _ _
  refine Eff.step ok_eff ?_; refine Eff.step capChange_eff ?_; refine Eff.step modPump_eff ?_; exact Eff.refl _ _

theorem resizeLog_eff {s : State} : Eff [.log] s (resizeLog s) := by
  unfold resizeLog
  extract_lets +onlyGivenNames x0; refine Eff.upd ?_; exact Eff.refl _ _

end Sys2Proof.Machine
end

