-- ==== Sys2Proof/Laws/MemoryEff.lean ====
section
/-! SUPPORT. What each operation of Machine/Memory.lean can change: one lemma per function. -/

set_option Elab.async false

namespace Sys2Proof.Machine

open Sys2Proof

theorem countUe_eff {c : Nat} {s : State} : Eff [.sumpFlags, .memErr] s (countUe c s) := by
  unfold countUe
  split
  extract_lets +onlyGivenNames x0; extract_lets +onlyGivenNames x1; extract_lets +onlyGivenNames x2
  refine Eff.upd ?_; exact Eff.refl _ _
  extract_lets +onlyGivenNames x0; extract_lets +onlyGivenNames x1; extract_lets +onlyGivenNames x2
  refine Eff.upd ?_; exact Eff.refl _ _

theorem losePipe_eff {n : Nat} {s : State} : Eff [.l1, .reads, .msg, .fnMsg, .queues, .sched, .halves, .engines,
    .bursts, .portReg, .cistern, .origins, .log, .capFlag, .fwHeld, .devWake, .tunnel, .gate, .heldEv, .out] s
    (losePipe n s) := by
  unfold losePipe
  split; extract_lets +onlyGivenNames x1
  extract_lets +onlyGivenNames x2; refine Eff.via x2 ?_ (fun h2 => ?_); unfold x2; rotate_left; clear_value x2; rotate_left
  exact Eff.refl _ _; refine Eff.foldl (fun _ _ => ?_) ?_ _; refine Eff.step closePipe_eff ?_; exact Eff.refl _ _
  exact Eff.refl _ _; refine Eff.step closePipe_eff ?_; assumption

theorem loseWord_eff {c : Nat} {l : Word × CellarLoss} {s : State} : Eff [.l1, .reads, .msg, .fnMsg, .queues,
    .sched, .halves, .engines, .bursts, .portReg, .cistern, .origins, .sumpFlags, .memErr, .log, .capFlag, .fwHeld,
    .devWake, .tunnel, .gate, .heldEv, .out] s (loseWord c l s) := by
  unfold loseWord
  extract_lets +onlyGivenNames x0; refine Eff.via x0 ?_ (fun h0 => ?_); unfold x0; rotate_left; clear_value x0; rotate_left
  refine Eff.step countUe_eff ?_; exact Eff.refl _ _; split; refine Eff.step losePipe_eff ?_
  refine Eff.step memErrEvent_eff ?_; assumption
  extract_lets +onlyGivenNames x7; refine Eff.via x7 ?_ (fun h7 => ?_); unfold x7; rotate_left; clear_value x7; rotate_left
  refine Eff.step memErrEvent_eff ?_; refine Eff.upd ?_; assumption; refine Eff.step memErrEvent_eff ?_; assumption
  refine Eff.step memErrEvent_eff ?_; assumption; refine Eff.ite ?_ ?_; refine Eff.step losePipe_eff ?_; assumption
  assumption

theorem loseRecords_eff {both : Bool} {c : Nat} {s : State} : Eff [.log, .freeCount] s (loseRecords both c s) := by
  unfold loseRecords
  refine Eff.ite ?_ ?_; refine Eff.upd ?_; exact Eff.refl _ _; extract_lets +onlyGivenNames x3; refine Eff.upd ?_
  exact Eff.refl _ _

theorem failCellar_eff {c : Nat} {s : State} : Eff [.l1, .reads, .msg, .fnMsg, .queues, .sched, .halves, .engines,
    .bursts, .portReg, .cistern, .origins, .log, .capFlag, .cellar, .fwHeld, .devWake, .tunnel, .gate, .heldEv,
    .freeCount, .out] s (failCellar c s) := by
  unfold failCellar
  extract_lets +onlyGivenNames x0; extract_lets +onlyGivenNames x1
  extract_lets +onlyGivenNames x2; refine Eff.via x2 ?_ (fun h2 => ?_); unfold x2; rotate_left; clear_value x2; rotate_left
  refine Eff.step loseRecords_eff ?_; exact Eff.refl _ _
  extract_lets +onlyGivenNames x5; refine Eff.via x5 ?_ (fun h5 => ?_); unfold x5; rotate_left; clear_value x5; rotate_left
  refine Eff.step resizeLog_eff ?_; refine Eff.step modCel_eff ?_; assumption
  extract_lets +onlyGivenNames x9; refine Eff.via x9 ?_ (fun h9 => ?_); unfold x9; rotate_left; clear_value x9; rotate_left
  refine Eff.foldl (fun _ _ => ?_) ?_ _; refine Eff.step losePipe_eff ?_; exact Eff.refl _ _; assumption
  refine Eff.step capChange_eff ?_; refine Eff.step memErrEvent_eff ?_; assumption

theorem ueCheck_eff {c : Nat} {s : State} : Eff [.l1, .reads, .msg, .fnMsg, .queues, .sched, .halves, .engines,
    .bursts, .portReg, .cistern, .origins, .memErr, .log, .capFlag, .cellar, .fwHeld, .devWake, .tunnel, .gate,
    .heldEv, .freeCount, .out] s (ueCheck c s) := by
  unfold ueCheck
  refine Eff.ite ?_ ?_; refine Eff.step failCellar_eff ?_; refine Eff.upd ?_; exact Eff.refl _ _; exact Eff.refl _ _

theorem chipUe_eff {s : State} : Eff [.sumpFlags, .memErr] s (chipUe s) := by
  unfold chipUe
  refine Eff.upd ?_; exact Eff.refl _ _

theorem loseCtx_eff {n : Nat} {s : State} : Eff [.l1, .reads, .msg, .fnMsg, .queues, .sched, .halves, .engines,
    .bursts, .portReg, .cistern, .origins, .sumpFlags, .memErr, .log, .capFlag, .fwHeld, .devWake, .tunnel, .gate,
    .heldEv, .out] s (loseCtx n s) := by
  unfold loseCtx
  refine Eff.ite ?_ ?_; refine Eff.step losePipe_eff ?_; refine Eff.step memErrEvent_eff ?_
  refine Eff.step chipUe_eff ?_; exact Eff.refl _ _; exact Eff.refl _ _

theorem loseEntry_eff {n : Nat} {s : State} : Eff [.l1, .reads, .msg, .fnMsg, .queues, .sched, .halves, .engines,
    .portReg, .cistern, .sumpFlags, .memErr, .log, .capFlag, .fwHeld, .devWake, .tunnel, .gate, .heldEv, .freeCount,
    .out] s (loseEntry n s) := by
  unfold loseEntry
  split; split
  extract_lets +onlyGivenNames x2; refine Eff.via x2.2 ?_ (fun h2 => ?_); unfold x2; rotate_left; clear_value x2; rotate_left
  exact Eff.refl _ _; exact Eff.refl _ _; refine Eff.step takeFree_eff ?_; refine Eff.step chipUe_eff ?_
  exact Eff.refl _ _
  extract_lets +onlyGivenNames x8; refine Eff.via x8 ?_ (fun h8 => ?_); unfold x8; rotate_left; clear_value x8; rotate_left
  refine Eff.step memErrEvent_eff ?_; assumption; extract_lets +onlyGivenNames x11; split
  refine Eff.step endBus_eff ?_; assumption; extract_lets +onlyGivenNames x15; refine Eff.step nextHead_eff ?_
  refine Eff.step endChain_eff ?_; assumption; assumption

theorem loseOut_eff {n : Nat} {again : Bool} {s : State} : Eff [.l1, .reads, .msg, .fnMsg, .queues, .sched, .halves,
    .engines, .bursts, .portReg, .cistern, .sumpFlags, .memErr, .log, .capFlag, .fwHeld, .devWake, .tunnel, .gate,
    .heldEv, .out] s (loseOut n again s) := by
  unfold loseOut
  split; split; refine Eff.ite ?_ ?_
  extract_lets +onlyGivenNames x3; refine Eff.via x3 ?_ (fun h3 => ?_); unfold x3; rotate_left; clear_value x3; rotate_left
  exact Eff.refl _ _; exact Eff.refl _ _; exact Eff.refl _ _; refine Eff.step unbind_eff ?_
  refine Eff.step pageUe_eff ?_; exact Eff.refl _ _; refine Eff.step haltPipe_eff ?_
  refine Eff.step settleBurst_eff ?_; refine Eff.step modXfer_eff ?_; assumption

theorem chipError_eff {m : ChipAnswer} {s : State} : Eff [.l1, .reads, .msg, .fnMsg, .queues, .sched, .halves,
    .engines, .bursts, .portReg, .cistern, .origins, .sumpFlags, .memErr, .log, .capFlag, .cellar, .fwHeld,
    .devWake, .tunnel, .gate, .heldEv, .freeCount, .out] s (chipError m s) := by
  unfold chipError
  split; exact Eff.refl _ _; refine Eff.step countCe_eff ?_; exact Eff.refl _ _; refine Eff.step loseCtx_eff ?_
  exact Eff.refl _ _
  extract_lets +onlyGivenNames x6; refine Eff.via x6.2 ?_ (fun h6 => ?_); unfold x6; rotate_left; clear_value x6; rotate_left
  refine Eff.step loseEntry_eff ?_; exact Eff.refl _ _; refine Eff.step loseOut_eff ?_; exact Eff.refl _ _
  refine Eff.step takeFree_eff ?_; exact Eff.refl _ _; refine Eff.ite ?_ ?_; refine Eff.step ueCheck_eff ?_
  refine Eff.step loseWord_eff ?_; assumption; exact Eff.refl _ _

theorem ctxArrives_eff {n : Nat} {a : MemAnswer} {s : State} : Eff [.l1, .reads, .msg, .fnMsg, .queues, .sched,
    .halves, .engines, .bursts, .portReg, .cistern, .origins, .sumpFlags, .memErr, .log, .capFlag, .cellar, .fwHeld,
    .devWake, .tunnel, .gate, .heldEv, .freeCount, .out] s (ctxArrives n a s) := by
  unfold ctxArrives
  extract_lets +onlyGivenNames x0; split; refine Eff.step fillCtx_eff ?_; exact Eff.refl _ _
  refine Eff.step countCe_eff ?_; refine Eff.step fillCtx_eff ?_; exact Eff.refl _ _
  extract_lets +onlyGivenNames x7; refine Eff.via x7.2 ?_ (fun h7 => ?_); unfold x7; rotate_left; clear_value x7; rotate_left
  refine Eff.step takeFree_eff ?_; exact Eff.refl _ _; refine Eff.step ueCheck_eff ?_
  refine Eff.step losePipe_eff ?_; refine Eff.step memErrEvent_eff ?_; refine Eff.step countUe_eff ?_; assumption

theorem failInService_eff {k : Nat} {s : State} : Eff [.l1, .reads, .msg, .fnMsg, .queues, .sched, .halves,
    .engines, .bursts, .portReg, .cistern, .origins, .log, .capFlag, .cellar, .fwHeld, .devWake, .tunnel, .gate,
    .heldEv, .freeCount, .out] s (failInService k s) := by
  unfold failInService
  refine Eff.ite ?_ ?_; refine Eff.step failCellar_eff ?_; exact Eff.refl _ _; refine Eff.step memErrEvent_eff ?_
  exact Eff.refl _ _

theorem serveCellar_eff {c : Packet} {r : CellarTest} {s : State} : Eff [.l1, .reads, .msg, .fnMsg, .queues, .sched,
    .halves, .engines, .bursts, .portReg, .cistern, .origins, .log, .capFlag, .cellar, .fwHeld, .devWake, .tunnel,
    .gate, .heldEv, .freeCount, .out] s (serveCellar c r s) := by
  unfold serveCellar
  extract_lets +onlyGivenNames x0; split
  extract_lets +onlyGivenNames x2; refine Eff.via x2 ?_ (fun h2 => ?_); unfold x2; rotate_left; clear_value x2; rotate_left
  refine Eff.ite ?_ ?_
  extract_lets +onlyGivenNames x4; refine Eff.via x4 ?_ (fun h4 => ?_); unfold x4; rotate_left; clear_value x4; rotate_left
  split; refine Eff.step ok_eff ?_; exact Eff.refl _ _; refine Eff.step ok_eff ?_; exact Eff.refl _ _
  extract_lets +onlyGivenNames x10; refine Eff.via x10 ?_ (fun h10 => ?_); unfold x10; rotate_left; clear_value x10; rotate_left
  refine Eff.step failInService_eff ?_; exact Eff.refl _ _; refine Eff.step ok_eff ?_; assumption
  refine Eff.step capChange_eff ?_; refine Eff.step resizeLog_eff ?_; refine Eff.step modCel_eff ?_
  refine Eff.step switchOff_eff ?_; exact Eff.refl _ _; refine Eff.step ok_eff ?_; assumption
  refine Eff.step capChange_eff ?_; refine Eff.step resizeLog_eff ?_; refine Eff.step modCel_eff ?_
  refine Eff.step switchOn_eff ?_; exact Eff.refl _ _; refine Eff.step ok_eff ?_; assumption

theorem babble_eff {p : Port} {n : Nat} {x : Pipe} {s : State} : Eff [.l1, .reads, .msg, .fnMsg, .queues, .sched,
    .halves, .units, .engines, .bursts, .portReg, .portTime, .cistern, .origins, .log, .capFlag, .fwHeld, .devWake,
    .tunnel, .gate, .heldEv, .out] s (babble p n x s) := by
  unfold babble
  extract_lets +onlyGivenNames x0
  extract_lets +onlyGivenNames x1; refine Eff.via x1 ?_ (fun h1 => ?_); unfold x1; rotate_left; clear_value x1; rotate_left
  refine Eff.step errorOut_eff ?_; exact Eff.refl _ _; refine Eff.ite ?_ ?_; refine Eff.step linkFail_eff ?_
  assumption; assumption

end Sys2Proof.Machine
end

