-- ==== Sys2Proof/Laws/DevPortEff.lean ====
section
/-! SUPPORT. What each operation of Machine/DevPort.lean can change: one lemma per function. -/

set_option Elab.async false

namespace Sys2Proof.Machine

open Sys2Proof

theorem devTo_eff {st : DevSt} {s : State} : Eff [.devReg] s (devTo st s) := by
  unfold devTo
  refine Eff.ite ?_ ?_; exact Eff.refl _ _; refine Eff.upd ?_; exact Eff.refl _ _

theorem devStateEvent_eff {old : DevSt} {s : State} : Eff [.l1, .msg, .fnMsg, .queues, .tunnel, .gate, .heldEv,
    .out] s (devStateEvent old s) := by
  unfold devStateEvent
  refine Eff.step event_eff ?_; exact Eff.refl _ _

theorem devMove_eff {st : DevSt} {s : State} : Eff [.l1, .msg, .fnMsg, .queues, .devReg, .tunnel, .gate, .heldEv,
    .out] s (devMove st s) := by
  unfold devMove
  refine Eff.step devStateEvent_eff ?_; refine Eff.step devTo_eff ?_; exact Eff.refl _ _

theorem devAwake_eff {s : State} : Eff [.devReg] s (devAwake s) := by
  unfold devAwake
  refine Eff.upd ?_; exact Eff.refl _ _

theorem endRequest_eff {r : TunReq} {s : State} : Eff [.l1, .reads, .msg, .fnMsg, .queues, .sched, .halves,
    .engines, .bursts, .portReg, .cistern, .capFlag, .devWake, .tunnel, .gate, .heldEv, .out] s (endRequest r s) := by
  unfold endRequest
  split; split; refine Eff.ite ?_ ?_; split; refine Eff.step drainXfer_eff ?_; refine Eff.step modXfer_eff ?_
  exact Eff.refl _ _; exact Eff.refl _ _
  extract_lets +onlyGivenNames x8; refine Eff.via x8 ?_ (fun h8 => ?_); unfold x8; rotate_left; clear_value x8; rotate_left
  exact Eff.refl _ _; exact Eff.refl _ _; split
  extract_lets +onlyGivenNames x12; refine Eff.via x12 ?_ (fun h12 => ?_); unfold x12; rotate_left; clear_value x12; rotate_left
  exact Eff.refl _ _
  extract_lets +onlyGivenNames x14; refine Eff.via x14 ?_ (fun h14 => ?_); unfold x14; rotate_left; clear_value x14; rotate_left
  refine Eff.step freeXfer_eff ?_; exact Eff.refl _ _; split; refine Eff.step modPipe_eff ?_; assumption; assumption
  split; refine Eff.step nextHead_eff ?_; refine Eff.step detach_eff ?_; assumption; assumption
  refine Eff.step retryBlocked_eff ?_; refine Eff.step complete_eff ?_; assumption

theorem abandon_eff  {s : State} : Eff [.l1, .reads, .msg, .fnMsg, .queues, .sched, .halves, .engines, .bursts,
    .portReg, .cistern, .capFlag, .devReg, .devWake, .tunnel, .gate, .heldEv, .out] s (abandon s).1 := by
  unfold abandon
  extract_lets +onlyGivenNames x0; extract_lets +onlyGivenNames x1
  extract_lets +onlyGivenNames x2; refine Eff.via x2 ?_ (fun h2 => ?_); unfold x2; rotate_left; clear_value x2; rotate_left
  refine Eff.upd ?_; exact Eff.refl _ _; dsimp only; refine Eff.foldl (fun _ _ => ?_) ?_ _
  refine Eff.step endRequest_eff ?_; exact Eff.refl _ _; assumption

theorem devResetEvent_eff {pay : List Word} {s : State} : Eff [.l1, .msg, .fnMsg, .queues, .fwHeld, .tunnel, .gate,
    .heldEv, .out] s (devResetEvent pay s) := by
  unfold devResetEvent
  refine Eff.ite ?_ ?_; refine Eff.upd ?_; exact Eff.refl _ _; refine Eff.step event_eff ?_; exact Eff.refl _ _

theorem busReset_eff {kind stage : Nat} {req : Byte} {s : State} : Eff [.l1, .reads, .msg, .fnMsg, .queues, .sched,
    .halves, .engines, .bursts, .portReg, .cistern, .capFlag, .fwHeld, .devReg, .devWake, .tunnel, .gate, .heldEv,
    .out] s (busReset kind stage req s) := by
  unfold busReset
  extract_lets +onlyGivenNames x0
  extract_lets +onlyGivenNames x1; refine Eff.via x1.1 ?_ (fun h1 => ?_); unfold x1; rotate_left; clear_value x1; rotate_left
  refine Eff.step abandon_eff ?_; exact Eff.refl _ _
  extract_lets +onlyGivenNames x4; refine Eff.via x4 ?_ (fun h4 => ?_); unfold x4; rotate_left; clear_value x4; rotate_left
  assumption; extract_lets +onlyGivenNames x6
  extract_lets +onlyGivenNames x7; refine Eff.via x7 ?_ (fun h7 => ?_); unfold x7; rotate_left; clear_value x7; rotate_left
  refine Eff.upd ?_; assumption; refine Eff.step devResetEvent_eff ?_; assumption

theorem devDetach_eff {stage : Nat} {req : Byte} {s : State} : Eff [.l1, .reads, .msg, .fnMsg, .queues, .sched,
    .halves, .engines, .bursts, .portReg, .cistern, .capFlag, .fwHeld, .devReg, .devWake, .tunnel, .gate, .heldEv,
    .out] s (devDetach stage req s) := by
  unfold devDetach
  refine Eff.ite ?_ ?_
  extract_lets +onlyGivenNames x1; refine Eff.via x1 ?_ (fun h1 => ?_); unfold x1; rotate_left; clear_value x1; rotate_left
  exact Eff.refl _ _; refine Eff.step busReset_eff ?_; exact Eff.refl _ _; refine Eff.step devMove_eff ?_
  refine Eff.upd ?_; assumption

theorem devOff_eff {stage : Nat} {req : Byte} {s : State} : Eff [.l1, .reads, .msg, .fnMsg, .queues, .sched,
    .halves, .engines, .bursts, .portReg, .cistern, .capFlag, .fwHeld, .devReg, .devWake, .tunnel, .gate, .heldEv,
    .out] s (devOff stage req s) := by
  unfold devOff
  refine Eff.ite ?_ ?_; exact Eff.refl _ _
  extract_lets +onlyGivenNames x2; refine Eff.via x2 ?_ (fun h2 => ?_); unfold x2; rotate_left; clear_value x2; rotate_left
  refine Eff.step devTo_eff ?_; refine Eff.step devDetach_eff ?_; exact Eff.refl _ _
  refine Eff.step switchOff_eff ?_; refine Eff.step emit_eff ?_; refine Eff.upd ?_; assumption

theorem devEnable_eff {s : State} : Eff [.devReg, .tunnel, .out] s (devEnable s) := by
  unfold devEnable
  extract_lets +onlyGivenNames x0; extract_lets +onlyGivenNames x1
  extract_lets +onlyGivenNames x2; refine Eff.via x2 ?_ (fun h2 => ?_); unfold x2; rotate_left; clear_value x2; rotate_left
  refine Eff.step devTo_eff ?_; refine Eff.upd ?_; exact Eff.refl _ _; refine Eff.step emit_eff ?_
  refine Eff.step switchOn_eff ?_; assumption

theorem devClear_eff {s : State} : Eff [.l1, .reads, .msg, .fnMsg, .queues, .sched, .halves, .engines, .bursts,
    .portReg, .cistern, .capFlag, .fwHeld, .devReg, .devWake, .tunnel, .gate, .heldEv, .freeCount, .out] s (devClear
    s) := by
  unfold devClear
  extract_lets +onlyGivenNames x0; refine Eff.via x0.2 ?_ (fun h0 => ?_); unfold x0; rotate_left; clear_value x0; rotate_left
  refine Eff.step takeFree_eff ?_; exact Eff.refl _ _; refine Eff.step devOff_eff ?_; assumption

theorem writeDevCtl_eff {v : Word} {s : State} : Eff [.l1, .reads, .msg, .fnMsg, .queues, .sched, .halves, .engines,
    .bursts, .portReg, .cistern, .capFlag, .fwHeld, .devReg, .devWake, .tunnel, .gate, .heldEv, .freeCount, .out] s
    (writeDevCtl v s) := by
  unfold writeDevCtl
  extract_lets +onlyGivenNames x0
  extract_lets +onlyGivenNames x1; refine Eff.via x1 ?_ (fun h1 => ?_); unfold x1; rotate_left; clear_value x1; rotate_left
  refine Eff.ite ?_ ?_; exact Eff.refl _ _; refine Eff.upd ?_; exact Eff.refl _ _
  extract_lets +onlyGivenNames x6; refine Eff.via x6 ?_ (fun h6 => ?_); unfold x6; rotate_left; clear_value x6; rotate_left
  refine Eff.ite ?_ ?_; assumption; refine Eff.ite ?_ ?_; refine Eff.step devClear_eff ?_; assumption
  refine Eff.ite ?_ ?_; assumption; refine Eff.step devEnable_eff ?_; assumption; refine Eff.ite ?_ ?_
  refine Eff.step remoteWake_eff ?_; assumption; assumption

theorem devAttach_eff {c : DevSpeed} {s : State} : Eff [.l1, .msg, .fnMsg, .queues, .devReg, .tunnel, .gate,
    .heldEv, .out] s (devAttach c s) := by
  unfold devAttach
  refine Eff.step devMove_eff ?_; refine Eff.upd ?_; exact Eff.refl _ _

theorem devSuspend_eff {s : State} : Eff [.l1, .msg, .fnMsg, .queues, .devReg, .devWake, .tunnel, .gate, .heldEv,
    .out] s (devSuspend s) := by
  unfold devSuspend
  extract_lets +onlyGivenNames x0; refine Eff.step devMove_eff ?_; refine Eff.upd ?_; exact Eff.refl _ _

theorem devResume_eff {host : Bool} {s : State} : Eff [.l1, .msg, .fnMsg, .queues, .devReg, .devWake, .tunnel,
    .gate, .heldEv, .out] s (devResume host s) := by
  unfold devResume
  extract_lets +onlyGivenNames x0; extract_lets +onlyGivenNames x1
  extract_lets +onlyGivenNames x2; refine Eff.via x2 ?_ (fun h2 => ?_); unfold x2; rotate_left; clear_value x2; rotate_left
  refine Eff.step devMove_eff ?_; refine Eff.upd ?_; exact Eff.refl _ _; refine Eff.foldl (fun _ _ => ?_) ?_ _
  refine Eff.step tunErdy_eff ?_; exact Eff.refl _ _; assumption

theorem lpmRequest_eff {k : DevLpm} {s : State} : Eff [.devReg, .out] s (lpmRequest k s) := by
  unfold lpmRequest
  extract_lets +onlyGivenNames x0; extract_lets +onlyGivenNames x1; refine Eff.step emit_eff ?_
  refine Eff.ite ?_ ?_; refine Eff.upd ?_; exact Eff.refl _ _; exact Eff.refl _ _

theorem stallControl_eff {s : State} : Eff [.out] s (stallControl s) := by
  unfold stallControl
  refine Eff.step emit_eff ?_; exact Eff.refl _ _

theorem ackControl_eff {s : State} : Eff [.out] s (ackControl s) := by
  unfold ackControl
  refine Eff.step emit_eff ?_; exact Eff.refl _ _

theorem setDevAddress_eff {a : BitVec 7} {s : State} : Eff [.devReg, .out] s (setDevAddress a s) := by
  unfold setDevAddress
  split; refine Eff.step stallControl_eff ?_; exact Eff.refl _ _; refine Eff.ite ?_ ?_
  refine Eff.step ackControl_eff ?_; exact Eff.refl _ _; refine Eff.step ackControl_eff ?_
  refine Eff.step devTo_eff ?_; refine Eff.upd ?_; exact Eff.refl _ _; extract_lets +onlyGivenNames x10
  extract_lets +onlyGivenNames x11; refine Eff.via x11 ?_ (fun h11 => ?_); unfold x11; rotate_left; clear_value x11; rotate_left
  exact Eff.refl _ _; exact Eff.refl _ _; exact Eff.refl _ _; refine Eff.upd ?_; exact Eff.refl _ _
  refine Eff.step ackControl_eff ?_; refine Eff.ite ?_ ?_; refine Eff.step devTo_eff ?_; assumption; assumption

theorem setConfig_eff {v : Nat} {s : State} : Eff [.l1, .reads, .msg, .fnMsg, .queues, .sched, .halves, .engines,
    .bursts, .portReg, .cistern, .capFlag, .devReg, .devWake, .tunnel, .gate, .heldEv, .out] s (setConfig v s) := by
  unfold setConfig
  split; refine Eff.step stallControl_eff ?_; exact Eff.refl _ _; refine Eff.ite ?_ ?_
  refine Eff.step ackControl_eff ?_; exact Eff.refl _ _; refine Eff.ite ?_ ?_; refine Eff.step ackControl_eff ?_
  refine Eff.step devMove_eff ?_; refine Eff.upd ?_; exact Eff.refl _ _; refine Eff.step stallControl_eff ?_
  exact Eff.refl _ _; refine Eff.ite ?_ ?_
  extract_lets +onlyGivenNames x14; refine Eff.via x14 ?_ (fun h14 => ?_); unfold x14; rotate_left; clear_value x14; rotate_left
  refine Eff.ite ?_ ?_; refine Eff.step ackControl_eff ?_; exact Eff.refl _ _; refine Eff.step stallControl_eff ?_
  exact Eff.refl _ _; exact Eff.refl _ _; exact Eff.refl _ _; exact Eff.refl _ _; refine Eff.step abandon_eff ?_
  exact Eff.refl _ _; refine Eff.step ackControl_eff ?_; refine Eff.step devTo_eff ?_; refine Eff.upd ?_; assumption

theorem setInterface_eff {i alt : Nat} {s : State} : Eff [.l1, .reads, .msg, .fnMsg, .queues, .sched, .halves,
    .engines, .bursts, .portReg, .cistern, .capFlag, .devReg, .devWake, .tunnel, .gate, .heldEv, .out] s
    (setInterface i alt s) := by
  unfold setInterface
  refine Eff.ite ?_ ?_; refine Eff.step stallControl_eff ?_; exact Eff.refl _ _; refine Eff.ite ?_ ?_
  refine Eff.ite ?_ ?_; refine Eff.step ackControl_eff ?_; refine Eff.upd ?_; exact Eff.refl _ _
  refine Eff.ite ?_ ?_
  extract_lets +onlyGivenNames x9; refine Eff.via x9 ?_ (fun h9 => ?_); unfold x9; rotate_left; clear_value x9; rotate_left
  refine Eff.step stallControl_eff ?_; exact Eff.refl _ _; refine Eff.ite ?_ ?_; refine Eff.step ackControl_eff ?_
  exact Eff.refl _ _; refine Eff.step stallControl_eff ?_; exact Eff.refl _ _; refine Eff.step abandon_eff ?_
  exact Eff.refl _ _; refine Eff.step ackControl_eff ?_; refine Eff.upd ?_; assumption

theorem setFeature_eff {f : DevFeature} {s : State} : Eff [.devReg, .out] s (setFeature f s) := by
  unfold setFeature
  split; refine Eff.ite ?_ ?_; refine Eff.step ackControl_eff ?_; refine Eff.upd ?_; exact Eff.refl _ _
  refine Eff.step stallControl_eff ?_; exact Eff.refl _ _; refine Eff.ite ?_ ?_; refine Eff.step stallControl_eff ?_
  exact Eff.refl _ _; refine Eff.step ackControl_eff ?_; refine Eff.upd ?_; exact Eff.refl _ _

theorem noticeRest_eff {k n : Nat} {bs : List Byte} {s : State} : Eff [.log, .fwHeld] s (noticeRest k n bs s) := by
  induction n generalizing s bs with
  | zero => exact Eff.refl _ _
  | succ n ih =>
    cases bs with
    | nil => exact Eff.refl _ _
    | cons b bs => exact Eff.step ih (Eff.step logRec_eff (Eff.refl _ _))

theorem raiseNotice_eff {bs : List Byte} {s : State} : Eff [.l1, .msg, .fnMsg, .queues, .log, .fwHeld, .tunnel,
    .gate, .heldEv, .freeCount, .out] s (raiseNotice bs s) := by
  unfold raiseNotice
  extract_lets +onlyGivenNames x0
  extract_lets +onlyGivenNames x1; refine Eff.via x1 ?_ (fun h1 => ?_); unfold x1; rotate_left; clear_value x1; rotate_left
  refine Eff.step event_eff ?_; exact Eff.refl _ _
  extract_lets +onlyGivenNames x4; refine Eff.via x4.2 ?_ (fun h4 => ?_); unfold x4; rotate_left; clear_value x4; rotate_left
  refine Eff.step takeFree_eff ?_; assumption; extract_lets +onlyGivenNames x7; refine Eff.step noticeRest_eff ?_
  refine Eff.step logRec_eff ?_; assumption

theorem discard_eff {s : State} : Eff [.devReg] s (discard s) := by
  unfold discard
  refine Eff.upd ?_; exact Eff.refl _ _

theorem shortRequest_eff {r : TunReq} {status errinfo : Nat} {s : State} : Eff [.devWake, .tunnel, .out] s
    (shortRequest r status errinfo s) := by
  unfold shortRequest
  extract_lets +onlyGivenNames x0; refine Eff.step offerTrailer_eff ?_; refine Eff.upd ?_; exact Eff.refl _ _

theorem enterRequest_eff {n : Nat} {x : Pipe} {d : Slot} {r : TunReq} {s : State} : Eff [.l1, .reads, .msg, .fnMsg,
    .queues, .sched, .halves, .engines, .portReg, .cistern, .capFlag, .devWake, .tunnel, .gate, .heldEv, .freeCount,
    .out] s (enterRequest n x d r s) := by
  unfold enterRequest
  extract_lets +onlyGivenNames x0
  extract_lets +onlyGivenNames x1; refine Eff.via x1.2 ?_ (fun h1 => ?_); unfold x1; rotate_left; clear_value x1; rotate_left
  refine Eff.step takeFree_eff ?_; exact Eff.refl _ _; extract_lets +onlyGivenNames x4
  extract_lets +onlyGivenNames x5; refine Eff.via x5 ?_ (fun h5 => ?_); unfold x5; rotate_left; clear_value x5; rotate_left
  assumption; extract_lets +onlyGivenNames x7; extract_lets +onlyGivenNames x8; extract_lets +onlyGivenNames x9
  extract_lets +onlyGivenNames x10; refine Eff.via x10 ?_ (fun h10 => ?_); unfold x10; rotate_left; clear_value x10; rotate_left
  refine Eff.upd ?_; assumption; refine Eff.ite ?_ ?_; refine Eff.step complete_eff ?_; assumption
  refine Eff.step pipeAttach_eff ?_; assumption

theorem newRequest_eff {pair stream : Nat} {h : Nat → Word} {data : List Byte} {s : State} : Eff [.l1, .reads, .msg,
    .fnMsg, .queues, .sched, .halves, .engines, .portReg, .cistern, .capFlag, .devWake, .tunnel, .gate, .heldEv,
    .freeCount, .out] s (newRequest pair stream h data s) := by
  unfold newRequest
  extract_lets +onlyGivenNames x0; extract_lets +onlyGivenNames x1; refine Eff.ite ?_ ?_
  refine Eff.step shortRequest_eff ?_; exact Eff.refl _ _; split; refine Eff.ite ?_ ?_
  refine Eff.step enterRequest_eff ?_; exact Eff.refl _ _; refine Eff.step shortRequest_eff ?_; exact Eff.refl _ _
  refine Eff.step shortRequest_eff ?_; exact Eff.refl _ _

theorem cancelRequest_eff {pair stream tag : Nat} {s : State} : Eff [.l1, .reads, .msg, .fnMsg, .queues, .sched,
    .halves, .engines, .bursts, .portReg, .cistern, .capFlag, .devReg, .devWake, .tunnel, .gate, .heldEv, .out] s
    (cancelRequest pair stream tag s) := by
  unfold cancelRequest
  split; refine Eff.step endRequest_eff ?_; exact Eff.refl _ _; refine Eff.step discard_eff ?_; exact Eff.refl _ _

theorem tunnelOut_eff {pair stream : Nat} {bs : List Byte} {s : State} : Eff [.l1, .reads, .msg, .fnMsg, .queues,
    .sched, .halves, .engines, .bursts, .portReg, .cistern, .capFlag, .devReg, .devWake, .tunnel, .gate, .heldEv,
    .freeCount, .out] s (tunnelOut pair stream bs s) := by
  unfold tunnelOut
  extract_lets +onlyGivenNames x0; refine Eff.ite ?_ ?_; refine Eff.step discard_eff ?_; exact Eff.refl _ _
  refine Eff.ite ?_ ?_; refine Eff.step cancelRequest_eff ?_; exact Eff.refl _ _; refine Eff.ite ?_ ?_
  refine Eff.step emit_eff ?_; refine Eff.upd ?_; exact Eff.refl _ _; refine Eff.step newRequest_eff ?_
  exact Eff.refl _ _

theorem tunnelIn_eff {pair stream : Nat} {s : State} : Eff [.l1, .reads, .msg, .fnMsg, .queues, .sched, .halves,
    .engines, .portReg, .cistern, .capFlag, .devWake, .tunnel, .gate, .heldEv, .out] s (tunnelIn pair stream s) := by
  unfold tunnelIn
  extract_lets +onlyGivenNames x0; extract_lets +onlyGivenNames x1; split; unfold x1; beta_reduce
  refine Eff.step emit_eff ?_; refine Eff.upd ?_; exact Eff.refl _ _; extract_lets +onlyGivenNames x7
  extract_lets +onlyGivenNames x8; refine Eff.via x8 ?_ (fun h8 => ?_); unfold x8; rotate_left; clear_value x8; rotate_left
  refine Eff.upd ?_; exact Eff.refl _ _; refine Eff.ite ?_ ?_; unfold x1; beta_reduce; refine Eff.step emit_eff ?_
  refine Eff.upd ?_; exact Eff.refl _ _; split; refine Eff.step sendTrailer_eff ?_; assumption
  refine Eff.step progress_eff ?_; assumption; unfold x1; beta_reduce; refine Eff.step emit_eff ?_
  refine Eff.upd ?_; exact Eff.refl _ _

theorem loopReach_eff {c : Packet} {s : State} : Eff [.l1, .reads, .msg, .fnMsg, .queues, .sched, .halves, .units,
    .engines, .bursts, .portReg, .portTime, .cistern, .origins, .log, .capFlag, .fwHeld, .devWake, .tunnel, .gate,
    .heldEv, .out] s (loopReach c s) := by
  unfold loopReach
  extract_lets +onlyGivenNames x0; refine Eff.ite ?_ ?_; refine Eff.ite ?_ ?_; exact Eff.refl _ _
  refine Eff.step goHalf_eff ?_; refine Eff.step setSpeed_eff ?_; exact Eff.refl _ _
  extract_lets +onlyGivenNames x7; refine Eff.via x7 ?_ (fun h7 => ?_); unfold x7; rotate_left; clear_value x7; rotate_left
  refine Eff.ite ?_ ?_; refine Eff.step usb2Connect_eff ?_; exact Eff.refl _ _; exact Eff.refl _ _
  refine Eff.ite ?_ ?_; assumption; refine Eff.step goHalf_eff ?_; refine Eff.step setSpeed_eff ?_; assumption

theorem startLoop_eff {c : Packet} {reached : Bool} {s : State} : Eff [.l1, .reads, .msg, .fnMsg, .queues, .sched,
    .halves, .units, .engines, .bursts, .portReg, .portTime, .cistern, .origins, .log, .capFlag, .fwHeld, .devReg,
    .devWake, .tunnel, .gate, .heldEv, .out] s (startLoop c reached s) := by
  unfold startLoop
  extract_lets +onlyGivenNames x0; extract_lets +onlyGivenNames x1
  extract_lets +onlyGivenNames x2; refine Eff.via x2 ?_ (fun h2 => ?_); unfold x2; rotate_left; clear_value x2; rotate_left
  refine Eff.step devEnable_eff ?_; refine Eff.upd ?_; exact Eff.refl _ _; refine Eff.ite ?_ ?_
  extract_lets +onlyGivenNames x7; refine Eff.via x7 ?_ (fun h7 => ?_); unfold x7; rotate_left; clear_value x7; rotate_left
  extract_lets +onlyGivenNames x8; refine Eff.via x8 ?_ (fun h8 => ?_); unfold x8; rotate_left; clear_value x8; rotate_left
  refine Eff.step devOff_eff ?_; assumption; refine Eff.step reply_eff ?_; refine Eff.upd ?_; assumption
  refine Eff.step devAttach_eff ?_; refine Eff.step loopReach_eff ?_; assumption; extract_lets +onlyGivenNames x17
  extract_lets +onlyGivenNames x18; refine Eff.via x18 ?_ (fun h18 => ?_); unfold x18; rotate_left; clear_value x18; rotate_left
  refine Eff.step bus_eff ?_; assumption; extract_lets +onlyGivenNames x21
  extract_lets +onlyGivenNames x22; refine Eff.via x22 ?_ (fun h22 => ?_); unfold x22; rotate_left; clear_value x22; rotate_left
  refine modPort_eff ?_ (fun _ => {}); assumption; extract_lets +onlyGivenNames x25
  extract_lets +onlyGivenNames x26; refine Eff.via x26 ?_ (fun h26 => ?_); unfold x26; rotate_left; clear_value x26; rotate_left
  refine Eff.step devTo_eff ?_; refine Eff.upd ?_; assumption; refine Eff.upd ?_; assumption

theorem endLoop_eff {i : Word} {p a errors : Nat} {s : State} : Eff [.l1, .reads, .msg, .fnMsg, .queues, .sched,
    .halves, .units, .engines, .bursts, .portReg, .portTime, .cistern, .capFlag, .fwHeld, .devReg, .devWake,
    .tunnel, .gate, .heldEv, .out] s (endLoop i p a errors s) := by
  unfold endLoop
  extract_lets +onlyGivenNames x0; refine Eff.via x0 ?_ (fun h0 => ?_); unfold x0; rotate_left; clear_value x0; rotate_left
  refine Eff.step devOff_eff ?_; refine Eff.step freeUnit_eff ?_; exact Eff.refl _ _; refine Eff.step reply_eff ?_
  refine Eff.upd ?_; assumption

end Sys2Proof.Machine
end

