-- ==== Sys2Proof/Laws/StartupEff.lean ====
section
/-! SUPPORT. What each operation of Machine/Startup.lean can change: one lemma per function. -/

set_option Elab.async false

namespace Sys2Proof.Machine

open Sys2Proof

theorem cold_eff {s : State} : Eff [.link, .l1, .herr, .reads, .late, .msg, .fnCfg, .fnErr, .fnMsg, .queues, .dbdrop, .fences, .sched, .halves, .units, .engines, .bursts, .portReg, .clock, .lock, .portTime, .cistern, .origins, .sumpFlags, .acc, .memErr, .log, .sets, .instState, .mailbox, .resetRec, .scratch, .capFlag, .cellar, .cmd, .fwSlots, .fwHeld, .boot, .devReg, .devWake, .tunnel, .chans, .pmReg, .gate, .heldEv, .cool, .store, .mgmt] s (cold s) := by
  unfold cold
  exact Eff.upd (Eff.refl _ _) (h_pm := { canon := fun _ => wf_nil }) (h_fw := { otp := Nat.le_refl _ })
    (h_funcs := ⟨.inl (by decide), .inl (by decide), .inl (by decide)⟩)
    (h_ports := ⟨.inl (by decide), .inl (by decide), .inl (by decide), .inl (by decide), .inl (by decide)⟩)
    (h_insts := ⟨.inl (by decide), .inl (by decide), .inl (by decide)⟩)
    (h_names := fun _ => List.pairwise_singleton _ _) (h_room1 := fun _ _ h => nomatch h)

theorem coldKeep_eff {s : State} : Eff [.link, .l1, .herr, .reads, .late, .msg, .fnCfg, .fnErr, .fnMsg, .queues,
    .dbdrop, .fences, .sched, .halves, .units, .engines, .bursts, .portReg, .clock, .lock, .portTime, .cistern,
    .origins, .sumpFlags, .acc, .memErr, .log, .sets, .instState, .mailbox, .resetRec, .scratch, .capFlag, .cellar,
    .cmd, .fwSlots, .fwHeld, .boot, .devReg, .devWake, .tunnel, .chans, .pmReg, .gate, .heldEv, .cool, .store,
    .mgmt] s (coldKeep s) := by
  unfold coldKeep
  refine Eff.upd ?_; refine Eff.step cold_eff ?_; exact Eff.refl _ _

theorem domainsDown_eff {old new s : State} : Eff [.out] s (domainsDown old new s) := by
  unfold domainsDown
  extract_lets +onlyGivenNames x0; refine Eff.foldl (fun _ _ => ?_) ?_ _; refine Eff.step emit_eff ?_
  exact Eff.refl _ _; refine Eff.foldl (fun _ _ => ?_) ?_ _; refine Eff.step emit_eff ?_; exact Eff.refl _ _
  exact Eff.refl _ _

theorem domainsUp_eff {old new s : State} : Eff [.out] s (domainsUp old new s) := by
  unfold domainsUp
  refine Eff.foldl (fun _ _ => ?_) ?_ _; refine Eff.step switchOn_eff ?_; exact Eff.refl _ _; exact Eff.refl _ _

theorem gatesOff_eff {s : State} : Eff [.out] s (gatesOff s) := by
  unfold gatesOff
  refine Eff.foldl (fun _ _ => ?_) ?_ _; refine Eff.ite ?_ ?_; refine Eff.step emit_eff ?_; exact Eff.refl _ _
  exact Eff.refl _ _; exact Eff.refl _ _

theorem gatesFast_eff {s : State} : Eff [.out] s (gatesFast s) := by
  unfold gatesFast
  refine Eff.foldl (fun _ _ => ?_) ?_ _; refine Eff.ite ?_ ?_; refine Eff.step emit_eff ?_
  refine Eff.step emit_eff ?_; exact Eff.refl _ _; exact Eff.refl _ _; exact Eff.refl _ _

theorem pmic_eff {core : Bool} {on : Bool} {s : State} : Eff [.out] s (pmic core on s) := by
  unfold pmic
  refine Eff.ite ?_ ?_; exact Eff.refl _ _; refine Eff.step emit_eff ?_; exact Eff.refl _ _

theorem warmChan_eff {t : Nat} {c : Nat} {s : State} : Eff [.chans] s (warmChan t c s) := by
  unfold warmChan
  extract_lets +onlyGivenNames x0; extract_lets +onlyGivenNames x1; extract_lets +onlyGivenNames x2
  refine Eff.step setChan_eff ?_; exact Eff.refl _ _

theorem warmChans_eff {t : Nat} {s : State} : Eff [.chans] s (warmChans t s) := by
  unfold warmChans
  refine Eff.foldl (fun _ _ => ?_) ?_ _; refine Eff.step warmChan_eff ?_; exact Eff.refl _ _; exact Eff.refl _ _

theorem disableHalf_eff {p : Port} {h : Half} {s : State} : Eff [.halves] s (disableHalf p h s) := by
  unfold disableHalf
  split; exact Eff.refl _ _; exact Eff.refl _ _; exact Eff.refl _ _; refine Eff.step modHalf_eff ?_
  exact Eff.refl _ _; refine Eff.step modHalf_eff ?_; exact Eff.refl _ _; refine Eff.step modHalf_eff ?_
  exact Eff.refl _ _; refine Eff.step modHalf_eff ?_; exact Eff.refl _ _

theorem clearPort_eff {p : Port} {s : State} : Eff [.halves, .units, .engines, .bursts] s (clearPort p s) := by
  unfold clearPort
  extract_lets +onlyGivenNames x0; refine Eff.step disableHalf_eff ?_; refine Eff.step disableHalf_eff ?_
  refine modPort_eff ?_ (fun _ => {}); exact Eff.refl _ _

theorem idlePump_eff {n : Nat} {s : State} : Eff [.cistern] s (idlePump n s) := by
  unfold idlePump
  refine Eff.step modPump_eff ?_; exact Eff.refl _ _

theorem clearPf_eff {s : State} : Eff [.link, .fnCfg, .fnMsg] s (clearPf s) := by
  unfold clearPf
  extract_lets +onlyGivenNames x0; refine Eff.via x0 ?_ (fun h0 => ?_); unfold x0; rotate_left; clear_value x0; rotate_left
  refine modFn_eff ?_ (fun _ => {}); exact Eff.refl _ _
  extract_lets +onlyGivenNames x3; refine Eff.via x3 ?_ (fun h3 => ?_); unfold x3; rotate_left; clear_value x3; rotate_left
  refine Eff.foldl (fun _ _ => ?_) ?_ _; refine modFn_eff ?_ (fun _ => {}); exact Eff.refl _ _; assumption
  refine Eff.upd ?_; assumption

theorem clearInstances_eff {s : State} : Eff [.link, .l1, .reads, .msg, .fnCfg, .fnMsg, .queues, .fences, .sched,
    .halves, .engines, .bursts, .portReg, .cistern, .origins, .log, .instState, .capFlag, .fwHeld, .devWake,
    .tunnel, .gate, .heldEv, .out] s (clearInstances s) := by
  unfold clearInstances
  extract_lets +onlyGivenNames x0
  extract_lets +onlyGivenNames x1; refine Eff.via x1 ?_ (fun h1 => ?_); unfold x1; rotate_left; clear_value x1; rotate_left
  refine Eff.foldl (fun _ _ => ?_) ?_ _; refine Eff.step resetInst_eff ?_; refine modFn_eff ?_ (fun _ => {})
  exact Eff.refl _ _; exact Eff.refl _ _; extract_lets +onlyGivenNames x7
  extract_lets +onlyGivenNames x8; refine Eff.via x8 ?_ (fun h8 => ?_); unfold x8; rotate_left; clear_value x8; rotate_left
  refine Eff.upd ?_; assumption
  extract_lets +onlyGivenNames x11; refine Eff.via x11 ?_ (fun h11 => ?_); unfold x11; rotate_left; clear_value x11; rotate_left
  refine Eff.foldl (fun _ _ => ?_) ?_ _; refine Eff.step clearWork_eff ?_; refine modInst_eff ?_ (fun _ => {})
  exact Eff.refl _ _; assumption
  extract_lets +onlyGivenNames x17; refine Eff.via x17 ?_ (fun h17 => ?_); unfold x17; rotate_left; clear_value x17; rotate_left
  refine Eff.step clearWork_eff ?_; refine Eff.step gateWork_eff ?_; assumption; extract_lets +onlyGivenNames x21
  extract_lets +onlyGivenNames x22; refine Eff.via x22 ?_ (fun h22 => ?_); unfold x22; rotate_left; clear_value x22; rotate_left
  refine Eff.foldl (fun _ _ => ?_) ?_ _; refine Eff.step delQueue_eff ?_; exact Eff.refl _ _; assumption
  refine Eff.step setQueue_eff ?_; assumption

theorem resetDatapath_eff {s : State} : Eff [.link, .l1, .reads, .msg, .fnCfg, .fnMsg, .queues, .fences, .sched,
    .halves, .units, .engines, .bursts, .portReg, .cistern, .origins, .log, .instState, .capFlag, .fwHeld, .devReg,
    .devWake, .tunnel, .gate, .heldEv, .freeCount, .out] s (resetDatapath s) := by
  unfold resetDatapath
  extract_lets +onlyGivenNames x0; refine Eff.via x0 ?_ (fun h0 => ?_); unfold x0; rotate_left; clear_value x0; rotate_left
  refine Eff.step clearInstances_eff ?_; refine Eff.step clearPf_eff ?_; exact Eff.refl _ _
  extract_lets +onlyGivenNames x4; refine Eff.via x4 ?_ (fun h4 => ?_); unfold x4; rotate_left; clear_value x4; rotate_left
  refine Eff.foldl (fun _ _ => ?_) ?_ _; refine Eff.step erasePipe_eff ?_; exact Eff.refl _ _; assumption
  extract_lets +onlyGivenNames x9
  extract_lets +onlyGivenNames x10; refine Eff.via x10 ?_ (fun h10 => ?_); unfold x10; rotate_left; clear_value x10; rotate_left
  refine Eff.upd ?_; assumption
  extract_lets +onlyGivenNames x13; refine Eff.via x13 ?_ (fun h13 => ?_); unfold x13; rotate_left; clear_value x13; rotate_left
  refine Eff.foldl (fun _ _ => ?_) ?_ _; refine Eff.step clearPort_eff ?_; exact Eff.refl _ _; assumption
  extract_lets +onlyGivenNames x18
  extract_lets +onlyGivenNames x19; refine Eff.via x19 ?_ (fun h19 => ?_); unfold x19; rotate_left; clear_value x19; rotate_left
  refine Eff.step devClear_eff ?_; refine Eff.upd ?_; assumption
  extract_lets +onlyGivenNames x23; refine Eff.via x23 ?_ (fun h23 => ?_); unfold x23; rotate_left; clear_value x23; rotate_left
  refine Eff.foldl (fun _ _ => ?_) ?_ _; refine Eff.step idlePump_eff ?_; exact Eff.refl _ _; assumption
  refine Eff.upd ?_; assumption

theorem resetSets_eff {s : State} : Eff [.l1, .reads, .msg, .fnMsg, .queues, .sched, .halves, .units, .engines,
    .bursts, .portReg, .lock, .portTime, .cistern, .origins, .log, .sets, .capFlag, .cmd, .fwHeld, .devWake,
    .tunnel, .chans, .gate, .heldEv, .out] s (resetSets s) := by
  unfold resetSets
  extract_lets +onlyGivenNames x0; extract_lets +onlyGivenNames x1
  extract_lets +onlyGivenNames x2; refine Eff.via x2 ?_ (fun h2 => ?_); unfold x2; rotate_left; clear_value x2; rotate_left
  refine Eff.upd ?_; exact Eff.refl _ _; extract_lets +onlyGivenNames x5; extract_lets +onlyGivenNames x6
  extract_lets +onlyGivenNames x7; refine Eff.via x7 ?_ (fun h7 => ?_); unfold x7; rotate_left; clear_value x7; rotate_left
  refine Eff.upd ?_; assumption
  extract_lets +onlyGivenNames x10; refine Eff.via x10 ?_ (fun h10 => ?_); unfold x10; rotate_left; clear_value x10; rotate_left
  refine Eff.foldl (fun _ _ => ?_) ?_ _; refine Eff.step commitPcfg_eff ?_; exact Eff.refl _ _; assumption
  refine Eff.foldl (fun _ _ => ?_) ?_ _; refine Eff.step recheckPort_eff ?_; exact Eff.refl _ _; assumption

theorem controllerReset_eff {s : State} : Eff [.link, .l1, .reads, .msg, .fnCfg, .fnMsg, .queues, .fences, .sched,
    .halves, .units, .engines, .bursts, .portReg, .lock, .portTime, .cistern, .origins, .log, .sets, .instState,
    .capFlag, .cmd, .fwSlots, .fwHeld, .boot, .devReg, .devWake, .tunnel, .chans, .gate, .heldEv, .freeCount, .out]
    s (controllerReset s) := by
  unfold controllerReset
  extract_lets +onlyGivenNames x0; extract_lets +onlyGivenNames x1; extract_lets +onlyGivenNames x2
  extract_lets +onlyGivenNames x3; extract_lets +onlyGivenNames x4; extract_lets +onlyGivenNames x5
  extract_lets +onlyGivenNames x6
  extract_lets +onlyGivenNames x7; refine Eff.via x7 ?_ (fun h7 => ?_); unfold x7; rotate_left; clear_value x7; rotate_left
  refine Eff.step dropReads_eff ?_; refine Eff.step resetSets_eff ?_; refine Eff.step resetDatapath_eff ?_
  exact Eff.refl _ _; refine Eff.upd ?_; assumption

theorem pfReset_eff {s : State} : Eff [.link, .l1, .reads, .msg, .fnCfg, .fnMsg, .queues, .fences, .sched, .halves,
    .units, .engines, .bursts, .portReg, .lock, .portTime, .cistern, .origins, .log, .sets, .instState, .capFlag,
    .cmd, .fwSlots, .fwHeld, .boot, .devReg, .devWake, .tunnel, .chans, .gate, .heldEv, .freeCount, .out] s (pfReset
    s) := by
  unfold pfReset
  refine Eff.ite ?_ ?_; refine Eff.upd ?_; exact Eff.refl _ _; refine Eff.step controllerReset_eff ?_
  refine Eff.step ungate_eff ?_; exact Eff.refl _ _

theorem heldReset_eff {s : State} : Eff [.link, .l1, .reads, .msg, .fnCfg, .fnMsg, .queues, .fences, .sched,
    .halves, .units, .engines, .bursts, .portReg, .lock, .portTime, .cistern, .origins, .log, .sets, .instState,
    .capFlag, .cmd, .fwSlots, .fwHeld, .boot, .devReg, .devWake, .tunnel, .chans, .gate, .heldEv, .freeCount, .out]
    s (heldReset s) := by
  unfold heldReset
  refine Eff.ite ?_ ?_; refine Eff.step controllerReset_eff ?_; exact Eff.refl _ _; exact Eff.refl _ _

theorem bringPort_eff {s0 : State} {p : Nat} {s : State} : Eff [.halves, .portReg] s (bringPort s0 p s) := by
  unfold bringPort
  extract_lets +onlyGivenNames x0; extract_lets +onlyGivenNames x1; refine modPort_eff ?_ (fun _ => {})
  exact Eff.refl _ _

theorem finishBoot_eff {s : State} : Eff [.link, .l1, .reads, .msg, .fnCfg, .fnMsg, .queues, .fences, .sched,
    .halves, .units, .engines, .bursts, .portReg, .lock, .portTime, .cistern, .origins, .log, .sets, .instState,
    .capFlag, .cmd, .fwSlots, .fwHeld, .boot, .devReg, .devWake, .tunnel, .chans, .gate, .heldEv, .freeCount, .out]
    s (finishBoot s) := by
  unfold finishBoot
  extract_lets +onlyGivenNames x0; extract_lets +onlyGivenNames x1; extract_lets +onlyGivenNames x2
  extract_lets +onlyGivenNames x3; extract_lets +onlyGivenNames x4; extract_lets +onlyGivenNames x5
  extract_lets +onlyGivenNames x6
  extract_lets +onlyGivenNames x7; refine Eff.via x7 ?_ (fun h7 => ?_); unfold x7; rotate_left; clear_value x7; rotate_left
  exact Eff.refl _ _
  extract_lets +onlyGivenNames x9; refine Eff.via x9 ?_ (fun h9 => ?_); unfold x9; rotate_left; clear_value x9; rotate_left
  refine Eff.foldl (fun _ _ => ?_) ?_ _; refine Eff.step bringPort_eff ?_; exact Eff.refl _ _; exact Eff.refl _ _
  extract_lets +onlyGivenNames x14; refine Eff.via x14 ?_ (fun h14 => ?_); unfold x14; rotate_left; clear_value x14; rotate_left
  refine Eff.foldl (fun _ _ => ?_) ?_ _; refine Eff.ite ?_ ?_; refine Eff.step modPump_eff ?_; exact Eff.refl _ _
  exact Eff.refl _ _; assumption; refine Eff.step heldReset_eff ?_; refine Eff.upd ?_; assumption

theorem markBad_eff {b bad : Bool} {s : State} : Eff [.boot] s (markBad b bad s) := by
  unfold markBad
  refine Eff.ite ?_ ?_; exact Eff.refl _ _; refine Eff.upd ?_; exact Eff.refl _ _

theorem setSlot_eff {b valid : Bool} {v : BitVec 24} {r : Nat} {s : State} : Eff [.fwSlots] s (setSlot b valid v r
    s) := by
  unfold setSlot
  refine Eff.upd ?_; exact Eff.refl _ _

theorem setPart_eff {b part : Bool} {s : State} : Eff [.fwSlots] s (setPart b part s) := by
  unfold setPart
  split <;> exact Eff.upd (Eff.refl _ _)

theorem runSlot_eff {b : Bool} {i : BitVec 24 × Nat} {s : State} : Eff [.fwSlots] s (runSlot b i s) := by
  unfold runSlot
  extract_lets +onlyGivenNames x0; refine Eff.via x0 ?_ (fun h0 => ?_); unfold x0; rotate_left; clear_value x0; rotate_left
  refine Eff.step setSlot_eff ?_; exact Eff.refl _ _; refine Eff.upd ?_; assumption

theorem recover_eff {s : State} : Eff [.portReg, .boot] s (recover s) := by
  unfold recover
  extract_lets +onlyGivenNames x0; refine Eff.via x0 ?_ (fun h0 => ?_); unfold x0; rotate_left; clear_value x0; rotate_left
  refine Eff.foldl (fun _ _ => ?_) ?_ _; refine modPort_eff ?_ (fun _ => {}); exact Eff.refl _ _; exact Eff.refl _ _
  refine Eff.upd ?_; assumption

theorem bootSelect_eff {o : BootOutcome} {s : State} : Eff [.link, .l1, .reads, .msg, .fnCfg, .fnMsg, .queues,
    .fences, .sched, .halves, .units, .engines, .bursts, .portReg, .lock, .portTime, .cistern, .origins, .log,
    .sets, .instState, .capFlag, .cmd, .fwSlots, .fwHeld, .boot, .devReg, .devWake, .tunnel, .chans, .gate, .heldEv,
    .freeCount, .out] s (bootSelect o s) := by
  unfold bootSelect
  extract_lets +onlyGivenNames x0; extract_lets +onlyGivenNames x1; extract_lets +onlyGivenNames x2
  extract_lets +onlyGivenNames x3; extract_lets +onlyGivenNames x4; extract_lets +onlyGivenNames x5
  extract_lets +onlyGivenNames x6; extract_lets +onlyGivenNames x7; extract_lets +onlyGivenNames x8; split
  refine Eff.step finishBoot_eff ?_; refine Eff.step runSlot_eff ?_; exact Eff.refl _ _
  extract_lets +onlyGivenNames x13; refine Eff.via x13 ?_ (fun h13 => ?_); unfold x13; rotate_left; clear_value x13; rotate_left
  refine Eff.step markBad_eff ?_; exact Eff.refl _ _; split; extract_lets +onlyGivenNames x17
  extract_lets +onlyGivenNames x18
  extract_lets +onlyGivenNames x19; refine Eff.via x19 ?_ (fun h19 => ?_); unfold x19; rotate_left; clear_value x19; rotate_left
  refine Eff.step recover_eff ?_; refine Eff.step markBad_eff ?_; assumption; refine Eff.upd ?_; assumption
  refine Eff.step finishBoot_eff ?_; refine Eff.step runSlot_eff ?_; assumption

theorem bringUp_eff {cause : Nat} {o : BootOutcome} {s : State} : Eff [.link, .l1, .reads, .msg, .fnCfg, .fnMsg,
    .queues, .fences, .sched, .halves, .units, .engines, .bursts, .portReg, .clock, .lock, .portTime, .cistern,
    .origins, .memErr, .log, .sets, .instState, .capFlag, .cellar, .cmd, .fwSlots, .fwHeld, .boot, .devReg,
    .devWake, .tunnel, .chans, .pmReg, .gate, .heldEv, .store, .mgmt, .freeCount, .out] s (bringUp cause o s) := by
  unfold bringUp
  extract_lets +onlyGivenNames x0; extract_lets +onlyGivenNames x1; extract_lets +onlyGivenNames x2
  extract_lets +onlyGivenNames x3; extract_lets +onlyGivenNames x4; extract_lets +onlyGivenNames x5
  extract_lets +onlyGivenNames x6; extract_lets +onlyGivenNames x7
  extract_lets +onlyGivenNames x8; refine Eff.via x8 ?_ (fun h8 => ?_); unfold x8; rotate_left; clear_value x8; rotate_left
  exact Eff.refl _ _
  extract_lets +onlyGivenNames x10; refine Eff.via x10 ?_ (fun h10 => ?_); unfold x10; rotate_left; clear_value x10; rotate_left
  refine Eff.step pmic_eff ?_; refine Eff.step pmic_eff ?_; refine Eff.upd ?_; exact Eff.refl _ _
  extract_lets +onlyGivenNames x15; extract_lets +onlyGivenNames x16; extract_lets +onlyGivenNames x17
  extract_lets +onlyGivenNames x18; extract_lets +onlyGivenNames x19; extract_lets +onlyGivenNames x20
  extract_lets +onlyGivenNames x21; extract_lets +onlyGivenNames x22
  extract_lets +onlyGivenNames x23; refine Eff.via x23 ?_ (fun h23 => ?_); unfold x23; rotate_left; clear_value x23; rotate_left
  refine Eff.upd ?_; assumption
  extract_lets +onlyGivenNames x26; refine Eff.via x26 ?_ (fun h26 => ?_); unfold x26; rotate_left; clear_value x26; rotate_left
  refine Eff.step bootSelect_eff ?_; refine Eff.step warmChans_eff ?_; refine Eff.step resizeLog_eff ?_; assumption
  refine Eff.step domainsUp_eff ?_; assumption

theorem powerOn_eff {o : BootOutcome} {s : State} : Eff [.link, .l1, .herr, .reads, .late, .msg, .fnCfg, .fnErr,
    .fnMsg, .queues, .dbdrop, .fences, .sched, .halves, .units, .engines, .bursts, .portReg, .clock, .lock,
    .portTime, .cistern, .origins, .sumpFlags, .acc, .memErr, .log, .sets, .instState, .mailbox, .resetRec,
    .scratch, .capFlag, .cellar, .cmd, .fwSlots, .fwHeld, .boot, .devReg, .devWake, .tunnel, .chans, .pmReg, .gate,
    .heldEv, .cool, .store, .mgmt, .freeCount, .out] s (powerOn o s) := by
  unfold powerOn
  extract_lets +onlyGivenNames x0; extract_lets +onlyGivenNames x1; extract_lets +onlyGivenNames x2
  extract_lets +onlyGivenNames x3; extract_lets +onlyGivenNames x4; extract_lets +onlyGivenNames x5
  extract_lets +onlyGivenNames x6
  extract_lets +onlyGivenNames x7; refine Eff.via x7 ?_ (fun h7 => ?_); unfold x7; rotate_left; clear_value x7; rotate_left
  refine Eff.step cold_eff ?_; exact Eff.refl _ _; refine Eff.step bringUp_eff ?_; refine Eff.upd ?_; assumption

theorem powerFail_eff {s : State} : Eff [.link, .l1, .herr, .reads, .late, .msg, .fnCfg, .fnErr, .fnMsg, .queues,
    .dbdrop, .fences, .sched, .halves, .units, .engines, .bursts, .portReg, .clock, .lock, .portTime, .cistern,
    .origins, .sumpFlags, .acc, .memErr, .log, .sets, .instState, .mailbox, .resetRec, .scratch, .capFlag, .cellar,
    .cmd, .fwSlots, .fwHeld, .boot, .devReg, .devWake, .tunnel, .chans, .pmReg, .gate, .heldEv, .cool, .store,
    .mgmt, .out] s (powerFail s) := by
  unfold powerFail
  extract_lets +onlyGivenNames x0; extract_lets +onlyGivenNames x1; extract_lets +onlyGivenNames x2
  extract_lets +onlyGivenNames x3; extract_lets +onlyGivenNames x4; extract_lets +onlyGivenNames x5
  extract_lets +onlyGivenNames x6
  extract_lets +onlyGivenNames x7; refine Eff.via x7 ?_ (fun h7 => ?_); unfold x7; rotate_left; clear_value x7; rotate_left
  refine Eff.step coldKeep_eff ?_; refine Eff.step gatesFast_eff ?_; exact Eff.refl _ _
  extract_lets +onlyGivenNames x11; refine Eff.via x11 ?_ (fun h11 => ?_); unfold x11; rotate_left; clear_value x11; rotate_left
  refine Eff.step pmic_eff ?_; refine Eff.step pmic_eff ?_; refine Eff.step domainsDown_eff ?_; assumption
  refine Eff.upd ?_; assumption

theorem vaonLoss_eff {s : State} : Eff [.link, .l1, .herr, .reads, .late, .msg, .fnCfg, .fnErr, .fnMsg, .queues,
    .dbdrop, .fences, .sched, .halves, .units, .engines, .bursts, .portReg, .clock, .lock, .portTime, .cistern,
    .origins, .sumpFlags, .acc, .memErr, .log, .sets, .instState, .mailbox, .resetRec, .scratch, .capFlag, .cellar,
    .cmd, .fwSlots, .fwHeld, .boot, .devReg, .devWake, .tunnel, .chans, .pmReg, .gate, .heldEv, .cool, .store,
    .mgmt, .out] s (vaonLoss s) := by
  unfold vaonLoss
  extract_lets +onlyGivenNames x0; extract_lets +onlyGivenNames x1; extract_lets +onlyGivenNames x2
  extract_lets +onlyGivenNames x3; extract_lets +onlyGivenNames x4; extract_lets +onlyGivenNames x5
  extract_lets +onlyGivenNames x6
  extract_lets +onlyGivenNames x7; refine Eff.via x7 ?_ (fun h7 => ?_); unfold x7; rotate_left; clear_value x7; rotate_left
  refine Eff.step cold_eff ?_; refine Eff.step gatesOff_eff ?_; exact Eff.refl _ _; refine Eff.upd ?_; assumption

theorem otherSlot_eff {c : Image} {s : State} : Eff [.fwSlots, .boot] s (otherSlot c s) := by
  unfold otherSlot
  extract_lets +onlyGivenNames x0
  extract_lets +onlyGivenNames x1; refine Eff.via x1 ?_ (fun h1 => ?_); unfold x1; rotate_left; clear_value x1; rotate_left
  refine Eff.upd ?_; exact Eff.refl _ _; refine Eff.ite ?_ ?_; refine Eff.step setSlot_eff ?_; assumption
  assumption

end Sys2Proof.Machine
end

