-- ==== Sys2Proof/Laws/FirmwareEff.lean ====
section
/-! SUPPORT. What each operation of Machine/Firmware.lean can change: one lemma per function. -/

set_option Elab.async false

namespace Sys2Proof.Machine

open Sys2Proof

theorem fwState_eff {why : Nat} {b : Bool} {v : BitVec 24} {detail : Nat} {us : Word} {s : State} : Eff [.l1, .msg,
    .fnMsg, .queues, .tunnel, .gate, .heldEv, .out] s (fwState why b v detail us s) := by
  unfold fwState
  refine Eff.step event_eff ?_; exact Eff.refl _ _

theorem chunkReads_eff {f a k n : Nat} {s : State} : Eff [.l1, .reads, .gate, .out] s (chunkReads f a k n s) := by
  induction f generalizing s k n with
  | zero =>
    unfold chunkReads
    exact Eff.refl _ _
  | succ k ih =>
    unfold chunkReads
    refine Eff.ite ?_ ?_; exact Eff.refl _ _; extract_lets +onlyGivenNames x2; refine Eff.step ih ?_
    refine Eff.step issueRead_eff ?_; exact Eff.refl _ _

theorem dropChunk_eff {s : State} : Eff [.l1, .reads, .msg, .fnMsg, .queues, .fwSlots, .devWake, .tunnel, .gate,
    .heldEv, .freeCount, .out] s (dropChunk s) := by
  unfold dropChunk
  split
  extract_lets +onlyGivenNames x1; refine Eff.via x1.2 ?_ (fun h1 => ?_); unfold x1; rotate_left; clear_value x1; rotate_left
  exact Eff.refl _ _; refine Eff.step takeFree_eff ?_; refine Eff.step dropReads_eff ?_; exact Eff.refl _ _
  refine Eff.step reply_eff ?_; refine Eff.upd ?_; assumption

theorem stageChunk_eff {c : Packet} {s : State} : Eff [.l1, .reads, .msg, .fnMsg, .queues, .fwSlots, .boot,
    .devWake, .tunnel, .gate, .heldEv, .freeCount, .out] s (stageChunk c s) := by
  unfold stageChunk
  extract_lets +onlyGivenNames x0
  extract_lets +onlyGivenNames x1; refine Eff.via x1 ?_ (fun h1 => ?_); unfold x1; rotate_left; clear_value x1; rotate_left
  refine Eff.step dropChunk_eff ?_; exact Eff.refl _ _; extract_lets +onlyGivenNames x4
  extract_lets +onlyGivenNames x5; refine Eff.via x5 ?_ (fun h5 => ?_); unfold x5; rotate_left; clear_value x5; rotate_left
  refine Eff.step setPart_eff ?_; refine Eff.step setSlot_eff ?_; assumption; extract_lets +onlyGivenNames x9
  extract_lets +onlyGivenNames x10
  extract_lets +onlyGivenNames x11; refine Eff.via x11 ?_ (fun h11 => ?_); unfold x11; rotate_left; clear_value x11; rotate_left
  refine Eff.ite ?_ ?_; exact Eff.refl _ _; refine Eff.step emit_eff ?_; refine Eff.upd ?_; assumption
  refine Eff.step chunkReads_eff ?_; refine Eff.upd ?_; assumption

theorem stageFail_eff {i : Word} {status detail : Nat} {s : State} : Eff [.l1, .msg, .fnMsg, .queues, .fwSlots,
    .devWake, .tunnel, .gate, .heldEv, .freeCount, .out] s (stageFail i status detail s) := by
  unfold stageFail
  extract_lets +onlyGivenNames x0
  extract_lets +onlyGivenNames x1; refine Eff.via x1.2 ?_ (fun h1 => ?_); unfold x1; rotate_left; clear_value x1; rotate_left
  refine Eff.step takeFree_eff ?_; refine Eff.upd ?_; exact Eff.refl _ _
  extract_lets +onlyGivenNames x5; refine Eff.via x5 ?_ (fun h5 => ?_); unfold x5; rotate_left; clear_value x5; rotate_left
  refine Eff.step fwState_eff ?_; assumption; refine Eff.step reply_eff ?_; assumption

theorem stageReturn_eff {o : OutRead} {first : Nat} {a : ReadAnswer} {s : State} : Eff [.l1, .herr, .reads, .msg,
    .fnErr, .fnMsg, .queues, .log, .fwSlots, .fwHeld, .devWake, .tunnel, .gate, .heldEv, .freeCount, .out] s
    (stageReturn o first a s) := by
  unfold stageReturn
  extract_lets +onlyGivenNames x0; refine Eff.via x0 ?_ (fun h0 => ?_); unfold x0; rotate_left; clear_value x0; rotate_left
  refine Eff.step retireRead_eff ?_; exact Eff.refl _ _; split
  extract_lets +onlyGivenNames x4; refine Eff.via x4.2 ?_ (fun h4 => ?_); unfold x4; rotate_left; clear_value x4; rotate_left
  refine Eff.ite ?_ ?_; assumption; extract_lets +onlyGivenNames x7
  extract_lets +onlyGivenNames x8; refine Eff.via x8 ?_ (fun h8 => ?_); unfold x8; rotate_left; clear_value x8; rotate_left
  refine Eff.step takeFree_eff ?_; assumption
  extract_lets +onlyGivenNames x11; refine Eff.via x11 ?_ (fun h11 => ?_); unfold x11; rotate_left; clear_value x11; rotate_left
  refine Eff.upd ?_; assumption; refine Eff.ite ?_ ?_; assumption; refine Eff.step emit_eff ?_; refine Eff.upd ?_
  assumption; refine Eff.step hostError_eff ?_; assumption; split; refine Eff.ite ?_ ?_; assumption
  refine Eff.step stageFail_eff ?_; refine Eff.step dropReads_eff ?_; assumption; assumption

theorem stagePass_eff {i : Word} {n : Nat} {v : BitVec 24} {r : Nat} {s : State} : Eff [.l1, .msg, .fnMsg, .queues,
    .fwSlots, .devWake, .tunnel, .gate, .heldEv, .out] s (stagePass i n v r s) := by
  unfold stagePass
  extract_lets +onlyGivenNames x0
  extract_lets +onlyGivenNames x1; refine Eff.via x1 ?_ (fun h1 => ?_); unfold x1; rotate_left; clear_value x1; rotate_left
  refine Eff.step setPart_eff ?_; refine Eff.step setSlot_eff ?_; exact Eff.refl _ _
  extract_lets +onlyGivenNames x5
  extract_lets +onlyGivenNames x6; refine Eff.via x6 ?_ (fun h6 => ?_); unfold x6; rotate_left; clear_value x6; rotate_left
  refine Eff.upd ?_; assumption; refine Eff.step reply_eff ?_; refine Eff.step fwState_eff ?_; assumption

theorem programmed_eff {i : Word} {r : FlashResult} {s : State} : Eff [.l1, .msg, .fnMsg, .queues, .fwSlots,
    .devWake, .tunnel, .gate, .heldEv, .freeCount, .out] s (programmed i r s) := by
  unfold programmed
  extract_lets +onlyGivenNames x0; split; refine Eff.step reply_eff ?_; refine Eff.upd ?_; exact Eff.refl _ _
  refine Eff.step stageFail_eff ?_; exact Eff.refl _ _; split; refine Eff.step stageFail_eff ?_; exact Eff.refl _ _
  refine Eff.step stagePass_eff ?_; exact Eff.refl _ _

theorem activate'_eff {c : Packet} {recheck : Bool} {s : State} : Eff [.l1, .msg, .fnMsg, .queues, .cmd, .fwSlots,
    .devWake, .tunnel, .gate, .heldEv, .out] s (activate' c recheck s) := by
  unfold activate'
  refine Eff.ite ?_ ?_; refine Eff.upd ?_; exact Eff.refl _ _; refine Eff.step reply_eff ?_; exact Eff.refl _ _

theorem releasePause_eff {s : State} : Eff [.l1, .msg, .fnMsg, .queues, .log, .fwHeld, .tunnel, .gate, .heldEv,
    .out] s (releasePause s) := by
  unfold releasePause
  extract_lets +onlyGivenNames x0
  extract_lets +onlyGivenNames x1; refine Eff.via x1 ?_ (fun h1 => ?_); unfold x1; rotate_left; clear_value x1; rotate_left
  refine Eff.upd ?_; exact Eff.refl _ _
  extract_lets +onlyGivenNames x4; refine Eff.via x4 ?_ (fun h4 => ?_); unfold x4; rotate_left; clear_value x4; rotate_left
  refine Eff.foldl (fun _ _ => ?_) ?_ _; refine Eff.step logPush_eff ?_; exact Eff.refl _ _; assumption
  extract_lets +onlyGivenNames x9
  extract_lets +onlyGivenNames x10; refine Eff.via x10 ?_ (fun h10 => ?_); unfold x10; rotate_left; clear_value x10; rotate_left
  refine Eff.upd ?_; assumption; refine Eff.foldl (fun _ _ => ?_) ?_ _; refine Eff.step event_eff ?_
  exact Eff.refl _ _; assumption

theorem endPause_eff {s : State} : Eff [.cmd, .fwSlots] s (endPause s) := by
  unfold endPause
  refine Eff.upd ?_; exact Eff.refl _ _

theorem activated_eff {i us : Word} {s : State} : Eff [.link, .l1, .reads, .msg, .fnCfg, .fnMsg, .queues, .fences,
    .sched, .halves, .units, .engines, .bursts, .portReg, .lock, .portTime, .cistern, .origins, .log, .sets,
    .instState, .capFlag, .cmd, .fwSlots, .fwHeld, .boot, .devReg, .devWake, .tunnel, .chans, .gate, .heldEv,
    .freeCount, .out] s (activated i us s) := by
  unfold activated
  extract_lets +onlyGivenNames x0; extract_lets +onlyGivenNames x1; extract_lets +onlyGivenNames x2
  extract_lets +onlyGivenNames x3; extract_lets +onlyGivenNames x4; extract_lets +onlyGivenNames x5
  extract_lets +onlyGivenNames x6; extract_lets +onlyGivenNames x7; extract_lets +onlyGivenNames x8
  extract_lets +onlyGivenNames x9; refine Eff.via x9 ?_ (fun h9 => ?_); unfold x9; rotate_left; clear_value x9; rotate_left
  refine Eff.step runSlot_eff ?_; refine Eff.step endPause_eff ?_; exact Eff.refl _ _
  extract_lets +onlyGivenNames x13
  extract_lets +onlyGivenNames x14; refine Eff.via x14 ?_ (fun h14 => ?_); unfold x14; rotate_left; clear_value x14; rotate_left
  refine Eff.ite ?_ ?_; refine Eff.upd ?_; assumption; assumption
  extract_lets +onlyGivenNames x19; refine Eff.via x19 ?_ (fun h19 => ?_); unfold x19; rotate_left; clear_value x19; rotate_left
  refine Eff.step reply_eff ?_; refine Eff.step fwState_eff ?_; assumption
  extract_lets +onlyGivenNames x23; refine Eff.via x23 ?_ (fun h23 => ?_); unfold x23; rotate_left; clear_value x23; rotate_left
  refine Eff.step releasePause_eff ?_; assumption; refine Eff.ite ?_ ?_; refine Eff.step finishBoot_eff ?_
  assumption; refine Eff.step heldReset_eff ?_; assumption

theorem fellBack_eff {i us : Word} {s : State} : Eff [.link, .l1, .reads, .msg, .fnCfg, .fnMsg, .queues, .fences,
    .sched, .halves, .units, .engines, .bursts, .portReg, .lock, .portTime, .cistern, .origins, .log, .sets,
    .instState, .capFlag, .cmd, .fwSlots, .fwHeld, .boot, .devReg, .devWake, .tunnel, .chans, .gate, .heldEv,
    .freeCount, .out] s (fellBack i us s) := by
  unfold fellBack
  extract_lets +onlyGivenNames x0; extract_lets +onlyGivenNames x1; extract_lets +onlyGivenNames x2
  extract_lets +onlyGivenNames x3; extract_lets +onlyGivenNames x4; extract_lets +onlyGivenNames x5
  extract_lets +onlyGivenNames x6; extract_lets +onlyGivenNames x7; extract_lets +onlyGivenNames x8
  extract_lets +onlyGivenNames x9; refine Eff.via x9 ?_ (fun h9 => ?_); unfold x9; rotate_left; clear_value x9; rotate_left
  refine Eff.step endPause_eff ?_; refine Eff.upd ?_; exact Eff.refl _ _
  extract_lets +onlyGivenNames x13; refine Eff.via x13 ?_ (fun h13 => ?_); unfold x13; rotate_left; clear_value x13; rotate_left
  refine Eff.step reply_eff ?_; refine Eff.step fwState_eff ?_; assumption
  extract_lets +onlyGivenNames x17; refine Eff.via x17 ?_ (fun h17 => ?_); unfold x17; rotate_left; clear_value x17; rotate_left
  refine Eff.step releasePause_eff ?_; assumption; refine Eff.ite ?_ ?_; assumption
  refine Eff.step heldReset_eff ?_; assumption

theorem recordWritten_eff {u : BootUpdate} {s : State} : Eff [.l1, .msg, .fnMsg, .queues, .fwSlots, .tunnel, .gate, .heldEv, .out] s (recordWritten u s) := by
  unfold recordWritten
  dsimp only
  split
  · rename_i h
    simp only [Bool.and_eq_true, decide_eq_true_eq] at h
    exact Eff.step fwState_eff (Eff.step emit_eff (Eff.step emit_eff
      (Eff.upd (Eff.refl _ _) (h_fw := { otp := by simpa [h] using Nat.le_of_lt h.2 }))))
  · rename_i h
    exact Eff.step emit_eff (Eff.upd (Eff.refl _ _) (h_fw := { otp := by simp [h] }))

theorem queryFw_eff {c : Packet} {s : State} : Eff [.l1, .msg, .fnMsg, .queues, .devWake, .tunnel, .gate, .heldEv,
    .out] s (queryFw c s) := by
  unfold queryFw
  extract_lets +onlyGivenNames x0; refine Eff.step ok_eff ?_; exact Eff.refl _ _

end Sys2Proof.Machine
end

