-- ==== Sys2Proof/Laws/PowerEff.lean ====
section
/-! SUPPORT. What each operation of Machine/Power.lean can change: one lemma per function. -/

set_option Elab.async false

namespace Sys2Proof.Machine

open Sys2Proof

theorem charge_eff {r : Nat × Nat} {seq : BitVec 8} {s : State} : Eff [.pmReg] s (charge r seq s) := by
  unfold charge
  extract_lets +onlyGivenNames x0; extract_lets +onlyGivenNames x1; extract_lets +onlyGivenNames x2
  extract_lets +onlyGivenNames x3; extract_lets +onlyGivenNames x4; refine Eff.upd ?_; exact Eff.refl _ _

theorem pmStateEvent_eff {old : PmSt} {ms : Nat} {fired : BitVec 9} {s : State} : Eff [.l1, .msg, .fnMsg, .queues,
    .tunnel, .gate, .heldEv, .out] s (pmStateEvent old ms fired s) := by
  unfold pmStateEvent
  refine Eff.step event_eff ?_; exact Eff.refl _ _

theorem moveIdle_eff {st : PmSt} {s : State} : Eff [.l1, .msg, .fnMsg, .queues, .tunnel, .pmReg, .gate, .heldEv,
    .out] s (moveIdle st s) := by
  unfold moveIdle
  extract_lets +onlyGivenNames x0; extract_lets +onlyGivenNames x1; refine Eff.step pmStateEvent_eff ?_
  refine Eff.upd ?_; exact Eff.refl _ _

theorem refused_eff {t : PmSt} {seq : BitVec 8} {rs : List (Nat × Nat)} {ms : Word} {s : State} : Eff [.l1, .msg,
    .fnMsg, .queues, .tunnel, .pmReg, .gate, .heldEv, .out] s (refused t seq rs ms s) := by
  unfold refused
  extract_lets +onlyGivenNames x0; extract_lets +onlyGivenNames x1
  extract_lets +onlyGivenNames x2; refine Eff.via x2 ?_ (fun h2 => ?_); unfold x2; rotate_left; clear_value x2; rotate_left
  refine Eff.step charge_eff ?_; refine Eff.upd ?_; exact Eff.refl _ _; refine Eff.step event_eff ?_; assumption

theorem startReq_eff {r : PmReq} {s : State} : Eff [.l1, .msg, .fnMsg, .queues, .tunnel, .pmReg, .gate, .heldEv,
    .out] s (startReq r s) := by
  unfold startReq
  refine Eff.ite ?_ ?_; exact Eff.refl _ _; split; refine Eff.step moveIdle_eff ?_; exact Eff.refl _ _
  extract_lets +onlyGivenNames x5; refine Eff.ite ?_ ?_; refine Eff.step moveIdle_eff ?_; exact Eff.refl _ _
  refine Eff.step refused_eff ?_; exact Eff.refl _ _; extract_lets +onlyGivenNames x11; refine Eff.ite ?_ ?_
  refine Eff.step refused_eff ?_; exact Eff.refl _ _; refine Eff.upd ?_; exact Eff.refl _ _
  extract_lets +onlyGivenNames x17; refine Eff.ite ?_ ?_; refine Eff.step refused_eff ?_; exact Eff.refl _ _
  refine Eff.upd ?_; exact Eff.refl _ _; extract_lets +onlyGivenNames x23; refine Eff.ite ?_ ?_
  refine Eff.step refused_eff ?_; exact Eff.refl _ _; refine Eff.upd ?_; exact Eff.refl _ _

theorem nextReq_eff {s : State} : Eff [.l1, .msg, .fnMsg, .queues, .tunnel, .pmReg, .gate, .heldEv, .out] s (nextReq
    s) := by
  unfold nextReq
  split; refine Eff.step startReq_eff ?_; refine Eff.upd ?_; exact Eff.refl _ _; refine Eff.upd ?_
  exact Eff.refl _ _

theorem abort_eff {r : Nat × Nat} {s : State} : Eff [.l1, .msg, .fnMsg, .queues, .tunnel, .pmReg, .gate, .heldEv,
    .out] s (abort r s) := by
  unfold abort
  split; refine Eff.step nextReq_eff ?_; refine Eff.step charge_eff ?_; refine Eff.upd ?_; exact Eff.refl _ _
  exact Eff.refl _ _

theorem chargeDenied_eff {c : Packet} {s : State} : Eff [.pmReg] s (chargeDenied c s) := by
  unfold chargeDenied
  refine Eff.ite ?_ ?_; refine Eff.step charge_eff ?_; exact Eff.refl _ _; exact Eff.refl _ _

theorem enterPm_eff {c : Packet} {s : State} : Eff [.l1, .msg, .fnMsg, .queues, .devWake, .tunnel, .pmReg, .gate,
    .heldEv, .out] s (enterPm c s) := by
  unfold enterPm
  extract_lets +onlyGivenNames x0; extract_lets +onlyGivenNames x1
  extract_lets +onlyGivenNames x2; refine Eff.via x2 ?_ (fun h2 => ?_); unfold x2; rotate_left; clear_value x2; rotate_left
  refine Eff.upd ?_; exact Eff.refl _ _
  extract_lets +onlyGivenNames x5; refine Eff.via x5 ?_ (fun h5 => ?_); unfold x5; rotate_left; clear_value x5; rotate_left
  refine Eff.step ok_eff ?_; assumption; extract_lets +onlyGivenNames x8; refine Eff.ite ?_ ?_; refine Eff.ite ?_ ?_
  refine Eff.step abort_eff ?_; assumption; refine Eff.upd ?_; assumption; refine Eff.step startReq_eff ?_
  assumption

theorem reachSleep_eff {r : PmReq} {s : State} : Eff [.clock, .cellar, .pmReg, .gate] s (reachSleep r s) := by
  unfold reachSleep
  extract_lets +onlyGivenNames x0; extract_lets +onlyGivenNames x1; refine Eff.upd ?_; exact Eff.refl _ _

/-- Store room 1 keeps the queues in the order of their numbers. -/
theorem saveRoom1_sorted {s : State} (h : Sorted s.qe.queues) : Sorted (saveRoom1 s).queues :=
  List.pairwise_map.mpr ((h.filter _).imp id)

theorem reachDeep_eff {r : PmReq} {s : State} : Eff [.link, .l1, .herr, .reads, .late, .msg, .fnCfg, .fnErr, .fnMsg, .queues, .dbdrop, .fences, .sched, .halves, .units, .engines, .bursts, .portReg, .clock, .lock, .portTime, .cistern, .origins, .sumpFlags, .acc, .memErr, .log, .sets, .instState, .mailbox, .resetRec, .scratch, .capFlag, .cellar, .cmd, .fwSlots, .fwHeld, .boot, .devReg, .devWake, .tunnel, .chans, .pmReg, .gate, .heldEv, .cool, .store, .mgmt, .out] s (reachDeep r s) := by
  unfold reachDeep
  exact pmic_eff.step (domainsDown_eff.step (Eff.upd (t := s) (Eff.refl _ _)
    (h_pm := { canon := fun h => canon_filter _ h })
    (h_fw := { otp := Nat.le_refl _ })
    (h_funcs := ⟨.inl (by decide), .inl (by decide), .inl (by decide)⟩)
    (h_ports := ⟨.inl (by decide), .inl (by decide), .inl (by decide), .inl (by decide), .inl (by decide)⟩)
    (h_insts := ⟨.inl (by decide), .inl (by decide), .inl (by decide)⟩)
    (h_names := fun _ => List.pairwise_singleton _ _) (h_room1 := fun n r1 h => by
      dsimp only at h
      split at h
      · injection h with h; subst h; exact saveRoom1_sorted n.1
      · cases h)))

theorem reachOff_eff {r : PmReq} {s : State} : Eff [.link, .l1, .herr, .reads, .late, .msg, .fnCfg, .fnErr, .fnMsg, .queues, .dbdrop, .fences, .sched, .halves, .units, .engines, .bursts, .portReg, .clock, .lock, .portTime, .cistern, .origins, .sumpFlags, .acc, .memErr, .log, .sets, .instState, .mailbox, .resetRec, .scratch, .capFlag, .cellar, .cmd, .fwSlots, .fwHeld, .boot, .devReg, .devWake, .tunnel, .chans, .pmReg, .gate, .heldEv, .cool, .store, .mgmt, .out] s (reachOff r s) := by
  unfold reachOff
  exact pmic_eff.step (pmic_eff.step (domainsDown_eff.step (Eff.upd (t := cold s) cold_eff.weaken
    (h_pm := { canon := fun _ => wf_nil }) (h_room1 := fun _ _ h => nomatch h))))

theorem reach_eff {r : PmReq} {s : State} : Eff [.link, .l1, .herr, .reads, .late, .msg, .fnCfg, .fnErr, .fnMsg,
    .queues, .dbdrop, .fences, .sched, .halves, .units, .engines, .bursts, .portReg, .clock, .lock, .portTime,
    .cistern, .origins, .sumpFlags, .acc, .memErr, .log, .sets, .instState, .mailbox, .resetRec, .scratch, .capFlag,
    .cellar, .cmd, .fwSlots, .fwHeld, .boot, .devReg, .devWake, .tunnel, .chans, .pmReg, .gate, .heldEv, .cool,
    .store, .mgmt, .out] s (reach r s) := by
  unfold reach
  split; refine Eff.step reachSleep_eff ?_; exact Eff.refl _ _; refine Eff.step reachDeep_eff ?_; exact Eff.refl _ _
  refine Eff.step reachOff_eff ?_; exact Eff.refl _ _; exact Eff.refl _ _; exact Eff.refl _ _

theorem refusersCleared_eff {r : PmReq} {s : State} : Eff [.link, .l1, .herr, .reads, .late, .msg, .fnCfg, .fnErr,
    .fnMsg, .queues, .dbdrop, .fences, .sched, .halves, .units, .engines, .bursts, .portReg, .clock, .lock,
    .portTime, .cistern, .origins, .sumpFlags, .acc, .memErr, .log, .sets, .instState, .mailbox, .resetRec,
    .scratch, .capFlag, .cellar, .cmd, .fwSlots, .fwHeld, .boot, .devReg, .devWake, .tunnel, .chans, .pmReg, .gate,
    .heldEv, .cool, .store, .mgmt, .out] s (refusersCleared r s) := by
  unfold refusersCleared
  split; refine Eff.step reach_eff ?_; exact Eff.refl _ _; refine Eff.step abort_eff ?_; exact Eff.refl _ _

theorem graceEnd_eff {r : PmReq} {ms : Word} {s : State} : Eff [.link, .l1, .herr, .reads, .late, .msg, .fnCfg,
    .fnErr, .fnMsg, .queues, .dbdrop, .fences, .sched, .halves, .units, .engines, .bursts, .portReg, .clock, .lock,
    .portTime, .cistern, .origins, .sumpFlags, .acc, .memErr, .log, .sets, .instState, .mailbox, .resetRec,
    .scratch, .capFlag, .cellar, .cmd, .fwSlots, .fwHeld, .boot, .devReg, .devWake, .tunnel, .chans, .pmReg, .gate,
    .heldEv, .cool, .store, .mgmt, .out] s (graceEnd r ms s) := by
  unfold graceEnd
  split; refine Eff.step reach_eff ?_; exact Eff.refl _ _; refine Eff.step nextReq_eff ?_
  refine Eff.step refused_eff ?_; exact Eff.refl _ _

theorem restartBit_eff {ticks : Nat} {ran : Nat → Bool} {s : State} : Eff [.clock, .portTime] s (restartBit ticks
    ran s) := by
  unfold restartBit
  extract_lets +onlyGivenNames x0; refine Eff.upd ?_; exact Eff.refl _ _

theorem relock_eff {s : State} : Eff [.l1, .msg, .fnMsg, .queues, .lock, .tunnel, .gate, .heldEv, .out] s (relock s) := by
  unfold relock
  extract_lets +onlyGivenNames x0
  extract_lets +onlyGivenNames x1; refine Eff.via x1 ?_ (fun h1 => ?_); unfold x1; rotate_left; clear_value x1; rotate_left
  refine Eff.upd ?_; exact Eff.refl _ _; refine Eff.ite ?_ ?_; refine lockMove_eff ?_ (fun _ => {}); assumption
  assumption

theorem wakeSleep_eff {bit : Nat} {w : WakeOutcome} {s : State} : Eff [.link, .l1, .reads, .msg, .fnCfg, .fnMsg,
    .queues, .fences, .sched, .halves, .units, .engines, .bursts, .portReg, .clock, .lock, .portTime, .cistern,
    .origins, .log, .sets, .instState, .capFlag, .cellar, .cmd, .fwSlots, .fwHeld, .boot, .devReg, .devWake,
    .tunnel, .chans, .pmReg, .gate, .heldEv, .freeCount, .out] s (wakeSleep bit w s) := by
  unfold wakeSleep
  extract_lets +onlyGivenNames x0; extract_lets +onlyGivenNames x1; extract_lets +onlyGivenNames x2
  extract_lets +onlyGivenNames x3; extract_lets +onlyGivenNames x4; extract_lets +onlyGivenNames x5
  extract_lets +onlyGivenNames x6; extract_lets +onlyGivenNames x7
  extract_lets +onlyGivenNames x8; refine Eff.via x8 ?_ (fun h8 => ?_); unfold x8; rotate_left; clear_value x8; rotate_left
  refine Eff.step restartBit_eff ?_; exact Eff.refl _ _; extract_lets +onlyGivenNames x11
  extract_lets +onlyGivenNames x12; extract_lets +onlyGivenNames x13; extract_lets +onlyGivenNames x14
  extract_lets +onlyGivenNames x15; refine Eff.via x15 ?_ (fun h15 => ?_); unfold x15; rotate_left; clear_value x15; rotate_left
  refine Eff.upd ?_; assumption
  extract_lets +onlyGivenNames x18; refine Eff.via x18 ?_ (fun h18 => ?_); unfold x18; rotate_left; clear_value x18; rotate_left
  refine Eff.step pmStateEvent_eff ?_; assumption
  extract_lets +onlyGivenNames x21; refine Eff.via x21 ?_ (fun h21 => ?_); unfold x21; rotate_left; clear_value x21; rotate_left
  refine Eff.foldl (fun _ _ => ?_) ?_ _; refine Eff.step event_eff ?_; exact Eff.refl _ _; assumption
  refine Eff.step nextReq_eff ?_; refine Eff.step heldReset_eff ?_; refine Eff.step relock_eff ?_; assumption

theorem restoreRoom0_eff {r : Room0} {s : State} : Eff [.portReg, .sets, .cmd, .chans, .pmReg] s (restoreRoom0 r s) := by
  unfold restoreRoom0
  extract_lets +onlyGivenNames x0; extract_lets +onlyGivenNames x1
  extract_lets +onlyGivenNames x2; refine Eff.via x2 ?_ (fun h2 => ?_); unfold x2; rotate_left; clear_value x2; rotate_left
  refine Eff.upd ?_; exact Eff.refl _ _; refine Eff.foldl (fun _ _ => ?_) ?_ _
  extract_lets +onlyGivenNames x6; refine Eff.via x6 ?_ (fun h6 => ?_); unfold x6; rotate_left; clear_value x6; rotate_left
  assumption; refine Eff.step modChan_eff ?_; exact Eff.refl _ _; refine Eff.ite ?_ ?_; assumption
  refine modPort_eff ?_ (fun _ => {}); assumption

theorem restoreRoom1_eff {r : Room1} {s : State} (h : NamesApart s → Sorted r.queues) : Eff [.fnMsg, .queues, .fences] s
    (restoreRoom1 r s) := by
  unfold restoreRoom1
  exact modFn_eff (Eff.upd (Eff.refl _ _) (h_names := h)) (fun _ => {})

theorem restorePp_eff {l : List Nat} {s : State} : Eff [.l1, .reads, .msg, .fnMsg, .queues, .sched, .halves, .units,
    .engines, .bursts, .portReg, .portTime, .cistern, .origins, .log, .capFlag, .fwHeld, .devWake, .tunnel, .chans,
    .gate, .heldEv, .out] s (restorePp l s) := by
  unfold restorePp
  refine Eff.foldl (fun _ _ => ?_) ?_ _; refine Eff.step writePp_eff ?_; exact Eff.refl _ _; exact Eff.refl _ _

theorem aonPeWake_eff {bit : Nat} {s : State} : Eff [.pmReg, .out] s (aonPeWake bit s) := by
  unfold aonPeWake
  refine Eff.ite ?_ ?_; exact Eff.refl _ _; refine Eff.step emit_eff ?_; refine Eff.upd ?_; exact Eff.refl _ _

theorem wokenDeep_eff {bit : Nat} {w : WakeOutcome} {s : State} : Eff [.halves, .portReg, .clock, .portTime,
    .cistern, .log, .cellar, .boot, .pmReg, .store] s (wokenDeep bit w s) := by
  unfold wokenDeep
  extract_lets +onlyGivenNames x0
  extract_lets +onlyGivenNames x1; refine Eff.via x1 ?_ (fun h1 => ?_); unfold x1; rotate_left; clear_value x1; rotate_left
  refine Eff.step restartBit_eff ?_; refine Eff.upd ?_; exact Eff.refl _ _; extract_lets +onlyGivenNames x5
  extract_lets +onlyGivenNames x6; extract_lets +onlyGivenNames x7; extract_lets +onlyGivenNames x8
  extract_lets +onlyGivenNames x9
  extract_lets +onlyGivenNames x10; refine Eff.via x10 ?_ (fun h10 => ?_); unfold x10; rotate_left; clear_value x10; rotate_left
  refine Eff.upd ?_; assumption
  extract_lets +onlyGivenNames x13; refine Eff.via x13 ?_ (fun h13 => ?_); unfold x13; rotate_left; clear_value x13; rotate_left
  assumption
  extract_lets +onlyGivenNames x15; refine Eff.via x15 ?_ (fun h15 => ?_); unfold x15; rotate_left; clear_value x15; rotate_left
  refine Eff.foldl (fun _ _ => ?_) ?_ _; extract_lets +onlyGivenNames x17; refine modPort_eff ?_ (fun _ => {})
  exact Eff.refl _ _; assumption
  extract_lets +onlyGivenNames x21; refine Eff.via x21 ?_ (fun h21 => ?_); unfold x21; rotate_left; clear_value x21; rotate_left
  refine Eff.foldl (fun _ _ => ?_) ?_ _; refine Eff.ite ?_ ?_; refine Eff.step modPump_eff ?_; exact Eff.refl _ _
  exact Eff.refl _ _; assumption
  extract_lets +onlyGivenNames x28; refine Eff.via x28 ?_ (fun h28 => ?_); unfold x28; rotate_left; clear_value x28; rotate_left
  refine Eff.step resizeLog_eff ?_; assumption; split; refine Eff.upd ?_; assumption; assumption

theorem warmBound_eff {t : Nat} {s : State} : Eff [.chans] s (warmBound t s) := by
  unfold warmBound
  refine Eff.foldl (fun _ _ => ?_) ?_ _; extract_lets +onlyGivenNames x1; refine Eff.step modChan_eff ?_
  refine Eff.step warmChan_eff ?_; exact Eff.refl _ _; exact Eff.refl _ _

theorem wakeDeep_eff {bit : Nat} {w : WakeOutcome} {s : State} : Eff [.l1, .reads, .msg, .fnMsg, .queues, .fences, .sched, .halves, .units, .engines, .bursts, .portReg, .clock, .lock, .portTime, .cistern, .origins, .log, .sets, .capFlag, .cellar, .cmd, .fwHeld, .boot, .devWake, .tunnel, .chans, .pmReg, .gate, .heldEv, .store, .out] s (wakeDeep bit w s) := by
  unfold wakeDeep
  extract_lets old a b r0 c d e f
  have ha : Eff [.l1, .reads, .msg, .fnMsg, .queues, .fences, .sched, .halves, .units, .engines, .bursts, .portReg, .clock, .lock, .portTime, .cistern, .origins, .log, .sets, .capFlag, .cellar, .cmd, .fwHeld, .boot, .devWake, .tunnel, .chans, .pmReg, .gate, .heldEv, .store, .out] s a := wokenDeep_eff.step (pmic_eff.step aonPeWake_eff.weaken)
  have hb : Eff [.l1, .reads, .msg, .fnMsg, .queues, .fences, .sched, .halves, .units, .engines, .bursts, .portReg, .clock, .lock, .portTime, .cistern, .origins, .log, .sets, .capFlag, .cellar, .cmd, .fwHeld, .boot, .devWake, .tunnel, .chans, .pmReg, .gate, .heldEv, .store, .out] s b := domainsUp_eff.step ha
  clear_value r0
  have hc : Eff [.l1, .reads, .msg, .fnMsg, .queues, .fences, .sched, .halves, .units, .engines, .bursts, .portReg, .clock, .lock, .portTime, .cistern, .origins, .log, .sets, .capFlag, .cellar, .cmd, .fwHeld, .boot, .devWake, .tunnel, .chans, .pmReg, .gate, .heldEv, .store, .out] s c := by
    unfold c
    split
    · exact restoreRoom0_eff.step hb
    · exact hb
  have hd : Eff [.l1, .reads, .msg, .fnMsg, .queues, .fences, .sched, .halves, .units, .engines, .bursts, .portReg, .clock, .lock, .portTime, .cistern, .origins, .log, .sets, .capFlag, .cellar, .cmd, .fwHeld, .boot, .devWake, .tunnel, .chans, .pmReg, .gate, .heldEv, .store, .out] s d := by
    unfold d
    split
    · exact (restoreRoom1_eff (fun n => n.2 _ ‹_›)).step hc
    · exact hc
  have he : Eff [.l1, .reads, .msg, .fnMsg, .queues, .fences, .sched, .halves, .units, .engines, .bursts, .portReg, .clock, .lock, .portTime, .cistern, .origins, .log, .sets, .capFlag, .cellar, .cmd, .fwHeld, .boot, .devWake, .tunnel, .chans, .pmReg, .gate, .heldEv, .store, .out] s e := relock_eff.step (warmBound_eff.step hd)
  have hf : Eff [.l1, .reads, .msg, .fnMsg, .queues, .fences, .sched, .halves, .units, .engines, .bursts, .portReg, .clock, .lock, .portTime, .cistern, .origins, .log, .sets, .capFlag, .cellar, .cmd, .fwHeld, .boot, .devWake, .tunnel, .chans, .pmReg, .gate, .heldEv, .store, .out] s f := by
    unfold f
    split
    · exact restorePp_eff.step he
    · exact he
  exact nextReq_eff.step (Eff.upd hf (h_room1 := fun _ _ h => nomatch h))

theorem wakeOff_eff {o : BootOutcome} {s : State} : Eff [.link, .l1, .reads, .msg, .fnCfg, .fnMsg, .queues, .fences,
    .sched, .halves, .units, .engines, .bursts, .portReg, .clock, .lock, .portTime, .cistern, .origins, .memErr,
    .log, .sets, .instState, .capFlag, .cellar, .cmd, .fwSlots, .fwHeld, .boot, .devReg, .devWake, .tunnel, .chans,
    .pmReg, .gate, .heldEv, .store, .mgmt, .freeCount, .out] s (wakeOff o s) := by
  unfold wakeOff
  extract_lets +onlyGivenNames x0; extract_lets +onlyGivenNames x1; extract_lets +onlyGivenNames x2
  extract_lets +onlyGivenNames x3; extract_lets +onlyGivenNames x4; extract_lets +onlyGivenNames x5
  extract_lets +onlyGivenNames x6; extract_lets +onlyGivenNames x7
  extract_lets +onlyGivenNames x8; refine Eff.via x8 ?_ (fun h8 => ?_); unfold x8; rotate_left; clear_value x8; rotate_left
  refine Eff.step aonPeWake_eff ?_; exact Eff.refl _ _; extract_lets +onlyGivenNames x11
  extract_lets +onlyGivenNames x12; refine Eff.via x12 ?_ (fun h12 => ?_); unfold x12; rotate_left; clear_value x12; rotate_left
  refine Eff.step bringUp_eff ?_; refine Eff.upd ?_; assumption; refine Eff.step nextReq_eff ?_; refine Eff.upd ?_
  assumption

theorem wakeFail_eff {bit step : Nat} {s : State} : Eff [.pmReg, .out] s (wakeFail bit step s) := by
  unfold wakeFail
  extract_lets +onlyGivenNames x0; refine Eff.via x0 ?_ (fun h0 => ?_); unfold x0; rotate_left; clear_value x0; rotate_left
  refine Eff.ite ?_ ?_; refine Eff.step pmic_eff ?_; refine Eff.step pmic_eff ?_; refine Eff.step aonPeWake_eff ?_
  exact Eff.refl _ _; exact Eff.refl _ _; refine Eff.upd ?_; assumption

theorem fire_eff {bit : Nat} {w : WakeOutcome} {s : State} : Eff [.link, .l1, .reads, .msg, .fnCfg, .fnMsg, .queues,
    .fences, .sched, .halves, .units, .engines, .bursts, .portReg, .clock, .lock, .portTime, .cistern, .origins,
    .log, .sets, .instState, .capFlag, .cellar, .cmd, .fwSlots, .fwHeld, .boot, .devReg, .devWake, .tunnel, .chans,
    .pmReg, .gate, .heldEv, .store, .freeCount, .out] s (fire bit w s) := by
  unfold fire
  split; refine Eff.ite ?_ ?_; refine Eff.step abort_eff ?_; exact Eff.refl _ _; exact Eff.refl _ _
  refine Eff.ite ?_ ?_; exact Eff.refl _ _; split; refine Eff.step wakeSleep_eff ?_; exact Eff.refl _ _
  refine Eff.ite ?_ ?_; refine Eff.step wakeDeep_eff ?_; exact Eff.refl _ _; refine Eff.step wakeFail_eff ?_
  exact Eff.refl _ _; exact Eff.refl _ _; exact Eff.refl _ _; exact Eff.refl _ _

end Sys2Proof.Machine
end

