-- ==== Sys2Proof/Laws/RegistersEff.lean ====
section
/-! SUPPORT. What each operation of Machine/Registers.lean can change: one lemma per function. -/

set_option Elab.async false

namespace Sys2Proof.Machine

open Sys2Proof


end Sys2Proof.Machine
end

