-- ==== Sys2Proof/Laws/MgmtEff.lean ====
section
/-! SUPPORT. What each operation of Machine/Mgmt.lean can change: one lemma per function. -/

set_option Elab.async false

namespace Sys2Proof.Machine

open Sys2Proof

theorem freeWake_eff  {s : State} : Eff [.freeCount] s (freeWake s).2 := by
  unfold freeWake
  extract_lets +onlyGivenNames x0; refine Eff.via x0.2 ?_ (fun h0 => ?_); unfold x0; rotate_left; clear_value x0; rotate_left
  refine Eff.step takeFree_eff ?_; exact Eff.refl _ _
  extract_lets +onlyGivenNames x3; refine Eff.via x3.2 ?_ (fun h3 => ?_); unfold x3; rotate_left; clear_value x3; rotate_left
  refine Eff.step takeFree_eff ?_; assumption; dsimp only; assumption

theorem wakeBy_eff {bit : Nat} {s : State} : Eff [.link, .l1, .reads, .msg, .fnCfg, .fnMsg, .queues, .fences,
    .sched, .halves, .units, .engines, .bursts, .portReg, .clock, .lock, .portTime, .cistern, .origins, .log, .sets,
    .instState, .capFlag, .cellar, .cmd, .fwSlots, .fwHeld, .boot, .devReg, .devWake, .tunnel, .chans, .pmReg,
    .gate, .heldEv, .store, .freeCount, .out] s (wakeBy bit s) := by
  unfold wakeBy
  refine Eff.ite ?_ ?_; extract_lets +onlyGivenNames x1; extract_lets +onlyGivenNames x2
  extract_lets +onlyGivenNames x3; extract_lets +onlyGivenNames x4; extract_lets +onlyGivenNames x5
  extract_lets +onlyGivenNames x6; extract_lets +onlyGivenNames x7
  extract_lets +onlyGivenNames x8; refine Eff.via x8.2 ?_ (fun h8 => ?_); unfold x8; rotate_left; clear_value x8; rotate_left
  exact Eff.refl _ _; refine Eff.step freeWake_eff ?_; exact Eff.refl _ _; refine Eff.step fire_eff ?_; assumption

theorem addressed_eff {ps : List Part} {f : State → State} {s t : State}
    (hf : ∀ u, Eff ps u (f u)) (h : Eff ps s t) (sub : [.link, .l1, .reads, .msg, .fnCfg, .fnMsg, .queues, .fences, .sched, .halves, .units, .engines, .bursts, .portReg, .clock, .lock, .portTime, .cistern, .origins, .log, .sets, .instState, .capFlag, .cellar, .cmd, .fwSlots, .fwHeld, .boot, .devReg, .devWake, .tunnel, .chans, .pmReg, .gate, .heldEv, .store, .freeCount, .out] ⊆ ps := by decide) : Eff ps s (addressed f t) := by
  unfold addressed
  have e : ∀ {qs}, qs ⊆ [.link, .l1, .reads, .msg, .fnCfg, .fnMsg, .queues, .fences, .sched, .halves, .units, .engines, .bursts, .portReg, .clock, .lock, .portTime, .cistern, .origins, .log, .sets, .instState, .capFlag, .cellar, .cmd, .fwSlots, .fwHeld, .boot, .devReg, .devWake, .tunnel, .chans, .pmReg, .gate, .heldEv, .store, .freeCount, .out] → qs ⊆ ps := fun k _ m => sub (k m)
  exact Eff.ite ((hf _).step (wakeBy_eff.step h (e (by decide))) (fun _ m => m)) (emit_eff.step h (e (by decide)))

theorem smbRead_eff {a : Nat} {s : State} : Eff [.l1, .msg, .fnMsg, .queues, .acc, .log, .fwHeld, .tunnel, .gate,
    .heldEv, .out] s (smbRead a s).2 := by
  unfold smbRead
  split; dsimp only; refine Eff.step offAccess_eff ?_; exact Eff.refl _ _; dsimp only; exact Eff.refl _ _

theorem smbReads_eff {ns : List Nat} {s : State} : Eff [.l1, .msg, .fnMsg, .queues, .acc, .log, .fwHeld, .tunnel,
    .gate, .heldEv, .out] s (smbReads ns s).2 := by
  induction ns generalizing s with
  | nil =>
    unfold smbReads
    dsimp only; exact Eff.refl _ _
  | cons e es ih =>
    unfold smbReads
    extract_lets +onlyGivenNames x0; refine Eff.via x0.2 ?_ (fun h0 => ?_); unfold x0; rotate_left; clear_value x0; rotate_left
    refine Eff.step smbRead_eff ?_; exact Eff.refl _ _
    extract_lets +onlyGivenNames x3; refine Eff.via x3.2 ?_ (fun h3 => ?_); unfold x3; rotate_left; clear_value x3; rotate_left
    refine Eff.step ih ?_; assumption; dsimp only; assumption

theorem smbBlock_eff {code n : Nat} {as : List Nat} {pec : Bool} {s : State} : Eff [.l1, .msg, .fnMsg, .queues,
    .acc, .log, .fwHeld, .tunnel, .gate, .heldEv, .out] s (smbBlock code n as pec s) := by
  unfold smbBlock
  extract_lets +onlyGivenNames x0; refine Eff.via x0.2 ?_ (fun h0 => ?_); unfold x0; rotate_left; clear_value x0; rotate_left
  refine Eff.step smbReads_eff ?_; refine Eff.step ungate_eff ?_; exact Eff.refl _ _; refine Eff.step emit_eff ?_
  assumption

theorem smbThermal_eff {now : BitVec 16} {pec : Bool} {s : State} : Eff [.mgmt, .out] s (smbThermal now pec s) := by
  unfold smbThermal
  extract_lets +onlyGivenNames x0; refine Eff.step emit_eff ?_; refine Eff.upd ?_; exact Eff.refl _ _

theorem jtagSelect_eff {i : JtagInstr} {s : State} : Eff [.mgmt] s (jtagSelect i s) := by
  unfold jtagSelect
  refine Eff.upd ?_; exact Eff.refl _ _

theorem jtagTest_eff {i : JtagInstr} {mode : Nat} {s : State} : Eff [.mgmt, .out] s (jtagTest i mode s) := by
  unfold jtagTest
  extract_lets +onlyGivenNames x0; refine Eff.via x0 ?_ (fun h0 => ?_); unfold x0; rotate_left; clear_value x0; rotate_left
  refine Eff.step gatesFast_eff ?_; exact Eff.refl _ _; refine Eff.step emit_eff ?_; refine Eff.upd ?_; assumption

theorem samplePins_eff {n : Nat} {s : State} : Eff [.freeCount] s (samplePins n s).2 := by
  induction n generalizing s with
  | zero =>
    unfold samplePins
    dsimp only; exact Eff.refl _ _
  | succ k ih =>
    unfold samplePins
    extract_lets +onlyGivenNames x0; refine Eff.via x0.2 ?_ (fun h0 => ?_); unfold x0; rotate_left; clear_value x0; rotate_left
    refine Eff.step takeFree_eff ?_; exact Eff.refl _ _
    extract_lets +onlyGivenNames x3; refine Eff.via x3.2 ?_ (fun h3 => ?_); unfold x3; rotate_left; clear_value x3; rotate_left
    refine Eff.step ih ?_; assumption; dsimp only; assumption

theorem jtagSample_eff {chain : List Bool} {s : State} : Eff [.mgmt, .freeCount, .out] s (jtagSample chain s) := by
  unfold jtagSample
  extract_lets +onlyGivenNames x0; refine Eff.via x0.2 ?_ (fun h0 => ?_); unfold x0; rotate_left; clear_value x0; rotate_left
  refine Eff.step samplePins_eff ?_; exact Eff.refl _ _
  extract_lets +onlyGivenNames x3; refine Eff.via x3 ?_ (fun h3 => ?_); unfold x3; rotate_left; clear_value x3; rotate_left
  refine Eff.step jtagSelect_eff ?_; assumption; refine Eff.step emit_eff ?_; refine Eff.upd ?_; assumption

end Sys2Proof.Machine
end

