-- ==== Sys2Proof/Laws/RegWriteEff.lean ====
section
/-! SUPPORT. What each operation of Machine/RegWrite.lean can change: one lemma per function. -/

set_option Elab.async false

namespace Sys2Proof.Machine

open Sys2Proof

theorem writeL1ctl_eff {v : Word} {s : State} : Eff [.link] s (writeL1ctl v s) := by
  unfold writeL1ctl
  refine Eff.upd ?_; exact Eff.refl _ _

theorem clearHerr_eff {v : Word} {s : State} : Eff [.herr] s (clearHerr v s) := by
  unfold clearHerr
  refine Eff.upd ?_; exact Eff.refl _ _

theorem writeAdm_eff {a : Nat} {v : Word} {s : State} : Eff [.queues, .tunnel] s (writeAdm a v s) := by
  unfold writeAdm
  refine Eff.ite ?_ ?_; exact Eff.refl _ _; refine Eff.step modQueue_eff ?_; exact Eff.refl _ _

theorem writeAdmCtl_eff {v : Word} {s : State} : Eff [.l1, .reads, .msg, .fnMsg, .queues, .sched, .halves, .engines,
    .bursts, .portReg, .cistern, .capFlag, .devWake, .tunnel, .gate, .heldEv, .out] s (writeAdmCtl v s) := by
  unfold writeAdmCtl
  refine Eff.ite ?_ ?_; refine Eff.step adminEnable_eff ?_; exact Eff.refl _ _; refine Eff.step adminDisable_eff ?_
  exact Eff.refl _ _

theorem clearWsrc_eff {p h : Nat} {v : Word} {s : State} : Eff [.halves] s (clearWsrc p h v s) := by
  unfold clearWsrc
  refine Eff.step modHalf_eff ?_; exact Eff.refl _ _

theorem clearIso_eff {v : Word} {s : State} : Eff [.lock] s (clearIso v s) := by
  unfold clearIso
  refine Eff.upd ?_; exact Eff.refl _ _

theorem clearFlt_eff {v : Word} {s : State} : Eff [.sumpFlags] s (clearFlt v s) := by
  unfold clearFlt
  refine Eff.upd ?_; exact Eff.refl _ _

theorem writeFltCfg_eff {v : Word} {s : State} : Eff [.memErr] s (writeFltCfg v s) := by
  unfold writeFltCfg
  refine Eff.upd ?_; exact Eff.refl _ _

theorem clearAcc_eff {v : Word} {s : State} : Eff [.acc] s (clearAcc v s) := by
  unfold clearAcc
  refine Eff.upd ?_; exact Eff.refl _ _

theorem clearCh_eff {c : Nat} {v : Word} {s : State} : Eff [.chans] s (clearCh c v s) := by
  unfold clearCh
  refine Eff.step modChan_eff ?_; exact Eff.refl _ _

theorem clearDev_eff {v : Word} {s : State} : Eff [.devReg] s (clearDev v s) := by
  unfold clearDev
  refine Eff.upd ?_; exact Eff.refl _ _

theorem writeDevLpm_eff {v : Word} {s : State} : Eff [.devReg] s (writeDevLpm v s) := by
  unfold writeDevLpm
  refine Eff.upd ?_; exact Eff.refl _ _

theorem clearPm_eff {v : Word} {s : State} : Eff [.pmReg] s (clearPm v s) := by
  unfold clearPm
  refine Eff.upd ?_; exact Eff.refl _ _

theorem writeTimer_eff {v : Word} {s : State} : Eff [.pmReg] s (writeTimer v s) := by
  unfold writeTimer
  refine Eff.upd ?_; exact Eff.refl _ _

theorem writeRsel_eff {v : Word} {s : State} : Eff [.pmReg] s (writeRsel v s) := by
  unfold writeRsel
  refine Eff.upd ?_; exact Eff.refl _ _

theorem writeScr_eff {j : Nat} {v : Word} {s : State} : Eff [.store] s (writeScr j v s) := by
  unfold writeScr
  refine Eff.upd ?_; exact Eff.refl _ _

theorem writeRoom_eff {o : Nat} {v : Word} {s : State} : Eff [.store] s (writeRoom o v s) := by
  unfold writeRoom
  exact Eff.ite (Eff.refl _ _) (Eff.upd (Eff.refl _ _) (h_pm := { canon := wf_writeBytes _ _ }))

theorem writeScratch_eff {v : Word} {s : State} : Eff [.scratch] s (writeScratch v s) := by
  unfold writeScratch
  refine Eff.upd ?_; exact Eff.refl _ _

theorem clearCap_eff {v : Word} {s : State} : Eff [.capFlag] s (clearCap v s) := by
  unfold clearCap
  refine Eff.upd ?_; exact Eff.refl _ _

theorem writePort_eff {p : Port} {o : Nat} {v : Word} {s : State} : Eff [.l1, .reads, .msg, .fnMsg, .queues, .sched,
    .halves, .units, .engines, .bursts, .portReg, .portTime, .cistern, .origins, .log, .capFlag, .fwHeld, .devWake,
    .tunnel, .chans, .gate, .heldEv, .out] s (writePort p o v s) := by
  unfold writePort
  refine Eff.ite ?_ ?_; refine Eff.step writeTc_eff ?_; exact Eff.refl _ _; refine Eff.ite ?_ ?_
  refine Eff.step writeSc_eff ?_; exact Eff.refl _ _; refine Eff.ite ?_ ?_; refine Eff.step writeSc_eff ?_
  exact Eff.refl _ _; refine Eff.ite ?_ ?_; refine Eff.step clearWsrc_eff ?_; exact Eff.refl _ _
  refine Eff.ite ?_ ?_; refine Eff.step clearWsrc_eff ?_; exact Eff.refl _ _; exact Eff.refl _ _

theorem writeDevice_eff {a : Nat} {v : Word} {s : State} : Eff [.l1, .reads, .msg, .fnMsg, .queues, .sched, .halves,
    .engines, .bursts, .portReg, .cistern, .capFlag, .fwHeld, .devReg, .devWake, .tunnel, .gate, .heldEv,
    .freeCount, .out] s (writeDevice a v s) := by
  unfold writeDevice
  refine Eff.ite ?_ ?_; refine Eff.step writeDevCtl_eff ?_; exact Eff.refl _ _; refine Eff.ite ?_ ?_
  refine Eff.step clearDev_eff ?_; exact Eff.refl _ _; refine Eff.ite ?_ ?_; refine Eff.step writeDevLpm_eff ?_
  exact Eff.refl _ _; exact Eff.refl _ _

theorem writeChan_eff {c o : Nat} {v : Word} {s : State} : Eff [.l1, .reads, .msg, .fnMsg, .queues, .sched, .halves,
    .units, .engines, .bursts, .portReg, .portTime, .cistern, .origins, .log, .capFlag, .fwHeld, .devWake, .tunnel,
    .chans, .gate, .heldEv, .out] s (writeChan c o v s) := by
  unfold writeChan
  refine Eff.ite ?_ ?_; refine Eff.step writeChCtl_eff ?_; exact Eff.refl _ _; refine Eff.ite ?_ ?_
  refine Eff.step clearCh_eff ?_; exact Eff.refl _ _; exact Eff.refl _ _

theorem writePmu_eff {a : Nat} {v : Word} {s : State} : Eff [.pmReg, .store] s (writePmu a v s) := by
  unfold writePmu
  refine Eff.ite ?_ ?_; refine Eff.step clearPm_eff ?_; exact Eff.refl _ _; refine Eff.ite ?_ ?_
  refine Eff.step writeTimer_eff ?_; exact Eff.refl _ _; refine Eff.ite ?_ ?_; refine Eff.step writeRsel_eff ?_
  exact Eff.refl _ _; refine Eff.ite ?_ ?_; refine Eff.step writeScr_eff ?_; exact Eff.refl _ _
  refine Eff.ite ?_ ?_; refine Eff.step writeRoom_eff ?_; exact Eff.refl _ _; exact Eff.refl _ _

theorem writeSump_eff {a : Nat} {v : Word} {s : State} : Eff [.sumpFlags, .acc, .memErr] s (writeSump a v s) := by
  unfold writeSump
  refine Eff.ite ?_ ?_; refine Eff.step clearFlt_eff ?_; exact Eff.refl _ _; refine Eff.ite ?_ ?_
  refine Eff.step writeFltCfg_eff ?_; exact Eff.refl _ _; refine Eff.ite ?_ ?_; refine Eff.step clearAcc_eff ?_
  exact Eff.refl _ _; exact Eff.refl _ _

theorem writeBar0_eff {a : Nat} {v : Word} {s : State} : Eff [.link, .l1, .herr, .reads, .msg, .fnMsg, .queues,
    .sched, .halves, .units, .engines, .bursts, .portReg, .lock, .portTime, .cistern, .origins, .sumpFlags, .acc,
    .memErr, .log, .scratch, .capFlag, .fwHeld, .devReg, .devWake, .tunnel, .chans, .pmReg, .gate, .heldEv, .store,
    .freeCount, .out] s (writeBar0 a v s) := by
  unfold writeBar0
  refine Eff.ite ?_ ?_; refine Eff.step writeScratch_eff ?_; exact Eff.refl _ _; refine Eff.ite ?_ ?_
  refine Eff.step clearCap_eff ?_; exact Eff.refl _ _; refine Eff.ite ?_ ?_; refine Eff.step writeL1ctl_eff ?_
  exact Eff.refl _ _; refine Eff.ite ?_ ?_; refine Eff.step clearHerr_eff ?_; exact Eff.refl _ _
  refine Eff.ite ?_ ?_; refine Eff.step writeAdm_eff ?_; exact Eff.refl _ _; refine Eff.ite ?_ ?_
  refine Eff.step writeAdmCtl_eff ?_; exact Eff.refl _ _; refine Eff.ite ?_ ?_; refine Eff.step clearIso_eff ?_
  exact Eff.refl _ _; refine Eff.ite ?_ ?_; refine Eff.step writePort_eff ?_; exact Eff.refl _ _
  refine Eff.ite ?_ ?_; refine Eff.step writeDevice_eff ?_; exact Eff.refl _ _; refine Eff.ite ?_ ?_
  refine Eff.step writeChan_eff ?_; exact Eff.refl _ _; refine Eff.ite ?_ ?_; refine Eff.step writePmu_eff ?_
  exact Eff.refl _ _; refine Eff.ite ?_ ?_; refine Eff.step writeSump_eff ?_; exact Eff.refl _ _; exact Eff.refl _ _

theorem accessBar0_eff {a : Nat} {v : Word} {s : State} : Eff [.link, .l1, .herr, .reads, .msg, .fnMsg, .queues,
    .sched, .halves, .units, .engines, .bursts, .portReg, .lock, .portTime, .cistern, .origins, .sumpFlags, .acc,
    .memErr, .log, .scratch, .capFlag, .fwHeld, .devReg, .devWake, .tunnel, .chans, .pmReg, .gate, .heldEv, .store,
    .freeCount, .out] s (accessBar0 a v s) := by
  unfold accessBar0
  refine Eff.ite ?_ ?_; refine Eff.step pmpAccess_eff ?_; exact Eff.refl _ _; refine regWrite_eff (fun _ => ?_) ?_
  refine Eff.step writeBar0_eff ?_; exact Eff.refl _ _; exact Eff.refl _ _

theorem writeMsix_eff {i v k : Nat} {w : Word} {s : State} : Eff [.l1, .fnMsg, .gate, .out] s (writeMsix i v k w s) := by
  unfold writeMsix
  extract_lets +onlyGivenNames x0; refine Eff.ite ?_ ?_; refine Eff.step setVec_eff ?_; exact Eff.refl _ _
  refine Eff.ite ?_ ?_; refine Eff.step setVec_eff ?_; exact Eff.refl _ _; refine Eff.ite ?_ ?_
  refine Eff.step setVec_eff ?_; exact Eff.refl _ _; refine Eff.step trySend_eff ?_; refine Eff.step setVec_eff ?_
  exact Eff.refl _ _

theorem writeMdb_eff {i : Nat} {v : Word} {s : State} : Eff [.l1, .msg, .fnMsg, .mailbox, .gate, .out] s (writeMdb i
    v s) := by
  unfold writeMdb
  extract_lets +onlyGivenNames x0; refine Eff.via x0 ?_ (fun h0 => ?_); unfold x0; rotate_left; clear_value x0; rotate_left
  refine Eff.ite ?_ ?_; refine Eff.step t2mAck_eff ?_; exact Eff.refl _ _; exact Eff.refl _ _; refine Eff.ite ?_ ?_
  refine Eff.step m2tPost_eff ?_; assumption; assumption

theorem writeDb_eff {i : Nat} {v : Word} {s : State} : Eff [.l1, .msg, .fnMsg, .mailbox, .resetRec, .gate, .out] s
    (writeDb i v s) := by
  unfold writeDb
  extract_lets +onlyGivenNames x0; refine Eff.via x0 ?_ (fun h0 => ?_); unfold x0; rotate_left; clear_value x0; rotate_left
  refine Eff.ite ?_ ?_; refine Eff.step m2tAck_eff ?_; exact Eff.refl _ _; exact Eff.refl _ _
  extract_lets +onlyGivenNames x5; refine Eff.via x5 ?_ (fun h5 => ?_); unfold x5; rotate_left; clear_value x5; rotate_left
  refine Eff.ite ?_ ?_; refine Eff.step rstAck_eff ?_; assumption; assumption; refine Eff.ite ?_ ?_
  refine Eff.step t2mPost_eff ?_; assumption; assumption

theorem writeMbox_eff {i o : Nat} {v : Word} {s : State} : Eff [.l1, .msg, .fnMsg, .mailbox, .gate, .out] s
    (writeMbox i o v s) := by
  unfold writeMbox
  refine Eff.ite ?_ ?_; refine Eff.step paneWrite_eff ?_; exact Eff.refl _ _; refine Eff.ite ?_ ?_
  refine Eff.step paneWrite_eff ?_; exact Eff.refl _ _; refine Eff.ite ?_ ?_; refine Eff.step writeMdb_eff ?_
  exact Eff.refl _ _; exact Eff.refl _ _

theorem writeBar2_eff {a : Nat} {v : Word} {s : State} : Eff [.l1, .reads, .msg, .fnMsg, .queues, .dbdrop, .mailbox,
    .tunnel, .gate, .out] s (writeBar2 a v s) := by
  unfold writeBar2
  refine Eff.ite ?_ ?_; refine Eff.step doorbell_eff ?_; exact Eff.refl _ _; refine Eff.ite ?_ ?_
  refine mboxAccess_eff (fun _ => ?_) ?_; refine Eff.step writeMbox_eff ?_; exact Eff.refl _ _; exact Eff.refl _ _
  refine Eff.ite ?_ ?_; refine Eff.step writeMsix_eff ?_; exact Eff.refl _ _; exact Eff.refl _ _

theorem writeVf_eff {i : Nat} {a : Nat} {v : Word} {s : State} : Eff [.l1, .reads, .msg, .fnMsg, .queues, .dbdrop,
    .mailbox, .resetRec, .tunnel, .gate, .out] s (writeVf i a v s) := by
  unfold writeVf
  refine Eff.ite ?_ ?_; refine Eff.step doorbell_eff ?_; exact Eff.refl _ _; refine Eff.ite ?_ ?_
  refine Eff.step paneWrite_eff ?_; exact Eff.refl _ _; refine Eff.ite ?_ ?_; refine Eff.step paneWrite_eff ?_
  exact Eff.refl _ _; refine Eff.ite ?_ ?_; refine Eff.step writeDb_eff ?_; exact Eff.refl _ _; refine Eff.ite ?_ ?_
  refine Eff.step writeMsix_eff ?_; exact Eff.refl _ _; exact Eff.refl _ _

theorem ifAnswers_eff {ps : List Part} {i : Nat} {f : State → State} {s t : State}
    (hf : ∀ u, Eff ps u (f u)) (h : Eff ps s t) (sub : [.l1, .gate, .out] ⊆ ps := by decide) : Eff ps s (ifAnswers i f t) := by
  unfold ifAnswers
  have e : ∀ {qs}, qs ⊆ [.l1, .gate, .out] → qs ⊆ ps := fun k _ m => sub (k m)
  exact Eff.ite ((hf _).step (wakeLink_eff.step (ungate_eff.step h (e (by decide))) (e (by decide))) (fun _ m => m))
    (answerTlp_eff.step h (e (by decide)))

theorem writeWindow_eff {w : Window} {a : Nat} {v : Word} {s : State} : Eff [.link, .l1, .herr, .reads, .msg,
    .fnMsg, .queues, .dbdrop, .sched, .halves, .units, .engines, .bursts, .portReg, .lock, .portTime, .cistern,
    .origins, .sumpFlags, .acc, .memErr, .log, .mailbox, .resetRec, .scratch, .capFlag, .fwHeld, .devReg, .devWake,
    .tunnel, .chans, .pmReg, .gate, .heldEv, .store, .freeCount, .out] s (writeWindow w a v s) := by
  unfold writeWindow
  extract_lets +onlyGivenNames x0; extract_lets +onlyGivenNames x1; extract_lets +onlyGivenNames x2
  extract_lets +onlyGivenNames x3; extract_lets +onlyGivenNames x4; extract_lets +onlyGivenNames x5
  extract_lets +onlyGivenNames x6; extract_lets +onlyGivenNames x7; split; refine Eff.ite ?_ ?_
  refine ifAnswers_eff (fun _ => ?_) ?_; exact Eff.refl _ _; exact Eff.refl _ _; refine Eff.step accessBar0_eff ?_
  exact Eff.refl _ _; refine ifAnswers_eff (fun _ => ?_) ?_; refine Eff.ite ?_ ?_; exact Eff.refl _ _
  refine Eff.step writeBar2_eff ?_; exact Eff.refl _ _; exact Eff.refl _ _; refine ifAnswers_eff (fun _ => ?_) ?_
  refine Eff.ite ?_ ?_; exact Eff.refl _ _; refine Eff.step writeVf_eff ?_; exact Eff.refl _ _; exact Eff.refl _ _

theorem readBar0_eff {a : Nat} {s : State} : Eff [.l1, .msg, .fnMsg, .queues, .clock, .acc, .log, .fwHeld, .tunnel,
    .gate, .heldEv, .out] s (readBar0 a s) := by
  unfold readBar0
  refine Eff.ite ?_ ?_; refine Eff.step micRead_eff ?_; exact Eff.refl _ _; split; refine Eff.step offBlock_eff ?_
  exact Eff.refl _ _; refine Eff.step answerTlp_eff ?_; refine Eff.step ungate_eff ?_; exact Eff.refl _ _

theorem readWord_eff {w : Window} {a : Nat} {s : State} : Eff [.l1, .msg, .fnMsg, .queues, .clock, .acc, .log,
    .fwHeld, .tunnel, .gate, .heldEv, .out] s (readWord w a s) := by
  unfold readWord
  split; refine Eff.step readBar0_eff ?_; exact Eff.refl _ _; refine Eff.step answerTlp_eff ?_
  refine Eff.step ungate_eff ?_; exact Eff.refl _ _; refine Eff.step answerTlp_eff ?_; refine Eff.step ungate_eff ?_
  exact Eff.refl _ _

theorem serveRead_eff {w : Window} {a n : Nat} {s : State} : Eff [.l1, .msg, .fnMsg, .queues, .clock, .acc, .log,
    .fwHeld, .tunnel, .gate, .heldEv, .out] s (serveRead w a n s) := by
  unfold serveRead
  extract_lets +onlyGivenNames x0; refine Eff.ite ?_ ?_; extract_lets +onlyGivenNames x2
  refine Eff.step answerTlp_eff ?_; refine Eff.step ungate_eff ?_; exact Eff.refl _ _; refine Eff.ite ?_ ?_
  refine Eff.foldl (fun _ _ => ?_) ?_ _; refine Eff.step readWord_eff ?_; exact Eff.refl _ _; exact Eff.refl _ _
  refine Eff.step answerTlp_eff ?_; exact Eff.refl _ _

theorem dropWrite_eff {w : Window} {a : Nat} {s : State} : Eff [.l1, .msg, .fnMsg, .queues, .acc, .log, .fwHeld,
    .tunnel, .gate, .heldEv, .out] s (dropWrite w a s) := by
  unfold dropWrite
  refine Eff.ite ?_ ?_; refine Eff.step answerTlp_eff ?_; exact Eff.refl _ _; split; refine Eff.step offBlock_eff ?_
  exact Eff.refl _ _; refine Eff.step wakeLink_eff ?_; refine Eff.step ungate_eff ?_; exact Eff.refl _ _

theorem offBlockAccess_eff {w : Window} {a n : Nat} {write : Bool} {src : AccSource} {s : State} : Eff [.l1, .msg,
    .fnMsg, .queues, .clock, .acc, .log, .fwHeld, .tunnel, .gate, .heldEv, .out] s (offBlockAccess w a n write src
    s) := by
  unfold offBlockAccess
  split; refine Eff.ite ?_ ?_; refine Eff.step dropWrite_eff ?_; exact Eff.refl _ _
  refine Eff.step serveRead_eff ?_; exact Eff.refl _ _; split; refine Eff.step offBlock_eff ?_; exact Eff.refl _ _
  exact Eff.refl _ _

end Sys2Proof.Machine
end

