-- ==== Sys2Proof/Laws/HostEff.lean ====
section
/-! SUPPORT. What each operation of Machine/Host.lean can change: one lemma per function. -/

set_option Elab.async false

namespace Sys2Proof.Machine

open Sys2Proof

theorem poisoned_eff {i : Nat} {s : State} : Eff [.l1, .fnErr, .gate, .freeCount, .out] s (poisoned i s) := by
  unfold poisoned
  refine Eff.step aerMark_eff ?_; refine Eff.step wakeLink_eff ?_; exact Eff.refl _ _

theorem timeOut_eff {o : OutRead} {s : State} : Eff [.l1, .herr, .reads, .msg, .fnErr, .fnMsg, .queues, .sched,
    .halves, .engines, .portReg, .cistern, .log, .capFlag, .fwSlots, .fwHeld, .devWake, .tunnel, .gate, .heldEv,
    .freeCount, .out] s (timeOut o s) := by
  unfold timeOut
  split; refine Eff.step cellReturn_eff ?_; exact Eff.refl _ _; refine Eff.step fetchReturn_eff ?_
  exact Eff.refl _ _; refine Eff.step pumpReturn_eff ?_; exact Eff.refl _ _; refine Eff.step barrierReturn_eff ?_
  exact Eff.refl _ _; refine Eff.step stageReturn_eff ?_; exact Eff.refl _ _

theorem markLate_eff {i : Nat} {s : State} : Eff [.late] s (markLate i s) := by
  unfold markLate
  refine Eff.upd ?_; exact Eff.refl _ _

theorem lateCompletion_eff {i : Nat} {s : State} : Eff [.l1, .late, .fnErr, .gate, .freeCount, .out] s
    (lateCompletion i s) := by
  unfold lateCompletion
  refine Eff.step aerMark_eff ?_; refine Eff.step wakeLink_eff ?_; refine Eff.upd ?_; exact Eff.refl _ _

theorem enterLinkL1_eff {pci : Bool} {s : State} : Eff [.link, .l1, .out] s (enterLinkL1 pci s) := by
  unfold enterLinkL1
  refine Eff.step emit_eff ?_; refine Eff.upd ?_; exact Eff.refl _ _

theorem pmeAll_eff {s : State} : Eff [.l1, .gate, .out] s (pmeAll s) := by
  unfold pmeAll
  refine Eff.foldl (fun _ _ => ?_) ?_ _; refine Eff.ite ?_ ?_; refine Eff.step tlp_eff ?_; exact Eff.refl _ _
  exact Eff.refl _ _; exact Eff.refl _ _

theorem linkChanged_eff {s : State} : Eff [.l1, .msg, .fnMsg, .queues, .tunnel, .gate, .heldEv, .freeCount, .out] s
    (linkChanged s) := by
  unfold linkChanged
  extract_lets +onlyGivenNames x0; refine Eff.via x0.2 ?_ (fun h0 => ?_); unfold x0; rotate_left; clear_value x0; rotate_left
  refine Eff.step takeFree_eff ?_; exact Eff.refl _ _; refine Eff.step capEvent_eff ?_; assumption

theorem linkTrained_eff {speed width : Nat} {rev : Bool} {s : State} : Eff [.link, .l1, .msg, .fnMsg, .queues,
    .tunnel, .gate, .heldEv, .freeCount, .out] s (linkTrained speed width rev s) := by
  unfold linkTrained
  extract_lets +onlyGivenNames x0
  extract_lets +onlyGivenNames x1; refine Eff.via x1 ?_ (fun h1 => ?_); unfold x1; rotate_left; clear_value x1; rotate_left
  refine Eff.upd ?_; exact Eff.refl _ _
  extract_lets +onlyGivenNames x4; refine Eff.via x4 ?_ (fun h4 => ?_); unfold x4; rotate_left; clear_value x4; rotate_left
  refine Eff.ite ?_ ?_; assumption; refine Eff.step pmeAll_eff ?_; assumption; refine Eff.ite ?_ ?_
  refine Eff.step linkChanged_eff ?_; assumption; assumption

theorem linkReset_eff {k : LinkResetKind} {s : State} : Eff [.link, .l1, .reads, .msg, .fnCfg, .fnMsg, .queues, .sched, .halves, .engines, .bursts, .portReg, .cistern, .instState, .capFlag, .fwSlots, .boot, .devWake, .tunnel, .gate, .heldEv, .out] s (linkReset k s) := by
  unfold linkReset
  extract_lets a b c x y
  have hx : Eff [.link, .l1, .reads, .msg, .fnCfg, .fnMsg, .queues, .sched, .halves, .engines, .bursts, .portReg, .cistern, .instState, .capFlag, .fwSlots, .boot, .devWake, .tunnel, .gate, .heldEv, .out] s x := by
    unfold x
    split <;> exact Eff.upd (Eff.refl _ _)
  have hy : Eff [.link, .l1, .reads, .msg, .fnCfg, .fnMsg, .queues, .sched, .halves, .engines, .bursts, .portReg, .cistern, .instState, .capFlag, .fwSlots, .boot, .devWake, .tunnel, .gate, .heldEv, .out] s y := Eff.foldl (fun _ _ => changeFn_eff (Eff.refl _ _) (fun _ => {})) hx _
  exact Eff.ite (assertWake_eff.step hy) hy

theorem perstDeassert_eff {s : State} : Eff [.l1, .reads, .msg, .fnCfg, .fnMsg, .queues, .sched, .halves, .engines,
    .bursts, .portReg, .cistern, .instState, .capFlag, .boot, .devWake, .tunnel, .pmReg, .gate, .heldEv, .out] s
    (perstDeassert s) := by
  unfold perstDeassert
  extract_lets +onlyGivenNames x0
  extract_lets +onlyGivenNames x1; refine Eff.via x1 ?_ (fun h1 => ?_); unfold x1; rotate_left; clear_value x1; rotate_left
  refine Eff.upd ?_; exact Eff.refl _ _
  extract_lets +onlyGivenNames x4; refine Eff.via x4 ?_ (fun h4 => ?_); unfold x4; rotate_left; clear_value x4; rotate_left
  refine Eff.foldl (fun _ _ => ?_) ?_ _; refine changeFn_eff ?_ (fun _ => {}); exact Eff.refl _ _; assumption
  refine Eff.ite ?_ ?_; refine Eff.step emit_eff ?_; refine Eff.upd ?_; assumption; assumption

theorem powerState_eff {i : Nat} {d3hot : Bool} {s : State} : Eff [.link, .l1, .reads, .msg, .fnCfg, .fnMsg,
    .queues, .sched, .halves, .engines, .bursts, .portReg, .cistern, .instState, .capFlag, .devWake, .tunnel, .gate,
    .heldEv, .out] s (powerState i d3hot s) := by
  unfold powerState
  extract_lets +onlyGivenNames x0; refine Eff.via x0 ?_ (fun h0 => ?_); unfold x0; rotate_left; clear_value x0; rotate_left
  refine changeFn_eff ?_ (fun _ => {}); refine Eff.step wakeLink_eff ?_; exact Eff.refl _ _; refine Eff.ite ?_ ?_
  refine Eff.step enterLinkL1_eff ?_; assumption; assumption

theorem cfgSpace_eff {i : Nat} {w : CfgSpaceWrite} {s : State} : Eff [.link, .l1, .fnCfg, .fnErr, .fnMsg, .gate,
    .out] s (cfgSpace i w s) := by
  unfold cfgSpace
  split; refine modFn_eff ?_ (fun _ => {}); exact Eff.refl _ _; extract_lets +onlyGivenNames x3
  extract_lets +onlyGivenNames x4; refine Eff.via x4 ?_ (fun h4 => ?_); unfold x4; rotate_left; clear_value x4; rotate_left
  refine modFn_eff ?_ (fun _ => {}); exact Eff.refl _ _; refine Eff.ite ?_ ?_; refine Eff.upd ?_; exact Eff.refl _ _
  exact Eff.refl _ _; refine Eff.ite ?_ ?_; refine Eff.upd ?_; exact Eff.refl _ _; exact Eff.refl _ _
  refine modFn_eff ?_ (fun _ => {}); exact Eff.refl _ _; refine modFn_eff ?_ (fun _ => {}); exact Eff.refl _ _
  refine Eff.ite ?_ ?_; refine Eff.upd ?_; exact Eff.refl _ _; exact Eff.refl _ _; refine Eff.ite ?_ ?_
  refine Eff.upd ?_; exact Eff.refl _ _; exact Eff.refl _ _; refine Eff.ite ?_ ?_; refine Eff.upd ?_
  exact Eff.refl _ _; exact Eff.refl _ _; refine Eff.ite ?_ ?_; refine Eff.upd ?_; exact Eff.refl _ _
  exact Eff.refl _ _; refine Eff.ite ?_ ?_; refine Eff.upd ?_; exact Eff.refl _ _; exact Eff.refl _ _
  refine modFn_eff ?_ (fun _ => {}); exact Eff.refl _ _; refine Eff.ite ?_ ?_; refine Eff.step tlp_eff ?_
  assumption; assumption

end Sys2Proof.Machine
end

