-- ==== Sys2Proof/Laws/Exec.lean ====
section
/-! SUPPORT. What each command can change: one lemma per meaning, from the laws of the operations it calls. -/

set_option Elab.async false

namespace Sys2Proof.Machine

open Sys2Proof

/-- A meaning under a guard changes at most what its effect changes. -/
theorem when_eff {ps : List Part} {c : Bool} {s u t : State} (h : when s c u = .next t) (hu : Eff ps s u) :
    Eff ps s t := by
  injection h with h
  exact h ▸ Eff.ite hu (Eff.refl _ _)

theorem next_inj {s t : State} (h : (.next s : Res) = .next t) : s = t := by injection h

/-- A command packet is refused, or accepted with its effect. -/
theorem command_eff {ps : List Part} {op : Nat} {masks : List Word} {b d : Bool}
    {checks : State → List Check} {f : State → State} {c : Packet} {s t : State} (hf : ∀ u, Eff ps u (f u))
    (h : command op masks b d checks f c s = .next t) (sub : [.l1, .msg, .fnMsg, .queues, .cmd, .devWake, .tunnel, .gate, .heldEv, .out] ⊆ ps := by decide) : Eff ps s t := by
  refine when_eff h ?_
  have e : ∀ {qs}, qs ⊆ [.l1, .msg, .fnMsg, .queues, .cmd, .devWake, .tunnel, .gate, .heldEv, .out] → qs ⊆ ps := fun k _ m => sub (k m)
  have hu : Eff ps s (ungate s) := ungate_eff.weaken (e (by decide))
  dsimp only
  split
  · exact refuse_eff.step hu (e (by decide))
  · exact (hf _).step (accept_eff.step hu (e (by decide))) (fun _ m => m)

/-- A control request is put off in an activation pause, or served. -/
theorem control_eff {ps : List Part} {f : State → State} {s t : State} (hf : ∀ u, Eff ps u (f u))
    (h : control f s = .next t) (sub : [.devReg, .gate, .out] ⊆ ps := by decide) : Eff ps s t := by
  refine when_eff h ?_
  have e : ∀ {qs}, qs ⊆ [.devReg, .gate, .out] → qs ⊆ ps := fun k _ m => sub (k m)
  refine Eff.ite (emit_eff.weaken (e (by decide))) ?_
  exact (hf _).step (devAwake_eff.step (ungate_eff.weaken (e (by decide))) (e (by decide))) (fun _ m => m)

/-- A vendor request whose fields are not the listed ones is stalled. -/
theorem vendor_eff {ps : List Part} {ok : Bool} {f : State → State} {s t : State} (hf : ∀ u, Eff ps u (f u))
    (h : vendor ok f s = .next t) (sub : [.devReg, .gate, .out] ⊆ ps := by decide) : Eff ps s t := by
  refine control_eff (fun u => ?_) h sub
  split
  · exact hf u
  · exact stallControl_eff.weaken (fun _ m => sub (by revert m; simp +contextual))

theorem execIndexCellReadReturn_eff {q : QueueId} {a : CellAnswer} {s t : State} (h :
    execIndexCellReadReturn q a s = .next t) : Eff [.l1, .herr, .reads, .msg, .fnErr, .fnMsg, .queues, .log,
    .fwHeld, .tunnel, .gate, .heldEv, .freeCount, .out] s t := by
  unfold execIndexCellReadReturn at h
  split at h; cases h; refine Eff.step cellReturn_eff ?_; exact Eff.refl _ _; cases h; exact Eff.refl _ _

theorem execEvqPollTimer_eff {q : QueueId} {s t : State} (h : execEvqPollTimer q s = .next t) : Eff [.l1,
    .reads, .gate, .out] s t := by
  unfold execEvqPollTimer at h
  refine when_eff h ?_; clear h; refine Eff.step cellRead_eff ?_; exact Eff.refl _ _

theorem execFetchTurn_eff {s t : State} (h : execFetchTurn s = .next t) : Eff [.l1, .reads, .queues,
    .tunnel, .gate, .freeCount, .out] s t := by
  unfold execFetchTurn at h
  split at h; split at h; refine when_eff h ?_; clear h; refine Eff.step fetchTurn_eff ?_; exact Eff.refl _ _
  cases h; exact Eff.refl _ _; cases h; exact Eff.refl _ _

theorem execEntryFetchReturn_eff {q : QueueId} {first : Word} {a : FetchAnswer} {s t : State} (h :
    execEntryFetchReturn q first a s = .next t) : Eff [.l1, .herr, .reads, .msg, .fnErr, .fnMsg, .queues, .sched,
    .halves, .engines, .portReg, .cistern, .log, .capFlag, .fwHeld, .devWake, .tunnel, .gate, .heldEv, .freeCount,
    .out] s t := by
  unfold execEntryFetchReturn at h
  split at h; extract_lets at h; refine when_eff h ?_; clear h; refine Eff.step fetchReturn_eff ?_
  exact Eff.refl _ _; cases h; exact Eff.refl _ _

theorem execBarrierReadReturn_eff {q : QueueId} {i : Word} {err : Option ErrKind} {s t : State} (h :
    execBarrierReadReturn q i err s = .next t) : Eff [.l1, .herr, .reads, .msg, .fnErr, .fnMsg, .queues, .sched,
    .halves, .engines, .portReg, .cistern, .log, .capFlag, .fwHeld, .devWake, .tunnel, .gate, .heldEv, .freeCount,
    .out] s t := by
  unfold execBarrierReadReturn at h
  split at h; cases h; refine Eff.step barrierReturn_eff ?_; exact Eff.refl _ _; cases h; exact Eff.refl _ _

theorem execFenceSignal_eff {q : QueueId} {i : Word} {s t : State} (h : execFenceSignal q i s = .next t) :
    Eff [.l1, .msg, .fnMsg, .queues, .fences, .devWake, .tunnel, .gate, .heldEv, .out] s t := by
  unfold execFenceSignal at h
  split at h; refine when_eff h ?_; clear h; refine Eff.step complete_eff ?_; refine Eff.step fenceSet_eff ?_
  exact Eff.refl _ _; cases h; exact Eff.refl _ _

theorem execFenceWaitSatisfied_eff {q : QueueId} {i : Word} {s t : State} (h : execFenceWaitSatisfied q i
    s = .next t) : Eff [.l1, .reads, .msg, .fnMsg, .queues, .sched, .halves, .engines, .portReg, .cistern, .capFlag,
    .devWake, .tunnel, .gate, .heldEv, .freeCount, .out] s t := by
  unfold execFenceWaitSatisfied at h
  split at h; refine when_eff h ?_; clear h; refine Eff.step attachAll_eff ?_; refine Eff.step complete_eff ?_
  refine Eff.step modQueue_eff ?_; exact Eff.refl _ _; cases h; exact Eff.refl _ _

theorem execSweepComplete_eff {k : Fn} {s t : State} (h : execSweepComplete k s = .next t) : Eff [.l1,
    .reads, .msg, .fnMsg, .queues, .sched, .halves, .engines, .portReg, .cistern, .origins, .log, .capFlag, .fwHeld,
    .devWake, .tunnel, .gate, .heldEv, .out] s t := by
  unfold execSweepComplete at h
  refine when_eff h ?_; clear h; refine Eff.step sweepEnd_eff ?_; exact Eff.refl _ _

theorem execPortIntervalTick_eff {p : Port} {s t : State} (h : execPortIntervalTick p s = .next t) : Eff
    [.l1, .reads, .msg, .fnMsg, .queues, .sched, .halves, .engines, .portReg, .portTime, .cistern, .capFlag,
    .devReg, .devWake, .tunnel, .gate, .heldEv, .out] s t := by
  unfold execPortIntervalTick at h
  refine when_eff h ?_; clear h; refine Eff.step portTick_eff ?_; exact Eff.refl _ _

theorem execBurstEnd_eff {n : PipeId} {s t : State} (h : execBurstEnd n s = .next t) : Eff [.l1, .reads,
    .msg, .fnMsg, .queues, .sched, .halves, .engines, .bursts, .portReg, .cistern, .capFlag, .devWake, .tunnel,
    .gate, .heldEv, .out] s t := by
  unfold execBurstEnd at h
  split at h; refine when_eff h ?_; clear h; refine Eff.step burstEnd_eff ?_; exact Eff.refl _ _; cases h
  exact Eff.refl _ _

theorem execDataPacketReceived_eff {n : PipeId} {pkt : InPacket} {s t : State} (h : execDataPacketReceived
    n pkt s = .next t) : Eff [.l1, .reads, .msg, .fnMsg, .queues, .sched, .halves, .engines, .bursts, .portReg,
    .cistern, .origins, .log, .capFlag, .fwHeld, .devWake, .tunnel, .gate, .heldEv, .out] s t := by
  unfold execDataPacketReceived at h
  split at h; split at h; refine when_eff h ?_; clear h; refine Eff.step dataPacket_eff ?_; exact Eff.refl _ _
  cases h; exact Eff.refl _ _; cases h; exact Eff.refl _ _

theorem execAckReceived_eff {n : PipeId} {a : Ack} {s t : State} (h : execAckReceived n a s = .next t) :
    Eff [.l1, .reads, .msg, .fnMsg, .queues, .sched, .halves, .engines, .bursts, .portReg, .cistern, .origins, .log,
    .capFlag, .fwHeld, .devWake, .tunnel, .gate, .heldEv, .out] s t := by
  unfold execAckReceived at h
  split at h; split at h; refine when_eff h ?_; clear h; refine Eff.step ackReceived_eff ?_; exact Eff.refl _ _
  cases h; exact Eff.refl _ _; cases h; exact Eff.refl _ _

theorem execNrdyReceived_eff {n : PipeId} {s t : State} (h : execNrdyReceived n s = .next t) : Eff [.l1,
    .reads, .msg, .fnMsg, .queues, .sched, .halves, .engines, .bursts, .portReg, .cistern, .capFlag, .devWake,
    .tunnel, .gate, .heldEv, .out] s t := by
  unfold execNrdyReceived at h
  split at h; refine when_eff h ?_; clear h; refine Eff.step nrdy_eff ?_; exact Eff.refl _ _; cases h
  exact Eff.refl _ _

theorem execErdyReceived_eff {n : PipeId} {stream : Nat} {s t : State} (h : execErdyReceived n stream s =
    .next t) : Eff [.l1, .msg, .fnMsg, .queues, .sched, .halves, .cistern, .devWake, .tunnel, .gate, .heldEv,
    .freeCount, .out] s t := by
  unfold execErdyReceived at h
  cases h; refine Eff.step erdy_eff ?_; refine Eff.step ungate_eff ?_; exact Eff.refl _ _

theorem execStallReceived_eff {n : PipeId} {s t : State} (h : execStallReceived n s = .next t) : Eff [.l1,
    .reads, .msg, .fnMsg, .queues, .sched, .halves, .engines, .bursts, .portReg, .cistern, .origins, .log, .capFlag,
    .fwHeld, .devWake, .tunnel, .gate, .heldEv, .out] s t := by
  unfold execStallReceived at h
  split at h; refine when_eff h ?_; clear h; refine Eff.step stall_eff ?_; exact Eff.refl _ _; cases h
  exact Eff.refl _ _

theorem execNakReceived_eff {n : PipeId} {s t : State} (h : execNakReceived n s = .next t) : Eff [.l1,
    .reads, .msg, .fnMsg, .queues, .sched, .halves, .engines, .bursts, .portReg, .cistern, .origins, .log, .capFlag,
    .fwHeld, .devWake, .tunnel, .gate, .heldEv, .out] s t := by
  unfold execNakReceived at h
  split at h; refine when_eff h ?_; clear h; refine Eff.step nak_eff ?_; exact Eff.refl _ _; cases h
  exact Eff.refl _ _

theorem execNyetReceived_eff {n : PipeId} {s t : State} (h : execNyetReceived n s = .next t) : Eff [.l1,
    .reads, .msg, .fnMsg, .queues, .sched, .halves, .engines, .bursts, .portReg, .cistern, .origins, .log, .capFlag,
    .fwHeld, .devWake, .tunnel, .gate, .heldEv, .out] s t := by
  unfold execNyetReceived at h
  split at h; split at h; refine when_eff h ?_; clear h; refine Eff.step nyet_eff ?_; exact Eff.refl _ _; cases h
  exact Eff.refl _ _; cases h; exact Eff.refl _ _

theorem execHubErrReceived_eff {n : PipeId} {s t : State} (h : execHubErrReceived n s = .next t) : Eff
    [.l1, .reads, .msg, .fnMsg, .queues, .sched, .halves, .engines, .bursts, .portReg, .cistern, .origins, .log,
    .capFlag, .fwHeld, .devWake, .tunnel, .gate, .heldEv, .out] s t := by
  unfold execHubErrReceived at h
  split at h; refine when_eff h ?_; clear h; refine Eff.step busError_eff ?_; exact Eff.refl _ _; cases h
  exact Eff.refl _ _

theorem execResponseTimeout_eff {n : PipeId} {s t : State} (h : execResponseTimeout n s = .next t) : Eff
    [.l1, .reads, .msg, .fnMsg, .queues, .sched, .halves, .engines, .bursts, .portReg, .cistern, .origins, .log,
    .capFlag, .fwHeld, .devWake, .tunnel, .gate, .heldEv, .out] s t := by
  unfold execResponseTimeout at h
  split at h; refine when_eff h ?_; clear h; refine Eff.step busError_eff ?_; exact Eff.refl _ _; cases h
  exact Eff.refl _ _

theorem execSplitCloseTimeout_eff {n : PipeId} {s t : State} (h : execSplitCloseTimeout n s = .next t) :
    Eff [.l1, .reads, .msg, .fnMsg, .queues, .sched, .halves, .engines, .bursts, .portReg, .cistern, .capFlag,
    .devWake, .tunnel, .gate, .heldEv, .out] s t := by
  unfold execSplitCloseTimeout at h
  split at h; refine when_eff h ?_; clear h; refine Eff.step splitClose_eff ?_; exact Eff.refl _ _; cases h
  exact Eff.refl _ _

theorem execAdminQueueEnable_eff {v : Word} {s t : State} (h : execAdminQueueEnable v s = .next t) : Eff
    [.l1, .reads, .msg, .fnMsg, .queues, .acc, .log, .fwHeld, .tunnel, .gate, .heldEv, .out] s t := by
  unfold execAdminQueueEnable at h
  cases h; refine regWrite_eff (fun _ => ?_) ?_; refine Eff.step adminEnable_eff ?_; exact Eff.refl _ _
  exact Eff.refl _ _

theorem execAdminQueueDisable_eff {v : Word} {s t : State} (h : execAdminQueueDisable v s = .next t) : Eff
    [.l1, .reads, .msg, .fnMsg, .queues, .sched, .halves, .engines, .bursts, .portReg, .cistern, .acc, .log,
    .capFlag, .fwHeld, .devWake, .tunnel, .gate, .heldEv, .out] s t := by
  unfold execAdminQueueDisable at h
  cases h; refine regWrite_eff (fun _ => ?_) ?_; refine Eff.step adminDisable_eff ?_; exact Eff.refl _ _
  exact Eff.refl _ _

theorem execProbeResult_eff {p : Port} {h : Half} {a : ProbeAnswer} {s t : State} (h : execProbeResult p h
    a s = .next t) : Eff [.l1, .reads, .msg, .fnMsg, .queues, .sched, .halves, .engines, .portReg, .cistern,
    .origins, .sumpFlags, .log, .capFlag, .fwHeld, .devWake, .tunnel, .gate, .heldEv, .out] s t := by
  unfold execProbeResult at h
  split at h; refine when_eff h ?_; clear h; refine Eff.step probeResult_eff ?_; exact Eff.refl _ _; cases h
  exact Eff.refl _ _

theorem execSharedPageGrant_eff {s t : State} (h : execSharedPageGrant s = .next t) : Eff [.sched,
    .cistern, .devWake, .tunnel, .out] s t := by
  unfold execSharedPageGrant at h
  split at h; cases h; refine Eff.step grantPages_eff ?_; exact Eff.refl _ _; cases h; exact Eff.refl _ _

theorem execJobBind_eff {n : Pump} {s t : State} (h : execJobBind n s = .next t) : Eff [.l1, .msg, .fnMsg,
    .queues, .sched, .cistern, .log, .capFlag, .fwHeld, .devWake, .tunnel, .gate, .heldEv, .out] s t := by
  unfold execJobBind at h
  split at h; split at h; refine when_eff h ?_; clear h; split; refine Eff.step haltChan_eff ?_
  refine Eff.step bind_eff ?_; exact Eff.refl _ _; refine Eff.step settleJob_eff ?_; refine Eff.step bind_eff ?_
  exact Eff.refl _ _; cases h; exact Eff.refl _ _; cases h; exact Eff.refl _ _

theorem execSliceExpiry_eff {n : Pump} {s t : State} (h : execSliceExpiry n s = .next t) : Eff [.l1, .msg,
    .fnMsg, .queues, .cistern, .capFlag, .devWake, .tunnel, .gate, .heldEv, .out] s t := by
  unfold execSliceExpiry at h
  split at h; split at h; refine when_eff h ?_; clear h; refine Eff.step expire_eff ?_; exact Eff.refl _ _; cases h
  exact Eff.refl _ _; cases h; exact Eff.refl _ _

theorem execPumpReadIssue_eff {s t : State} (h : execPumpReadIssue s = .next t) : Eff [.l1, .reads,
    .queues, .cistern, .tunnel, .gate, .out] s t := by
  unfold execPumpReadIssue at h
  split at h; refine when_eff h ?_; clear h; refine Eff.step pumpRead_eff ?_; exact Eff.refl _ _; cases h
  exact Eff.refl _ _

theorem execPumpReadCompletion_eff {place read : Nat} {a : ReadAnswer} {s t : State} (h :
    execPumpReadCompletion place read a s = .next t) : Eff [.l1, .herr, .reads, .msg, .fnErr, .fnMsg, .queues,
    .sched, .cistern, .log, .capFlag, .fwHeld, .devWake, .tunnel, .gate, .heldEv, .freeCount, .out] s t := by
  unfold execPumpReadCompletion at h
  split at h; extract_lets at h; refine when_eff h ?_; clear h; refine Eff.step pumpReturn_eff ?_
  exact Eff.refl _ _; cases h; exact Eff.refl _ _

theorem execPumpWriteIssue_eff {mem : PageAnswer} {s t : State} (h : execPumpWriteIssue mem s = .next t) :
    Eff [.l1, .reads, .msg, .fnMsg, .queues, .sched, .halves, .engines, .bursts, .portReg, .cistern, .sumpFlags,
    .memErr, .log, .capFlag, .fwHeld, .devWake, .tunnel, .gate, .heldEv, .out] s t := by
  unfold execPumpWriteIssue at h
  split at h; cases h; refine Eff.step pumpWrite_eff ?_; exact Eff.refl _ _; cases h; exact Eff.refl _ _

theorem execPumpPauseSet_eff {n : Pump} {v : Word} {s t : State} (h : execPumpPauseSet n v s = .next t) :
    Eff [.l1, .reads, .msg, .fnMsg, .queues, .sched, .halves, .engines, .bursts, .portReg, .cistern, .acc, .log,
    .capFlag, .fwHeld, .devWake, .tunnel, .gate, .heldEv, .out] s t := by
  unfold execPumpPauseSet at h
  refine when_eff h ?_; clear h; refine Eff.step pmpAccess_eff ?_; exact Eff.refl _ _

theorem execPumpPauseClear_eff {n : Pump} {v : Word} {s t : State} (h : execPumpPauseClear n v s = .next
    t) : Eff [.l1, .reads, .msg, .fnMsg, .queues, .sched, .halves, .engines, .bursts, .portReg, .cistern, .acc,
    .log, .capFlag, .fwHeld, .devWake, .tunnel, .gate, .heldEv, .out] s t := by
  unfold execPumpPauseClear at h
  refine when_eff h ?_; clear h; refine Eff.step pmpAccess_eff ?_; exact Eff.refl _ _

theorem execPumpHaltAck_eff {n : Pump} {v : Word} {s t : State} (h : execPumpHaltAck n v s = .next t) :
    Eff [.l1, .reads, .msg, .fnMsg, .queues, .sched, .halves, .engines, .bursts, .portReg, .cistern, .acc, .log,
    .capFlag, .fwHeld, .devWake, .tunnel, .gate, .heldEv, .out] s t := by
  unfold execPumpHaltAck at h
  refine when_eff h ?_; clear h; refine Eff.step pmpAccess_eff ?_; exact Eff.refl _ _

theorem execInstanceResetEnd_eff {i : Fn} {us : Nat} {s t : State} (h : execInstanceResetEnd i us s =
    .next t) : Eff [.l1, .reads, .msg, .fnMsg, .queues, .fences, .sched, .halves, .engines, .bursts, .portReg,
    .cistern, .instState, .mailbox, .resetRec, .capFlag, .devWake, .tunnel, .gate, .heldEv, .out] s t := by
  unfold execInstanceResetEnd at h
  refine when_eff h ?_; clear h; refine Eff.step endReset_eff ?_; exact Eff.refl _ _

theorem execInstanceRemovalEnd_eff {i : Fn} {s t : State} (h : execInstanceRemovalEnd i s = .next t) : Eff
    [.l1, .msg, .fnCfg, .fnErr, .fnMsg, .queues, .sched, .halves, .units, .engines, .portReg, .instState, .resetRec,
    .capFlag, .devWake, .tunnel, .gate, .heldEv, .out] s t := by
  unfold execInstanceRemovalEnd at h
  refine when_eff h ?_; clear h; refine Eff.step removeInst_eff ?_; exact Eff.refl _ _

theorem execVfEnableWrite_eff {on : Bool} {n : Fn} {s t : State} (h : execVfEnableWrite on n s = .next t)
    : Eff [.link, .l1, .reads, .msg, .fnCfg, .fnMsg, .queues, .sched, .halves, .engines, .bursts, .cistern,
    .origins, .log, .instState, .capFlag, .fwHeld, .devWake, .tunnel, .gate, .heldEv, .out] s t := by
  unfold execVfEnableWrite at h
  refine when_eff h ?_; clear h; refine Eff.step writeVfEnable_eff ?_; refine Eff.step wakeLink_eff ?_
  exact Eff.refl _ _

theorem execVfFunctionLevelReset_eff {i : Fn} {s t : State} (h : execVfFunctionLevelReset i s = .next t) :
    Eff [.l1, .reads, .msg, .fnCfg, .fnMsg, .queues, .sched, .halves, .engines, .bursts, .cistern, .origins, .log,
    .instState, .capFlag, .fwHeld, .devWake, .tunnel, .gate, .heldEv, .out] s t := by
  unfold execVfFunctionLevelReset at h
  refine when_eff h ?_; clear h; refine Eff.step vfReset_eff ?_; refine Eff.step wakeLink_eff ?_; exact Eff.refl _ _

theorem execMailboxPaneWrite_eff {byManager : Bool} {i : Fn} {m2t : Bool} {off : Fn} {bs : List Byte} {s : State} {t
    : State} (h : execMailboxPaneWrite byManager i m2t off bs s = .next t) : Eff [.l1, .mailbox, .gate, .out] s t := by
  unfold execMailboxPaneWrite at h
  refine when_eff h ?_; clear h; refine Eff.ite ?_ ?_; refine mboxAccess_eff (fun _ => ?_) ?_
  refine Eff.step paneWrite_eff ?_; exact Eff.refl _ _; exact Eff.refl _ _; refine Eff.step answerTlp_eff ?_
  exact Eff.refl _ _

theorem execMailboxT2mPost_eff {i : Fn} {s t : State} (h : execMailboxT2mPost i s = .next t) : Eff [.l1,
    .msg, .fnMsg, .mailbox, .gate, .out] s t := by
  unfold execMailboxT2mPost at h
  refine when_eff h ?_; clear h; refine mboxAccess_eff (fun _ => ?_) ?_; refine Eff.step t2mPost_eff ?_
  exact Eff.refl _ _; exact Eff.refl _ _

theorem execMailboxT2mAck_eff {i : Fn} {s t : State} (h : execMailboxT2mAck i s = .next t) : Eff [.l1,
    .mailbox, .gate, .out] s t := by
  unfold execMailboxT2mAck at h
  cases h; refine mboxAccess_eff (fun _ => ?_) ?_; refine Eff.step t2mAck_eff ?_; exact Eff.refl _ _
  exact Eff.refl _ _

theorem execMailboxM2tPost_eff {i : Fn} {s t : State} (h : execMailboxM2tPost i s = .next t) : Eff [.l1,
    .msg, .fnMsg, .mailbox, .gate, .out] s t := by
  unfold execMailboxM2tPost at h
  cases h; refine mboxAccess_eff (fun _ => ?_) ?_; refine Eff.step m2tPost_eff ?_; exact Eff.refl _ _
  exact Eff.refl _ _

theorem execMailboxM2tAck_eff {i : Fn} {s t : State} (h : execMailboxM2tAck i s = .next t) : Eff [.l1,
    .mailbox, .gate, .out] s t := by
  unfold execMailboxM2tAck at h
  refine when_eff h ?_; clear h; refine mboxAccess_eff (fun _ => ?_) ?_; refine Eff.step m2tAck_eff ?_
  exact Eff.refl _ _; exact Eff.refl _ _

theorem execRstDoneClear_eff {i : Fn} {s t : State} (h : execRstDoneClear i s = .next t) : Eff [.l1,
    .resetRec, .gate, .out] s t := by
  unfold execRstDoneClear at h
  refine when_eff h ?_; clear h; refine mboxAccess_eff (fun _ => ?_) ?_; refine Eff.step rstAck_eff ?_
  exact Eff.refl _ _; exact Eff.refl _ _

theorem execChannelEnable_eff {c : Chan} {v : Word} {s t : State} (h : execChannelEnable c v s = .next t)
    : Eff [.l1, .reads, .msg, .fnMsg, .queues, .sched, .halves, .units, .engines, .bursts, .portReg, .portTime,
    .cistern, .origins, .acc, .log, .capFlag, .fwHeld, .devWake, .tunnel, .chans, .gate, .heldEv, .out] s t := by
  unfold execChannelEnable at h
  cases h; refine regWrite_eff (fun _ => ?_) ?_; refine Eff.step writeChCtl_eff ?_; exact Eff.refl _ _
  exact Eff.refl _ _

theorem execChannelDisable_eff {c : Chan} {v : Word} {s t : State} (h : execChannelDisable c v s = .next
    t) : Eff [.l1, .reads, .msg, .fnMsg, .queues, .sched, .halves, .units, .engines, .bursts, .portReg, .portTime,
    .cistern, .origins, .acc, .log, .capFlag, .fwHeld, .devWake, .tunnel, .chans, .gate, .heldEv, .out] s t := by
  unfold execChannelDisable at h
  cases h; refine regWrite_eff (fun _ => ?_) ?_; refine Eff.step writeChCtl_eff ?_; exact Eff.refl _ _
  exact Eff.refl _ _

theorem execChannelClr_eff {c : Chan} {v : Word} {s t : State} (h : execChannelClr c v s = .next t) : Eff
    [.l1, .reads, .msg, .fnMsg, .queues, .sched, .halves, .units, .engines, .bursts, .portReg, .portTime, .cistern,
    .origins, .acc, .log, .capFlag, .fwHeld, .devWake, .tunnel, .chans, .gate, .heldEv, .out] s t := by
  unfold execChannelClr at h
  cases h; refine regWrite_eff (fun _ => ?_) ?_; refine Eff.step writeChCtl_eff ?_; exact Eff.refl _ _
  exact Eff.refl _ _

theorem execHardShort_eff {c : Chan} {found : List TripCause} {s t : State} (h : execHardShort c found s =
    .next t) : Eff [.l1, .reads, .msg, .fnMsg, .queues, .sched, .halves, .units, .engines, .bursts, .portReg,
    .portTime, .cistern, .origins, .log, .capFlag, .fwHeld, .devWake, .tunnel, .chans, .gate, .heldEv, .out] s t := by
  unfold execHardShort at h
  refine when_eff h ?_; clear h; refine Eff.step trip_eff ?_; exact Eff.refl _ _

theorem execRampTimeout_eff {c : Chan} {found : List TripCause} {s t : State} (h : execRampTimeout c found
    s = .next t) : Eff [.l1, .reads, .msg, .fnMsg, .queues, .sched, .halves, .units, .engines, .bursts, .portReg,
    .portTime, .cistern, .origins, .log, .capFlag, .fwHeld, .devWake, .tunnel, .chans, .gate, .heldEv, .out] s t := by
  unfold execRampTimeout at h
  refine when_eff h ?_; clear h; refine Eff.step trip_eff ?_; exact Eff.refl _ _

theorem execOnLimitTimeout_eff {c : Chan} {found : List TripCause} {s t : State} (h : execOnLimitTimeout c
    found s = .next t) : Eff [.l1, .reads, .msg, .fnMsg, .queues, .sched, .halves, .units, .engines, .bursts,
    .portReg, .portTime, .cistern, .origins, .log, .capFlag, .fwHeld, .devWake, .tunnel, .chans, .gate, .heldEv,
    .out] s t := by
  unfold execOnLimitTimeout at h
  refine when_eff h ?_; clear h; refine Eff.step trip_eff ?_; exact Eff.refl _ _

theorem execVbusGoodReached_eff {c : Chan} {s t : State} (h : execVbusGoodReached c s = .next t) : Eff
    [.l1, .reads, .msg, .fnMsg, .queues, .sched, .halves, .units, .engines, .bursts, .portReg, .portTime, .cistern,
    .origins, .log, .capFlag, .fwHeld, .devWake, .tunnel, .chans, .gate, .heldEv, .out] s t := by
  unfold execVbusGoodReached at h
  refine when_eff h ?_; clear h; refine Eff.step goChan_eff ?_; exact Eff.refl _ _

theorem execSeatOpen_eff {c : Chan} {a b : Bool} {s t : State} (h : execSeatOpen c a b s = .next t) : Eff
    [.l1, .reads, .msg, .fnMsg, .queues, .sched, .halves, .units, .engines, .bursts, .portReg, .portTime, .cistern,
    .origins, .log, .capFlag, .fwHeld, .devWake, .tunnel, .chans, .gate, .heldEv, .out] s t := by
  unfold execSeatOpen at h
  refine when_eff h ?_; clear h; refine Eff.step seatOpen_eff ?_; exact Eff.refl _ _

theorem execSeatClose_eff {c : Chan} {s t : State} (h : execSeatClose c s = .next t) : Eff [.l1, .reads,
    .msg, .fnMsg, .queues, .sched, .halves, .units, .engines, .bursts, .portReg, .portTime, .cistern, .origins,
    .log, .capFlag, .fwHeld, .devWake, .tunnel, .chans, .gate, .heldEv, .out] s t := by
  unfold execSeatClose at h
  refine when_eff h ?_; clear h; refine Eff.step seatClose_eff ?_; exact Eff.refl _ _

theorem execSeatDebounceExpiry_eff {c : Chan} {s t : State} (h : execSeatDebounceExpiry c s = .next t) :
    Eff [.l1, .reads, .msg, .fnMsg, .queues, .sched, .halves, .units, .engines, .bursts, .portReg, .portTime,
    .cistern, .origins, .log, .capFlag, .fwHeld, .devWake, .tunnel, .chans, .gate, .heldEv, .out] s t := by
  unfold execSeatDebounceExpiry at h
  refine when_eff h ?_; clear h; refine Eff.step recheck_eff ?_; refine Eff.step goChan_eff ?_; exact Eff.refl _ _

theorem execSupplyLow_eff {g : Fin 2} {s t : State} (h : execSupplyLow g s = .next t) : Eff [.l1, .reads,
    .msg, .fnMsg, .queues, .sched, .halves, .units, .engines, .bursts, .portReg, .portTime, .cistern, .origins,
    .log, .capFlag, .fwHeld, .devWake, .tunnel, .chans, .gate, .heldEv, .out] s t := by
  unfold execSupplyLow at h
  refine when_eff h ?_; clear h; refine Eff.foldl (fun _ _ => ?_) ?_ _; refine Eff.ite ?_ ?_
  refine Eff.step trip_eff ?_; exact Eff.refl _ _; exact Eff.refl _ _; refine Eff.step setLow_eff ?_
  exact Eff.refl _ _

theorem execSupplyRestored_eff {g : Fin 2} {s t : State} (h : execSupplyRestored g s = .next t) : Eff
    [.l1, .reads, .msg, .fnMsg, .queues, .sched, .halves, .units, .engines, .bursts, .portReg, .portTime, .cistern,
    .origins, .log, .capFlag, .fwHeld, .devWake, .tunnel, .chans, .gate, .heldEv, .out] s t := by
  unfold execSupplyRestored at h
  refine when_eff h ?_; clear h; refine Eff.foldl (fun _ _ => ?_) ?_ _; refine Eff.step recheck_eff ?_
  exact Eff.refl _ _; refine Eff.step setLow_eff ?_; exact Eff.refl _ _

theorem execCoolGateOpen_eff {c : Chan} {s t : State} (h : execCoolGateOpen c s = .next t) : Eff [.l1,
    .reads, .msg, .fnMsg, .queues, .sched, .halves, .units, .engines, .bursts, .portReg, .portTime, .cistern,
    .origins, .log, .capFlag, .fwHeld, .devWake, .tunnel, .chans, .gate, .heldEv, .freeCount, .out] s t := by
  unfold execCoolGateOpen at h
  refine when_eff h ?_; clear h; refine Eff.step coolOpen_eff ?_; exact Eff.refl _ _

theorem execThermalModelUpdate_eff {c : Chan} {m : ChanSample} {s t : State} (h : execThermalModelUpdate c
    m s = .next t) : Eff [.l1, .reads, .msg, .fnMsg, .queues, .sched, .halves, .units, .engines, .bursts, .portReg,
    .portTime, .cistern, .origins, .log, .capFlag, .fwHeld, .devWake, .tunnel, .chans, .gate, .heldEv, .cool,
    .freeCount, .out] s t := by
  unfold execThermalModelUpdate at h
  refine when_eff h ?_; clear h; refine Eff.step sampleChan_eff ?_; exact Eff.refl _ _

theorem execPortReset_eff {p : Port} {h : Half} {v : Word} {s t : State} (h : execPortReset p h v s =
    .next t) : Eff [.l1, .reads, .msg, .fnMsg, .queues, .sched, .halves, .units, .engines, .bursts, .portReg,
    .portTime, .cistern, .origins, .acc, .log, .capFlag, .fwHeld, .devWake, .tunnel, .gate, .heldEv, .out] s t := by
  unfold execPortReset at h
  cases h; refine regWrite_eff (fun _ => ?_) ?_; refine Eff.step writeSc_eff ?_; exact Eff.refl _ _
  exact Eff.refl _ _

theorem execWarmPortReset_eff {p : Port} {h : Half} {v : Word} {s t : State} (h : execWarmPortReset p h v
    s = .next t) : Eff [.l1, .reads, .msg, .fnMsg, .queues, .sched, .halves, .units, .engines, .bursts, .portReg,
    .portTime, .cistern, .origins, .acc, .log, .capFlag, .fwHeld, .devWake, .tunnel, .gate, .heldEv, .out] s t := by
  unfold execWarmPortReset at h
  cases h; refine regWrite_eff (fun _ => ?_) ?_; refine Eff.step writeSc_eff ?_; exact Eff.refl _ _
  exact Eff.refl _ _

theorem execPortDisable_eff {p : Port} {h : Half} {v : Word} {s t : State} (h : execPortDisable p h v s =
    .next t) : Eff [.l1, .reads, .msg, .fnMsg, .queues, .sched, .halves, .units, .engines, .bursts, .portReg,
    .portTime, .cistern, .origins, .acc, .log, .capFlag, .fwHeld, .devWake, .tunnel, .gate, .heldEv, .out] s t := by
  unfold execPortDisable at h
  cases h; refine regWrite_eff (fun _ => ?_) ?_; refine Eff.step writeSc_eff ?_; exact Eff.refl _ _
  exact Eff.refl _ _

theorem execPortSuspend_eff {p : Port} {h : Half} {v : Word} {s t : State} (h : execPortSuspend p h v s =
    .next t) : Eff [.l1, .reads, .msg, .fnMsg, .queues, .sched, .halves, .units, .engines, .bursts, .portReg,
    .portTime, .cistern, .origins, .acc, .log, .capFlag, .fwHeld, .devWake, .tunnel, .gate, .heldEv, .out] s t := by
  unfold execPortSuspend at h
  cases h; refine regWrite_eff (fun _ => ?_) ?_; refine Eff.step writeSc_eff ?_; exact Eff.refl _ _
  exact Eff.refl _ _

theorem execPortResume_eff {p : Port} {h : Half} {v : Word} {s t : State} (h : execPortResume p h v s =
    .next t) : Eff [.l1, .reads, .msg, .fnMsg, .queues, .sched, .halves, .units, .engines, .bursts, .portReg,
    .portTime, .cistern, .origins, .acc, .log, .capFlag, .fwHeld, .devWake, .tunnel, .gate, .heldEv, .out] s t := by
  unfold execPortResume at h
  cases h; refine regWrite_eff (fun _ => ?_) ?_; refine Eff.step writeSc_eff ?_; exact Eff.refl _ _
  exact Eff.refl _ _

theorem execPortResetComplete_eff {p : Port} {h : Half} {speed : Fin 7} {s t : State} (h :
    execPortResetComplete p h speed s = .next t) : Eff [.l1, .reads, .msg, .fnMsg, .queues, .sched, .halves, .units,
    .engines, .bursts, .portReg, .portTime, .cistern, .origins, .log, .capFlag, .fwHeld, .devWake, .tunnel, .gate,
    .heldEv, .out] s t := by
  unfold execPortResetComplete at h
  refine when_eff h ?_; clear h; refine Eff.step goHalf_eff ?_; refine Eff.step setSpeed_eff ?_; exact Eff.refl _ _

theorem execPortResetTimeout_eff {p : Port} {h : Half} {s t : State} (h : execPortResetTimeout p h s =
    .next t) : Eff [.l1, .reads, .msg, .fnMsg, .queues, .sched, .halves, .units, .engines, .bursts, .portReg,
    .portTime, .cistern, .origins, .log, .capFlag, .fwHeld, .devWake, .tunnel, .gate, .heldEv, .out] s t := by
  unfold execPortResetTimeout at h
  refine when_eff h ?_; clear h; refine Eff.step resetTimeout_eff ?_; exact Eff.refl _ _

theorem execSuspendComplete_eff {p : Port} {h : Half} {s t : State} (h : execSuspendComplete p h s = .next
    t) : Eff [.l1, .reads, .msg, .fnMsg, .queues, .sched, .halves, .units, .engines, .bursts, .portReg, .portTime,
    .cistern, .origins, .log, .capFlag, .fwHeld, .devWake, .tunnel, .gate, .heldEv, .out] s t := by
  unfold execSuspendComplete at h
  refine when_eff h ?_; clear h; refine Eff.step suspendEnd_eff ?_; exact Eff.refl _ _

theorem execResumeComplete_eff {p : Port} {h : Half} {s t : State} (h : execResumeComplete p h s = .next
    t) : Eff [.l1, .reads, .msg, .fnMsg, .queues, .sched, .halves, .units, .engines, .bursts, .portReg, .portTime,
    .cistern, .origins, .log, .capFlag, .fwHeld, .devWake, .tunnel, .gate, .heldEv, .out] s t := by
  unfold execResumeComplete at h
  refine when_eff h ?_; clear h; refine Eff.step resumeEnd_eff ?_; exact Eff.refl _ _

theorem execU3ExitTimeout_eff {p : Port} {s t : State} (h : execU3ExitTimeout p s = .next t) : Eff [.l1,
    .reads, .msg, .fnMsg, .queues, .sched, .halves, .units, .engines, .bursts, .portReg, .portTime, .cistern,
    .origins, .log, .capFlag, .fwHeld, .devWake, .tunnel, .gate, .heldEv, .out] s t := by
  unfold execU3ExitTimeout at h
  refine when_eff h ?_; clear h; refine Eff.step u3Timeout_eff ?_; exact Eff.refl _ _

theorem execUnitWake_eff {p : Port} {h : Half} {s t : State} (h : execUnitWake p h s = .next t) : Eff
    [.l1, .reads, .msg, .fnMsg, .queues, .sched, .halves, .units, .engines, .bursts, .portReg, .portTime, .cistern,
    .origins, .log, .capFlag, .fwHeld, .devWake, .tunnel, .gate, .heldEv, .out] s t := by
  unfold execUnitWake at h
  refine when_eff h ?_; clear h; refine Eff.step unitWake_eff ?_; exact Eff.refl _ _

theorem execFunctionWakeNotification_eff {p : Port} {a : BitVec 7} {s t : State} (h :
    execFunctionWakeNotification p a s = .next t) : Eff [.l1, .msg, .fnMsg, .queues, .halves, .tunnel, .gate,
    .heldEv, .out] s t := by
  unfold execFunctionWakeNotification at h
  refine when_eff h ?_; clear h; refine Eff.step functionWake_eff ?_; exact Eff.refl _ _

theorem execSsTrainingComplete_eff {p : Port} {speed : Fin 4} {loopback : Bool} {s t : State} (h :
    execSsTrainingComplete p speed loopback s = .next t) : Eff [.l1, .reads, .msg, .fnMsg, .queues, .sched, .halves,
    .units, .engines, .bursts, .portReg, .portTime, .cistern, .origins, .log, .capFlag, .fwHeld, .devWake, .tunnel,
    .gate, .heldEv, .out] s t := by
  unfold execSsTrainingComplete at h
  refine when_eff h ?_; clear h; refine Eff.ite ?_ ?_; refine Eff.step modHalf_eff ?_; exact Eff.refl _ _
  refine Eff.step goHalf_eff ?_; refine Eff.step setSpeed_eff ?_; exact Eff.refl _ _

theorem execTrainingFailed_eff {p : Port} {s t : State} (h : execTrainingFailed p s = .next t) : Eff [.l1,
    .msg, .fnMsg, .queues, .halves, .tunnel, .gate, .heldEv, .out] s t := by
  unfold execTrainingFailed at h
  refine when_eff h ?_; clear h; refine Eff.step trainFailed_eff ?_; exact Eff.refl _ _

theorem execPollingTimeout_eff {p : Port} {s t : State} (h : execPollingTimeout p s = .next t) : Eff [.l1,
    .msg, .fnMsg, .queues, .halves, .tunnel, .gate, .heldEv, .out] s t := by
  unfold execPollingTimeout at h
  refine when_eff h ?_; clear h; refine Eff.step pollingTimeout_eff ?_; exact Eff.refl _ _

theorem execUsb2ConnectDebounce_eff {p : Port} {low : Bool} {s t : State} (h : execUsb2ConnectDebounce p
    low s = .next t) : Eff [.l1, .reads, .msg, .fnMsg, .queues, .sched, .halves, .units, .engines, .bursts,
    .portReg, .portTime, .cistern, .origins, .log, .capFlag, .fwHeld, .devWake, .tunnel, .gate, .heldEv, .out] s t := by
  unfold execUsb2ConnectDebounce at h
  refine when_eff h ?_; clear h; refine Eff.step usb2Connect_eff ?_; exact Eff.refl _ _

theorem execDisconnectDetected_eff {p : Port} {h : Half} {s t : State} (h : execDisconnectDetected p h s =
    .next t) : Eff [.l1, .reads, .msg, .fnMsg, .queues, .sched, .halves, .units, .engines, .bursts, .portReg,
    .portTime, .cistern, .origins, .log, .capFlag, .fwHeld, .devWake, .tunnel, .gate, .heldEv, .out] s t := by
  unfold execDisconnectDetected at h
  refine when_eff h ?_; clear h; refine Eff.step disconnect_eff ?_; exact Eff.refl _ _

theorem execLinkFailure_eff {p : Port} {h : Half} {s t : State} (h : execLinkFailure p h s = .next t) :
    Eff [.l1, .reads, .msg, .fnMsg, .queues, .sched, .halves, .units, .engines, .bursts, .portReg, .portTime,
    .cistern, .origins, .log, .capFlag, .fwHeld, .devWake, .tunnel, .gate, .heldEv, .out] s t := by
  unfold execLinkFailure at h
  refine when_eff h ?_; clear h; refine Eff.step linkFail_eff ?_; exact Eff.refl _ _

theorem execPortPowerWrite_eff {p : Port} {v : Word} {s t : State} (h : execPortPowerWrite p v s = .next
    t) : Eff [.l1, .reads, .msg, .fnMsg, .queues, .sched, .halves, .units, .engines, .bursts, .portReg, .portTime,
    .cistern, .origins, .acc, .log, .capFlag, .fwHeld, .devWake, .tunnel, .chans, .gate, .heldEv, .out] s t := by
  unfold execPortPowerWrite at h
  cases h; refine regWrite_eff (fun _ => ?_) ?_; refine Eff.step writeTc_eff ?_; exact Eff.refl _ _
  exact Eff.refl _ _

theorem execCcLevelChange_eff {p : Port} {mv1 mv2 : Nat} {s t : State} (h : execCcLevelChange p mv1 mv2 s
    = .next t) : Eff [.portReg] s t := by
  unfold execCcLevelChange at h
  refine when_eff h ?_; clear h; refine modPort_eff ?_ (fun _ => {}); exact Eff.refl _ _

theorem execCcDebounceExpiry_eff {p : Port} {s t : State} (h : execCcDebounceExpiry p s = .next t) : Eff
    [.l1, .reads, .msg, .fnMsg, .queues, .sched, .halves, .units, .engines, .bursts, .portReg, .portTime, .cistern,
    .origins, .log, .capFlag, .fwHeld, .devWake, .tunnel, .chans, .gate, .heldEv, .out] s t := by
  unfold execCcDebounceExpiry at h
  refine when_eff h ?_; clear h; refine Eff.step acceptCc_eff ?_; exact Eff.refl _ _

theorem execU1U2RequestRx_eff {p : Port} {u2 : Bool} {s t : State} (h : execU1U2RequestRx p u2 s = .next
    t) : Eff [.halves, .out] s t := by
  unfold execU1U2RequestRx at h
  refine when_eff h ?_; clear h; refine Eff.step unitLpm_eff ?_; exact Eff.refl _ _

theorem execLinkIdleTimeout_eff {p : Port} {u2 : Bool} {s t : State} (h : execLinkIdleTimeout p u2 s =
    .next t) : Eff [.halves, .out] s t := by
  unfold execLinkIdleTimeout at h
  extract_lets at h; refine when_eff h ?_; clear h; refine Eff.step enterU_eff ?_; refine Eff.step bus_eff ?_
  exact Eff.refl _ _

theorem execLpmIdleTimeout_eff {p : Port} {s t : State} (h : execLpmIdleTimeout p s = .next t) : Eff
    [.halves, .out] s t := by
  unfold execLpmIdleTimeout at h
  refine when_eff h ?_; clear h; refine Eff.step enterL1_eff ?_; exact Eff.refl _ _

theorem execLinkU0Reached_eff {p : Port} {h : Half} {s t : State} (h : execLinkU0Reached p h s = .next t)
    : Eff [.halves, .out] s t := by
  unfold execLinkU0Reached at h
  refine when_eff h ?_; clear h; refine Eff.step linkAwake_eff ?_; exact Eff.refl _ _

theorem execLane1Loss_eff {p : Port} {s t : State} (h : execLane1Loss p s = .next t) : Eff [.l1, .reads,
    .msg, .fnMsg, .queues, .sched, .halves, .engines, .bursts, .portReg, .cistern, .origins, .log, .capFlag,
    .fwHeld, .devWake, .tunnel, .gate, .heldEv, .out] s t := by
  unfold execLane1Loss at h
  refine when_eff h ?_; clear h; refine Eff.step lane1Loss_eff ?_; exact Eff.refl _ _

theorem execMasterIntervalTick_eff {s t : State} (h : execMasterIntervalTick s = .next t) : Eff [.clock] s
    t := by
  unfold execMasterIntervalTick at h
  refine when_eff h ?_; clear h; refine Eff.step masterTick_eff ?_; exact Eff.refl _ _

theorem execIsoMicRead_eff {s t : State} (h : execIsoMicRead s = .next t) : Eff [.l1, .clock, .gate, .out]
    s t := by
  unfold execIsoMicRead at h
  cases h; refine Eff.step micRead_eff ?_; exact Eff.refl _ _

theorem execLockAcquired_eff {phase : BitVec 16} {s t : State} (h : execLockAcquired phase s = .next t) :
    Eff [.l1, .msg, .fnMsg, .queues, .lock, .tunnel, .gate, .heldEv, .out] s t := by
  unfold execLockAcquired at h
  refine when_eff h ?_; clear h; refine lockMove_eff ?_ (fun _ => {}); exact Eff.refl _ _

theorem execAcquisitionTimeout_eff {s t : State} (h : execAcquisitionTimeout s = .next t) : Eff [.l1,
    .msg, .fnMsg, .queues, .lock, .tunnel, .gate, .heldEv, .out] s t := by
  unfold execAcquisitionTimeout at h
  refine when_eff h ?_; clear h; refine lockMove_eff ?_ (fun _ => {}); exact Eff.refl _ _

theorem execArefPhaseError_eff {s t : State} (h : execArefPhaseError s = .next t) : Eff [.l1, .msg,
    .fnMsg, .queues, .lock, .tunnel, .gate, .heldEv, .out] s t := by
  unfold execArefPhaseError at h
  refine when_eff h ?_; clear h; refine lockMove_eff ?_ (fun _ => {}); exact Eff.refl _ _

theorem execArefLost_eff {s t : State} (h : execArefLost s = .next t) : Eff [.l1, .msg, .fnMsg, .queues,
    .lock, .tunnel, .gate, .heldEv, .out] s t := by
  unfold execArefLost at h
  refine when_eff h ?_; clear h; refine Eff.step arefLost_eff ?_; exact Eff.refl _ _

theorem execArefRangeChange_eff {dev : BitVec 16} {s t : State} (h : execArefRangeChange dev s = .next t)
    : Eff [.l1, .msg, .fnMsg, .queues, .lock, .tunnel, .gate, .heldEv, .out] s t := by
  unfold execArefRangeChange at h
  refine when_eff h ?_; clear h; refine Eff.step measure_eff ?_; exact Eff.refl _ _

theorem execArefReturn_eff {dev : BitVec 16} {s t : State} (h : execArefReturn dev s = .next t) : Eff
    [.l1, .msg, .fnMsg, .queues, .lock, .tunnel, .gate, .heldEv, .out] s t := by
  unfold execArefReturn at h
  refine when_eff h ?_; clear h; refine Eff.step measure_eff ?_; exact Eff.refl _ _

theorem execHoldoverTimeout_eff {s t : State} (h : execHoldoverTimeout s = .next t) : Eff [.l1, .msg,
    .fnMsg, .queues, .lock, .tunnel, .gate, .heldEv, .out] s t := by
  unfold execHoldoverTimeout at h
  refine when_eff h ?_; clear h; refine Eff.step holdEnd_eff ?_; exact Eff.refl _ _

theorem execBusIntervalAdjustment_eff {p : Port} {a : BitVec 7} {v : Int} {s t : State} (h :
    execBusIntervalAdjustment p a v s = .next t) : Eff [.l1, .msg, .fnMsg, .queues, .portTime, .tunnel, .gate,
    .heldEv, .out] s t := by
  unfold execBusIntervalAdjustment at h
  refine when_eff h ?_; clear h; refine Eff.step adjust_eff ?_; refine Eff.step ungate_eff ?_; exact Eff.refl _ _

theorem execUndefinedCommand_eff {c : Packet} {s t : State} (h : execUndefinedCommand c s = .next t) : Eff
    [.l1, .msg, .fnMsg, .queues, .cmd, .devWake, .tunnel, .gate, .heldEv, .out] s t := by
  unfold execUndefinedCommand at h
  refine when_eff h ?_; clear h; refine Eff.step refuse_eff ?_; refine Eff.step ungate_eff ?_; exact Eff.refl _ _

theorem execQueueCreate_eff {c : Packet} {s t : State} (h : execQueueCreate c s = .next t) : Eff [.l1,
    .msg, .fnMsg, .queues, .cmd, .devWake, .tunnel, .gate, .heldEv, .out] s t := by
  unfold execQueueCreate at h
  refine command_eff (fun _ => ?_) h; clear h; refine Eff.step createQueue_eff ?_; exact Eff.refl _ _

theorem execQueueDelete_eff {c : Packet} {s t : State} (h : execQueueDelete c s = .next t) : Eff [.l1,
    .msg, .fnMsg, .queues, .cmd, .devWake, .tunnel, .gate, .heldEv, .out] s t := by
  unfold execQueueDelete at h
  refine command_eff (fun _ => ?_) h; clear h; refine Eff.step ok_eff ?_; refine Eff.step delQueue_eff ?_
  exact Eff.refl _ _

theorem execQueueEnable_eff {c : Packet} {s t : State} (h : execQueueEnable c s = .next t) : Eff [.l1,
    .reads, .msg, .fnMsg, .queues, .cmd, .devWake, .tunnel, .gate, .heldEv, .out] s t := by
  unfold execQueueEnable at h
  refine command_eff (fun _ => ?_) h; clear h
  extract_lets +onlyGivenNames x1; refine Eff.via x1 ?_ (fun h1 => ?_); unfold x1; rotate_left; clear_value x1; rotate_left
  refine Eff.step enableQueue_eff ?_; exact Eff.refl _ _; refine Eff.step ok_eff ?_; assumption

theorem execQueueDisable_eff {c : Packet} {s t : State} (h : execQueueDisable c s = .next t) : Eff [.l1,
    .reads, .msg, .fnMsg, .queues, .sched, .halves, .engines, .bursts, .portReg, .cistern, .capFlag, .cmd, .devWake,
    .tunnel, .gate, .heldEv, .out] s t := by
  unfold execQueueDisable at h
  refine command_eff (fun _ => ?_) h; clear h; refine Eff.step disableCmd_eff ?_; exact Eff.refl _ _

theorem execUnitAddress_eff {c : Packet} {s t : State} (h : execUnitAddress c s = .next t) : Eff [.l1,
    .msg, .fnMsg, .queues, .units, .engines, .cmd, .devWake, .tunnel, .gate, .heldEv, .out] s t := by
  unfold execUnitAddress at h
  refine command_eff (fun _ => ?_) h; clear h; refine Eff.step startAddress_eff ?_; exact Eff.refl _ _

theorem execSetAddressRecoveryEnd_eff {p : Port} {h : Half} {r : SetAddrResult} {s t : State} (h :
    execSetAddressRecoveryEnd p h r s = .next t) : Eff [.l1, .msg, .fnMsg, .queues, .units, .engines, .devWake,
    .tunnel, .gate, .heldEv, .out] s t := by
  unfold execSetAddressRecoveryEnd at h
  split at h; refine when_eff h ?_; clear h; refine Eff.step addressEnd_eff ?_; refine Eff.step ungate_eff ?_
  exact Eff.refl _ _; cases h; exact Eff.refl _ _

theorem execUnitRelease_eff {c : Packet} {s t : State} (h : execUnitRelease c s = .next t) : Eff [.l1,
    .msg, .fnMsg, .queues, .units, .portTime, .cmd, .devWake, .tunnel, .gate, .heldEv, .out] s t := by
  unfold execUnitRelease at h
  refine command_eff (fun _ => ?_) h; clear h; refine Eff.step ok_eff ?_; refine Eff.step freeUnit_eff ?_
  exact Eff.refl _ _

theorem execUnitAssign_eff {c : Packet} {s t : State} (h : execUnitAssign c s = .next t) : Eff [.l1, .msg,
    .fnMsg, .queues, .units, .cmd, .devWake, .tunnel, .gate, .heldEv, .out] s t := by
  unfold execUnitAssign at h
  refine command_eff (fun _ => ?_) h; clear h; refine Eff.step ok_eff ?_; refine Eff.step assignUnit_eff ?_
  exact Eff.refl _ _

theorem execPipeOpen_eff {c : Packet} {s t : State} (h : execPipeOpen c s = .next t) : Eff [.l1, .msg,
    .fnMsg, .queues, .sched, .cmd, .devWake, .tunnel, .gate, .heldEv, .out] s t := by
  unfold execPipeOpen at h
  refine command_eff (fun _ => ?_) h; clear h; refine Eff.step openPipe_eff ?_; exact Eff.refl _ _

theorem execPipeClose_eff {c : Packet} {s t : State} (h : execPipeClose c s = .next t) : Eff [.l1, .reads,
    .msg, .fnMsg, .queues, .sched, .halves, .engines, .bursts, .portReg, .cistern, .origins, .log, .capFlag, .cmd,
    .fwHeld, .devWake, .tunnel, .gate, .heldEv, .out] s t := by
  unfold execPipeClose at h
  refine command_eff (fun _ => ?_) h; clear h; refine Eff.step closeAll_eff ?_; exact Eff.refl _ _

theorem execPipeStop_eff {c : Packet} {s t : State} (h : execPipeStop c s = .next t) : Eff [.l1, .reads,
    .msg, .fnMsg, .queues, .sched, .halves, .engines, .bursts, .portReg, .cistern, .capFlag, .cmd, .devWake,
    .tunnel, .gate, .heldEv, .out] s t := by
  unfold execPipeStop at h
  refine command_eff (fun _ => ?_) h; clear h; refine Eff.foldl (fun _ _ => ?_) ?_ _
  refine Eff.step withdrawUnsent_eff ?_; exact Eff.refl _ _; refine Eff.step stateReply_eff ?_
  refine Eff.foldl (fun _ _ => ?_) ?_ _; refine Eff.step stopOne_eff ?_; exact Eff.refl _ _; exact Eff.refl _ _

theorem execPipeStart_eff {c : Packet} {s t : State} (h : execPipeStart c s = .next t) : Eff [.l1, .msg,
    .fnMsg, .queues, .sched, .cistern, .cmd, .devWake, .tunnel, .gate, .heldEv, .out] s t := by
  unfold execPipeStart at h
  refine command_eff (fun _ => ?_) h; clear h; refine Eff.step stateReply_eff ?_
  refine Eff.foldl (fun _ _ => ?_) ?_ _; refine Eff.step startOne_eff ?_; exact Eff.refl _ _; exact Eff.refl _ _

theorem execPipeReset_eff {c : Packet} {s t : State} (h : execPipeReset c s = .next t) : Eff [.l1, .msg,
    .fnMsg, .queues, .sched, .cistern, .cmd, .devWake, .tunnel, .gate, .heldEv, .out] s t := by
  unfold execPipeReset at h
  refine command_eff (fun _ => ?_) h; clear h; refine Eff.step stateReply_eff ?_
  refine Eff.foldl (fun _ _ => ?_) ?_ _; refine Eff.step resetOne_eff ?_; exact Eff.refl _ _; exact Eff.refl _ _

theorem execPipeQuery_eff {c : Packet} {s t : State} (h : execPipeQuery c s = .next t) : Eff [.l1, .msg,
    .fnMsg, .queues, .cmd, .devWake, .tunnel, .gate, .heldEv, .freeCount, .out] s t := by
  unfold execPipeQuery at h
  refine command_eff (fun _ => ?_) h; clear h; refine Eff.step queryPipe_eff ?_; exact Eff.refl _ _

theorem execOriginRelease_eff {c : Packet} {s t : State} (h : execOriginRelease c s = .next t) : Eff [.l1,
    .reads, .msg, .fnMsg, .queues, .sched, .halves, .engines, .portReg, .cistern, .origins, .log, .capFlag, .cmd,
    .fwHeld, .devWake, .tunnel, .gate, .heldEv, .out] s t := by
  unfold execOriginRelease at h
  refine command_eff (fun _ => ?_) h; clear h; extract_lets +onlyGivenNames x1; refine Eff.ite ?_ ?_
  refine Eff.step ok_eff ?_; refine Eff.step freeClosed_eff ?_; exact Eff.refl _ _; refine Eff.step ok_eff ?_
  refine Eff.step releaseOrigin_eff ?_; exact Eff.refl _ _

theorem execOriginDrop_eff {c : Packet} {s t : State} (h : execOriginDrop c s = .next t) : Eff [.l1,
    .reads, .msg, .fnMsg, .queues, .sched, .halves, .engines, .portReg, .cistern, .origins, .log, .capFlag, .cmd,
    .fwHeld, .devWake, .tunnel, .gate, .heldEv, .out] s t := by
  unfold execOriginDrop at h
  refine command_eff (fun _ => ?_) h; clear h; extract_lets +onlyGivenNames x1; refine Eff.ite ?_ ?_
  refine Eff.step ok_eff ?_; refine Eff.step freeClosed_eff ?_; exact Eff.refl _ _; refine Eff.step ok_eff ?_
  refine Eff.step dropOrigin_eff ?_; exact Eff.refl _ _

theorem execLogRead_eff {c : Packet} {s t : State} (h : execLogRead c s = .next t) : Eff [.l1, .msg,
    .fnMsg, .queues, .cmd, .devWake, .tunnel, .gate, .heldEv, .out] s t := by
  unfold execLogRead at h
  refine command_eff (fun _ => ?_) h; clear h; extract_lets +onlyGivenNames x1; refine Eff.step ok_eff ?_
  refine Eff.step hostWrite_eff ?_; exact Eff.refl _ _

theorem execPumpAck_eff {c : Packet} {s t : State} (h : execPumpAck c s = .next t) : Eff [.l1, .reads,
    .msg, .fnMsg, .queues, .sched, .halves, .engines, .bursts, .portReg, .cistern, .capFlag, .cmd, .devWake,
    .tunnel, .gate, .heldEv, .out] s t := by
  unfold execPumpAck at h
  refine command_eff (fun _ => ?_) h; clear h; refine Eff.step ok_eff ?_; refine Eff.step ackHalt_eff ?_
  exact Eff.refl _ _

theorem execInstanceResetCommand_eff {c : Packet} {s t : State} (h : execInstanceResetCommand c s = .next
    t) : Eff [.l1, .reads, .msg, .fnMsg, .queues, .sched, .halves, .engines, .bursts, .cistern, .origins, .log,
    .instState, .capFlag, .cmd, .fwHeld, .devWake, .tunnel, .gate, .heldEv, .out] s t := by
  unfold execInstanceResetCommand at h
  refine command_eff (fun _ => ?_) h; clear h; refine Eff.step resetInst_eff ?_; exact Eff.refl _ _

theorem execCfgWrite_eff {c : Packet} {s t : State} (h : execCfgWrite c s = .next t) : Eff [.l1, .msg,
    .fnMsg, .queues, .sets, .cmd, .devWake, .tunnel, .gate, .heldEv, .out] s t := by
  unfold execCfgWrite at h
  refine command_eff (fun _ => ?_) h; clear h; refine Eff.step ok_eff ?_; refine Eff.step cfgWrites_eff ?_
  exact Eff.refl _ _

theorem execCfgRead_eff {c : Packet} {s t : State} (h : execCfgRead c s = .next t) : Eff [.l1, .msg,
    .fnMsg, .queues, .cmd, .devWake, .tunnel, .gate, .heldEv, .out] s t := by
  unfold execCfgRead at h
  extract_lets at h; refine command_eff (fun _ => ?_) h; clear h; refine Eff.step ok_eff ?_; exact Eff.refl _ _

theorem execCfgCopy_eff {c : Packet} {s t : State} (h : execCfgCopy c s = .next t) : Eff [.l1, .msg,
    .fnMsg, .queues, .sets, .cmd, .devWake, .tunnel, .gate, .heldEv, .out] s t := by
  unfold execCfgCopy at h
  refine command_eff (fun _ => ?_) h; clear h; refine Eff.step ok_eff ?_; refine Eff.upd ?_; exact Eff.refl _ _

theorem execCfgSwap_eff {c : Packet} {s t : State} (h : execCfgSwap c s = .next t) : Eff [.l1, .msg,
    .fnMsg, .queues, .cmd, .devWake, .tunnel, .gate, .heldEv, .out] s t := by
  unfold execCfgSwap at h
  refine command_eff (fun _ => ?_) h; clear h; refine Eff.upd ?_; exact Eff.refl _ _

theorem execCfgSwapCommit_eff {s t : State} (h : execCfgSwapCommit s = .next t) : Eff [.l1, .reads, .msg,
    .fnMsg, .queues, .sched, .halves, .units, .engines, .bursts, .portReg, .lock, .portTime, .cistern, .origins,
    .log, .sets, .capFlag, .cmd, .fwHeld, .devWake, .tunnel, .chans, .gate, .heldEv, .freeCount, .out] s t := by
  unfold execCfgSwapCommit at h
  refine when_eff h ?_; clear h; refine Eff.step commitSwap_eff ?_; exact Eff.refl _ _

theorem execChanBind_eff {c : Packet} {s t : State} (h : execChanBind c s = .next t) : Eff [.l1, .reads,
    .msg, .fnMsg, .queues, .sched, .halves, .units, .engines, .bursts, .portReg, .portTime, .cistern, .origins,
    .log, .capFlag, .cmd, .fwHeld, .devWake, .tunnel, .chans, .gate, .heldEv, .out] s t := by
  unfold execChanBind at h
  refine command_eff (fun _ => ?_) h; clear h; refine Eff.step ok_eff ?_; refine Eff.step bindChan_eff ?_
  exact Eff.refl _ _

theorem execDiagEcho_eff {c : Packet} {s t : State} (h : execDiagEcho c s = .next t) : Eff [.l1, .msg,
    .fnMsg, .queues, .cmd, .devWake, .tunnel, .gate, .heldEv, .out] s t := by
  unfold execDiagEcho at h
  refine command_eff (fun _ => ?_) h; clear h; refine Eff.step ok_eff ?_; exact Eff.refl _ _

theorem execPortService_eff {c : Packet} {r : PortTest} {s t : State} (h : execPortService c r s = .next
    t) : Eff [.l1, .reads, .msg, .fnMsg, .queues, .sched, .halves, .units, .engines, .bursts, .portReg, .portTime,
    .cistern, .origins, .log, .capFlag, .cmd, .fwHeld, .devWake, .tunnel, .chans, .gate, .heldEv, .out] s t := by
  unfold execPortService at h
  refine command_eff (fun _ => ?_) h; clear h; refine Eff.ite ?_ ?_; refine Eff.step returnPort_eff ?_
  exact Eff.refl _ _; refine Eff.step removePort_eff ?_; exact Eff.refl _ _

theorem execPumpService_eff {c : Packet} {pass : Bool} {s t : State} (h : execPumpService c pass s = .next
    t) : Eff [.l1, .msg, .fnMsg, .queues, .sched, .cistern, .capFlag, .cmd, .devWake, .tunnel, .gate, .heldEv, .out]
    s t := by
  unfold execPumpService at h
  refine command_eff (fun _ => ?_) h; clear h; refine Eff.ite ?_ ?_; refine Eff.step returnPump_eff ?_
  exact Eff.refl _ _; refine Eff.step removePump_eff ?_; exact Eff.refl _ _

theorem execCellarTrainingLoss_eff {c : Fin 2} {s t : State} (h : execCellarTrainingLoss c s = .next t) :
    Eff [.cellar] s t := by
  unfold execCellarTrainingLoss at h
  refine when_eff h ?_; clear h; refine Eff.step modCel_eff ?_; exact Eff.refl _ _

theorem execCellarScrub_eff {c : Fin 2} {n : Nat} {lost : List (Word × CellarLoss)} {s t : State} (h :
    execCellarScrub c n lost s = .next t) : Eff [.l1, .reads, .msg, .fnMsg, .queues, .sched, .halves, .engines,
    .bursts, .portReg, .cistern, .origins, .sumpFlags, .memErr, .log, .capFlag, .cellar, .fwHeld, .devWake, .tunnel,
    .gate, .heldEv, .freeCount, .out] s t := by
  unfold execCellarScrub at h
  refine when_eff h ?_; clear h; refine Eff.step ueCheck_eff ?_; refine Eff.foldl (fun _ _ => ?_) ?_ _
  refine Eff.step loseWord_eff ?_; exact Eff.refl _ _; refine Eff.step countCe_eff ?_; exact Eff.refl _ _

theorem execCellarChannelFail_eff {c : Fin 2} {s t : State} (h : execCellarChannelFail c s = .next t) :
    Eff [.l1, .reads, .msg, .fnMsg, .queues, .sched, .halves, .engines, .bursts, .portReg, .cistern, .origins, .log,
    .capFlag, .cellar, .fwHeld, .devWake, .tunnel, .gate, .heldEv, .freeCount, .out] s t := by
  unfold execCellarChannelFail at h
  refine when_eff h ?_; clear h; refine Eff.step failCellar_eff ?_; exact Eff.refl _ _

theorem execSchedulerDecision_eff {p : Port} {mem : ChipAnswer} {s t : State} (h : execSchedulerDecision p
    mem s = .next t) : Eff [.l1, .reads, .msg, .fnMsg, .queues, .sched, .halves, .engines, .bursts, .portReg,
    .cistern, .origins, .sumpFlags, .memErr, .log, .capFlag, .cellar, .fwHeld, .devWake, .tunnel, .gate, .heldEv,
    .freeCount, .out] s t := by
  unfold execSchedulerDecision at h
  refine when_eff h ?_; clear h; refine Eff.step decide'_eff ?_; refine Eff.step chipError_eff ?_
  refine Eff.step catchAll_eff ?_; exact Eff.refl _ _

theorem execContextFill_eff {n : PipeId} {a : MemAnswer} {s t : State} (h : execContextFill n a s = .next
    t) : Eff [.l1, .reads, .msg, .fnMsg, .queues, .sched, .halves, .engines, .bursts, .portReg, .cistern, .origins,
    .sumpFlags, .memErr, .log, .capFlag, .cellar, .fwHeld, .devWake, .tunnel, .gate, .heldEv, .freeCount, .out] s t := by
  unfold execContextFill at h
  refine when_eff h ?_; clear h; refine Eff.step ctxArrives_eff ?_; exact Eff.refl _ _

theorem execCellarService_eff {c : Packet} {r : CellarTest} {s t : State} (h : execCellarService c r s =
    .next t) : Eff [.l1, .reads, .msg, .fnMsg, .queues, .sched, .halves, .engines, .bursts, .portReg, .cistern,
    .origins, .log, .capFlag, .cellar, .cmd, .fwHeld, .devWake, .tunnel, .gate, .heldEv, .freeCount, .out] s t := by
  unfold execCellarService at h
  refine command_eff (fun _ => ?_) h; clear h; refine Eff.step serveCellar_eff ?_; exact Eff.refl _ _

theorem execEndOfFrameGuard_eff {p : Port} {b : Option PipeId} {s t : State} (h : execEndOfFrameGuard p b
    s = .next t) : Eff [.l1, .reads, .msg, .fnMsg, .queues, .sched, .halves, .units, .engines, .bursts, .portReg,
    .portTime, .cistern, .origins, .log, .capFlag, .fwHeld, .devWake, .tunnel, .gate, .heldEv, .out] s t := by
  unfold execEndOfFrameGuard at h
  split at h; refine when_eff h ?_; clear h; exact Eff.refl _ _; split at h; cases h; refine Eff.step babble_eff ?_
  exact Eff.refl _ _; cases h; exact Eff.refl _ _

theorem execDevportEnable_eff {v : Word} {s t : State} (h : execDevportEnable v s = .next t) : Eff [.l1,
    .reads, .msg, .fnMsg, .queues, .sched, .halves, .engines, .bursts, .portReg, .cistern, .acc, .log, .capFlag,
    .fwHeld, .devReg, .devWake, .tunnel, .gate, .heldEv, .freeCount, .out] s t := by
  unfold execDevportEnable at h
  cases h; refine regWrite_eff (fun _ => ?_) ?_; refine Eff.step writeDevCtl_eff ?_; exact Eff.refl _ _
  exact Eff.refl _ _

theorem execDevportDisable_eff {v : Word} {s t : State} (h : execDevportDisable v s = .next t) : Eff [.l1,
    .reads, .msg, .fnMsg, .queues, .sched, .halves, .engines, .bursts, .portReg, .cistern, .acc, .log, .capFlag,
    .fwHeld, .devReg, .devWake, .tunnel, .gate, .heldEv, .freeCount, .out] s t := by
  unfold execDevportDisable at h
  cases h; refine regWrite_eff (fun _ => ?_) ?_; refine Eff.step writeDevCtl_eff ?_; exact Eff.refl _ _
  exact Eff.refl _ _

theorem execDevportRemoteWake_eff {v : Word} {s t : State} (h : execDevportRemoteWake v s = .next t) : Eff
    [.l1, .reads, .msg, .fnMsg, .queues, .sched, .halves, .engines, .bursts, .portReg, .cistern, .acc, .log,
    .capFlag, .fwHeld, .devReg, .devWake, .tunnel, .gate, .heldEv, .freeCount, .out] s t := by
  unfold execDevportRemoteWake at h
  cases h; refine regWrite_eff (fun _ => ?_) ?_; refine Eff.step writeDevCtl_eff ?_; exact Eff.refl _ _
  exact Eff.refl _ _

theorem execDevVbusPresent_eff {c : DevSpeed} {s t : State} (h : execDevVbusPresent c s = .next t) : Eff
    [.l1, .msg, .fnMsg, .queues, .devReg, .tunnel, .gate, .heldEv, .out] s t := by
  unfold execDevVbusPresent at h
  refine when_eff h ?_; clear h; refine Eff.step devAttach_eff ?_; refine Eff.step ungate_eff ?_; exact Eff.refl _ _

theorem execDevVbusAbsent_eff {stage : Fin 4} {req : Byte} {s t : State} (h : execDevVbusAbsent stage req
    s = .next t) : Eff [.l1, .reads, .msg, .fnMsg, .queues, .sched, .halves, .engines, .bursts, .portReg, .cistern,
    .capFlag, .fwHeld, .devReg, .devWake, .tunnel, .gate, .heldEv, .out] s t := by
  unfold execDevVbusAbsent at h
  refine when_eff h ?_; clear h; refine Eff.step devDetach_eff ?_; refine Eff.step ungate_eff ?_; exact Eff.refl _ _

theorem execDevportBusReset_eff {k : DevReset} {stage : Fin 4} {req : Byte} {s t : State} (h :
    execDevportBusReset k stage req s = .next t) : Eff [.l1, .reads, .msg, .fnMsg, .queues, .sched, .halves,
    .engines, .bursts, .portReg, .cistern, .capFlag, .fwHeld, .devReg, .devWake, .tunnel, .gate, .heldEv, .out] s t := by
  unfold execDevportBusReset at h
  extract_lets at h; refine when_eff h ?_; clear h; refine Eff.step devTo_eff ?_; refine Eff.step busReset_eff ?_
  refine Eff.step ungate_eff ?_; exact Eff.refl _ _

theorem execDevportSuspend_eff {s t : State} (h : execDevportSuspend s = .next t) : Eff [.l1, .msg,
    .fnMsg, .queues, .devReg, .devWake, .tunnel, .gate, .heldEv, .out] s t := by
  unfold execDevportSuspend at h
  refine when_eff h ?_; clear h; refine Eff.step devSuspend_eff ?_; refine Eff.step ungate_eff ?_
  exact Eff.refl _ _

theorem execDevportHostResume_eff {host : Bool} {s t : State} (h : execDevportHostResume host s = .next t)
    : Eff [.l1, .msg, .fnMsg, .queues, .devReg, .devWake, .tunnel, .gate, .heldEv, .out] s t := by
  unfold execDevportHostResume at h
  refine when_eff h ?_; clear h; refine Eff.step devResume_eff ?_; refine Eff.step ungate_eff ?_; exact Eff.refl _ _

theorem execDevportLpmRequest_eff {k : DevLpm} {s t : State} (h : execDevportLpmRequest k s = .next t) :
    Eff [.devReg, .out] s t := by
  unfold execDevportLpmRequest at h
  refine when_eff h ?_; clear h; refine Eff.step lpmRequest_eff ?_; exact Eff.refl _ _

theorem execGetDescriptor_eff {d : Descriptor} {s t : State} (h : execGetDescriptor d s = .next t) : Eff
    [.devReg, .gate, .out] s t := by
  unfold execGetDescriptor at h
  refine control_eff (fun _ => ?_) h; clear h; refine Eff.step emit_eff ?_; exact Eff.refl _ _

theorem execSetAddress_eff {a : BitVec 7} {s t : State} (h : execSetAddress a s = .next t) : Eff [.devReg,
    .gate, .out] s t := by
  unfold execSetAddress at h
  refine control_eff (fun _ => ?_) h; clear h; refine Eff.step setDevAddress_eff ?_; exact Eff.refl _ _

theorem execSetConfiguration_eff {v : Nat} {s t : State} (h : execSetConfiguration v s = .next t) : Eff
    [.l1, .reads, .msg, .fnMsg, .queues, .sched, .halves, .engines, .bursts, .portReg, .cistern, .capFlag, .devReg,
    .devWake, .tunnel, .gate, .heldEv, .out] s t := by
  unfold execSetConfiguration at h
  refine control_eff (fun _ => ?_) h; clear h; refine Eff.step setConfig_eff ?_; exact Eff.refl _ _

theorem execSetInterface_eff {i alt : Nat} {s t : State} (h : execSetInterface i alt s = .next t) : Eff
    [.l1, .reads, .msg, .fnMsg, .queues, .sched, .halves, .engines, .bursts, .portReg, .cistern, .capFlag, .devReg,
    .devWake, .tunnel, .gate, .heldEv, .out] s t := by
  unfold execSetInterface at h
  refine control_eff (fun _ => ?_) h; clear h; refine Eff.step setInterface_eff ?_; exact Eff.refl _ _

theorem execSetFeature_eff {f : DevFeature} {s t : State} (h : execSetFeature f s = .next t) : Eff
    [.devReg, .gate, .out] s t := by
  unfold execSetFeature at h
  refine control_eff (fun _ => ?_) h; clear h; refine Eff.step setFeature_eff ?_; exact Eff.refl _ _

theorem execGetInfo_eff {wValue wIndex : BitVec 16} {s t : State} (h : execGetInfo wValue wIndex s = .next
    t) : Eff [.devReg, .gate, .out] s t := by
  unfold execGetInfo at h
  refine vendor_eff (fun _ => ?_) h; clear h; refine Eff.step emit_eff ?_; exact Eff.refl _ _

theorem execGetExports_eff {wValue wIndex : BitVec 16} {s t : State} (h : execGetExports wValue wIndex s =
    .next t) : Eff [.devReg, .gate, .out] s t := by
  unfold execGetExports at h
  refine vendor_eff (fun _ => ?_) h; clear h; refine Eff.step emit_eff ?_; exact Eff.refl _ _

theorem execGetLog_eff {wValue wIndex : BitVec 16} {s t : State} (h : execGetLog wValue wIndex s = .next
    t) : Eff [.devReg, .gate, .out] s t := by
  unfold execGetLog at h
  refine vendor_eff (fun _ => ?_) h; clear h; refine Eff.step emit_eff ?_; exact Eff.refl _ _

theorem execNotice_eff {wValue wIndex : BitVec 16} {bs : List Byte} {s t : State} (h : execNotice wValue
    wIndex bs s = .next t) : Eff [.l1, .msg, .fnMsg, .queues, .log, .fwHeld, .devReg, .tunnel, .gate, .heldEv,
    .freeCount, .out] s t := by
  unfold execNotice at h
  refine vendor_eff (fun _ => ?_) h; clear h; refine Eff.step ackControl_eff ?_; refine Eff.step raiseNotice_eff ?_
  exact Eff.refl _ _

theorem execUnknownVendorRequest_eff {t r : Byte} {s u : State} (h : execUnknownVendorRequest t r s =
    .next u) : Eff [.devReg, .gate, .out] s u := by
  unfold execUnknownVendorRequest at h
  split at h; refine control_eff (fun _ => ?_) h; clear h; refine Eff.step stallControl_eff ?_; exact Eff.refl _ _
  cases h; exact Eff.refl _ _

theorem execTunnelRequest_eff {pair : Fin 16} {stream : BitVec 16} {bs : List Byte} {s t : State} (h :
    execTunnelRequest pair stream bs s = .next t) : Eff [.l1, .reads, .msg, .fnMsg, .queues, .sched, .halves,
    .engines, .bursts, .portReg, .cistern, .capFlag, .devReg, .devWake, .tunnel, .gate, .heldEv, .freeCount, .out] s
    t := by
  unfold execTunnelRequest at h
  refine when_eff h ?_; clear h; refine Eff.step tunnelOut_eff ?_; refine Eff.step devAwake_eff ?_
  refine Eff.step ungate_eff ?_; exact Eff.refl _ _

theorem execTunnelCancel_eff {pair : Fin 16} {stream : BitVec 16} {tag : Byte} {s t : State} (h :
    execTunnelCancel pair stream tag s = .next t) : Eff [.l1, .reads, .msg, .fnMsg, .queues, .sched, .halves,
    .engines, .bursts, .portReg, .cistern, .capFlag, .devReg, .devWake, .tunnel, .gate, .heldEv, .out] s t := by
  unfold execTunnelCancel at h
  refine when_eff h ?_; clear h; refine Eff.step cancelRequest_eff ?_; refine Eff.step devAwake_eff ?_
  refine Eff.step ungate_eff ?_; exact Eff.refl _ _

theorem execTunnelInSelection_eff {pair : Fin 16} {stream : BitVec 16} {s t : State} (h :
    execTunnelInSelection pair stream s = .next t) : Eff [.l1, .reads, .msg, .fnMsg, .queues, .sched, .halves,
    .engines, .portReg, .cistern, .capFlag, .devReg, .devWake, .tunnel, .gate, .heldEv, .out] s t := by
  unfold execTunnelInSelection at h
  refine when_eff h ?_; clear h; refine Eff.step tunnelIn_eff ?_; refine Eff.step devAwake_eff ?_
  refine Eff.step ungate_eff ?_; exact Eff.refl _ _

theorem execDiagLoopback_eff {c : Packet} {reached : Bool} {s t : State} (h : execDiagLoopback c reached s
    = .next t) : Eff [.l1, .reads, .msg, .fnMsg, .queues, .sched, .halves, .units, .engines, .bursts, .portReg,
    .portTime, .cistern, .origins, .log, .capFlag, .cmd, .fwHeld, .devReg, .devWake, .tunnel, .gate, .heldEv, .out]
    s t := by
  unfold execDiagLoopback at h
  refine command_eff (fun _ => ?_) h; clear h; refine Eff.step startLoop_eff ?_; exact Eff.refl _ _

theorem execLoopbackDurationEnd_eff {errors : Nat} {s t : State} (h : execLoopbackDurationEnd errors s =
    .next t) : Eff [.l1, .reads, .msg, .fnMsg, .queues, .sched, .halves, .units, .engines, .bursts, .portReg,
    .portTime, .cistern, .capFlag, .fwHeld, .devReg, .devWake, .tunnel, .gate, .heldEv, .out] s t := by
  unfold execLoopbackDurationEnd at h
  split at h; cases h; refine Eff.step endLoop_eff ?_; refine Eff.step ungate_eff ?_; exact Eff.refl _ _; cases h
  exact Eff.refl _ _

theorem execPfFunctionLevelReset_eff {s t : State} (h : execPfFunctionLevelReset s = .next t) : Eff
    [.link, .l1, .reads, .msg, .fnCfg, .fnMsg, .queues, .fences, .sched, .halves, .units, .engines, .bursts,
    .portReg, .lock, .portTime, .cistern, .origins, .log, .sets, .instState, .capFlag, .cmd, .fwSlots, .fwHeld,
    .boot, .devReg, .devWake, .tunnel, .chans, .gate, .heldEv, .freeCount, .out] s t := by
  unfold execPfFunctionLevelReset at h
  refine when_eff h ?_; clear h; refine Eff.step pfReset_eff ?_; refine Eff.step wakeLink_eff ?_; exact Eff.refl _ _

theorem execPowerOn_eff {o : BootOutcome} {s t : State} (h : execPowerOn o s = .next t) : Eff [.link, .l1,
    .herr, .reads, .late, .msg, .fnCfg, .fnErr, .fnMsg, .queues, .dbdrop, .fences, .sched, .halves, .units,
    .engines, .bursts, .portReg, .clock, .lock, .portTime, .cistern, .origins, .sumpFlags, .acc, .memErr, .log,
    .sets, .instState, .mailbox, .resetRec, .scratch, .capFlag, .cellar, .cmd, .fwSlots, .fwHeld, .boot, .devReg,
    .devWake, .tunnel, .chans, .pmReg, .gate, .heldEv, .cool, .store, .mgmt, .freeCount, .out] s t := by
  unfold execPowerOn at h
  refine when_eff h ?_; clear h; refine Eff.step powerOn_eff ?_; exact Eff.refl _ _

theorem execPowerFail_eff {s t : State} (h : execPowerFail s = .next t) : Eff [.link, .l1, .herr, .reads,
    .late, .msg, .fnCfg, .fnErr, .fnMsg, .queues, .dbdrop, .fences, .sched, .halves, .units, .engines, .bursts,
    .portReg, .clock, .lock, .portTime, .cistern, .origins, .sumpFlags, .acc, .memErr, .log, .sets, .instState,
    .mailbox, .resetRec, .scratch, .capFlag, .cellar, .cmd, .fwSlots, .fwHeld, .boot, .devReg, .devWake, .tunnel,
    .chans, .pmReg, .gate, .heldEv, .cool, .store, .mgmt, .out] s t := by
  unfold execPowerFail at h
  refine when_eff h ?_; clear h; refine Eff.step powerFail_eff ?_; exact Eff.refl _ _

theorem execDieOvertempTrip_eff {s t : State} (h : execDieOvertempTrip s = .next t) : Eff [.link, .l1,
    .herr, .reads, .late, .msg, .fnCfg, .fnErr, .fnMsg, .queues, .dbdrop, .fences, .sched, .halves, .units,
    .engines, .bursts, .portReg, .clock, .lock, .portTime, .cistern, .origins, .sumpFlags, .acc, .memErr, .log,
    .sets, .instState, .mailbox, .resetRec, .scratch, .capFlag, .cellar, .cmd, .fwSlots, .fwHeld, .boot, .devReg,
    .devWake, .tunnel, .chans, .pmReg, .gate, .heldEv, .cool, .store, .mgmt, .out] s t := by
  unfold execDieOvertempTrip at h
  refine when_eff h ?_; clear h; extract_lets +onlyGivenNames x1; extract_lets +onlyGivenNames x2
  extract_lets +onlyGivenNames x3; extract_lets +onlyGivenNames x4; extract_lets +onlyGivenNames x5
  extract_lets +onlyGivenNames x6; extract_lets +onlyGivenNames x7
  extract_lets +onlyGivenNames x8; refine Eff.via x8 ?_ (fun h8 => ?_); unfold x8; rotate_left; clear_value x8; rotate_left
  refine Eff.step powerFail_eff ?_; exact Eff.refl _ _; refine Eff.upd ?_; assumption

theorem execPowerFailRestart_eff {o : BootOutcome} {die : Int} {s t : State} (h : execPowerFailRestart o
    die s = .next t) : Eff [.link, .l1, .reads, .msg, .fnCfg, .fnMsg, .queues, .fences, .sched, .halves, .units,
    .engines, .bursts, .portReg, .clock, .lock, .portTime, .cistern, .origins, .memErr, .log, .sets, .instState,
    .capFlag, .cellar, .cmd, .fwSlots, .fwHeld, .boot, .devReg, .devWake, .tunnel, .chans, .pmReg, .gate, .heldEv,
    .store, .mgmt, .freeCount, .out] s t := by
  unfold execPowerFailRestart at h
  refine when_eff h ?_; clear h; refine Eff.step bringUp_eff ?_; refine Eff.upd ?_; exact Eff.refl _ _

theorem execVaonLoss_eff {s t : State} (h : execVaonLoss s = .next t) : Eff [.link, .l1, .herr, .reads,
    .late, .msg, .fnCfg, .fnErr, .fnMsg, .queues, .dbdrop, .fences, .sched, .halves, .units, .engines, .bursts,
    .portReg, .clock, .lock, .portTime, .cistern, .origins, .sumpFlags, .acc, .memErr, .log, .sets, .instState,
    .mailbox, .resetRec, .scratch, .capFlag, .cellar, .cmd, .fwSlots, .fwHeld, .boot, .devReg, .devWake, .tunnel,
    .chans, .pmReg, .gate, .heldEv, .cool, .store, .mgmt, .out] s t := by
  unfold execVaonLoss at h
  exact next_inj h ▸ vaonLoss_eff

theorem execXtal32kReady_eff {s t : State} (h : execXtal32kReady s = .next t) : Eff [.boot] s t := by
  unfold execXtal32kReady at h
  refine when_eff h ?_; clear h; refine Eff.upd ?_; exact Eff.refl _ _

theorem execXtal32kTimeout_eff {s t : State} (h : execXtal32kTimeout s = .next t) : Eff [.boot] s t := by
  unfold execXtal32kTimeout at h
  refine when_eff h ?_; clear h; refine Eff.upd ?_; exact Eff.refl _ _

theorem execSlotBackgroundCheck_eff {c : Image} {s t : State} (h : execSlotBackgroundCheck c s = .next t)
    : Eff [.fwSlots, .boot] s t := by
  unfold execSlotBackgroundCheck at h
  refine when_eff h ?_; clear h; refine Eff.step otherSlot_eff ?_; exact Eff.refl _ _

theorem execFwStage_eff {c : Packet} {s t : State} (h : execFwStage c s = .next t) : Eff [.l1, .reads,
    .msg, .fnMsg, .queues, .cmd, .fwSlots, .boot, .devWake, .tunnel, .gate, .heldEv, .freeCount, .out] s t := by
  unfold execFwStage at h
  refine command_eff (fun _ => ?_) h; clear h; refine Eff.step stageChunk_eff ?_; exact Eff.refl _ _

theorem execStageChunkReadReturn_eff {first : Nat} {a : ReadAnswer} {s t : State} (h :
    execStageChunkReadReturn first a s = .next t) : Eff [.l1, .herr, .reads, .msg, .fnErr, .fnMsg, .queues, .log,
    .fwSlots, .fwHeld, .devWake, .tunnel, .gate, .heldEv, .freeCount, .out] s t := by
  unfold execStageChunkReadReturn at h
  split at h; cases h; refine Eff.step stageReturn_eff ?_; exact Eff.refl _ _; cases h; exact Eff.refl _ _

theorem execFlashChunkProgrammed_eff {r : FlashResult} {s t : State} (h : execFlashChunkProgrammed r s =
    .next t) : Eff [.l1, .msg, .fnMsg, .queues, .fwSlots, .devWake, .tunnel, .gate, .heldEv, .freeCount, .out] s t := by
  unfold execFlashChunkProgrammed at h
  split at h; refine when_eff h ?_; clear h; refine Eff.step programmed_eff ?_; exact Eff.refl _ _; cases h
  exact Eff.refl _ _

theorem execFwActivate_eff {c : Packet} {recheck : Bool} {s t : State} (h : execFwActivate c recheck s =
    .next t) : Eff [.l1, .msg, .fnMsg, .queues, .cmd, .fwSlots, .devWake, .tunnel, .gate, .heldEv, .out] s t := by
  unfold execFwActivate at h
  refine command_eff (fun _ => ?_) h; clear h; refine Eff.step activate'_eff ?_; exact Eff.refl _ _

theorem execFwReadyReport_eff {us : Word} {s t : State} (h : execFwReadyReport us s = .next t) : Eff
    [.link, .l1, .reads, .msg, .fnCfg, .fnMsg, .queues, .fences, .sched, .halves, .units, .engines, .bursts,
    .portReg, .lock, .portTime, .cistern, .origins, .log, .sets, .instState, .capFlag, .cmd, .fwSlots, .fwHeld,
    .boot, .devReg, .devWake, .tunnel, .chans, .gate, .heldEv, .freeCount, .out] s t := by
  unfold execFwReadyReport at h
  split at h; cases h; refine Eff.step activated_eff ?_; exact Eff.refl _ _; cases h; exact Eff.refl _ _

theorem execFwReadyTimeout_eff {us : Word} {s t : State} (h : execFwReadyTimeout us s = .next t) : Eff
    [.link, .l1, .reads, .msg, .fnCfg, .fnMsg, .queues, .fences, .sched, .halves, .units, .engines, .bursts,
    .portReg, .lock, .portTime, .cistern, .origins, .log, .sets, .instState, .capFlag, .cmd, .fwSlots, .fwHeld,
    .boot, .devReg, .devWake, .tunnel, .chans, .gate, .heldEv, .freeCount, .out] s t := by
  unfold execFwReadyTimeout at h
  split at h; cases h; refine Eff.step fellBack_eff ?_; exact Eff.refl _ _; cases h; exact Eff.refl _ _

theorem execBootRecordWritten_eff {s t : State} (h : execBootRecordWritten s = .next t) : Eff [.l1, .msg,
    .fnMsg, .queues, .fwSlots, .tunnel, .gate, .heldEv, .out] s t := by
  unfold execBootRecordWritten at h
  split at h; cases h; refine Eff.step recordWritten_eff ?_; exact Eff.refl _ _; cases h; exact Eff.refl _ _

theorem execFwQuery_eff {c : Packet} {s t : State} (h : execFwQuery c s = .next t) : Eff [.l1, .msg,
    .fnMsg, .queues, .cmd, .devWake, .tunnel, .gate, .heldEv, .out] s t := by
  unfold execFwQuery at h
  refine command_eff (fun _ => ?_) h; clear h; refine Eff.step queryFw_eff ?_; exact Eff.refl _ _

theorem execPmEnter_eff {c : Packet} {s t : State} (h : execPmEnter c s = .next t) : Eff [.l1, .msg,
    .fnMsg, .queues, .cmd, .devWake, .tunnel, .pmReg, .gate, .heldEv, .out] s t := by
  unfold execPmEnter at h
  have k := command_eff (ps := [.l1, .msg, .fnMsg, .queues, .cmd, .devWake, .tunnel, .pmReg, .gate, .heldEv, .out]) (fun _ => enterPm_eff.weaken) h
  exact k.step chargeDenied_eff.weaken (fun _ m => m)

theorem execFabClockGate_eff {s t : State} (h : execFabClockGate s = .next t) : Eff [.pmReg, .gate] s t := by
  unfold execFabClockGate at h
  refine when_eff h ?_; clear h; refine Eff.upd ?_; exact Eff.refl _ _

theorem execPmRefusersCleared_eff {s t : State} (h : execPmRefusersCleared s = .next t) : Eff [.link, .l1,
    .herr, .reads, .late, .msg, .fnCfg, .fnErr, .fnMsg, .queues, .dbdrop, .fences, .sched, .halves, .units,
    .engines, .bursts, .portReg, .clock, .lock, .portTime, .cistern, .origins, .sumpFlags, .acc, .memErr, .log,
    .sets, .instState, .mailbox, .resetRec, .scratch, .capFlag, .cellar, .cmd, .fwSlots, .fwHeld, .boot, .devReg,
    .devWake, .tunnel, .chans, .pmReg, .gate, .heldEv, .cool, .store, .mgmt, .out] s t := by
  unfold execPmRefusersCleared at h
  split at h; cases h; refine Eff.step refusersCleared_eff ?_; exact Eff.refl _ _; cases h; exact Eff.refl _ _

theorem execPmGraceExpiry_eff {ms : Word} {s t : State} (h : execPmGraceExpiry ms s = .next t) : Eff
    [.link, .l1, .herr, .reads, .late, .msg, .fnCfg, .fnErr, .fnMsg, .queues, .dbdrop, .fences, .sched, .halves,
    .units, .engines, .bursts, .portReg, .clock, .lock, .portTime, .cistern, .origins, .sumpFlags, .acc, .memErr,
    .log, .sets, .instState, .mailbox, .resetRec, .scratch, .capFlag, .cellar, .cmd, .fwSlots, .fwHeld, .boot,
    .devReg, .devWake, .tunnel, .chans, .pmReg, .gate, .heldEv, .cool, .store, .mgmt, .out] s t := by
  unfold execPmGraceExpiry at h
  split at h; cases h; refine Eff.step graceEnd_eff ?_; exact Eff.refl _ _; cases h; exact Eff.refl _ _

theorem execWakePinAssert_eff {o : BootOutcome} {w : WakeOutcome} {s t : State} (h : execWakePinAssert o w
    s = .next t) : Eff [.link, .l1, .reads, .msg, .fnCfg, .fnMsg, .queues, .fences, .sched, .halves, .units,
    .engines, .bursts, .portReg, .clock, .lock, .portTime, .cistern, .origins, .memErr, .log, .sets, .instState,
    .capFlag, .cellar, .cmd, .fwSlots, .fwHeld, .boot, .devReg, .devWake, .tunnel, .chans, .pmReg, .gate, .heldEv,
    .store, .mgmt, .freeCount, .out] s t := by
  unfold execWakePinAssert at h
  cases h; refine Eff.ite ?_ ?_; refine Eff.step wakeOff_eff ?_; exact Eff.refl _ _; refine Eff.step fire_eff ?_
  exact Eff.refl _ _

theorem execWakeTimerExpiry_eff {w : WakeOutcome} {s t : State} (h : execWakeTimerExpiry w s = .next t) :
    Eff [.link, .l1, .reads, .msg, .fnCfg, .fnMsg, .queues, .fences, .sched, .halves, .units, .engines, .bursts,
    .portReg, .clock, .lock, .portTime, .cistern, .origins, .log, .sets, .instState, .capFlag, .cellar, .cmd,
    .fwSlots, .fwHeld, .boot, .devReg, .devWake, .tunnel, .chans, .pmReg, .gate, .heldEv, .store, .freeCount, .out]
    s t := by
  unfold execWakeTimerExpiry at h
  refine when_eff h ?_; clear h; refine Eff.step fire_eff ?_; exact Eff.refl _ _

theorem execWakeSourceFired_eff {bit : Fin 9} {w : WakeOutcome} {s t : State} (h : execWakeSourceFired bit
    w s = .next t) : Eff [.link, .l1, .reads, .msg, .fnCfg, .fnMsg, .queues, .fences, .sched, .halves, .units,
    .engines, .bursts, .portReg, .clock, .lock, .portTime, .cistern, .origins, .log, .sets, .instState, .capFlag,
    .cellar, .cmd, .fwSlots, .fwHeld, .boot, .devReg, .devWake, .tunnel, .chans, .pmReg, .gate, .heldEv, .store,
    .freeCount, .out] s t := by
  unfold execWakeSourceFired at h
  refine when_eff h ?_; clear h; refine Eff.step fire_eff ?_; exact Eff.refl _ _

theorem execWakeStepTimeout_eff {bit : Fin 9} {step : Fin 8} {s t : State} (h : execWakeStepTimeout bit
    step s = .next t) : Eff [.pmReg, .out] s t := by
  unfold execWakeStepTimeout at h
  refine when_eff h ?_; clear h; refine Eff.step wakeFail_eff ?_; exact Eff.refl _ _

theorem execIdent_eff {pec : Bool} {s t : State} (h : execIdent pec s = .next t) : Eff [.link, .l1,
    .reads, .msg, .fnCfg, .fnMsg, .queues, .fences, .sched, .halves, .units, .engines, .bursts, .portReg, .clock,
    .lock, .portTime, .cistern, .origins, .acc, .log, .sets, .instState, .capFlag, .cellar, .cmd, .fwSlots, .fwHeld,
    .boot, .devReg, .devWake, .tunnel, .chans, .pmReg, .gate, .heldEv, .store, .freeCount, .out] s t := by
  unfold execIdent at h
  cases h; refine addressed_eff (fun _ => ?_) ?_; refine Eff.step smbBlock_eff ?_; exact Eff.refl _ _
  exact Eff.refl _ _

theorem execStatus_eff {pec : Bool} {s t : State} (h : execStatus pec s = .next t) : Eff [.link, .l1,
    .reads, .msg, .fnCfg, .fnMsg, .queues, .fences, .sched, .halves, .units, .engines, .bursts, .portReg, .clock,
    .lock, .portTime, .cistern, .origins, .acc, .log, .sets, .instState, .capFlag, .cellar, .cmd, .fwSlots, .fwHeld,
    .boot, .devReg, .devWake, .tunnel, .chans, .pmReg, .gate, .heldEv, .store, .freeCount, .out] s t := by
  unfold execStatus at h
  cases h; refine addressed_eff (fun _ => ?_) ?_; refine Eff.step smbBlock_eff ?_; exact Eff.refl _ _
  exact Eff.refl _ _

theorem execCapacity_eff {pec : Bool} {s t : State} (h : execCapacity pec s = .next t) : Eff [.link, .l1,
    .reads, .msg, .fnCfg, .fnMsg, .queues, .fences, .sched, .halves, .units, .engines, .bursts, .portReg, .clock,
    .lock, .portTime, .cistern, .origins, .acc, .log, .sets, .instState, .capFlag, .cellar, .cmd, .fwSlots, .fwHeld,
    .boot, .devReg, .devWake, .tunnel, .chans, .pmReg, .gate, .heldEv, .store, .freeCount, .out] s t := by
  unfold execCapacity at h
  cases h; refine addressed_eff (fun _ => ?_) ?_; refine Eff.step smbBlock_eff ?_; exact Eff.refl _ _
  exact Eff.refl _ _

theorem execChannels_eff {pec : Bool} {s t : State} (h : execChannels pec s = .next t) : Eff [.link, .l1,
    .reads, .msg, .fnCfg, .fnMsg, .queues, .fences, .sched, .halves, .units, .engines, .bursts, .portReg, .clock,
    .lock, .portTime, .cistern, .origins, .acc, .log, .sets, .instState, .capFlag, .cellar, .cmd, .fwSlots, .fwHeld,
    .boot, .devReg, .devWake, .tunnel, .chans, .pmReg, .gate, .heldEv, .store, .freeCount, .out] s t := by
  unfold execChannels at h
  cases h; refine addressed_eff (fun _ => ?_) ?_; refine Eff.step smbBlock_eff ?_; exact Eff.refl _ _
  exact Eff.refl _ _

theorem execFaults_eff {pec : Bool} {s t : State} (h : execFaults pec s = .next t) : Eff [.link, .l1,
    .reads, .msg, .fnCfg, .fnMsg, .queues, .fences, .sched, .halves, .units, .engines, .bursts, .portReg, .clock,
    .lock, .portTime, .cistern, .origins, .acc, .log, .sets, .instState, .capFlag, .cellar, .cmd, .fwSlots, .fwHeld,
    .boot, .devReg, .devWake, .tunnel, .chans, .pmReg, .gate, .heldEv, .store, .freeCount, .out] s t := by
  unfold execFaults at h
  cases h; refine addressed_eff (fun _ => ?_) ?_; refine Eff.step smbBlock_eff ?_; exact Eff.refl _ _
  exact Eff.refl _ _

theorem execThermal_eff {now : BitVec 16} {pec : Bool} {s t : State} (h : execThermal now pec s = .next t)
    : Eff [.link, .l1, .reads, .msg, .fnCfg, .fnMsg, .queues, .fences, .sched, .halves, .units, .engines, .bursts,
    .portReg, .clock, .lock, .portTime, .cistern, .origins, .log, .sets, .instState, .capFlag, .cellar, .cmd,
    .fwSlots, .fwHeld, .boot, .devReg, .devWake, .tunnel, .chans, .pmReg, .gate, .heldEv, .store, .mgmt, .freeCount,
    .out] s t := by
  unfold execThermal at h
  cases h; refine addressed_eff (fun _ => ?_) ?_; refine Eff.step smbThermal_eff ?_; exact Eff.refl _ _
  exact Eff.refl _ _

theorem execSmbusUnsupported_eff {code : Byte} {read pec : Bool} {s t : State} (h : execSmbusUnsupported
    code read pec s = .next t) : Eff [.link, .l1, .reads, .msg, .fnCfg, .fnMsg, .queues, .fences, .sched, .halves,
    .units, .engines, .bursts, .portReg, .clock, .lock, .portTime, .cistern, .origins, .log, .sets, .instState,
    .capFlag, .cellar, .cmd, .fwSlots, .fwHeld, .boot, .devReg, .devWake, .tunnel, .chans, .pmReg, .gate, .heldEv,
    .store, .freeCount, .out] s t := by
  unfold execSmbusUnsupported at h
  cases h; refine addressed_eff (fun _ => ?_) ?_; refine Eff.step emit_eff ?_; exact Eff.refl _ _
  exact Eff.refl _ _

theorem execSmbusClockTimeout_eff {s t : State} (h : execSmbusClockTimeout s = .next t) : Eff [.out] s t := by
  unfold execSmbusClockTimeout at h
  refine when_eff h ?_; clear h; refine Eff.step emit_eff ?_; exact Eff.refl _ _

theorem execUartRxCharacter_eff {_c : Byte} {s t : State} (h : execUartRxCharacter _c s = .next t) : Eff
    [.link, .l1, .reads, .msg, .fnCfg, .fnMsg, .queues, .fences, .sched, .halves, .units, .engines, .bursts,
    .portReg, .clock, .lock, .portTime, .cistern, .origins, .log, .sets, .instState, .capFlag, .cellar, .cmd,
    .fwSlots, .fwHeld, .boot, .devReg, .devWake, .tunnel, .chans, .pmReg, .gate, .heldEv, .store, .freeCount, .out]
    s t := by
  unfold execUartRxCharacter at h
  cases h; refine Eff.step wakeBy_eff ?_; exact Eff.refl _ _

theorem execBypass_eff {_code : Byte} {s t : State} (h : execBypass _code s = .next t) : Eff [.mgmt, .out]
    s t := by
  unfold execBypass at h
  refine when_eff h ?_; clear h; refine Eff.step emit_eff ?_; refine Eff.step jtagSelect_eff ?_; exact Eff.refl _ _

theorem execIdcode_eff {s t : State} (h : execIdcode s = .next t) : Eff [.mgmt, .out] s t := by
  unfold execIdcode at h
  refine when_eff h ?_; clear h; refine Eff.step emit_eff ?_; refine Eff.step jtagSelect_eff ?_; exact Eff.refl _ _

theorem execSamplePreload_eff {chain : List Bool} {s t : State} (h : execSamplePreload chain s = .next t)
    : Eff [.mgmt, .freeCount, .out] s t := by
  unfold execSamplePreload at h
  refine when_eff h ?_; clear h; refine Eff.step jtagSample_eff ?_; exact Eff.refl _ _

theorem execExtest_eff {s t : State} (h : execExtest s = .next t) : Eff [.mgmt, .out] s t := by
  unfold execExtest at h
  refine when_eff h ?_; clear h; refine Eff.step jtagTest_eff ?_; exact Eff.refl _ _

theorem execClamp_eff {s t : State} (h : execClamp s = .next t) : Eff [.mgmt, .out] s t := by
  unfold execClamp at h
  refine when_eff h ?_; clear h; refine Eff.step jtagTest_eff ?_; exact Eff.refl _ _

theorem execHighz_eff {s t : State} (h : execHighz s = .next t) : Eff [.mgmt, .out] s t := by
  unfold execHighz at h
  refine when_eff h ?_; clear h; refine Eff.step jtagTest_eff ?_; exact Eff.refl _ _

theorem execOffBlockAccess_eff {w : Window} {a n : Nat} {write : Bool} {src : AccSource} {s t : State} (h
    : execOffBlockAccess w a n write src s = .next t) : Eff [.l1, .msg, .fnMsg, .queues, .clock, .acc, .log,
    .fwHeld, .tunnel, .gate, .heldEv, .out] s t := by
  unfold execOffBlockAccess at h
  refine when_eff h ?_; clear h; refine Eff.step offBlockAccess_eff ?_; exact Eff.refl _ _

theorem execRegisterWrite_eff {w : Window} {a : Nat} {v : Word} {s t : State} (h : execRegisterWrite w a v
    s = .next t) : Eff [.link, .l1, .herr, .reads, .msg, .fnMsg, .queues, .dbdrop, .sched, .halves, .units,
    .engines, .bursts, .portReg, .lock, .portTime, .cistern, .origins, .sumpFlags, .acc, .memErr, .log, .mailbox,
    .resetRec, .scratch, .capFlag, .fwHeld, .devReg, .devWake, .tunnel, .chans, .pmReg, .gate, .heldEv, .store,
    .freeCount, .out] s t := by
  unfold execRegisterWrite at h
  refine when_eff h ?_; clear h; refine Eff.step writeWindow_eff ?_; exact Eff.refl _ _

theorem execUnsupportedRequestRx_eff {i : Fn} {k : UrKind} {s t : State} (h : execUnsupportedRequestRx i k
    s = .next t) : Eff [.l1, .out] s t := by
  unfold execUnsupportedRequestRx at h
  refine when_eff h ?_; clear h; refine Eff.step answerTlp_eff ?_; exact Eff.refl _ _

theorem execPoisonedWriteRx_eff {i : Fn} {s t : State} (h : execPoisonedWriteRx i s = .next t) : Eff [.l1,
    .fnErr, .gate, .freeCount, .out] s t := by
  unfold execPoisonedWriteRx at h
  refine when_eff h ?_; clear h; refine Eff.step poisoned_eff ?_; exact Eff.refl _ _

theorem execDoorbellWrite_eff {d : Doorbell} {s t : State} (h : execDoorbellWrite d s = .next t) : Eff
    [.l1, .reads, .queues, .dbdrop, .tunnel, .gate, .out] s t := by
  unfold execDoorbellWrite at h
  refine when_eff h ?_; clear h; refine Eff.step doorbell_eff ?_; exact Eff.refl _ _

theorem execCompletionTimeout_eff {r : ReadRef} {s t : State} (h : execCompletionTimeout r s = .next t) :
    Eff [.l1, .herr, .reads, .late, .msg, .fnErr, .fnMsg, .queues, .sched, .halves, .engines, .portReg, .cistern,
    .log, .capFlag, .fwSlots, .fwHeld, .devWake, .tunnel, .gate, .heldEv, .freeCount, .out] s t := by
  unfold execCompletionTimeout at h
  split at h; refine when_eff h ?_; clear h; refine Eff.step markLate_eff ?_; refine Eff.step timeOut_eff ?_
  exact Eff.refl _ _; cases h; exact Eff.refl _ _

theorem execLateCompletionRx_eff {i : Fn} {s t : State} (h : execLateCompletionRx i s = .next t) : Eff
    [.l1, .late, .fnErr, .gate, .freeCount, .out] s t := by
  unfold execLateCompletionRx at h
  refine when_eff h ?_; clear h; refine Eff.step lateCompletion_eff ?_; exact Eff.refl _ _

theorem execModerationTimerExpiry_eff {i v : Fn} {s t : State} (h : execModerationTimerExpiry i v s =
    .next t) : Eff [.l1, .msg, .fnMsg, .gate, .out] s t := by
  unfold execModerationTimerExpiry at h
  refine when_eff h ?_; clear h; refine Eff.step due_eff ?_; exact Eff.refl _ _

theorem execPendingMsixRelease_eff {i v : Fn} {s t : State} (h : execPendingMsixRelease i v s = .next t) :
    Eff [.l1, .fnMsg, .gate, .out] s t := by
  unfold execPendingMsixRelease at h
  refine when_eff h ?_; clear h; refine Eff.step trySend_eff ?_; exact Eff.refl _ _

theorem execPmeResendTimer_eff {i : Fn} {s t : State} (h : execPmeResendTimer i s = .next t) : Eff [.l1,
    .gate, .out] s t := by
  unfold execPmeResendTimer at h
  refine when_eff h ?_; clear h; refine Eff.step tlp_eff ?_; exact Eff.refl _ _

theorem execL1IdleTimeout_eff {s t : State} (h : execL1IdleTimeout s = .next t) : Eff [.link, .l1, .out] s
    t := by
  unfold execL1IdleTimeout at h
  refine when_eff h ?_; clear h; refine Eff.step enterLinkL1_eff ?_; exact Eff.refl _ _

theorem execLinkTrained_eff {speed : Fin 6} {width : Fin 9} {rev : Bool} {s t : State} (h :
    execLinkTrained speed width rev s = .next t) : Eff [.link, .l1, .msg, .fnMsg, .queues, .tunnel, .gate, .heldEv,
    .freeCount, .out] s t := by
  unfold execLinkTrained at h
  refine when_eff h ?_; clear h; refine Eff.step linkTrained_eff ?_; exact Eff.refl _ _

theorem execLinkRecovery_eff {s t : State} (h : execLinkRecovery s = .next t) : Eff [] s t := by
  unfold execLinkRecovery at h
  refine when_eff h ?_; clear h; exact Eff.refl _ _

theorem execLinkReset_eff {k : LinkResetKind} {s t : State} (h : execLinkReset k s = .next t) : Eff
    [.link, .l1, .reads, .msg, .fnCfg, .fnMsg, .queues, .sched, .halves, .engines, .bursts, .portReg, .cistern,
    .instState, .capFlag, .fwSlots, .boot, .devWake, .tunnel, .gate, .heldEv, .out] s t := by
  unfold execLinkReset at h
  refine when_eff h ?_; clear h; refine Eff.step linkReset_eff ?_; exact Eff.refl _ _

theorem execPerstDeassert_eff {s t : State} (h : execPerstDeassert s = .next t) : Eff [.l1, .reads, .msg,
    .fnCfg, .fnMsg, .queues, .sched, .halves, .engines, .bursts, .portReg, .cistern, .instState, .capFlag, .boot,
    .devWake, .tunnel, .pmReg, .gate, .heldEv, .out] s t := by
  unfold execPerstDeassert at h
  refine when_eff h ?_; clear h; refine Eff.step perstDeassert_eff ?_; exact Eff.refl _ _

theorem execPowerStateWrite_eff {i : Fn} {d3hot : Bool} {s t : State} (h : execPowerStateWrite i d3hot s =
    .next t) : Eff [.link, .l1, .reads, .msg, .fnCfg, .fnMsg, .queues, .sched, .halves, .engines, .bursts, .portReg,
    .cistern, .instState, .capFlag, .devWake, .tunnel, .gate, .heldEv, .out] s t := by
  unfold execPowerStateWrite at h
  refine when_eff h ?_; clear h; refine Eff.step powerState_eff ?_; exact Eff.refl _ _

theorem execBusMasterEnableWrite_eff {i : Fn} {on : Bool} {s t : State} (h : execBusMasterEnableWrite i on
    s = .next t) : Eff [.l1, .reads, .msg, .fnCfg, .fnMsg, .queues, .sched, .halves, .engines, .bursts, .portReg,
    .cistern, .instState, .capFlag, .devWake, .tunnel, .gate, .heldEv, .out] s t := by
  unfold execBusMasterEnableWrite at h
  refine when_eff h ?_; clear h; refine changeFn_eff ?_ (fun _ => {}); refine Eff.step wakeLink_eff ?_
  exact Eff.refl _ _

theorem execMsixEnableWrite_eff {i : Fn} {on mask : Bool} {s t : State} (h : execMsixEnableWrite i on mask
    s = .next t) : Eff [.l1, .reads, .msg, .fnCfg, .fnMsg, .queues, .sched, .halves, .engines, .bursts, .portReg,
    .cistern, .instState, .capFlag, .devWake, .tunnel, .gate, .heldEv, .out] s t := by
  unfold execMsixEnableWrite at h
  refine when_eff h ?_; clear h; refine changeFn_eff ?_ (fun _ => {}); refine Eff.step wakeLink_eff ?_
  exact Eff.refl _ _

theorem execMsixVectorUnmask_eff {i v : Fn} {s t : State} (h : execMsixVectorUnmask i v s = .next t) : Eff
    [.l1, .fnMsg, .gate, .out] s t := by
  unfold execMsixVectorUnmask at h
  refine when_eff h ?_; clear h; refine ifAnswers_eff (fun _ => ?_) ?_; refine Eff.step writeMsix_eff ?_
  exact Eff.refl _ _; exact Eff.refl _ _

theorem execConfigSpaceWrite_eff {i : Fn} {w : CfgSpaceWrite} {s t : State} (h : execConfigSpaceWrite i w
    s = .next t) : Eff [.link, .l1, .fnCfg, .fnErr, .fnMsg, .gate, .out] s t := by
  unfold execConfigSpaceWrite at h
  refine when_eff h ?_; clear h; refine Eff.step cfgSpace_eff ?_; refine Eff.step wakeLink_eff ?_
  exact Eff.refl _ _

end Sys2Proof.Machine
end

