-- ==== Sys2Proof/Laws/State.lean ====
section
/-! SUPPORT. The fields of the state after each named update of `Machine/Ops.lean`: every field that the update does not
name is as before, and what the update wrote is read back. -/

set_option Elab.async false

namespace Sys2Proof.Machine

open Sys2Proof

variable (s : State)

/-! ### `emit` -/

@[simp] theorem emit_isL (o : Out) : (emit o s).isL = s.isL := rfl
@[simp] theorem emit_host (o : Out) : (emit o s).host = s.host := rfl
@[simp] theorem emit_funcs (o : Out) : (emit o s).funcs = s.funcs := rfl
@[simp] theorem emit_qe (o : Out) : (emit o s).qe = s.qe := rfl
@[simp] theorem emit_sched (o : Out) : (emit o s).sched = s.sched := rfl
@[simp] theorem emit_ports (o : Out) : (emit o s).ports = s.ports := rfl
@[simp] theorem emit_iso (o : Out) : (emit o s).iso = s.iso := rfl
@[simp] theorem emit_cis (o : Out) : (emit o s).cis = s.cis := rfl
@[simp] theorem emit_sump (o : Out) : (emit o s).sump = s.sump := rfl
@[simp] theorem emit_cfg (o : Out) : (emit o s).cfg = s.cfg := rfl
@[simp] theorem emit_insts (o : Out) : (emit o s).insts = s.insts := rfl
@[simp] theorem emit_glb (o : Out) : (emit o s).glb = s.glb := rfl
@[simp] theorem emit_cmd (o : Out) : (emit o s).cmd = s.cmd := rfl
@[simp] theorem emit_fw (o : Out) : (emit o s).fw = s.fw := rfl
@[simp] theorem emit_boot (o : Out) : (emit o s).boot = s.boot := rfl
@[simp] theorem emit_dev (o : Out) : (emit o s).dev = s.dev := rfl
@[simp] theorem emit_chans (o : Out) : (emit o s).chans = s.chans := rfl
@[simp] theorem emit_pm (o : Out) : (emit o s).pm = s.pm := rfl
@[simp] theorem emit_mgmt (o : Out) : (emit o s).mgmt = s.mgmt := rfl
@[simp] theorem emit_pending (o : Out) : (emit o s).pending = s.pending := rfl
@[simp] theorem emit_free (o : Out) : (emit o s).free = s.free := rfl

/-! ### `ungate` -/

@[simp] theorem ungate_isL : (ungate s).isL = s.isL := rfl
@[simp] theorem ungate_host : (ungate s).host = s.host := rfl
@[simp] theorem ungate_funcs : (ungate s).funcs = s.funcs := rfl
@[simp] theorem ungate_qe : (ungate s).qe = s.qe := rfl
@[simp] theorem ungate_sched : (ungate s).sched = s.sched := rfl
@[simp] theorem ungate_ports : (ungate s).ports = s.ports := rfl
@[simp] theorem ungate_iso : (ungate s).iso = s.iso := rfl
@[simp] theorem ungate_cis : (ungate s).cis = s.cis := rfl
@[simp] theorem ungate_sump : (ungate s).sump = s.sump := rfl
@[simp] theorem ungate_cfg : (ungate s).cfg = s.cfg := rfl
@[simp] theorem ungate_insts : (ungate s).insts = s.insts := rfl
@[simp] theorem ungate_glb : (ungate s).glb = s.glb := rfl
@[simp] theorem ungate_cmd : (ungate s).cmd = s.cmd := rfl
@[simp] theorem ungate_fw : (ungate s).fw = s.fw := rfl
@[simp] theorem ungate_boot : (ungate s).boot = s.boot := rfl
@[simp] theorem ungate_dev : (ungate s).dev = s.dev := rfl
@[simp] theorem ungate_chans : (ungate s).chans = s.chans := rfl
@[simp] theorem ungate_mgmt : (ungate s).mgmt = s.mgmt := rfl
@[simp] theorem ungate_pending : (ungate s).pending = s.pending := rfl
@[simp] theorem ungate_out : (ungate s).out = s.out := rfl
@[simp] theorem ungate_free : (ungate s).free = s.free := rfl

/-! ### `tlp` -/

@[simp] theorem tlp_isL (o : Out) : (tlp o s).isL = s.isL := rfl
@[simp] theorem tlp_funcs (o : Out) : (tlp o s).funcs = s.funcs := rfl
@[simp] theorem tlp_qe (o : Out) : (tlp o s).qe = s.qe := rfl
@[simp] theorem tlp_sched (o : Out) : (tlp o s).sched = s.sched := rfl
@[simp] theorem tlp_ports (o : Out) : (tlp o s).ports = s.ports := rfl
@[simp] theorem tlp_iso (o : Out) : (tlp o s).iso = s.iso := rfl
@[simp] theorem tlp_cis (o : Out) : (tlp o s).cis = s.cis := rfl
@[simp] theorem tlp_sump (o : Out) : (tlp o s).sump = s.sump := rfl
@[simp] theorem tlp_cfg (o : Out) : (tlp o s).cfg = s.cfg := rfl
@[simp] theorem tlp_insts (o : Out) : (tlp o s).insts = s.insts := rfl
@[simp] theorem tlp_glb (o : Out) : (tlp o s).glb = s.glb := rfl
@[simp] theorem tlp_cmd (o : Out) : (tlp o s).cmd = s.cmd := rfl
@[simp] theorem tlp_fw (o : Out) : (tlp o s).fw = s.fw := rfl
@[simp] theorem tlp_boot (o : Out) : (tlp o s).boot = s.boot := rfl
@[simp] theorem tlp_dev (o : Out) : (tlp o s).dev = s.dev := rfl
@[simp] theorem tlp_chans (o : Out) : (tlp o s).chans = s.chans := rfl
@[simp] theorem tlp_mgmt (o : Out) : (tlp o s).mgmt = s.mgmt := rfl
@[simp] theorem tlp_pending (o : Out) : (tlp o s).pending = s.pending := rfl
@[simp] theorem tlp_free (o : Out) : (tlp o s).free = s.free := rfl

/-! ### `setFn` -/

@[simp] theorem setFn_isL (i : Nat) (f : Func) : (setFn i f s).isL = s.isL := rfl
@[simp] theorem setFn_host (i : Nat) (f : Func) : (setFn i f s).host = s.host := rfl
@[simp] theorem setFn_qe (i : Nat) (f : Func) : (setFn i f s).qe = s.qe := rfl
@[simp] theorem setFn_sched (i : Nat) (f : Func) : (setFn i f s).sched = s.sched := rfl
@[simp] theorem setFn_ports (i : Nat) (f : Func) : (setFn i f s).ports = s.ports := rfl
@[simp] theorem setFn_iso (i : Nat) (f : Func) : (setFn i f s).iso = s.iso := rfl
@[simp] theorem setFn_cis (i : Nat) (f : Func) : (setFn i f s).cis = s.cis := rfl
@[simp] theorem setFn_sump (i : Nat) (f : Func) : (setFn i f s).sump = s.sump := rfl
@[simp] theorem setFn_cfg (i : Nat) (f : Func) : (setFn i f s).cfg = s.cfg := rfl
@[simp] theorem setFn_insts (i : Nat) (f : Func) : (setFn i f s).insts = s.insts := rfl
@[simp] theorem setFn_glb (i : Nat) (f : Func) : (setFn i f s).glb = s.glb := rfl
@[simp] theorem setFn_cmd (i : Nat) (f : Func) : (setFn i f s).cmd = s.cmd := rfl
@[simp] theorem setFn_fw (i : Nat) (f : Func) : (setFn i f s).fw = s.fw := rfl
@[simp] theorem setFn_boot (i : Nat) (f : Func) : (setFn i f s).boot = s.boot := rfl
@[simp] theorem setFn_dev (i : Nat) (f : Func) : (setFn i f s).dev = s.dev := rfl
@[simp] theorem setFn_chans (i : Nat) (f : Func) : (setFn i f s).chans = s.chans := rfl
@[simp] theorem setFn_pm (i : Nat) (f : Func) : (setFn i f s).pm = s.pm := rfl
@[simp] theorem setFn_mgmt (i : Nat) (f : Func) : (setFn i f s).mgmt = s.mgmt := rfl
@[simp] theorem setFn_pending (i : Nat) (f : Func) : (setFn i f s).pending = s.pending := rfl
@[simp] theorem setFn_out (i : Nat) (f : Func) : (setFn i f s).out = s.out := rfl
@[simp] theorem setFn_free (i : Nat) (f : Func) : (setFn i f s).free = s.free := rfl

/-! ### `modFn` -/

@[simp] theorem modFn_isL (i : Nat) (g : Func → Func) : (modFn i g s).isL = s.isL := rfl
@[simp] theorem modFn_host (i : Nat) (g : Func → Func) : (modFn i g s).host = s.host := rfl
@[simp] theorem modFn_qe (i : Nat) (g : Func → Func) : (modFn i g s).qe = s.qe := rfl
@[simp] theorem modFn_sched (i : Nat) (g : Func → Func) : (modFn i g s).sched = s.sched := rfl
@[simp] theorem modFn_ports (i : Nat) (g : Func → Func) : (modFn i g s).ports = s.ports := rfl
@[simp] theorem modFn_iso (i : Nat) (g : Func → Func) : (modFn i g s).iso = s.iso := rfl
@[simp] theorem modFn_cis (i : Nat) (g : Func → Func) : (modFn i g s).cis = s.cis := rfl
@[simp] theorem modFn_sump (i : Nat) (g : Func → Func) : (modFn i g s).sump = s.sump := rfl
@[simp] theorem modFn_cfg (i : Nat) (g : Func → Func) : (modFn i g s).cfg = s.cfg := rfl
@[simp] theorem modFn_insts (i : Nat) (g : Func → Func) : (modFn i g s).insts = s.insts := rfl
@[simp] theorem modFn_glb (i : Nat) (g : Func → Func) : (modFn i g s).glb = s.glb := rfl
@[simp] theorem modFn_cmd (i : Nat) (g : Func → Func) : (modFn i g s).cmd = s.cmd := rfl
@[simp] theorem modFn_fw (i : Nat) (g : Func → Func) : (modFn i g s).fw = s.fw := rfl
@[simp] theorem modFn_boot (i : Nat) (g : Func → Func) : (modFn i g s).boot = s.boot := rfl
@[simp] theorem modFn_dev (i : Nat) (g : Func → Func) : (modFn i g s).dev = s.dev := rfl
@[simp] theorem modFn_chans (i : Nat) (g : Func → Func) : (modFn i g s).chans = s.chans := rfl
@[simp] theorem modFn_pm (i : Nat) (g : Func → Func) : (modFn i g s).pm = s.pm := rfl
@[simp] theorem modFn_mgmt (i : Nat) (g : Func → Func) : (modFn i g s).mgmt = s.mgmt := rfl
@[simp] theorem modFn_pending (i : Nat) (g : Func → Func) : (modFn i g s).pending = s.pending := rfl
@[simp] theorem modFn_out (i : Nat) (g : Func → Func) : (modFn i g s).out = s.out := rfl
@[simp] theorem modFn_free (i : Nat) (g : Func → Func) : (modFn i g s).free = s.free := rfl

/-! ### `setVec` -/

@[simp] theorem setVec_isL (i v : Nat) (x : MsixVec) : (setVec i v x s).isL = s.isL := rfl
@[simp] theorem setVec_host (i v : Nat) (x : MsixVec) : (setVec i v x s).host = s.host := rfl
@[simp] theorem setVec_qe (i v : Nat) (x : MsixVec) : (setVec i v x s).qe = s.qe := rfl
@[simp] theorem setVec_sched (i v : Nat) (x : MsixVec) : (setVec i v x s).sched = s.sched := rfl
@[simp] theorem setVec_ports (i v : Nat) (x : MsixVec) : (setVec i v x s).ports = s.ports := rfl
@[simp] theorem setVec_iso (i v : Nat) (x : MsixVec) : (setVec i v x s).iso = s.iso := rfl
@[simp] theorem setVec_cis (i v : Nat) (x : MsixVec) : (setVec i v x s).cis = s.cis := rfl
@[simp] theorem setVec_sump (i v : Nat) (x : MsixVec) : (setVec i v x s).sump = s.sump := rfl
@[simp] theorem setVec_cfg (i v : Nat) (x : MsixVec) : (setVec i v x s).cfg = s.cfg := rfl
@[simp] theorem setVec_insts (i v : Nat) (x : MsixVec) : (setVec i v x s).insts = s.insts := rfl
@[simp] theorem setVec_glb (i v : Nat) (x : MsixVec) : (setVec i v x s).glb = s.glb := rfl
@[simp] theorem setVec_cmd (i v : Nat) (x : MsixVec) : (setVec i v x s).cmd = s.cmd := rfl
@[simp] theorem setVec_fw (i v : Nat) (x : MsixVec) : (setVec i v x s).fw = s.fw := rfl
@[simp] theorem setVec_boot (i v : Nat) (x : MsixVec) : (setVec i v x s).boot = s.boot := rfl
@[simp] theorem setVec_dev (i v : Nat) (x : MsixVec) : (setVec i v x s).dev = s.dev := rfl
@[simp] theorem setVec_chans (i v : Nat) (x : MsixVec) : (setVec i v x s).chans = s.chans := rfl
@[simp] theorem setVec_pm (i v : Nat) (x : MsixVec) : (setVec i v x s).pm = s.pm := rfl
@[simp] theorem setVec_mgmt (i v : Nat) (x : MsixVec) : (setVec i v x s).mgmt = s.mgmt := rfl
@[simp] theorem setVec_pending (i v : Nat) (x : MsixVec) : (setVec i v x s).pending = s.pending := rfl
@[simp] theorem setVec_out (i v : Nat) (x : MsixVec) : (setVec i v x s).out = s.out := rfl
@[simp] theorem setVec_free (i v : Nat) (x : MsixVec) : (setVec i v x s).free = s.free := rfl

/-! ### `setInst` -/

@[simp] theorem setInst_isL (i : Nat) (x : Inst) : (setInst i x s).isL = s.isL := rfl
@[simp] theorem setInst_host (i : Nat) (x : Inst) : (setInst i x s).host = s.host := rfl
@[simp] theorem setInst_funcs (i : Nat) (x : Inst) : (setInst i x s).funcs = s.funcs := rfl
@[simp] theorem setInst_qe (i : Nat) (x : Inst) : (setInst i x s).qe = s.qe := rfl
@[simp] theorem setInst_sched (i : Nat) (x : Inst) : (setInst i x s).sched = s.sched := rfl
@[simp] theorem setInst_ports (i : Nat) (x : Inst) : (setInst i x s).ports = s.ports := rfl
@[simp] theorem setInst_iso (i : Nat) (x : Inst) : (setInst i x s).iso = s.iso := rfl
@[simp] theorem setInst_cis (i : Nat) (x : Inst) : (setInst i x s).cis = s.cis := rfl
@[simp] theorem setInst_sump (i : Nat) (x : Inst) : (setInst i x s).sump = s.sump := rfl
@[simp] theorem setInst_cfg (i : Nat) (x : Inst) : (setInst i x s).cfg = s.cfg := rfl
@[simp] theorem setInst_glb (i : Nat) (x : Inst) : (setInst i x s).glb = s.glb := rfl
@[simp] theorem setInst_cmd (i : Nat) (x : Inst) : (setInst i x s).cmd = s.cmd := rfl
@[simp] theorem setInst_fw (i : Nat) (x : Inst) : (setInst i x s).fw = s.fw := rfl
@[simp] theorem setInst_boot (i : Nat) (x : Inst) : (setInst i x s).boot = s.boot := rfl
@[simp] theorem setInst_dev (i : Nat) (x : Inst) : (setInst i x s).dev = s.dev := rfl
@[simp] theorem setInst_chans (i : Nat) (x : Inst) : (setInst i x s).chans = s.chans := rfl
@[simp] theorem setInst_pm (i : Nat) (x : Inst) : (setInst i x s).pm = s.pm := rfl
@[simp] theorem setInst_mgmt (i : Nat) (x : Inst) : (setInst i x s).mgmt = s.mgmt := rfl
@[simp] theorem setInst_pending (i : Nat) (x : Inst) : (setInst i x s).pending = s.pending := rfl
@[simp] theorem setInst_out (i : Nat) (x : Inst) : (setInst i x s).out = s.out := rfl
@[simp] theorem setInst_free (i : Nat) (x : Inst) : (setInst i x s).free = s.free := rfl

/-! ### `modInst` -/

@[simp] theorem modInst_isL (i : Nat) (g : Inst → Inst) : (modInst i g s).isL = s.isL := rfl
@[simp] theorem modInst_host (i : Nat) (g : Inst → Inst) : (modInst i g s).host = s.host := rfl
@[simp] theorem modInst_funcs (i : Nat) (g : Inst → Inst) : (modInst i g s).funcs = s.funcs := rfl
@[simp] theorem modInst_qe (i : Nat) (g : Inst → Inst) : (modInst i g s).qe = s.qe := rfl
@[simp] theorem modInst_sched (i : Nat) (g : Inst → Inst) : (modInst i g s).sched = s.sched := rfl
@[simp] theorem modInst_ports (i : Nat) (g : Inst → Inst) : (modInst i g s).ports = s.ports := rfl
@[simp] theorem modInst_iso (i : Nat) (g : Inst → Inst) : (modInst i g s).iso = s.iso := rfl
@[simp] theorem modInst_cis (i : Nat) (g : Inst → Inst) : (modInst i g s).cis = s.cis := rfl
@[simp] theorem modInst_sump (i : Nat) (g : Inst → Inst) : (modInst i g s).sump = s.sump := rfl
@[simp] theorem modInst_cfg (i : Nat) (g : Inst → Inst) : (modInst i g s).cfg = s.cfg := rfl
@[simp] theorem modInst_glb (i : Nat) (g : Inst → Inst) : (modInst i g s).glb = s.glb := rfl
@[simp] theorem modInst_cmd (i : Nat) (g : Inst → Inst) : (modInst i g s).cmd = s.cmd := rfl
@[simp] theorem modInst_fw (i : Nat) (g : Inst → Inst) : (modInst i g s).fw = s.fw := rfl
@[simp] theorem modInst_boot (i : Nat) (g : Inst → Inst) : (modInst i g s).boot = s.boot := rfl
@[simp] theorem modInst_dev (i : Nat) (g : Inst → Inst) : (modInst i g s).dev = s.dev := rfl
@[simp] theorem modInst_chans (i : Nat) (g : Inst → Inst) : (modInst i g s).chans = s.chans := rfl
@[simp] theorem modInst_pm (i : Nat) (g : Inst → Inst) : (modInst i g s).pm = s.pm := rfl
@[simp] theorem modInst_mgmt (i : Nat) (g : Inst → Inst) : (modInst i g s).mgmt = s.mgmt := rfl
@[simp] theorem modInst_pending (i : Nat) (g : Inst → Inst) : (modInst i g s).pending = s.pending := rfl
@[simp] theorem modInst_out (i : Nat) (g : Inst → Inst) : (modInst i g s).out = s.out := rfl
@[simp] theorem modInst_free (i : Nat) (g : Inst → Inst) : (modInst i g s).free = s.free := rfl

/-! ### `delQueue` -/

@[simp] theorem delQueue_isL (q : Nat) : (delQueue q s).isL = s.isL := rfl
@[simp] theorem delQueue_host (q : Nat) : (delQueue q s).host = s.host := rfl
@[simp] theorem delQueue_funcs (q : Nat) : (delQueue q s).funcs = s.funcs := rfl
@[simp] theorem delQueue_sched (q : Nat) : (delQueue q s).sched = s.sched := rfl
@[simp] theorem delQueue_ports (q : Nat) : (delQueue q s).ports = s.ports := rfl
@[simp] theorem delQueue_iso (q : Nat) : (delQueue q s).iso = s.iso := rfl
@[simp] theorem delQueue_cis (q : Nat) : (delQueue q s).cis = s.cis := rfl
@[simp] theorem delQueue_sump (q : Nat) : (delQueue q s).sump = s.sump := rfl
@[simp] theorem delQueue_cfg (q : Nat) : (delQueue q s).cfg = s.cfg := rfl
@[simp] theorem delQueue_insts (q : Nat) : (delQueue q s).insts = s.insts := rfl
@[simp] theorem delQueue_glb (q : Nat) : (delQueue q s).glb = s.glb := rfl
@[simp] theorem delQueue_cmd (q : Nat) : (delQueue q s).cmd = s.cmd := rfl
@[simp] theorem delQueue_fw (q : Nat) : (delQueue q s).fw = s.fw := rfl
@[simp] theorem delQueue_boot (q : Nat) : (delQueue q s).boot = s.boot := rfl
@[simp] theorem delQueue_dev (q : Nat) : (delQueue q s).dev = s.dev := rfl
@[simp] theorem delQueue_chans (q : Nat) : (delQueue q s).chans = s.chans := rfl
@[simp] theorem delQueue_pm (q : Nat) : (delQueue q s).pm = s.pm := rfl
@[simp] theorem delQueue_mgmt (q : Nat) : (delQueue q s).mgmt = s.mgmt := rfl
@[simp] theorem delQueue_pending (q : Nat) : (delQueue q s).pending = s.pending := rfl
@[simp] theorem delQueue_out (q : Nat) : (delQueue q s).out = s.out := rfl
@[simp] theorem delQueue_free (q : Nat) : (delQueue q s).free = s.free := rfl

/-! ### `setPipe` -/

@[simp] theorem setPipe_isL (n : Nat) (x : Pipe) : (setPipe n x s).isL = s.isL := rfl
@[simp] theorem setPipe_host (n : Nat) (x : Pipe) : (setPipe n x s).host = s.host := rfl
@[simp] theorem setPipe_funcs (n : Nat) (x : Pipe) : (setPipe n x s).funcs = s.funcs := rfl
@[simp] theorem setPipe_qe (n : Nat) (x : Pipe) : (setPipe n x s).qe = s.qe := rfl
@[simp] theorem setPipe_ports (n : Nat) (x : Pipe) : (setPipe n x s).ports = s.ports := rfl
@[simp] theorem setPipe_iso (n : Nat) (x : Pipe) : (setPipe n x s).iso = s.iso := rfl
@[simp] theorem setPipe_cis (n : Nat) (x : Pipe) : (setPipe n x s).cis = s.cis := rfl
@[simp] theorem setPipe_sump (n : Nat) (x : Pipe) : (setPipe n x s).sump = s.sump := rfl
@[simp] theorem setPipe_cfg (n : Nat) (x : Pipe) : (setPipe n x s).cfg = s.cfg := rfl
@[simp] theorem setPipe_insts (n : Nat) (x : Pipe) : (setPipe n x s).insts = s.insts := rfl
@[simp] theorem setPipe_glb (n : Nat) (x : Pipe) : (setPipe n x s).glb = s.glb := rfl
@[simp] theorem setPipe_cmd (n : Nat) (x : Pipe) : (setPipe n x s).cmd = s.cmd := rfl
@[simp] theorem setPipe_fw (n : Nat) (x : Pipe) : (setPipe n x s).fw = s.fw := rfl
@[simp] theorem setPipe_boot (n : Nat) (x : Pipe) : (setPipe n x s).boot = s.boot := rfl
@[simp] theorem setPipe_dev (n : Nat) (x : Pipe) : (setPipe n x s).dev = s.dev := rfl
@[simp] theorem setPipe_chans (n : Nat) (x : Pipe) : (setPipe n x s).chans = s.chans := rfl
@[simp] theorem setPipe_pm (n : Nat) (x : Pipe) : (setPipe n x s).pm = s.pm := rfl
@[simp] theorem setPipe_mgmt (n : Nat) (x : Pipe) : (setPipe n x s).mgmt = s.mgmt := rfl
@[simp] theorem setPipe_pending (n : Nat) (x : Pipe) : (setPipe n x s).pending = s.pending := rfl
@[simp] theorem setPipe_out (n : Nat) (x : Pipe) : (setPipe n x s).out = s.out := rfl
@[simp] theorem setPipe_free (n : Nat) (x : Pipe) : (setPipe n x s).free = s.free := rfl

/-! ### `delPipe` -/

@[simp] theorem delPipe_isL (n : Nat) : (delPipe n s).isL = s.isL := rfl
@[simp] theorem delPipe_host (n : Nat) : (delPipe n s).host = s.host := rfl
@[simp] theorem delPipe_funcs (n : Nat) : (delPipe n s).funcs = s.funcs := rfl
@[simp] theorem delPipe_qe (n : Nat) : (delPipe n s).qe = s.qe := rfl
@[simp] theorem delPipe_ports (n : Nat) : (delPipe n s).ports = s.ports := rfl
@[simp] theorem delPipe_iso (n : Nat) : (delPipe n s).iso = s.iso := rfl
@[simp] theorem delPipe_cis (n : Nat) : (delPipe n s).cis = s.cis := rfl
@[simp] theorem delPipe_sump (n : Nat) : (delPipe n s).sump = s.sump := rfl
@[simp] theorem delPipe_cfg (n : Nat) : (delPipe n s).cfg = s.cfg := rfl
@[simp] theorem delPipe_insts (n : Nat) : (delPipe n s).insts = s.insts := rfl
@[simp] theorem delPipe_glb (n : Nat) : (delPipe n s).glb = s.glb := rfl
@[simp] theorem delPipe_cmd (n : Nat) : (delPipe n s).cmd = s.cmd := rfl
@[simp] theorem delPipe_fw (n : Nat) : (delPipe n s).fw = s.fw := rfl
@[simp] theorem delPipe_boot (n : Nat) : (delPipe n s).boot = s.boot := rfl
@[simp] theorem delPipe_dev (n : Nat) : (delPipe n s).dev = s.dev := rfl
@[simp] theorem delPipe_chans (n : Nat) : (delPipe n s).chans = s.chans := rfl
@[simp] theorem delPipe_pm (n : Nat) : (delPipe n s).pm = s.pm := rfl
@[simp] theorem delPipe_mgmt (n : Nat) : (delPipe n s).mgmt = s.mgmt := rfl
@[simp] theorem delPipe_pending (n : Nat) : (delPipe n s).pending = s.pending := rfl
@[simp] theorem delPipe_out (n : Nat) : (delPipe n s).out = s.out := rfl
@[simp] theorem delPipe_free (n : Nat) : (delPipe n s).free = s.free := rfl

/-! ### `setPsched` -/

@[simp] theorem setPsched_isL (p : Nat) (x : PortSched) : (setPsched p x s).isL = s.isL := rfl
@[simp] theorem setPsched_host (p : Nat) (x : PortSched) : (setPsched p x s).host = s.host := rfl
@[simp] theorem setPsched_funcs (p : Nat) (x : PortSched) : (setPsched p x s).funcs = s.funcs := rfl
@[simp] theorem setPsched_qe (p : Nat) (x : PortSched) : (setPsched p x s).qe = s.qe := rfl
@[simp] theorem setPsched_ports (p : Nat) (x : PortSched) : (setPsched p x s).ports = s.ports := rfl
@[simp] theorem setPsched_iso (p : Nat) (x : PortSched) : (setPsched p x s).iso = s.iso := rfl
@[simp] theorem setPsched_cis (p : Nat) (x : PortSched) : (setPsched p x s).cis = s.cis := rfl
@[simp] theorem setPsched_sump (p : Nat) (x : PortSched) : (setPsched p x s).sump = s.sump := rfl
@[simp] theorem setPsched_cfg (p : Nat) (x : PortSched) : (setPsched p x s).cfg = s.cfg := rfl
@[simp] theorem setPsched_insts (p : Nat) (x : PortSched) : (setPsched p x s).insts = s.insts := rfl
@[simp] theorem setPsched_glb (p : Nat) (x : PortSched) : (setPsched p x s).glb = s.glb := rfl
@[simp] theorem setPsched_cmd (p : Nat) (x : PortSched) : (setPsched p x s).cmd = s.cmd := rfl
@[simp] theorem setPsched_fw (p : Nat) (x : PortSched) : (setPsched p x s).fw = s.fw := rfl
@[simp] theorem setPsched_boot (p : Nat) (x : PortSched) : (setPsched p x s).boot = s.boot := rfl
@[simp] theorem setPsched_dev (p : Nat) (x : PortSched) : (setPsched p x s).dev = s.dev := rfl
@[simp] theorem setPsched_chans (p : Nat) (x : PortSched) : (setPsched p x s).chans = s.chans := rfl
@[simp] theorem setPsched_pm (p : Nat) (x : PortSched) : (setPsched p x s).pm = s.pm := rfl
@[simp] theorem setPsched_mgmt (p : Nat) (x : PortSched) : (setPsched p x s).mgmt = s.mgmt := rfl
@[simp] theorem setPsched_pending (p : Nat) (x : PortSched) : (setPsched p x s).pending = s.pending := rfl
@[simp] theorem setPsched_out (p : Nat) (x : PortSched) : (setPsched p x s).out = s.out := rfl
@[simp] theorem setPsched_free (p : Nat) (x : PortSched) : (setPsched p x s).free = s.free := rfl

/-! ### `modPsched` -/

@[simp] theorem modPsched_isL (p : Nat) (g : PortSched → PortSched) : (modPsched p g s).isL = s.isL := rfl
@[simp] theorem modPsched_host (p : Nat) (g : PortSched → PortSched) : (modPsched p g s).host = s.host := rfl
@[simp] theorem modPsched_funcs (p : Nat) (g : PortSched → PortSched) : (modPsched p g s).funcs = s.funcs := rfl
@[simp] theorem modPsched_qe (p : Nat) (g : PortSched → PortSched) : (modPsched p g s).qe = s.qe := rfl
@[simp] theorem modPsched_ports (p : Nat) (g : PortSched → PortSched) : (modPsched p g s).ports = s.ports := rfl
@[simp] theorem modPsched_iso (p : Nat) (g : PortSched → PortSched) : (modPsched p g s).iso = s.iso := rfl
@[simp] theorem modPsched_cis (p : Nat) (g : PortSched → PortSched) : (modPsched p g s).cis = s.cis := rfl
@[simp] theorem modPsched_sump (p : Nat) (g : PortSched → PortSched) : (modPsched p g s).sump = s.sump := rfl
@[simp] theorem modPsched_cfg (p : Nat) (g : PortSched → PortSched) : (modPsched p g s).cfg = s.cfg := rfl
@[simp] theorem modPsched_insts (p : Nat) (g : PortSched → PortSched) : (modPsched p g s).insts = s.insts := rfl
@[simp] theorem modPsched_glb (p : Nat) (g : PortSched → PortSched) : (modPsched p g s).glb = s.glb := rfl
@[simp] theorem modPsched_cmd (p : Nat) (g : PortSched → PortSched) : (modPsched p g s).cmd = s.cmd := rfl
@[simp] theorem modPsched_fw (p : Nat) (g : PortSched → PortSched) : (modPsched p g s).fw = s.fw := rfl
@[simp] theorem modPsched_boot (p : Nat) (g : PortSched → PortSched) : (modPsched p g s).boot = s.boot := rfl
@[simp] theorem modPsched_dev (p : Nat) (g : PortSched → PortSched) : (modPsched p g s).dev = s.dev := rfl
@[simp] theorem modPsched_chans (p : Nat) (g : PortSched → PortSched) : (modPsched p g s).chans = s.chans := rfl
@[simp] theorem modPsched_pm (p : Nat) (g : PortSched → PortSched) : (modPsched p g s).pm = s.pm := rfl
@[simp] theorem modPsched_mgmt (p : Nat) (g : PortSched → PortSched) : (modPsched p g s).mgmt = s.mgmt := rfl
@[simp] theorem modPsched_pending (p : Nat) (g : PortSched → PortSched) : (modPsched p g s).pending = s.pending := rfl
@[simp] theorem modPsched_out (p : Nat) (g : PortSched → PortSched) : (modPsched p g s).out = s.out := rfl
@[simp] theorem modPsched_free (p : Nat) (g : PortSched → PortSched) : (modPsched p g s).free = s.free := rfl

/-! ### `setPort` -/

@[simp] theorem setPort_isL (p : Nat) (x : PortReg) : (setPort p x s).isL = s.isL := rfl
@[simp] theorem setPort_host (p : Nat) (x : PortReg) : (setPort p x s).host = s.host := rfl
@[simp] theorem setPort_funcs (p : Nat) (x : PortReg) : (setPort p x s).funcs = s.funcs := rfl
@[simp] theorem setPort_qe (p : Nat) (x : PortReg) : (setPort p x s).qe = s.qe := rfl
@[simp] theorem setPort_sched (p : Nat) (x : PortReg) : (setPort p x s).sched = s.sched := rfl
@[simp] theorem setPort_iso (p : Nat) (x : PortReg) : (setPort p x s).iso = s.iso := rfl
@[simp] theorem setPort_cis (p : Nat) (x : PortReg) : (setPort p x s).cis = s.cis := rfl
@[simp] theorem setPort_sump (p : Nat) (x : PortReg) : (setPort p x s).sump = s.sump := rfl
@[simp] theorem setPort_cfg (p : Nat) (x : PortReg) : (setPort p x s).cfg = s.cfg := rfl
@[simp] theorem setPort_insts (p : Nat) (x : PortReg) : (setPort p x s).insts = s.insts := rfl
@[simp] theorem setPort_glb (p : Nat) (x : PortReg) : (setPort p x s).glb = s.glb := rfl
@[simp] theorem setPort_cmd (p : Nat) (x : PortReg) : (setPort p x s).cmd = s.cmd := rfl
@[simp] theorem setPort_fw (p : Nat) (x : PortReg) : (setPort p x s).fw = s.fw := rfl
@[simp] theorem setPort_boot (p : Nat) (x : PortReg) : (setPort p x s).boot = s.boot := rfl
@[simp] theorem setPort_dev (p : Nat) (x : PortReg) : (setPort p x s).dev = s.dev := rfl
@[simp] theorem setPort_chans (p : Nat) (x : PortReg) : (setPort p x s).chans = s.chans := rfl
@[simp] theorem setPort_pm (p : Nat) (x : PortReg) : (setPort p x s).pm = s.pm := rfl
@[simp] theorem setPort_mgmt (p : Nat) (x : PortReg) : (setPort p x s).mgmt = s.mgmt := rfl
@[simp] theorem setPort_pending (p : Nat) (x : PortReg) : (setPort p x s).pending = s.pending := rfl
@[simp] theorem setPort_out (p : Nat) (x : PortReg) : (setPort p x s).out = s.out := rfl
@[simp] theorem setPort_free (p : Nat) (x : PortReg) : (setPort p x s).free = s.free := rfl

/-! ### `modPort` -/

@[simp] theorem modPort_isL (p : Nat) (g : PortReg → PortReg) : (modPort p g s).isL = s.isL := rfl
@[simp] theorem modPort_host (p : Nat) (g : PortReg → PortReg) : (modPort p g s).host = s.host := rfl
@[simp] theorem modPort_funcs (p : Nat) (g : PortReg → PortReg) : (modPort p g s).funcs = s.funcs := rfl
@[simp] theorem modPort_qe (p : Nat) (g : PortReg → PortReg) : (modPort p g s).qe = s.qe := rfl
@[simp] theorem modPort_sched (p : Nat) (g : PortReg → PortReg) : (modPort p g s).sched = s.sched := rfl
@[simp] theorem modPort_iso (p : Nat) (g : PortReg → PortReg) : (modPort p g s).iso = s.iso := rfl
@[simp] theorem modPort_cis (p : Nat) (g : PortReg → PortReg) : (modPort p g s).cis = s.cis := rfl
@[simp] theorem modPort_sump (p : Nat) (g : PortReg → PortReg) : (modPort p g s).sump = s.sump := rfl
@[simp] theorem modPort_cfg (p : Nat) (g : PortReg → PortReg) : (modPort p g s).cfg = s.cfg := rfl
@[simp] theorem modPort_insts (p : Nat) (g : PortReg → PortReg) : (modPort p g s).insts = s.insts := rfl
@[simp] theorem modPort_glb (p : Nat) (g : PortReg → PortReg) : (modPort p g s).glb = s.glb := rfl
@[simp] theorem modPort_cmd (p : Nat) (g : PortReg → PortReg) : (modPort p g s).cmd = s.cmd := rfl
@[simp] theorem modPort_fw (p : Nat) (g : PortReg → PortReg) : (modPort p g s).fw = s.fw := rfl
@[simp] theorem modPort_boot (p : Nat) (g : PortReg → PortReg) : (modPort p g s).boot = s.boot := rfl
@[simp] theorem modPort_dev (p : Nat) (g : PortReg → PortReg) : (modPort p g s).dev = s.dev := rfl
@[simp] theorem modPort_chans (p : Nat) (g : PortReg → PortReg) : (modPort p g s).chans = s.chans := rfl
@[simp] theorem modPort_pm (p : Nat) (g : PortReg → PortReg) : (modPort p g s).pm = s.pm := rfl
@[simp] theorem modPort_mgmt (p : Nat) (g : PortReg → PortReg) : (modPort p g s).mgmt = s.mgmt := rfl
@[simp] theorem modPort_pending (p : Nat) (g : PortReg → PortReg) : (modPort p g s).pending = s.pending := rfl
@[simp] theorem modPort_out (p : Nat) (g : PortReg → PortReg) : (modPort p g s).out = s.out := rfl
@[simp] theorem modPort_free (p : Nat) (g : PortReg → PortReg) : (modPort p g s).free = s.free := rfl

/-! ### `modHalf` -/

@[simp] theorem modHalf_isL (p h : Nat) (g : HalfReg → HalfReg) : (modHalf p h g s).isL = s.isL := rfl
@[simp] theorem modHalf_host (p h : Nat) (g : HalfReg → HalfReg) : (modHalf p h g s).host = s.host := rfl
@[simp] theorem modHalf_funcs (p h : Nat) (g : HalfReg → HalfReg) : (modHalf p h g s).funcs = s.funcs := rfl
@[simp] theorem modHalf_qe (p h : Nat) (g : HalfReg → HalfReg) : (modHalf p h g s).qe = s.qe := rfl
@[simp] theorem modHalf_sched (p h : Nat) (g : HalfReg → HalfReg) : (modHalf p h g s).sched = s.sched := rfl
@[simp] theorem modHalf_iso (p h : Nat) (g : HalfReg → HalfReg) : (modHalf p h g s).iso = s.iso := rfl
@[simp] theorem modHalf_cis (p h : Nat) (g : HalfReg → HalfReg) : (modHalf p h g s).cis = s.cis := rfl
@[simp] theorem modHalf_sump (p h : Nat) (g : HalfReg → HalfReg) : (modHalf p h g s).sump = s.sump := rfl
@[simp] theorem modHalf_cfg (p h : Nat) (g : HalfReg → HalfReg) : (modHalf p h g s).cfg = s.cfg := rfl
@[simp] theorem modHalf_insts (p h : Nat) (g : HalfReg → HalfReg) : (modHalf p h g s).insts = s.insts := rfl
@[simp] theorem modHalf_glb (p h : Nat) (g : HalfReg → HalfReg) : (modHalf p h g s).glb = s.glb := rfl
@[simp] theorem modHalf_cmd (p h : Nat) (g : HalfReg → HalfReg) : (modHalf p h g s).cmd = s.cmd := rfl
@[simp] theorem modHalf_fw (p h : Nat) (g : HalfReg → HalfReg) : (modHalf p h g s).fw = s.fw := rfl
@[simp] theorem modHalf_boot (p h : Nat) (g : HalfReg → HalfReg) : (modHalf p h g s).boot = s.boot := rfl
@[simp] theorem modHalf_dev (p h : Nat) (g : HalfReg → HalfReg) : (modHalf p h g s).dev = s.dev := rfl
@[simp] theorem modHalf_chans (p h : Nat) (g : HalfReg → HalfReg) : (modHalf p h g s).chans = s.chans := rfl
@[simp] theorem modHalf_pm (p h : Nat) (g : HalfReg → HalfReg) : (modHalf p h g s).pm = s.pm := rfl
@[simp] theorem modHalf_mgmt (p h : Nat) (g : HalfReg → HalfReg) : (modHalf p h g s).mgmt = s.mgmt := rfl
@[simp] theorem modHalf_pending (p h : Nat) (g : HalfReg → HalfReg) : (modHalf p h g s).pending = s.pending := rfl
@[simp] theorem modHalf_out (p h : Nat) (g : HalfReg → HalfReg) : (modHalf p h g s).out = s.out := rfl
@[simp] theorem modHalf_free (p h : Nat) (g : HalfReg → HalfReg) : (modHalf p h g s).free = s.free := rfl

/-! ### `modEngine` -/

@[simp] theorem modEngine_isL (p h : Nat) (g : Engine → Engine) : (modEngine p h g s).isL = s.isL := rfl
@[simp] theorem modEngine_host (p h : Nat) (g : Engine → Engine) : (modEngine p h g s).host = s.host := rfl
@[simp] theorem modEngine_funcs (p h : Nat) (g : Engine → Engine) : (modEngine p h g s).funcs = s.funcs := rfl
@[simp] theorem modEngine_qe (p h : Nat) (g : Engine → Engine) : (modEngine p h g s).qe = s.qe := rfl
@[simp] theorem modEngine_sched (p h : Nat) (g : Engine → Engine) : (modEngine p h g s).sched = s.sched := rfl
@[simp] theorem modEngine_iso (p h : Nat) (g : Engine → Engine) : (modEngine p h g s).iso = s.iso := rfl
@[simp] theorem modEngine_cis (p h : Nat) (g : Engine → Engine) : (modEngine p h g s).cis = s.cis := rfl
@[simp] theorem modEngine_sump (p h : Nat) (g : Engine → Engine) : (modEngine p h g s).sump = s.sump := rfl
@[simp] theorem modEngine_cfg (p h : Nat) (g : Engine → Engine) : (modEngine p h g s).cfg = s.cfg := rfl
@[simp] theorem modEngine_insts (p h : Nat) (g : Engine → Engine) : (modEngine p h g s).insts = s.insts := rfl
@[simp] theorem modEngine_glb (p h : Nat) (g : Engine → Engine) : (modEngine p h g s).glb = s.glb := rfl
@[simp] theorem modEngine_cmd (p h : Nat) (g : Engine → Engine) : (modEngine p h g s).cmd = s.cmd := rfl
@[simp] theorem modEngine_fw (p h : Nat) (g : Engine → Engine) : (modEngine p h g s).fw = s.fw := rfl
@[simp] theorem modEngine_boot (p h : Nat) (g : Engine → Engine) : (modEngine p h g s).boot = s.boot := rfl
@[simp] theorem modEngine_dev (p h : Nat) (g : Engine → Engine) : (modEngine p h g s).dev = s.dev := rfl
@[simp] theorem modEngine_chans (p h : Nat) (g : Engine → Engine) : (modEngine p h g s).chans = s.chans := rfl
@[simp] theorem modEngine_pm (p h : Nat) (g : Engine → Engine) : (modEngine p h g s).pm = s.pm := rfl
@[simp] theorem modEngine_mgmt (p h : Nat) (g : Engine → Engine) : (modEngine p h g s).mgmt = s.mgmt := rfl
@[simp] theorem modEngine_pending (p h : Nat) (g : Engine → Engine) : (modEngine p h g s).pending = s.pending := rfl
@[simp] theorem modEngine_out (p h : Nat) (g : Engine → Engine) : (modEngine p h g s).out = s.out := rfl
@[simp] theorem modEngine_free (p h : Nat) (g : Engine → Engine) : (modEngine p h g s).free = s.free := rfl

/-! ### `modPtime` -/

@[simp] theorem modPtime_isL (p : Nat) (g : PortTime → PortTime) : (modPtime p g s).isL = s.isL := rfl
@[simp] theorem modPtime_host (p : Nat) (g : PortTime → PortTime) : (modPtime p g s).host = s.host := rfl
@[simp] theorem modPtime_funcs (p : Nat) (g : PortTime → PortTime) : (modPtime p g s).funcs = s.funcs := rfl
@[simp] theorem modPtime_qe (p : Nat) (g : PortTime → PortTime) : (modPtime p g s).qe = s.qe := rfl
@[simp] theorem modPtime_sched (p : Nat) (g : PortTime → PortTime) : (modPtime p g s).sched = s.sched := rfl
@[simp] theorem modPtime_ports (p : Nat) (g : PortTime → PortTime) : (modPtime p g s).ports = s.ports := rfl
@[simp] theorem modPtime_cis (p : Nat) (g : PortTime → PortTime) : (modPtime p g s).cis = s.cis := rfl
@[simp] theorem modPtime_sump (p : Nat) (g : PortTime → PortTime) : (modPtime p g s).sump = s.sump := rfl
@[simp] theorem modPtime_cfg (p : Nat) (g : PortTime → PortTime) : (modPtime p g s).cfg = s.cfg := rfl
@[simp] theorem modPtime_insts (p : Nat) (g : PortTime → PortTime) : (modPtime p g s).insts = s.insts := rfl
@[simp] theorem modPtime_glb (p : Nat) (g : PortTime → PortTime) : (modPtime p g s).glb = s.glb := rfl
@[simp] theorem modPtime_cmd (p : Nat) (g : PortTime → PortTime) : (modPtime p g s).cmd = s.cmd := rfl
@[simp] theorem modPtime_fw (p : Nat) (g : PortTime → PortTime) : (modPtime p g s).fw = s.fw := rfl
@[simp] theorem modPtime_boot (p : Nat) (g : PortTime → PortTime) : (modPtime p g s).boot = s.boot := rfl
@[simp] theorem modPtime_dev (p : Nat) (g : PortTime → PortTime) : (modPtime p g s).dev = s.dev := rfl
@[simp] theorem modPtime_chans (p : Nat) (g : PortTime → PortTime) : (modPtime p g s).chans = s.chans := rfl
@[simp] theorem modPtime_pm (p : Nat) (g : PortTime → PortTime) : (modPtime p g s).pm = s.pm := rfl
@[simp] theorem modPtime_mgmt (p : Nat) (g : PortTime → PortTime) : (modPtime p g s).mgmt = s.mgmt := rfl
@[simp] theorem modPtime_pending (p : Nat) (g : PortTime → PortTime) : (modPtime p g s).pending = s.pending := rfl
@[simp] theorem modPtime_out (p : Nat) (g : PortTime → PortTime) : (modPtime p g s).out = s.out := rfl
@[simp] theorem modPtime_free (p : Nat) (g : PortTime → PortTime) : (modPtime p g s).free = s.free := rfl

/-! ### `setXfer` -/

@[simp] theorem setXfer_isL (k : Nat) (x : Xfer) : (setXfer k x s).isL = s.isL := rfl
@[simp] theorem setXfer_host (k : Nat) (x : Xfer) : (setXfer k x s).host = s.host := rfl
@[simp] theorem setXfer_funcs (k : Nat) (x : Xfer) : (setXfer k x s).funcs = s.funcs := rfl
@[simp] theorem setXfer_qe (k : Nat) (x : Xfer) : (setXfer k x s).qe = s.qe := rfl
@[simp] theorem setXfer_sched (k : Nat) (x : Xfer) : (setXfer k x s).sched = s.sched := rfl
@[simp] theorem setXfer_ports (k : Nat) (x : Xfer) : (setXfer k x s).ports = s.ports := rfl
@[simp] theorem setXfer_iso (k : Nat) (x : Xfer) : (setXfer k x s).iso = s.iso := rfl
@[simp] theorem setXfer_sump (k : Nat) (x : Xfer) : (setXfer k x s).sump = s.sump := rfl
@[simp] theorem setXfer_cfg (k : Nat) (x : Xfer) : (setXfer k x s).cfg = s.cfg := rfl
@[simp] theorem setXfer_insts (k : Nat) (x : Xfer) : (setXfer k x s).insts = s.insts := rfl
@[simp] theorem setXfer_glb (k : Nat) (x : Xfer) : (setXfer k x s).glb = s.glb := rfl
@[simp] theorem setXfer_cmd (k : Nat) (x : Xfer) : (setXfer k x s).cmd = s.cmd := rfl
@[simp] theorem setXfer_fw (k : Nat) (x : Xfer) : (setXfer k x s).fw = s.fw := rfl
@[simp] theorem setXfer_boot (k : Nat) (x : Xfer) : (setXfer k x s).boot = s.boot := rfl
@[simp] theorem setXfer_dev (k : Nat) (x : Xfer) : (setXfer k x s).dev = s.dev := rfl
@[simp] theorem setXfer_chans (k : Nat) (x : Xfer) : (setXfer k x s).chans = s.chans := rfl
@[simp] theorem setXfer_pm (k : Nat) (x : Xfer) : (setXfer k x s).pm = s.pm := rfl
@[simp] theorem setXfer_mgmt (k : Nat) (x : Xfer) : (setXfer k x s).mgmt = s.mgmt := rfl
@[simp] theorem setXfer_pending (k : Nat) (x : Xfer) : (setXfer k x s).pending = s.pending := rfl
@[simp] theorem setXfer_out (k : Nat) (x : Xfer) : (setXfer k x s).out = s.out := rfl
@[simp] theorem setXfer_free (k : Nat) (x : Xfer) : (setXfer k x s).free = s.free := rfl

/-! ### `modPump` -/

@[simp] theorem modPump_isL (n : Nat) (g : PumpReg → PumpReg) : (modPump n g s).isL = s.isL := rfl
@[simp] theorem modPump_host (n : Nat) (g : PumpReg → PumpReg) : (modPump n g s).host = s.host := rfl
@[simp] theorem modPump_funcs (n : Nat) (g : PumpReg → PumpReg) : (modPump n g s).funcs = s.funcs := rfl
@[simp] theorem modPump_qe (n : Nat) (g : PumpReg → PumpReg) : (modPump n g s).qe = s.qe := rfl
@[simp] theorem modPump_sched (n : Nat) (g : PumpReg → PumpReg) : (modPump n g s).sched = s.sched := rfl
@[simp] theorem modPump_ports (n : Nat) (g : PumpReg → PumpReg) : (modPump n g s).ports = s.ports := rfl
@[simp] theorem modPump_iso (n : Nat) (g : PumpReg → PumpReg) : (modPump n g s).iso = s.iso := rfl
@[simp] theorem modPump_sump (n : Nat) (g : PumpReg → PumpReg) : (modPump n g s).sump = s.sump := rfl
@[simp] theorem modPump_cfg (n : Nat) (g : PumpReg → PumpReg) : (modPump n g s).cfg = s.cfg := rfl
@[simp] theorem modPump_insts (n : Nat) (g : PumpReg → PumpReg) : (modPump n g s).insts = s.insts := rfl
@[simp] theorem modPump_glb (n : Nat) (g : PumpReg → PumpReg) : (modPump n g s).glb = s.glb := rfl
@[simp] theorem modPump_cmd (n : Nat) (g : PumpReg → PumpReg) : (modPump n g s).cmd = s.cmd := rfl
@[simp] theorem modPump_fw (n : Nat) (g : PumpReg → PumpReg) : (modPump n g s).fw = s.fw := rfl
@[simp] theorem modPump_boot (n : Nat) (g : PumpReg → PumpReg) : (modPump n g s).boot = s.boot := rfl
@[simp] theorem modPump_dev (n : Nat) (g : PumpReg → PumpReg) : (modPump n g s).dev = s.dev := rfl
@[simp] theorem modPump_chans (n : Nat) (g : PumpReg → PumpReg) : (modPump n g s).chans = s.chans := rfl
@[simp] theorem modPump_pm (n : Nat) (g : PumpReg → PumpReg) : (modPump n g s).pm = s.pm := rfl
@[simp] theorem modPump_mgmt (n : Nat) (g : PumpReg → PumpReg) : (modPump n g s).mgmt = s.mgmt := rfl
@[simp] theorem modPump_pending (n : Nat) (g : PumpReg → PumpReg) : (modPump n g s).pending = s.pending := rfl
@[simp] theorem modPump_out (n : Nat) (g : PumpReg → PumpReg) : (modPump n g s).out = s.out := rfl
@[simp] theorem modPump_free (n : Nat) (g : PumpReg → PumpReg) : (modPump n g s).free = s.free := rfl

/-! ### `setOrigin` -/

@[simp] theorem setOrigin_isL (k : Nat) (o : Origin) : (setOrigin k o s).isL = s.isL := rfl
@[simp] theorem setOrigin_host (k : Nat) (o : Origin) : (setOrigin k o s).host = s.host := rfl
@[simp] theorem setOrigin_funcs (k : Nat) (o : Origin) : (setOrigin k o s).funcs = s.funcs := rfl
@[simp] theorem setOrigin_qe (k : Nat) (o : Origin) : (setOrigin k o s).qe = s.qe := rfl
@[simp] theorem setOrigin_sched (k : Nat) (o : Origin) : (setOrigin k o s).sched = s.sched := rfl
@[simp] theorem setOrigin_ports (k : Nat) (o : Origin) : (setOrigin k o s).ports = s.ports := rfl
@[simp] theorem setOrigin_iso (k : Nat) (o : Origin) : (setOrigin k o s).iso = s.iso := rfl
@[simp] theorem setOrigin_cis (k : Nat) (o : Origin) : (setOrigin k o s).cis = s.cis := rfl
@[simp] theorem setOrigin_cfg (k : Nat) (o : Origin) : (setOrigin k o s).cfg = s.cfg := rfl
@[simp] theorem setOrigin_insts (k : Nat) (o : Origin) : (setOrigin k o s).insts = s.insts := rfl
@[simp] theorem setOrigin_glb (k : Nat) (o : Origin) : (setOrigin k o s).glb = s.glb := rfl
@[simp] theorem setOrigin_cmd (k : Nat) (o : Origin) : (setOrigin k o s).cmd = s.cmd := rfl
@[simp] theorem setOrigin_fw (k : Nat) (o : Origin) : (setOrigin k o s).fw = s.fw := rfl
@[simp] theorem setOrigin_boot (k : Nat) (o : Origin) : (setOrigin k o s).boot = s.boot := rfl
@[simp] theorem setOrigin_dev (k : Nat) (o : Origin) : (setOrigin k o s).dev = s.dev := rfl
@[simp] theorem setOrigin_chans (k : Nat) (o : Origin) : (setOrigin k o s).chans = s.chans := rfl
@[simp] theorem setOrigin_pm (k : Nat) (o : Origin) : (setOrigin k o s).pm = s.pm := rfl
@[simp] theorem setOrigin_mgmt (k : Nat) (o : Origin) : (setOrigin k o s).mgmt = s.mgmt := rfl
@[simp] theorem setOrigin_pending (k : Nat) (o : Origin) : (setOrigin k o s).pending = s.pending := rfl
@[simp] theorem setOrigin_out (k : Nat) (o : Origin) : (setOrigin k o s).out = s.out := rfl
@[simp] theorem setOrigin_free (k : Nat) (o : Origin) : (setOrigin k o s).free = s.free := rfl

/-! ### `modOrigin` -/

@[simp] theorem modOrigin_isL (k : Nat) (g : Origin → Origin) : (modOrigin k g s).isL = s.isL := rfl
@[simp] theorem modOrigin_host (k : Nat) (g : Origin → Origin) : (modOrigin k g s).host = s.host := rfl
@[simp] theorem modOrigin_funcs (k : Nat) (g : Origin → Origin) : (modOrigin k g s).funcs = s.funcs := rfl
@[simp] theorem modOrigin_qe (k : Nat) (g : Origin → Origin) : (modOrigin k g s).qe = s.qe := rfl
@[simp] theorem modOrigin_sched (k : Nat) (g : Origin → Origin) : (modOrigin k g s).sched = s.sched := rfl
@[simp] theorem modOrigin_ports (k : Nat) (g : Origin → Origin) : (modOrigin k g s).ports = s.ports := rfl
@[simp] theorem modOrigin_iso (k : Nat) (g : Origin → Origin) : (modOrigin k g s).iso = s.iso := rfl
@[simp] theorem modOrigin_cis (k : Nat) (g : Origin → Origin) : (modOrigin k g s).cis = s.cis := rfl
@[simp] theorem modOrigin_cfg (k : Nat) (g : Origin → Origin) : (modOrigin k g s).cfg = s.cfg := rfl
@[simp] theorem modOrigin_insts (k : Nat) (g : Origin → Origin) : (modOrigin k g s).insts = s.insts := rfl
@[simp] theorem modOrigin_glb (k : Nat) (g : Origin → Origin) : (modOrigin k g s).glb = s.glb := rfl
@[simp] theorem modOrigin_cmd (k : Nat) (g : Origin → Origin) : (modOrigin k g s).cmd = s.cmd := rfl
@[simp] theorem modOrigin_fw (k : Nat) (g : Origin → Origin) : (modOrigin k g s).fw = s.fw := rfl
@[simp] theorem modOrigin_boot (k : Nat) (g : Origin → Origin) : (modOrigin k g s).boot = s.boot := rfl
@[simp] theorem modOrigin_dev (k : Nat) (g : Origin → Origin) : (modOrigin k g s).dev = s.dev := rfl
@[simp] theorem modOrigin_chans (k : Nat) (g : Origin → Origin) : (modOrigin k g s).chans = s.chans := rfl
@[simp] theorem modOrigin_pm (k : Nat) (g : Origin → Origin) : (modOrigin k g s).pm = s.pm := rfl
@[simp] theorem modOrigin_mgmt (k : Nat) (g : Origin → Origin) : (modOrigin k g s).mgmt = s.mgmt := rfl
@[simp] theorem modOrigin_pending (k : Nat) (g : Origin → Origin) : (modOrigin k g s).pending = s.pending := rfl
@[simp] theorem modOrigin_out (k : Nat) (g : Origin → Origin) : (modOrigin k g s).out = s.out := rfl
@[simp] theorem modOrigin_free (k : Nat) (g : Origin → Origin) : (modOrigin k g s).free = s.free := rfl

/-! ### `setChan` -/

@[simp] theorem setChan_isL (c : Nat) (x : ChanReg) : (setChan c x s).isL = s.isL := rfl
@[simp] theorem setChan_host (c : Nat) (x : ChanReg) : (setChan c x s).host = s.host := rfl
@[simp] theorem setChan_funcs (c : Nat) (x : ChanReg) : (setChan c x s).funcs = s.funcs := rfl
@[simp] theorem setChan_qe (c : Nat) (x : ChanReg) : (setChan c x s).qe = s.qe := rfl
@[simp] theorem setChan_sched (c : Nat) (x : ChanReg) : (setChan c x s).sched = s.sched := rfl
@[simp] theorem setChan_ports (c : Nat) (x : ChanReg) : (setChan c x s).ports = s.ports := rfl
@[simp] theorem setChan_iso (c : Nat) (x : ChanReg) : (setChan c x s).iso = s.iso := rfl
@[simp] theorem setChan_cis (c : Nat) (x : ChanReg) : (setChan c x s).cis = s.cis := rfl
@[simp] theorem setChan_sump (c : Nat) (x : ChanReg) : (setChan c x s).sump = s.sump := rfl
@[simp] theorem setChan_cfg (c : Nat) (x : ChanReg) : (setChan c x s).cfg = s.cfg := rfl
@[simp] theorem setChan_insts (c : Nat) (x : ChanReg) : (setChan c x s).insts = s.insts := rfl
@[simp] theorem setChan_glb (c : Nat) (x : ChanReg) : (setChan c x s).glb = s.glb := rfl
@[simp] theorem setChan_cmd (c : Nat) (x : ChanReg) : (setChan c x s).cmd = s.cmd := rfl
@[simp] theorem setChan_fw (c : Nat) (x : ChanReg) : (setChan c x s).fw = s.fw := rfl
@[simp] theorem setChan_boot (c : Nat) (x : ChanReg) : (setChan c x s).boot = s.boot := rfl
@[simp] theorem setChan_dev (c : Nat) (x : ChanReg) : (setChan c x s).dev = s.dev := rfl
@[simp] theorem setChan_pm (c : Nat) (x : ChanReg) : (setChan c x s).pm = s.pm := rfl
@[simp] theorem setChan_mgmt (c : Nat) (x : ChanReg) : (setChan c x s).mgmt = s.mgmt := rfl
@[simp] theorem setChan_pending (c : Nat) (x : ChanReg) : (setChan c x s).pending = s.pending := rfl
@[simp] theorem setChan_out (c : Nat) (x : ChanReg) : (setChan c x s).out = s.out := rfl
@[simp] theorem setChan_free (c : Nat) (x : ChanReg) : (setChan c x s).free = s.free := rfl

/-! ### `modChan` -/

@[simp] theorem modChan_isL (c : Nat) (g : ChanReg → ChanReg) : (modChan c g s).isL = s.isL := rfl
@[simp] theorem modChan_host (c : Nat) (g : ChanReg → ChanReg) : (modChan c g s).host = s.host := rfl
@[simp] theorem modChan_funcs (c : Nat) (g : ChanReg → ChanReg) : (modChan c g s).funcs = s.funcs := rfl
@[simp] theorem modChan_qe (c : Nat) (g : ChanReg → ChanReg) : (modChan c g s).qe = s.qe := rfl
@[simp] theorem modChan_sched (c : Nat) (g : ChanReg → ChanReg) : (modChan c g s).sched = s.sched := rfl
@[simp] theorem modChan_ports (c : Nat) (g : ChanReg → ChanReg) : (modChan c g s).ports = s.ports := rfl
@[simp] theorem modChan_iso (c : Nat) (g : ChanReg → ChanReg) : (modChan c g s).iso = s.iso := rfl
@[simp] theorem modChan_cis (c : Nat) (g : ChanReg → ChanReg) : (modChan c g s).cis = s.cis := rfl
@[simp] theorem modChan_sump (c : Nat) (g : ChanReg → ChanReg) : (modChan c g s).sump = s.sump := rfl
@[simp] theorem modChan_cfg (c : Nat) (g : ChanReg → ChanReg) : (modChan c g s).cfg = s.cfg := rfl
@[simp] theorem modChan_insts (c : Nat) (g : ChanReg → ChanReg) : (modChan c g s).insts = s.insts := rfl
@[simp] theorem modChan_glb (c : Nat) (g : ChanReg → ChanReg) : (modChan c g s).glb = s.glb := rfl
@[simp] theorem modChan_cmd (c : Nat) (g : ChanReg → ChanReg) : (modChan c g s).cmd = s.cmd := rfl
@[simp] theorem modChan_fw (c : Nat) (g : ChanReg → ChanReg) : (modChan c g s).fw = s.fw := rfl
@[simp] theorem modChan_boot (c : Nat) (g : ChanReg → ChanReg) : (modChan c g s).boot = s.boot := rfl
@[simp] theorem modChan_dev (c : Nat) (g : ChanReg → ChanReg) : (modChan c g s).dev = s.dev := rfl
@[simp] theorem modChan_pm (c : Nat) (g : ChanReg → ChanReg) : (modChan c g s).pm = s.pm := rfl
@[simp] theorem modChan_mgmt (c : Nat) (g : ChanReg → ChanReg) : (modChan c g s).mgmt = s.mgmt := rfl
@[simp] theorem modChan_pending (c : Nat) (g : ChanReg → ChanReg) : (modChan c g s).pending = s.pending := rfl
@[simp] theorem modChan_out (c : Nat) (g : ChanReg → ChanReg) : (modChan c g s).out = s.out := rfl
@[simp] theorem modChan_free (c : Nat) (g : ChanReg → ChanReg) : (modChan c g s).free = s.free := rfl

/-! ### `modPipe` -/

@[simp] theorem modPipe_isL (n : Nat) (g : Pipe → Pipe) : (modPipe n g s).isL = s.isL := by unfold modPipe; split <;> rfl
@[simp] theorem modPipe_host (n : Nat) (g : Pipe → Pipe) : (modPipe n g s).host = s.host := by unfold modPipe; split <;> rfl
@[simp] theorem modPipe_funcs (n : Nat) (g : Pipe → Pipe) : (modPipe n g s).funcs = s.funcs := by unfold modPipe; split <;> rfl
@[simp] theorem modPipe_qe (n : Nat) (g : Pipe → Pipe) : (modPipe n g s).qe = s.qe := by unfold modPipe; split <;> rfl
@[simp] theorem modPipe_ports (n : Nat) (g : Pipe → Pipe) : (modPipe n g s).ports = s.ports := by unfold modPipe; split <;> rfl
@[simp] theorem modPipe_iso (n : Nat) (g : Pipe → Pipe) : (modPipe n g s).iso = s.iso := by unfold modPipe; split <;> rfl
@[simp] theorem modPipe_cis (n : Nat) (g : Pipe → Pipe) : (modPipe n g s).cis = s.cis := by unfold modPipe; split <;> rfl
@[simp] theorem modPipe_sump (n : Nat) (g : Pipe → Pipe) : (modPipe n g s).sump = s.sump := by unfold modPipe; split <;> rfl
@[simp] theorem modPipe_cfg (n : Nat) (g : Pipe → Pipe) : (modPipe n g s).cfg = s.cfg := by unfold modPipe; split <;> rfl
@[simp] theorem modPipe_insts (n : Nat) (g : Pipe → Pipe) : (modPipe n g s).insts = s.insts := by unfold modPipe; split <;> rfl
@[simp] theorem modPipe_glb (n : Nat) (g : Pipe → Pipe) : (modPipe n g s).glb = s.glb := by unfold modPipe; split <;> rfl
@[simp] theorem modPipe_cmd (n : Nat) (g : Pipe → Pipe) : (modPipe n g s).cmd = s.cmd := by unfold modPipe; split <;> rfl
@[simp] theorem modPipe_fw (n : Nat) (g : Pipe → Pipe) : (modPipe n g s).fw = s.fw := by unfold modPipe; split <;> rfl
@[simp] theorem modPipe_boot (n : Nat) (g : Pipe → Pipe) : (modPipe n g s).boot = s.boot := by unfold modPipe; split <;> rfl
@[simp] theorem modPipe_dev (n : Nat) (g : Pipe → Pipe) : (modPipe n g s).dev = s.dev := by unfold modPipe; split <;> rfl
@[simp] theorem modPipe_chans (n : Nat) (g : Pipe → Pipe) : (modPipe n g s).chans = s.chans := by unfold modPipe; split <;> rfl
@[simp] theorem modPipe_pm (n : Nat) (g : Pipe → Pipe) : (modPipe n g s).pm = s.pm := by unfold modPipe; split <;> rfl
@[simp] theorem modPipe_mgmt (n : Nat) (g : Pipe → Pipe) : (modPipe n g s).mgmt = s.mgmt := by unfold modPipe; split <;> rfl
@[simp] theorem modPipe_pending (n : Nat) (g : Pipe → Pipe) : (modPipe n g s).pending = s.pending := by unfold modPipe; split <;> rfl
@[simp] theorem modPipe_out (n : Nat) (g : Pipe → Pipe) : (modPipe n g s).out = s.out := by unfold modPipe; split <;> rfl
@[simp] theorem modPipe_free (n : Nat) (g : Pipe → Pipe) : (modPipe n g s).free = s.free := by unfold modPipe; split <;> rfl

/-! ### `modXfer` -/

@[simp] theorem modXfer_isL (k : Nat) (g : Xfer → Xfer) : (modXfer k g s).isL = s.isL := by unfold modXfer; split <;> rfl
@[simp] theorem modXfer_host (k : Nat) (g : Xfer → Xfer) : (modXfer k g s).host = s.host := by unfold modXfer; split <;> rfl
@[simp] theorem modXfer_funcs (k : Nat) (g : Xfer → Xfer) : (modXfer k g s).funcs = s.funcs := by unfold modXfer; split <;> rfl
@[simp] theorem modXfer_qe (k : Nat) (g : Xfer → Xfer) : (modXfer k g s).qe = s.qe := by unfold modXfer; split <;> rfl
@[simp] theorem modXfer_sched (k : Nat) (g : Xfer → Xfer) : (modXfer k g s).sched = s.sched := by unfold modXfer; split <;> rfl
@[simp] theorem modXfer_ports (k : Nat) (g : Xfer → Xfer) : (modXfer k g s).ports = s.ports := by unfold modXfer; split <;> rfl
@[simp] theorem modXfer_iso (k : Nat) (g : Xfer → Xfer) : (modXfer k g s).iso = s.iso := by unfold modXfer; split <;> rfl
@[simp] theorem modXfer_sump (k : Nat) (g : Xfer → Xfer) : (modXfer k g s).sump = s.sump := by unfold modXfer; split <;> rfl
@[simp] theorem modXfer_cfg (k : Nat) (g : Xfer → Xfer) : (modXfer k g s).cfg = s.cfg := by unfold modXfer; split <;> rfl
@[simp] theorem modXfer_insts (k : Nat) (g : Xfer → Xfer) : (modXfer k g s).insts = s.insts := by unfold modXfer; split <;> rfl
@[simp] theorem modXfer_glb (k : Nat) (g : Xfer → Xfer) : (modXfer k g s).glb = s.glb := by unfold modXfer; split <;> rfl
@[simp] theorem modXfer_cmd (k : Nat) (g : Xfer → Xfer) : (modXfer k g s).cmd = s.cmd := by unfold modXfer; split <;> rfl
@[simp] theorem modXfer_fw (k : Nat) (g : Xfer → Xfer) : (modXfer k g s).fw = s.fw := by unfold modXfer; split <;> rfl
@[simp] theorem modXfer_boot (k : Nat) (g : Xfer → Xfer) : (modXfer k g s).boot = s.boot := by unfold modXfer; split <;> rfl
@[simp] theorem modXfer_dev (k : Nat) (g : Xfer → Xfer) : (modXfer k g s).dev = s.dev := by unfold modXfer; split <;> rfl
@[simp] theorem modXfer_chans (k : Nat) (g : Xfer → Xfer) : (modXfer k g s).chans = s.chans := by unfold modXfer; split <;> rfl
@[simp] theorem modXfer_pm (k : Nat) (g : Xfer → Xfer) : (modXfer k g s).pm = s.pm := by unfold modXfer; split <;> rfl
@[simp] theorem modXfer_mgmt (k : Nat) (g : Xfer → Xfer) : (modXfer k g s).mgmt = s.mgmt := by unfold modXfer; split <;> rfl
@[simp] theorem modXfer_pending (k : Nat) (g : Xfer → Xfer) : (modXfer k g s).pending = s.pending := by unfold modXfer; split <;> rfl
@[simp] theorem modXfer_out (k : Nat) (g : Xfer → Xfer) : (modXfer k g s).out = s.out := by unfold modXfer; split <;> rfl
@[simp] theorem modXfer_free (k : Nat) (g : Xfer → Xfer) : (modXfer k g s).free = s.free := by unfold modXfer; split <;> rfl

/-! ### `setQueue` -/

@[simp] theorem setQueue_isL (q : Nat) (x : Queue) : (setQueue q x s).isL = s.isL := by unfold setQueue; split <;> rfl
@[simp] theorem setQueue_host (q : Nat) (x : Queue) : (setQueue q x s).host = s.host := by unfold setQueue; split <;> rfl
@[simp] theorem setQueue_funcs (q : Nat) (x : Queue) : (setQueue q x s).funcs = s.funcs := by unfold setQueue; split <;> rfl
@[simp] theorem setQueue_sched (q : Nat) (x : Queue) : (setQueue q x s).sched = s.sched := by unfold setQueue; split <;> rfl
@[simp] theorem setQueue_ports (q : Nat) (x : Queue) : (setQueue q x s).ports = s.ports := by unfold setQueue; split <;> rfl
@[simp] theorem setQueue_iso (q : Nat) (x : Queue) : (setQueue q x s).iso = s.iso := by unfold setQueue; split <;> rfl
@[simp] theorem setQueue_cis (q : Nat) (x : Queue) : (setQueue q x s).cis = s.cis := by unfold setQueue; split <;> rfl
@[simp] theorem setQueue_sump (q : Nat) (x : Queue) : (setQueue q x s).sump = s.sump := by unfold setQueue; split <;> rfl
@[simp] theorem setQueue_cfg (q : Nat) (x : Queue) : (setQueue q x s).cfg = s.cfg := by unfold setQueue; split <;> rfl
@[simp] theorem setQueue_insts (q : Nat) (x : Queue) : (setQueue q x s).insts = s.insts := by unfold setQueue; split <;> rfl
@[simp] theorem setQueue_glb (q : Nat) (x : Queue) : (setQueue q x s).glb = s.glb := by unfold setQueue; split <;> rfl
@[simp] theorem setQueue_cmd (q : Nat) (x : Queue) : (setQueue q x s).cmd = s.cmd := by unfold setQueue; split <;> rfl
@[simp] theorem setQueue_fw (q : Nat) (x : Queue) : (setQueue q x s).fw = s.fw := by unfold setQueue; split <;> rfl
@[simp] theorem setQueue_boot (q : Nat) (x : Queue) : (setQueue q x s).boot = s.boot := by unfold setQueue; split <;> rfl
@[simp] theorem setQueue_chans (q : Nat) (x : Queue) : (setQueue q x s).chans = s.chans := by unfold setQueue; split <;> rfl
@[simp] theorem setQueue_pm (q : Nat) (x : Queue) : (setQueue q x s).pm = s.pm := by unfold setQueue; split <;> rfl
@[simp] theorem setQueue_mgmt (q : Nat) (x : Queue) : (setQueue q x s).mgmt = s.mgmt := by unfold setQueue; split <;> rfl
@[simp] theorem setQueue_pending (q : Nat) (x : Queue) : (setQueue q x s).pending = s.pending := by unfold setQueue; split <;> rfl
@[simp] theorem setQueue_out (q : Nat) (x : Queue) : (setQueue q x s).out = s.out := by unfold setQueue; split <;> rfl
@[simp] theorem setQueue_free (q : Nat) (x : Queue) : (setQueue q x s).free = s.free := by unfold setQueue; split <;> rfl

/-! ### `modQueue` -/

@[simp] theorem modQueue_isL (q : Nat) (g : Queue → Queue) : (modQueue q g s).isL = s.isL := by unfold modQueue; split <;> simp
@[simp] theorem modQueue_host (q : Nat) (g : Queue → Queue) : (modQueue q g s).host = s.host := by unfold modQueue; split <;> simp
@[simp] theorem modQueue_funcs (q : Nat) (g : Queue → Queue) : (modQueue q g s).funcs = s.funcs := by unfold modQueue; split <;> simp
@[simp] theorem modQueue_sched (q : Nat) (g : Queue → Queue) : (modQueue q g s).sched = s.sched := by unfold modQueue; split <;> simp
@[simp] theorem modQueue_ports (q : Nat) (g : Queue → Queue) : (modQueue q g s).ports = s.ports := by unfold modQueue; split <;> simp
@[simp] theorem modQueue_iso (q : Nat) (g : Queue → Queue) : (modQueue q g s).iso = s.iso := by unfold modQueue; split <;> simp
@[simp] theorem modQueue_cis (q : Nat) (g : Queue → Queue) : (modQueue q g s).cis = s.cis := by unfold modQueue; split <;> simp
@[simp] theorem modQueue_sump (q : Nat) (g : Queue → Queue) : (modQueue q g s).sump = s.sump := by unfold modQueue; split <;> simp
@[simp] theorem modQueue_cfg (q : Nat) (g : Queue → Queue) : (modQueue q g s).cfg = s.cfg := by unfold modQueue; split <;> simp
@[simp] theorem modQueue_insts (q : Nat) (g : Queue → Queue) : (modQueue q g s).insts = s.insts := by unfold modQueue; split <;> simp
@[simp] theorem modQueue_glb (q : Nat) (g : Queue → Queue) : (modQueue q g s).glb = s.glb := by unfold modQueue; split <;> simp
@[simp] theorem modQueue_cmd (q : Nat) (g : Queue → Queue) : (modQueue q g s).cmd = s.cmd := by unfold modQueue; split <;> simp
@[simp] theorem modQueue_fw (q : Nat) (g : Queue → Queue) : (modQueue q g s).fw = s.fw := by unfold modQueue; split <;> simp
@[simp] theorem modQueue_boot (q : Nat) (g : Queue → Queue) : (modQueue q g s).boot = s.boot := by unfold modQueue; split <;> simp
@[simp] theorem modQueue_chans (q : Nat) (g : Queue → Queue) : (modQueue q g s).chans = s.chans := by unfold modQueue; split <;> simp
@[simp] theorem modQueue_pm (q : Nat) (g : Queue → Queue) : (modQueue q g s).pm = s.pm := by unfold modQueue; split <;> simp
@[simp] theorem modQueue_mgmt (q : Nat) (g : Queue → Queue) : (modQueue q g s).mgmt = s.mgmt := by unfold modQueue; split <;> simp
@[simp] theorem modQueue_pending (q : Nat) (g : Queue → Queue) : (modQueue q g s).pending = s.pending := by unfold modQueue; split <;> simp
@[simp] theorem modQueue_out (q : Nat) (g : Queue → Queue) : (modQueue q g s).out = s.out := by unfold modQueue; split <;> simp
@[simp] theorem modQueue_free (q : Nat) (g : Queue → Queue) : (modQueue q g s).free = s.free := by unfold modQueue; split <;> simp

/-! ### What an update writes -/

@[simp] theorem emit_out (o : Out) : (emit o s).out = s.out ++ [o] := rfl
@[simp] theorem ungate_pm : (ungate s).pm = { s.pm with gated := false } := rfl
@[simp] theorem tlp_out (o : Out) : (tlp o s).out = s.out ++ [o] := rfl
@[simp] theorem tlp_host (o : Out) : (tlp o s).host = { s.host with l1 := .l0 } := rfl
@[simp] theorem tlp_pm (o : Out) : (tlp o s).pm = { s.pm with gated := false } := rfl

/-! ### Reading an element back -/

theorem fn_setFn (i j : Nat) (f : Func) : fn (setFn i f s) j = if j = i then f else fn s j :=
  getD_setD _ _ _ _ _
@[simp] theorem fn_setFn_same (i : Nat) (f : Func) : fn (setFn i f s) i = f := getD_setD_same _ _ _ _
theorem inst_setInst (i j : Nat) (x : Inst) : inst (setInst i x s) j = if j = i then x else inst s j :=
  getD_setD _ _ _ _ _
@[simp] theorem inst_setInst_same (i : Nat) (x : Inst) : inst (setInst i x s) i = x := getD_setD_same _ _ _ _
theorem port_setPort (p j : Nat) (x : PortReg) : port (setPort p x s) j = if j = p then x else port s j :=
  getD_setD _ _ _ _ _
@[simp] theorem port_setPort_same (p : Nat) (x : PortReg) : port (setPort p x s) p = x := getD_setD_same _ _ _ _
theorem psched_setPsched (p j : Nat) (x : PortSched) : psched (setPsched p x s) j = if j = p then x else psched s j :=
  getD_setD _ _ _ _ _
@[simp] theorem psched_setPsched_same (p : Nat) (x : PortSched) : psched (setPsched p x s) p = x := getD_setD_same _ _ _ _
theorem origin_setOrigin (k j : Nat) (o : Origin) : origin (setOrigin k o s) j = if j = k then o else origin s j :=
  getD_setD _ _ _ _ _
@[simp] theorem origin_setOrigin_same (k : Nat) (o : Origin) : origin (setOrigin k o s) k = o := getD_setD_same _ _ _ _
theorem chan_setChan (c j : Nat) (x : ChanReg) : chan (setChan c x s) j = if j = c then x else chan s j :=
  getD_setD _ _ _ _ _
@[simp] theorem chan_setChan_same (c : Nat) (x : ChanReg) : chan (setChan c x s) c = x := getD_setD_same _ _ _ _
theorem fn_modFn (i j : Nat) (g : Func → Func) :
    fn (modFn i g s) j = if j = i then g (fn s i) else fn s j := getD_setD _ _ _ _ _
@[simp] theorem fn_modFn_same (i : Nat) (g : Func → Func) : fn (modFn i g s) i = g (fn s i) :=
  getD_setD_same _ _ _ _
theorem inst_modInst (i j : Nat) (g : Inst → Inst) :
    inst (modInst i g s) j = if j = i then g (inst s i) else inst s j := getD_setD _ _ _ _ _
@[simp] theorem inst_modInst_same (i : Nat) (g : Inst → Inst) : inst (modInst i g s) i = g (inst s i) :=
  getD_setD_same _ _ _ _
theorem port_modPort (p j : Nat) (g : PortReg → PortReg) :
    port (modPort p g s) j = if j = p then g (port s p) else port s j := getD_setD _ _ _ _ _
@[simp] theorem port_modPort_same (p : Nat) (g : PortReg → PortReg) : port (modPort p g s) p = g (port s p) :=
  getD_setD_same _ _ _ _
theorem psched_modPsched (p j : Nat) (g : PortSched → PortSched) :
    psched (modPsched p g s) j = if j = p then g (psched s p) else psched s j := getD_setD _ _ _ _ _
@[simp] theorem psched_modPsched_same (p : Nat) (g : PortSched → PortSched) : psched (modPsched p g s) p = g (psched s p) :=
  getD_setD_same _ _ _ _
theorem origin_modOrigin (k j : Nat) (g : Origin → Origin) :
    origin (modOrigin k g s) j = if j = k then g (origin s k) else origin s j := getD_setD _ _ _ _ _
@[simp] theorem origin_modOrigin_same (k : Nat) (g : Origin → Origin) : origin (modOrigin k g s) k = g (origin s k) :=
  getD_setD_same _ _ _ _
theorem chan_modChan (c j : Nat) (g : ChanReg → ChanReg) :
    chan (modChan c g s) j = if j = c then g (chan s c) else chan s j := getD_setD _ _ _ _ _
@[simp] theorem chan_modChan_same (c : Nat) (g : ChanReg → ChanReg) : chan (modChan c g s) c = g (chan s c) :=
  getD_setD_same _ _ _ _
theorem ptime_modPtime (p j : Nat) (g : PortTime → PortTime) :
    ptime (modPtime p g s) j = if j = p then g (ptime s p) else ptime s j := getD_setD _ _ _ _ _
@[simp] theorem ptime_modPtime_same (p : Nat) (g : PortTime → PortTime) : ptime (modPtime p g s) p = g (ptime s p) :=
  getD_setD_same _ _ _ _
theorem pump_modPump (n j : Nat) (g : PumpReg → PumpReg) :
    pump (modPump n g s) j = if j = n then g (pump s n) else pump s j := getD_setD _ _ _ _ _
@[simp] theorem pump_modPump_same (n : Nat) (g : PumpReg → PumpReg) : pump (modPump n g s) n = g (pump s n) :=
  getD_setD_same _ _ _ _

theorem vec_setVec (i v j w : Nat) (x : MsixVec) :
    vec (setVec i v x s) j w = if j = i ∧ w = v then x else vec s j w := by
  unfold vec setVec
  rw [fn_modFn]
  by_cases h : j = i
  · subst h; simp [getD_setD]
  · simp [h]

@[simp] theorem pipe_setPipe_same (n : Nat) (x : Pipe) : pipe (setPipe n x s) n = some x := find_insert_same _ _ _
theorem pipe_setPipe_other {n m : Nat} (x : Pipe) (h : m ≠ n) : pipe (setPipe n x s) m = pipe s m :=
  find_insert_other _ _ h
@[simp] theorem pipe_delPipe_same (n : Nat) : pipe (delPipe n s) n = none := find_erase_same _ _
theorem pipe_delPipe_other {n m : Nat} (h : m ≠ n) : pipe (delPipe n s) m = pipe s m := find_erase_other _ h

theorem pipe_modPipe (n m : Nat) (g : Pipe → Pipe) :
    pipe (modPipe n g s) m = if m = n then (pipe s n).map g else pipe s m := by
  unfold modPipe
  split
  · rename_i x hx
    split_ifs with h
    · subst h; simp [hx]
    · exact pipe_setPipe_other s _ h
  · rename_i hx
    split_ifs with h
    · subst h; simp [hx]
    · rfl

@[simp] theorem xfer_setXfer_same (k : Nat) (x : Xfer) : xfer (setXfer k x s) k = some x := find_insert_same _ _ _
theorem xfer_setXfer_other {k m : Nat} (x : Xfer) (h : m ≠ k) : xfer (setXfer k x s) m = xfer s m :=
  find_insert_other _ _ h

@[simp] theorem queue_setQueue_same (q : Nat) (x : Queue) : queue (setQueue q x s) q = some x := by
  unfold setQueue queue
  split_ifs
  · rfl
  · exact find_insert_same _ _ _

theorem queue_setQueue_other {q m : Nat} (x : Queue) (h : m ≠ q) : queue (setQueue q x s) m = queue s m := by
  unfold setQueue queue
  split_ifs <;> first | omega | rfl | exact find_insert_other _ _ h

@[simp] theorem queue_delQueue_same {q : Nat} (h : q ≠ 4096) : queue (delQueue q s) q = none := by
  unfold delQueue queue
  rw [if_neg h]
  exact find_erase_same _ _

@[simp] theorem halfReg_modHalf_same (p h : Nat) (g : HalfReg → HalfReg) :
    halfReg (modHalf p h g s) p h = g (halfReg s p h) := by
  unfold halfReg modHalf
  split_ifs <;> simp

theorem halfReg_modHalf_other {p h q k : Nat} (g : HalfReg → HalfReg) (n : q ≠ p ∨ (k = 0 ↔ h ≠ 0)) :
    halfReg (modHalf p h g s) q k = halfReg s q k := by
  unfold halfReg modHalf
  rw [port_modPort]
  split_ifs <;> simp_all

@[simp] theorem engine_modEngine_same (p h : Nat) (g : Engine → Engine) :
    engine (modEngine p h g s) p h = g (engine s p h) := by
  unfold engine modEngine
  split_ifs <;> simp

theorem engine_modEngine_other {p h q k : Nat} (g : Engine → Engine) (n : q ≠ p ∨ (k = 0 ↔ h ≠ 0)) :
    engine (modEngine p h g s) q k = engine s q k := by
  unfold engine modEngine
  rw [port_modPort]
  split_ifs <;> simp_all

@[simp] theorem halfReg_modEngine (p h q k : Nat) (g : Engine → Engine) :
    halfReg (modEngine p h g s) q k = halfReg s q k := by
  unfold halfReg modEngine
  rw [port_modPort]
  split_ifs <;> simp_all

@[simp] theorem engine_modHalf (p h q k : Nat) (g : HalfReg → HalfReg) :
    engine (modHalf p h g s) q k = engine s q k := by
  unfold engine modHalf
  rw [port_modPort]
  split_ifs <;> simp_all

end Sys2Proof.Machine
end

