-- ==== Sys2Proof/Laws/Read.lean ====
section
/-! SUPPORT. What a frame says of the accessors: a part that is not listed reads as before. -/

set_option Elab.async false

namespace Sys2Proof.Machine

open Sys2Proof

variable {ps : List Part} {s t : State}

theorem Touches.halfReg (h : Touches ps s t) (n : .halves ∉ ps) (p k : Nat) : halfReg t p k = halfReg s p k := by
  have e := h .halves n p
  simp only [Prod.mk.injEq] at e
  unfold Machine.halfReg
  rw [e.1, e.2]

theorem Touches.engine (h : Touches ps s t) (n : .engines ∉ ps) (p k : Nat) : engine t p k = engine s p k := by
  have e := h .engines n p
  simp only [Prod.mk.injEq] at e
  unfold Machine.engine
  rw [e.1, e.2]

theorem Touches.units (h : Touches ps s t) (n : .units ∉ ps) (p : Nat) :
    (port t p).units = (port s p).units ∧ (port t p).reserved = (port s p).reserved := by
  have e := h .units n p
  simpa only [Prod.mk.injEq] using e

theorem Touches.pipe (h : Touches ps s t) (n : .sched ∉ ps) (k : Nat) : pipe t k = pipe s k := by
  unfold Machine.pipe; rw [show t.sched = s.sched from h .sched n]

theorem Touches.psched (h : Touches ps s t) (n : .sched ∉ ps) (p : Nat) : psched t p = psched s p := by
  unfold Machine.psched; rw [show t.sched = s.sched from h .sched n]

theorem Touches.ptime (h : Touches ps s t) (n : .portTime ∉ ps) (p : Nat) : ptime t p = ptime s p := by
  unfold Machine.ptime; rw [show t.iso.ports = s.iso.ports from h .portTime n]

theorem Touches.xfer (h : Touches ps s t) (n : .cistern ∉ ps) (k : Nat) : xfer t k = xfer s k := by
  unfold Machine.xfer; rw [show t.cis = s.cis from h .cistern n]

theorem Touches.pump (h : Touches ps s t) (n : .cistern ∉ ps) (k : Nat) : pump t k = pump s k := by
  unfold Machine.pump; rw [show t.cis = s.cis from h .cistern n]

theorem Touches.chan (h : Touches ps s t) (n : .chans ∉ ps) (c : Nat) : chan t c = chan s c := by
  unfold Machine.chan; rw [show t.chans = s.chans from h .chans n]

theorem Touches.origin (h : Touches ps s t) (n : .origins ∉ ps) (k : Nat) : origin t k = origin s k := by
  have e := h .origins n
  simp only [Part.Same, Prod.mk.injEq] at e
  unfold Machine.origin; rw [e.1]

theorem Touches.cfg (h : Touches ps s t) (n : .sets ∉ ps) (o : Nat) : cfg t o = cfg s o := by
  unfold Machine.cfg; rw [show t.cfg = s.cfg from h .sets n]

theorem Touches.vec (h : Touches ps s t) (n : .fnMsg ∉ ps) (i v : Nat) : vec t i v = vec s i v := by
  have e := h .fnMsg n i
  simp only [Prod.mk.injEq] at e
  unfold Machine.vec; rw [e.2]

/-- A queue reads as before, the tunnel's among them. -/
theorem Touches.queue (h : Touches ps s t) (n : .queues ∉ ps) (m : .tunnel ∉ ps) (q : Nat) : queue t q = queue s q := by
  have e := h .tunnel m
  simp only [Part.Same, Prod.mk.injEq] at e
  unfold Machine.queue
  rw [show t.qe.queues = s.qe.queues from h .queues n, e.1]

/-- The state of an instance is as before. -/
theorem Touches.instSt (h : Touches ps s t) (n : .instState ∉ ps) (i : Nat) : (inst t i).st = (inst s i).st := by
  have e := h .instState n i
  simp only [Prod.mk.injEq] at e
  exact e.1

end Sys2Proof.Machine
end

