-- ==== Sys2Proof/Laws/Bursts.lean ====
section
/-! SUPPORT. The pipes of the burst descriptors and the error counters of the engines: what leaves them alone, what a
settlement, the end of a burst, an error and an error that goes to the sump do to them. -/

set_option Elab.async false

namespace Sys2Proof.Machine

open Sys2Proof

theorem engine_congr {s : State} {p h k : Nat} (e : k = 0 ↔ h = 0) : engine s p k = engine s p h := by
  unfold engine; simp only [e]

theorem engine_modEngine (s : State) (p h q k : Nat) (g : Engine → Engine) :
    engine (modEngine p h g s) q k = if q = p ∧ (k = 0 ↔ h = 0) then g (engine s p h) else engine s q k := by
  by_cases c : q = p ∧ (k = 0 ↔ h = 0)
  · obtain ⟨rfl, e⟩ := c
    rw [if_pos ⟨rfl, e⟩, engine_congr e, engine_modEngine_same]
  · rw [if_neg c]
    exact engine_modEngine_other s g (by tauto)

/-- The pipes of the burst descriptors and the error counters of every engine are as before. -/
def SameBursts (s t : State) : Prop := ∀ p h, (engine t p h).bursts = (engine s p h).bursts

theorem SameBursts.refl (s : State) : SameBursts s s := fun _ _ => rfl
theorem SameBursts.trans {s t u : State} (h : SameBursts s t) (k : SameBursts t u) : SameBursts s u :=
  fun p q => (k p q).trans (h p q)
theorem SameBursts.ite {c : Prop} [Decidable c] {s t u : State} (h : SameBursts s t) (k : SameBursts s u) :
    SameBursts s (if c then t else u) := by split <;> assumption
theorem Eff.sameBursts {ps : List Part} {s t : State} (h : Eff ps s t) (n : .bursts ∉ ps := by decide) :
    SameBursts s t := fun p k => by
  have e := h.touches .bursts n p
  simp only [Prod.mk.injEq] at e
  unfold engine
  split
  · exact e.1
  · exact e.2

/-- A descriptor of a pipe is there after just where one was there before. -/
theorem SameBursts.gone {s t : State} (hs : SameBursts s t) {p h n : Nat}
    (g : ∀ e ∈ (engine s p h).descs, e.pipe ≠ n) : ∀ e ∈ (engine t p h).descs, e.pipe ≠ n := by
  intro e he hn
  have : n ∈ (engine t p h).descs.map (fun d => d.pipe) := List.mem_map.mpr ⟨e, he, hn⟩
  rw [show (engine t p h).descs.map (fun d => d.pipe) = _ from congrArg Prod.fst (hs p h)] at this
  obtain ⟨d, hd, hd'⟩ := List.mem_map.mp this
  exact g d hd hd'

/-- The error counters of every engine are as before. -/
def SameErrs (s t : State) : Prop := ∀ p h, (engine t p h).retries = (engine s p h).retries ∧
  (engine t p h).xerrs = (engine s p h).xerrs

theorem SameErrs.refl (s : State) : SameErrs s s := fun _ _ => ⟨rfl, rfl⟩
theorem SameErrs.trans {s t u : State} (h : SameErrs s t) (k : SameErrs t u) : SameErrs s u :=
  fun p q => ⟨(k p q).1.trans (h p q).1, (k p q).2.trans (h p q).2⟩
theorem SameErrs.ite {c : Prop} [Decidable c] {s t u : State} (h : SameErrs s t) (k : SameErrs s u) :
    SameErrs s (if c then t else u) := by split <;> assumption
theorem SameBursts.errs {s t : State} (h : SameBursts s t) : SameErrs s t := fun p q => by
  have := h p q
  simp only [Engine.bursts, Prod.mk.injEq] at this
  exact this.2
theorem Eff.sameErrs {ps : List Part} {s t : State} (h : Eff ps s t) (n : .bursts ∉ ps := by decide) :
    SameErrs s t := (h.sameBursts n).errs
theorem modEngine_sameErrs {p h : Nat} {g : Engine → Engine} {s : State} (hg : ∀ e,
    (g e).retries = e.retries ∧ (g e).xerrs = e.xerrs) : SameErrs s (modEngine p h g s) := by
  intro q k
  rw [engine_modEngine]
  split_ifs with c
  · obtain ⟨rfl, e⟩ := c
    rw [engine_congr e]
    exact hg _
  · exact ⟨rfl, rfl⟩

theorem descOf_some {s : State} {n : Nat} {x : Pipe} {d : Desc} (h : descOf s n = some (x, d)) :
    pipe s n = some x ∧ (engine s x.port (pHalf x)).descs.find? (fun d => d.pipe = n) = some d := by
  unfold descOf at h
  cases hp : pipe s n with
  | none => simp [hp] at h
  | some y =>
    simp only [hp] at h
    cases hd : (engine s y.port (pHalf y)).descs.find? (fun d => d.pipe = n) with
    | none => simp [hd] at h
    | some e =>
      simp only [hd, Option.some.injEq, Prod.mk.injEq] at h
      obtain ⟨rfl, rfl⟩ := h
      exact ⟨rfl, hd⟩

/-- What a settlement does to the engines: the descriptors of the pipe go, and nothing else changes. -/
theorem settleBurst_bursts {n : Nat} {s : State} {x : Pipe} {d : Desc} (h : descOf s n = some (x, d)) :
    SameBursts (modEngine x.port (pHalf x) (fun e => { e with descs := e.descs.filter (fun d => d.pipe ≠ n) }) s)
      (settleBurst n s) := by
  unfold settleBurst
  rw [h]
  dsimp -zeta only
  extract_lets p back s1 s2 s0 s4 s3
  have h2 : SameBursts s1 s2 := .ite idleStart_eff.sameBursts (.refl _)
  have h0 : SameBursts s2 s0 := sendSignals_eff.sameBursts
  have h4 : SameBursts s0 s4 := chargeRoom_eff.sameBursts
  have h3 : SameBursts s0 s3 :=
    .ite (.refl _) (.ite (h4.trans (modPipe_eff.sameBursts.trans modPsched_eff.sameBursts)) h4)
  refine ((h2.trans h0).trans h3).trans ?_
  cases d.group with
  | some g => exact .ite (.refl _) modPsched_eff.sameBursts
  | none => exact .refl _

theorem settleBurst_gone {n : Nat} {x : Pipe} {s : State} (hx : pipe s n = some x) :
    ∀ e ∈ (engine (settleBurst n s) x.port (pHalf x)).descs, e.pipe ≠ n := by
  cases h : descOf s n with
  | some r =>
    obtain ⟨y, d⟩ := r
    obtain rfl : y = x := by simpa [hx] using (descOf_some h).1.symm
    refine (settleBurst_bursts h).gone ?_
    rw [engine_modEngine_same]
    intro e he
    simpa using (List.mem_filter.mp he).2
  | none =>
    unfold settleBurst
    rw [h]
    intro e he hp
    unfold descOf at h
    simp only [hx] at h
    cases hf : (engine s x.port (pHalf x)).descs.find? (fun d => d.pipe = n) with
    | none => exact (List.find?_eq_none.mp hf) e he (by simpa using hp)
    | some d => simp [hf] at h

theorem settleBurst_sameErrs {n : Nat} {s : State} : SameErrs s (settleBurst n s) := by
  cases h : descOf s n with
  | some r =>
    obtain ⟨x, d⟩ := r
    have h0 : SameErrs s (modEngine x.port (pHalf x) (fun e => { e with descs := e.descs.filter (fun d => d.pipe ≠ n) }) s) :=
      modEngine_sameErrs (fun _ => ⟨rfl, rfl⟩)
    exact h0.trans (settleBurst_bursts h).errs
  | none => unfold settleBurst; rw [h]; exact .refl _

/-- What a function that answers by way of `modXfer` on the pipe's transfer leaves. -/
theorem onXfer_sameBursts {x : Pipe} {g : Xfer → Xfer} {s : State} :
    SameBursts s (match x.x with | some k => modXfer k g s | none => s) := by
  split
  · exact modXfer_eff.sameBursts
  · exact .refl _

theorem errorOut_bursts {n : Nat} {x : Pipe} {a b : Nat} {s : State} : SameBursts
    (settleBurst n (modPipe n (fun y => { y with
      leftPkts := 0, errs := 0, repeats := 0, splitOut := false, splits := [] }) (stampPipe x s)))
    (errorOut n x a b s) := by
  unfold errorOut
  extract_lets s1 s2 s3 s4 h
  have h3 : SameBursts s2 s3 := onXfer_sameBursts
  have h4 : SameBursts s3 s4 := streamFailed_eff.sameBursts.trans freeTt_eff.sameBursts
  exact (h3.trans h4).trans (report_eff.sameBursts.trans (closeDone_eff.sameBursts.trans startNext_eff.sameBursts))

/-- A change of a pipe leaves it on its half. -/
theorem modPipe_place {n : Nat} {g : Pipe → Pipe} {y : Pipe} {s : State}
    (hg : ∀ z, (g z).port = z.port ∧ pHalf (g z) = pHalf z) (hx : pipe s n = some y) :
    ∃ z, pipe (modPipe n g s) n = some z ∧ z.port = y.port ∧ pHalf z = pHalf y :=
  ⟨g y, by rw [pipe_modPipe, if_pos rfl, hx, Option.map_some], (hg y).1, (hg y).2⟩

theorem stampPipe_pipe {n : Nat} {x : Pipe} {s : State} : pipe (stampPipe x s) n = pipe s n :=
  stampPipe_eff.touches.pipe (by decide) n

theorem errorOut_sameErrs {n : Nat} {x : Pipe} {a b : Nat} {s : State} : SameErrs s (errorOut n x a b s) :=
  (stampPipe_eff.sameErrs.trans (modPipe_eff.sameErrs.trans settleBurst_sameErrs)).trans errorOut_bursts.errs

/-- An error that goes to the sump takes the burst off its engine. -/
theorem errorOut_gone {n : Nat} {x y : Pipe} {a b : Nat} {s : State} (hx : pipe s n = some y) :
    ∀ e ∈ (engine (errorOut n x a b s) y.port (pHalf y)).descs, e.pipe ≠ n := by
  obtain ⟨z, hz, hp, hh⟩ := modPipe_place (g := fun y => { y with
    leftPkts := 0, errs := 0, repeats := 0, splitOut := false, splits := [] }) (fun _ => ⟨rfl, rfl⟩)
    ((stampPipe_pipe (x := x)).trans hx)
  refine errorOut_bursts.gone ?_
  rw [← hp, ← hh]
  exact settleBurst_gone hz

/-- The end of a burst, past its settlement, leaves every engine its descriptors' pipes and counters. -/
theorem finishBurst_bursts {n : Nat} {how : BurstEnd} {x : Pipe} {d : Desc} {s : State}
    (h : descOf s n = some (x, d)) : SameBursts (settleBurst n s) (finishBurst n how s) := by
  unfold finishBurst
  rw [h]
  dsimp -zeta only
  extract_lets left s1 s2 s3 s4 s5 s6
  have h2 : SameBursts s1 s2 := onXfer_sameBursts
  have h3 : SameBursts s2 s3 := modPipe_eff.sameBursts
  have h4 : SameBursts s3 s4 := .ite retryStore_eff.sameBursts (.refl _)
  have h5 : SameBursts s4 s5 := streamAfter_eff.sameBursts.trans freeTt_eff.sameBursts
  have h6 : SameBursts s5 s6 := by
    unfold s6
    cases x.state with
    | active => exact burstState_eff.sameBursts
    | closing => exact burstClosed_eff.sameBursts
    | _ => exact .refl _
  exact ((((h2.trans h3).trans h4).trans h5).trans h6).trans
    (drainCheck_eff.sameBursts.trans (closeDone_eff.sameBursts.trans
      (streamEmpty_eff.sameBursts.trans startNext_eff.sameBursts)))

theorem finishBurst_sameErrs {n : Nat} {how : BurstEnd} {s : State} : SameErrs s (finishBurst n how s) := by
  cases h : descOf s n with
  | some r =>
    obtain ⟨x, d⟩ := r
    exact settleBurst_sameErrs.trans (finishBurst_bursts h).errs
  | none => unfold finishBurst; rw [h]; exact .refl _

/-- The end of a burst takes it off its engine. -/
theorem finishBurst_gone {n : Nat} {how : BurstEnd} {x : Pipe} {d : Desc} {s : State}
    (h : descOf s n = some (x, d)) :
    ∀ e ∈ (engine (finishBurst n how s) x.port (pHalf x)).descs, e.pipe ≠ n :=
  (finishBurst_bursts h).gone (settleBurst_gone (descOf_some h).1)

theorem retryNow_sameErrs {n : Nat} {x : Pipe} {d : Desc} {a : Nat} {s : State} : SameErrs s (retryNow n x d a s) := by
  unfold retryNow
  have k : Eff [.sched, .engines] s (modDesc n (fun d => { d with csplit := false, csOut := false }) (chargeMore n a s)) :=
    modDesc_eff (fun _ => rfl) (chargeMore_eff.step (Eff.refl _ _))
  have h0 := k.sameErrs
  refine .ite (h0.trans resend_eff.sameErrs) ?_
  extract_lets s1
  have h1 : SameErrs s s1 := h0.trans onXfer_sameBursts.errs
  exact h1.trans (modEngine_sameErrs (fun _ => ⟨rfl, rfl⟩))

/-- What an error of Table 7-2 counts: a retry, or at the third the error that ends the burst. -/
theorem busError_counts {n : Nat} {x : Pipe} {d : Desc} {a b : Nat} {ra : Bool} {s : State} (hx : pipe s n = some x)
    (hk : x.kind ≠ .iso) (hc : x.state ≠ .closing) : let t := busError n x d a b ra s
      (engine t x.port (pHalf x)).retries = (engine s x.port (pHalf x)).retries + (if x.errs < 2 then 1 else 0) ∧
      (engine t x.port (pHalf x)).xerrs = (engine s x.port (pHalf x)).xerrs + (if x.errs < 2 then 0 else 1) ∧
      (2 ≤ x.errs → ∀ e ∈ (engine t x.port (pHalf x)).descs, e.pipe ≠ n) := by
  intro t
  obtain ⟨s1, e1⟩ : ∃ u, u = modDesc n (fun d => { d with used := d.used + b, csOut := false }) (stampPipe x s) := ⟨_, rfl⟩
  have h1 : Eff [.sched, .cistern, .engines] s s1 := by
    rw [e1]; exact modDesc_eff (fun _ => rfl) (stampPipe_eff.step (Eff.refl _ _))
  have p1 : pipe s1 n = some x := by
    rw [e1]; unfold modDesc; split <;> exact stampPipe_pipe.trans hx
  have b1 := (h1.sameErrs (by decide)) x.port (pHalf x)
  by_cases he : 2 ≤ x.errs
  · have ht : t = errorOut n x 4 a (modEngine x.port (pHalf x) (fun e => { e with xerrs := e.xerrs + 1 }) s1) := by
      simp only [t, busError]; rw [if_neg hk, if_neg hc, if_pos he, e1]
    have h2 := errorOut_sameErrs (n := n) (x := x) (a := 4) (b := a)
      (s := modEngine x.port (pHalf x) (fun e => { e with xerrs := e.xerrs + 1 }) s1) x.port (pHalf x)
    rw [← ht, engine_modEngine_same] at h2
    refine ⟨?_, ?_, fun _ => ?_⟩
    · rw [h2.1, if_neg (by omega)]; simpa using b1.1
    · rw [h2.2, if_neg (by omega)]; simpa using b1.2
    · rw [ht]; exact errorOut_gone p1
  · have key : ∀ u, SameErrs (modEngine x.port (pHalf x) (fun e => { e with retries := e.retries + 1 })
        (modPipe n (fun y => { y with errs := y.errs + 1 }) s1)) u →
        (engine u x.port (pHalf x)).retries = (engine s x.port (pHalf x)).retries + (if x.errs < 2 then 1 else 0) ∧
        (engine u x.port (pHalf x)).xerrs = (engine s x.port (pHalf x)).xerrs + (if x.errs < 2 then 0 else 1) ∧
        (2 ≤ x.errs → ∀ e ∈ (engine u x.port (pHalf x)).descs, e.pipe ≠ n) := by
      intro u hu
      have h3 := hu x.port (pHalf x)
      rw [engine_modEngine_same] at h3
      have h4 := (h1.sameErrs.trans (modPipe_eff (n := n) (g := fun y => { y with errs := y.errs + 1 })).sameErrs)
        x.port (pHalf x)
      refine ⟨?_, ?_, fun h => absurd h he⟩
      · rw [h3.1, if_pos (by omega), ← h4.1]
      · rw [h3.2, if_pos (by omega), ← h4.2]; simp
    apply key
    simp only [t, busError]
    rw [if_neg hk, if_neg hc, if_neg he, ← e1]
    generalize modEngine _ _ _ (modPipe n _ s1) = u
    refine .ite finishBurst_sameErrs (.ite (.ite sendAck_eff.sameErrs (.ite ?_ resend_eff.sameErrs)) ?_)
    · exact (modDesc_eff (ps := [.engines]) (g := fun d => { d with isOver := true, withdrawn := true }) (fun _ => rfl)
        (Eff.refl _ u)).sameErrs
    · exact .ite retryNow_sameErrs finishBurst_sameErrs

end Sys2Proof.Machine
end

