-- ==== Sys2Proof/WellFormed.lean ====
section
/-! DEFINITION. Well-formed commands: an operand that a Lean type does not bound lies in the range that the spec gives
it. A command outside these ranges names nothing that can arrive at the block. -/

namespace Sys2Proof

/-- The virtual functions 1–255, the instances with a mailbox (R290, R300). -/
def Fn.isVf (i : Fn) : Bool := i ≠ 0

/-- A vector that a function has: 256 on the physical function, 16 on a virtual one (R41). -/
def vectorOk (i v : Fn) : Bool := i = 0 || v.val < 16

/-- A USB wire packet's sequence number (R194): five bits on half 0; the toggle is one of them. -/
def InPacket.wf (p : InPacket) : Bool := p.seq < 32 && p.data.length ≤ 1024

/-- The answer of a probe (R267): the link state is a code of four bits. -/
def ProbeAnswer.wf : ProbeAnswer → Bool
  | .noAnswer => true
  | .status _ _ _ _ l => l < 16

/-- An entry fetch brings one to sixty-four slots (R75). -/
def FetchAnswer.wf : FetchAnswer → Bool
  | .data slots => 1 ≤ slots.length && slots.length ≤ 64
  | .error _ => true

/-- A read is of at most 4,096 bytes (R39). -/
def ReadAnswer.wf : ReadAnswer → Bool
  | .data bs => bs.length ≤ 4096
  | .error _ => true

/-- Well-formedness of a command. -/
def Instr.wf : Instr → Bool
  | .registerWrite _ off _ => off < 0x1000000
  | .offBlockAccess _ off n _ _ => off < 0x1000000 && 1 ≤ n
  | .entryFetchReturn _ _ a => a.wf
  | .moderationTimerExpiry i v | .pendingMsixRelease i v | .msixVectorUnmask i v => vectorOk i v
  | .linkTrained sp w _ => sp ≠ 0 && (w = 1 || w = 2 || w = 4 || w = 8)
  | .vfFunctionLevelReset i | .instanceResetEnd i _ | .instanceRemovalEnd i | .mailboxT2mPost i | .mailboxT2mAck i
  | .mailboxM2tPost i | .mailboxM2tAck i | .rstDoneClear i => i.isVf
  | .mailboxPaneWrite _ i _ off bytes => i.isVf && bytes ≠ [] && off.val + bytes.length ≤ 256
  | .dataPacketReceived _ p => p.wf
  | .ackReceived _ a => a.numP ≤ 16
  | .erdyReceived _ st => st < 65536
  | .probeResult _ _ a => a.wf
  | .busIntervalAdjustment _ _ v => -32768 ≤ v && v < 32768
  | .portResetComplete _ h sp => if h = 0 then sp.val < 4 else 4 ≤ sp.val
  | .setConfiguration v => v < 65536
  | .setInterface i a => i < 65536 && a < 65536
  | .notice _ _ bs => bs.length < 65536
  | .slotBackgroundCheck im => im.header.length = 256
  | .stageChunkReadReturn first a => first < 65536 && a.wf
  | .wakeSourceFired b _ => 2 ≤ b.val
  | .wakeStepTimeout _ st => 2 ≤ st.val && st.val ≤ 6
  | .doorbellWrite .. | .unsupportedRequestRx .. | .poisonedWriteRx .. | .isoMicRead | .indexCellReadReturn ..
  | .completionTimeout .. | .lateCompletionRx .. | .barrierReadReturn .. | .fetchTurn | .fenceSignal ..
  | .fenceWaitSatisfied .. | .evqPollTimer .. | .adminQueueEnable .. | .adminQueueDisable .. | .pmeResendTimer ..
  | .l1IdleTimeout | .linkRecovery | .linkReset .. | .powerStateWrite .. | .busMasterEnableWrite ..
  | .msixEnableWrite .. | .vfEnableWrite .. | .pfFunctionLevelReset | .schedulerDecision .. | .masterIntervalTick
  | .portIntervalTick .. | .contextFill .. | .burstEnd .. | .nrdyReceived .. | .stallReceived .. | .nakReceived ..
  | .nyetReceived .. | .hubErrReceived .. | .responseTimeout .. | .sweepComplete .. | .endOfFrameGuard ..
  | .splitCloseTimeout .. | .functionWakeNotification .. | .u1U2RequestRx .. | .linkIdleTimeout ..
  | .lpmIdleTimeout .. | .linkU0Reached .. | .portReset .. | .warmPortReset .. | .portDisable .. | .portSuspend ..
  | .portResume .. | .portPowerWrite .. | .ccLevelChange .. | .ccDebounceExpiry .. | .ssTrainingComplete ..
  | .trainingFailed .. | .usb2ConnectDebounce .. | .disconnectDetected .. | .linkFailure .. | .portResetTimeout ..
  | .suspendComplete .. | .resumeComplete .. | .u3ExitTimeout .. | .unitWake .. | .lane1Loss .. | .lockAcquired ..
  | .acquisitionTimeout | .arefPhaseError | .arefLost | .arefRangeChange .. | .holdoverTimeout | .sharedPageGrant
  | .jobBind .. | .sliceExpiry .. | .pumpReadIssue | .pumpReadCompletion .. | .pumpWriteIssue .. | .pumpPauseSet ..
  | .pumpPauseClear .. | .pumpHaltAck .. | .cellarChannelFail .. | .cellarScrub .. | .undefinedCommand ..
  | .queueCreate .. | .queueDelete .. | .queueEnable .. | .queueDisable .. | .unitAddress ..
  | .setAddressRecoveryEnd .. | .unitRelease .. | .unitAssign .. | .pipeOpen .. | .pipeClose .. | .pipeStop ..
  | .pipeStart .. | .pipeReset .. | .pipeQuery .. | .originRelease .. | .originDrop .. | .logRead .. | .pumpAck ..
  | .cfgWrite .. | .cfgRead .. | .cfgCopy .. | .cfgSwap .. | .cfgSwapCommit | .portService .. | .pumpService ..
  | .cellarService .. | .pmEnter .. | .chanBind .. | .fwStage .. | .flashChunkProgrammed .. | .fwActivate ..
  | .fwReadyReport .. | .fwReadyTimeout .. | .bootRecordWritten | .fwQuery .. | .diagEcho .. | .diagLoopback ..
  | .devportEnable .. | .devportDisable .. | .devportRemoteWake .. | .devVbusPresent .. | .devVbusAbsent ..
  | .devportBusReset .. | .devportSuspend | .devportHostResume .. | .getDescriptor .. | .setAddress ..
  | .setFeature .. | .getInfo .. | .getExports .. | .getLog .. | .unknownVendorRequest .. | .tunnelRequest .. | .tunnelCancel ..
  | .seatClose .. | .seatOpen .. | .seatDebounceExpiry .. | .vbusGoodReached .. | .rampTimeout .. | .hardShort ..
  | .thermalModelUpdate .. | .supplyLow .. | .supplyRestored .. | .onLimitTimeout .. | .coolGateOpen ..
  | .channelEnable .. | .channelDisable .. | .channelClr .. | .pmRefusersCleared | .pmGraceExpiry ..
  | .fabClockGate | .wakePinAssert .. | .wakeTimerExpiry .. | .powerOn .. | .powerFail | .powerFailRestart ..
  | .xtal32kReady | .xtal32kTimeout | .dieOvertempTrip | .ident .. | .status .. | .capacity ..
  | .thermal .. | .channels .. | .faults .. | .smbusUnsupported .. | .smbusClockTimeout | .uartRxCharacter .. | .bypass ..
  | .idcode | .samplePreload .. | .extest | .clamp | .highz | .instanceResetCommand .. | .perstDeassert
  | .configSpaceWrite .. | .vaonLoss | .arefReturn .. | .cellarTrainingLoss .. | .pollingTimeout ..
  | .devportLpmRequest .. | .tunnelInSelection .. | .loopbackDurationEnd .. => true

end Sys2Proof
end

