-- ==== Sys2Proof/Tests/Slice0.lean ====
section
/-! SUPPORT. Tests of the author: the well-formedness smoke test, small steps, and for every statement with hypotheses a
state and operands that meet them, clause by clause. Expected values come from the spec's tables. -/

set_option Elab.async false

namespace Sys2Proof.Tests
open Sys2Proof Sys2Proof.Machine

/-! ### Helper states -/

/-- Firmware runs, the link is up, function 0 may be reached, and the timebase runs. -/
def up : State :=
  { State.reset with
    boot := { State.reset.boot with up := true, fwReady := true, perst := false }
    host := { State.reset.host with linkUp := true, speed := 5, width := 8 }
    funcs := [(0, { memEnable := true, busMaster := true, msixEnable := true })]
    iso := { State.reset.iso with running := true, mic := 1000 }
    insts := [(0, { st := .active })]
    fw := { State.reset.fw with aValid := true }
    glb := { State.reset.glb with c0 := { inSvc := true }, c1 := { inSvc := true }, sizeGib := 8 }
    sump := { State.reset.sump with logCap := 1000 } }

/-- `up` with a tenant instance 3 whose function may be reached. -/
def tenant3 : State :=
  { up with
    host := { up.host with vfEnable := true, numVfs := 4 }
    funcs := up.funcs ++ [(3, { memEnable := true, busMaster := true, msixEnable := true })]
    insts := up.insts ++ [(3, { st := .active })] }

/-- `up` with vector v of function 0 unmasked, its timer running and its cause pending. -/
def withVec (masked : Bool) (st : DState) : State :=
  setVec 0 3 { addrLo := 0xFEE00000, data := 0x41, masked := masked, pending := true, cnt := 2, timer := true }
    (modFn 0 (fun f => { f with dstate := st, pmeStatus := true, pmeEnable := true }) up)

/-- An attached entry of the given opcode and length on pipe 10. -/
def entOf (i op len : Word) (st : EntSt) : Ent :=
  { idx := i, place := 0, dw := #v[op, 10, 0, 0x5000, 0, len, 0, 0, 0, 0, 0, 0], st := st, started := true, pipe := some 10 }

/-- An enabled submission queue of instance 0. -/
def subQ : Queue :=
  { log2 := 4, weight := 3, burst := 4, ring := 0x10000, cell := 0x20000, st := .enabled, pi := 4, vector := 3 }

def withQ (x : Queue) : State := setQueue 5 x up

def withRead (x : Queue) (r : OutRead) : State :=
  { withQ x with host := { up.host with reads := [r] } }

/-- Pipe 10 on port 0 with the entry of `op` in transfer 7, and the given descriptors in its half's engine. -/
def onBus (x : Pipe) (y : Xfer) (op : Word) (d : List Desc) : State :=
  setPipe 10 { x with x := some 7, ents := [{ q := 5, idx := 0 }] }
    (setXfer 7 y (setQueue 5 { subQ with ents := [entOf 0 op 4096 .attached] }
      (modEngine 0 (pHalf x) (fun e => { e with descs := d })
        (modHalf 0 (pHalf x) (fun h => { h with st := .enabled, ccs := true, speed := 4 }) up))))

def inXfer : Xfer := { type := .inp, inst := 0, q := 5, pipe := some 10, idx := 0, urg := false, sig := (3, 10, 0) }
def outXfer : Xfer := { inXfer with type := .out, sig := (2, 10, 0) }
/-- A SuperSpeed and a high-speed bulk IN pipe with a burst on the wire. -/
def ssIn : Pipe := { kind := .bulk, dirIn := true, state := .active, speed := 2, mps := 1024, maxBurst := 3 }
def hsIn : Pipe := { kind := .bulk, dirIn := true, state := .active, speed := 4, mps := 512 }
def desc : Desc := { pipe := 10, count := 3, onWire := true, charged := 3072 }
def ssRun : State := onBus ssIn inXfer 3 [desc]
/-- A burst that waits for the wire. -/
def unsent : State := onBus ssIn inXfer 3 [{ desc with onWire := false }]
def hsRun : State := onBus hsIn inXfer 3 [desc]
/-- A high-speed bulk OUT pipe, one behind a translator, and a control pipe in its setup stage. -/
def hsOut : State := onBus { hsIn with dirIn := false } outXfer 2 [desc]
def splitIn : Pipe := { hsIn with speed := 5, split := true, ttHub := 1, ttPort := 2, splitOut := true, mps := 64 }
def splitRun (cs : Bool) : State := onBus splitIn inXfer 3 [{ desc with csplit := cs, csOut := cs }]
def setupRun : State := onBus { hsIn with kind := .control, mps := 64 } { outXfer with sig := (1, 10, 0) } 1 [desc]

/-! ### Witnesses of the statements' hypotheses -/

theorem test_hyp_StepRunsTheFront : ({ up with pending := [.fetchTurn] } : State).pending = .fetchTurn :: [] := rfl

theorem test_hyp_IdleStepMovesThePosition :
    up.pending = [] ∧ up.iso.pos < 15360 ∧ up.iso.running = true ∧ up.iso.pos < 15359 ∧
      State.reset.pending = [] ∧ State.reset.iso.pos < 15360 ∧ State.reset.iso.running = false := by decide

theorem test_hyp_Invariants :
    exec .masterIntervalTick up = .next { up with iso := { up.iso with mic := 1001 } } ∧
    Safe false 0 { up with pending := [.masterIntervalTick] } ∧
    step { up with pending := [.masterIntervalTick] } = .next { up with iso := { up.iso with mic := 1001 } } := by
  refine ⟨rfl, ⟨rfl, Nat.zero_le _, by decide, ⟨by unfold Sorted; decide, fun r h => ?_⟩⟩, rfl⟩
  have h : (none : Option Room1) = some r := h
  cases h

theorem test_hyp_RegisterWrites :
    answers up 0 = true ∧ answers State.reset 0 = false ∧ (0xC < 0x1000000) ∧
      windowExists { tenant3 with funcs := up.funcs } (.vf 3) = true ∧ answers { tenant3 with funcs := up.funcs } 3 = false ∧
      (0xD % 4 ≠ 0) ∧ (0x8000 ≤ 0x8002 ∧ 0x8002 < 0x400000 ∧ 0x8002 % 4 ≠ 0) ∧ (0x4FFC < 0x5000) := by decide

theorem test_hyp_StoreRoomReadsBack :
    let s : State := { up with pm := { up.pm with rsel := 7 } }
    answers s 0 = true ∧ 0x1FFFC + 4 ≤ 0x20000 ∧ 0x1FFFC % 4 = 0 ∧ 2 ≤ s.pm.rsel.val ∧
      tst (wd s.boot.rooms.toNat) s.pm.rsel.val = false := by decide

theorem test_hyp_OffBlockAccessIsRecorded :
    offCode up 0xC00008 = some 5 ∧ answers up 0 = true ∧ up.sump.accValid = false ∧
      ({ up with sump := { up.sump with accValid := true } } : State).sump.accValid = true ∧
    offCode State.reset 0xC00008 = some 5 ∧ answers State.reset 0 = false := by decide

theorem test_hyp_HostRequestsNotPerformed :
    reaches up 0 = true ∧ urFits up 0 .io = true ∧ up.host.linkUp = true ∧
      (0 ∈ ({ up with host := { up.host with timedOut := [0] } } : State).host.timedOut) := by decide

theorem test_hyp_MsixVectorsSend :
    ((vec (withVec false .d0) 0 3).timer = true ∧ (fn (withVec false .d0) 0).dstate = .d0 ∧
      canSend (withVec false .d0) 0 3 = true ∧ (vec (withVec false .d0) 0 3).pending = true) ∧
    ((vec (withVec true .d0) 0 3).timer = true ∧ canSend (withVec true .d0) 0 3 = false) ∧
    (exists' (withVec true .d0) 0 = true ∧ hasVec 0 3 = true ∧ hasVec 0 255 = true ∧ answers (withVec true .d0) 0 = true ∧
      (fn (withVec true .d0) 0).msixEnable = true ∧ (fn (withVec true .d0) 0).funcMask = false ∧
      usable (withVec true .d0) 0 = true ∧ gated (withVec true .d0) 0 = false ∧
      causeHeld (withVec true .d0) 0 3 = false) ∧
    (exists' up 0 = true ∧ hasVec 0 0 = true ∧ answers up 0 = true ∧ (vec up 0 0).pending = false) ∧
    ((fn (withVec true .d3hot) 0).pmeStatus = true ∧ (fn (withVec true .d3hot) 0).pmeEnable = true ∧
      (fn (withVec true .d3hot) 0).dstate = .d3hot ∧ (vec (withVec true .d3hot) 0 3).timer = true) ∧
    (let s := modFn 0 (fun f => { f with pmeStatus := false }) (withVec true .d3hot)
     (vec s 0 3).timer = true ∧ (fn s 0).dstate = .d3hot ∧ (fn s 0).pmeEnable = true ∧
      (fn s 0).pmeStatus = false) := by decide

theorem test_hyp_LinkEvents :
    l1Idle up = true ∧
    (let s : State := { up with host := State.reset.host }
     s.boot.up = true ∧ s.boot.perst = false ∧ s.pm.st ≠ .deep ∧ s.pm.st ≠ .off ∧ (5 : Fin 6) ≠ 0 ∧
      ((8 : Fin 9) = 1 ∨ (8 : Fin 9) = 2 ∨ (8 : Fin 9) = 4 ∨ (8 : Fin 9) = 8)) ∧
    up.boot.perst = false ∧ up.host.linkUp = true ∧ State.reset.boot.perst = true ∧
    ((fn (withVec true .d3hot) 0).pmeStatus = true ∧ (fn (withVec true .d3hot) 0).pmeEnable = true) := by decide

theorem test_hyp_ConfigurationWrites : cfgFn up 0 = true ∧ cfgFn tenant3 3 = true := by decide

theorem test_hyp_HostErrorsAndCauses :
    up.host.herrValid = false ∧ ({ up with host := { up.host with herrValid := true } } : State).host.herrValid = true ∧
    (up.cmd.paused = false ∧ 0 < up.sump.logCap.toNat) ∧
    (let s : State := { up with cmd := { up.cmd with paused := true } }
     s.cmd.paused = true ∧ s.fw.logHeld.length < 256) ∧
    (let s : State := { up with cmd := { up.cmd with paused := true }, fw := { up.fw with
        logHeld := List.replicate 256 { kind := 0x31, seq := 0, interval := 0, pay := [] } } }
     s.cmd.paused = true ∧ 256 ≤ s.fw.logHeld.length) ∧
    ((fn up 0).dstate = .d0 ∧ canSend up 0 1 = false ∧ (fld (cfgModp up 1) 8 16 = 0 ∨ 1 ≤ (vec up 0 1).cnt + 1)) ∧
    (let s : State := { up with cfg := { up.cfg with active := [(0x1104, 0x6404)] } }
     (fn s 0).dstate = .d0 ∧ canSend s 0 1 = false ∧ fld (cfgModp s 1) 8 16 ≠ 0 ∧
      (vec s 0 1).cnt + 1 < max (fld (cfgModp s 1) 0 8) 1) ∧
    up.sump.log.length < up.sump.logCap.toNat ∧
    (let s : State := { up with sump := { up.sump with
        logCap := 1, log := [{ kind := 0x31, seq := 0, interval := 0, pay := [] }] } }
     0 < s.sump.logCap.toNat ∧ s.sump.log.length = s.sump.logCap.toNat) := by decide +kernel

/-- Instance 3 with queue 5 as its own queue 2. -/
def tenantQ (j : Nat) : State := setQueue 5 { subQ with owner := 3, localNo := j } tenant3

theorem test_hyp_TenantDoorbells :
    (tenant (tenantQ 2) 3 = true ∧ answers (tenantQ 2) 3 = true ∧ localQueue (tenantQ 2) 3 2 = some 5 ∧
      (queue (tenantQ 2) 5).map (fun x => (x.st, x.isEvent, quiet (tenantQ 2) x.owner)) = some (.enabled, false, false) ∧
      readOpen (tenantQ 2) (.cell 5) = false ∧ tagFree (tenantQ 2) = true) ∧ localQueue (tenantQ 2) 3 63 = none ∧
    (let s : State := { tenantQ 2 with funcs := up.funcs }
     tenant s 3 = true ∧ answers s 3 = false) ∧
    (let x : Queue := { subQ with isEvent := true }
     queue (withQ x) 5 = some x ∧ evBlocked x = false ∧ gated (withQ x) x.owner = false) ∧
    (answers State.reset 0 = false) := by decide

theorem test_hyp_DoorbellsReadCells :
    (answers up 0 = true ∧ queue up 9 = none) ∧
    (let s := withQ subQ
     answers s 0 = true ∧ queue s 5 = some subQ ∧ subQ.st = .enabled ∧ subQ.isEvent = false ∧ readOpen s (.cell 5) = false ∧
      quiet s subQ.owner = false ∧ gated s subQ.owner = false ∧ tagFree s = true) ∧
    (let s : State := { withQ subQ with host := { up.host with
        reads := List.replicate 512 { ref := .stage 0, fn := 0, addr := 0, len := 4 } } }
     answers s 0 = true ∧ queue s 5 = some subQ ∧ readOpen s (.cell 5) = false ∧ quiet s subQ.owner = false ∧
      tagFree s = false) ∧
    (let s := withRead subQ { ref := .cell 5, fn := 0, addr := 0x20000, len := 16 }
     readOpen s (.cell 5) = true ∧ (outRead s (.cell 5)).map (·.discard) = some false ∧ queue s 5 = some subQ ∧
      subQ.merged = false) ∧
    (let x : Queue := { subQ with isEvent := true, head := 16, pi := 0, waiting := [⟨0x20, 0, 0, [], false⟩] }
     let s := withQ x
     queue s 5 = some x ∧ x.st = .enabled ∧ evBlocked x = true ∧ readOpen s (.cell 5) = false ∧ quiet s x.owner = false ∧
      tagFree s = true) := by decide +kernel

theorem test_names_apart : NamesApart (withQ subQ) := by
  refine ⟨by unfold Sorted; decide, fun r h => ?_⟩
  have h : (none : Option Room1) = some r := h
  cases h

theorem test_hyp_FetchTurnAccounts :
    nextTurn (withQ subQ) = some 5 ∧ queue (withQ subQ) 5 = some subQ ∧ (5 : Nat) ≠ 4096 ∧ tagFree (withQ subQ) = true := by
  decide

def outRd : OutRead := { ref := .pump 7 0, fn := 0, addr := 0x5000, len := 4 }

theorem test_hyp_EntryReadsReturn :
    (let s := withRead subQ { ref := .entries 5 0, fn := 0, addr := 0x10000, len := 64, discard := true }
     (outRead s (.entries 5 0)).map (fun r => (r.discard, r.silent, r.len)) = some (true, false, 64)) ∧
    (let s := withRead subQ { ref := .entries 5 0, fn := 0, addr := 0x10000, len := 64, discard := true, silent := true }
     (outRead s (.entries 5 0)).map (fun r => r.silent) = some true) ∧
    (let x : Queue := { subQ with fenceHold := true }
     let s := withRead x { ref := .entries 5 0, fn := 0, addr := 0x10000, len := 64 }
     (5 : Nat) ≠ 0 ∧ (outRead s (.entries 5 0)).map (fun r => (r.discard, r.len)) = some (false, 64) ∧
      queue s 5 = some x ∧ x.fenceHold = true) ∧
    (let s := withRead subQ { ref := .barrier 5 0, fn := 0, addr := 0x5000, len := 4, discard := true }
     (outRead s (.barrier 5 0)).map (fun r => r.discard) = some true) ∧
    (let c : CplDw := ⟨0, 0, 0, 0, false⟩
     let r : OutRead := { ref := .barrier 5 0, fn := 0, addr := 0x5000, len := 4 }
     let s := withRead { subQ with ents := [entOf 0 3 64 (.barrier c 0x5000)] } r
     outRead s (.barrier 5 0) = some r ∧ (ent s 5 0).map (·.st) = some (.barrier c 0x5000) ∧
      s.host.reads.all (fun x => !x.waiting) = true) ∧
    (let r : OutRead := { ref := .entries 5 0, fn := 0, addr := 0x10000, len := 64 }
     let x : Queue := { subQ with ents := [entOf 0 3 64 .reading] }
     let y : Queue := { x with ents := x.ents.map (fill 0 [Vector.replicate 12 3]) }
     let s := withRead x r
     outRead s (.entries 5 0) = some r ∧ [(Vector.replicate 12 3 : Slot)].length * 64 = r.len ∧ queue s 5 = some x ∧
      (nextAttach y).map (fun e => (e.idx, e.dw[0])) = some (0, 3) ∧
      nextAttach { x with ents := x.ents.map (fill 1 [Vector.replicate 12 3]) } = none ∧ r.silent = false ∧
      r.discard = false ∧ x.st = .enabled ∧ x.isEvent = false ∧
      nextAttach { x with ents := x.ents.filter (fun e => idiff e.idx x.head < idiff 0 x.head) } = none) ∧
    (let r : OutRead := { ref := .cell 5, fn := 0, addr := 0x20000, len := 16 }
     let s := withRead subQ r
     outRead s (.cell 5) = some r ∧ queue s 5 = some subQ ∧ subQ.isEvent = false ∧ subQ.st = .enabled ∧
      s.host.cplTimeoutOff = false) ∧
    (outRead (withRead subQ outRd) (.pump 7 0) = some outRd ∧ outRd.silent = false) := by decide

theorem test_hyp_FencesCount :
    (let s := withQ { subQ with ents := [entOf 0 9 0 .attached] }
     (fenceEnt s 5 0 0x09).map (fun r => (r.1, r.2.1)) = some (0, 0) ∧ belowDone s 5 0 = true) ∧
    (let s := withQ { subQ with ents := [entOf 0 10 0 .attached] }
     (fenceEnt s 5 0 0x0A).map (fun r => (r.1, r.2.1, r.2.2.dw[9])) = some (0, 0, 0) ∧
      0 ≤ (fenceGet s 0 0 - 0).toInt) ∧
    (let s := withQ { subQ with fenceHold := true, ents := [entOf 0 3 64 .attached, entOf 1 10 0 .attached, entOf 2 9 0 .fetched] }
     (fenceEnt s 5 1 0x0A).map (fun r => (r.1, r.2.1)) = some (0, 0) ∧ (queue s 5).map (·.fenceHold) = some true) ∧
    (let s : State := { withQ { subQ with ents := [entOf 0 9 0 .attached] } with funcs := [(0, { memEnable := true })] }
     (fenceEnt s 5 0 0x09).map (fun r => (r.1, r.2.1)) = some (0, 0) ∧ belowDone s 5 0 = true ∧ quiet s 0 = true) := by decide

theorem test_hyp_FenceLetsOn :
    let s := withQ { subQ with fenceHold := true, ents := [entOf 0 10 0 .attached, entOf 1 3 64 .fetched] }
    let u := complete 5 0 (Cpl.atMaster { status := 0 }) (modQueue 5 (fun x => { x with fenceHold := false }) s)
    (fenceEnt s 5 0 0x0A).map (fun r => (r.1, r.2.1)) = some (0, 0) ∧
      (queue u 5).map (fun y => (y.st, (nextAttach y).map (·.idx))) = some (.enabled, some 1) := by decide

theorem test_hyp_AdminQueueControl :
    (answers up 0 = true ∧ tst 0x104 8 = true ∧ queue up 0 = some {} ∧ ({} : Queue).st = .disabled ∧ 4 ≤ fld 0x104 0 5 ∧
      fld 0x104 0 5 ≤ 16 ∧ ({} : Queue).isEvent = false) ∧ (tst 0x103 8 = true ∧ fld 0x103 0 5 < 4) ∧
    (tst 0x111 8 = true ∧ 16 < fld 0x111 0 5) ∧ tst 0x4 8 = false ∧
    (let s := setQueue 0 { st := .draining } up
     answers s 0 = true ∧ queue s 0 = some { st := .draining }) ∧
    (let s := setQueue 0 { st := .enabled, log2 := 4 } up
     answers s 0 = true ∧ queue s 0 = some { st := .enabled, log2 := 4 }) ∧
    (let s := setQueue 0 { st := .stopped, log2 := 4, ents := [entOf 0 0xE0 0 .attached] } up
     answers s 0 = true ∧ (queue s 0).map (·.st) = some .stopped) := by decide

theorem test_hyp_MailboxesPass :
    (tenant tenant3 3 = true ∧ vfOn tenant3 3 = true ∧ vfOn tenant3 5 = false ∧ answers tenant3 0 = true ∧ answers tenant3 3 = true ∧ 252 + [1, 2, 3, 4].length ≤ 256 ∧ 256 < 255 + [1, 2].length ∧
      gated tenant3 3 = false ∧ (inst tenant3 3).m2t = false ∧ (inst tenant3 3).t2m = false) ∧
    (let s := modInst 3 (fun x => { x with t2m := true, m2t := true }) tenant3
     tenant s 3 = true ∧ vfOn s 3 = true ∧ (inst s 3).t2m = true ∧ (inst s 3).m2t = true ∧ answers s 3 = true ∧
      answers s 0 = true) ∧
    (let s := modInst 3 (fun x => { x with st := .resetting }) tenant3
     tenant s 3 = true ∧ vfOn s 3 = true ∧ answers s 3 = true ∧ answers s 0 = true ∧ gated s 3 = true) ∧
    (let s : State := { tenant3 with funcs := up.funcs }
     tenant s 3 = true ∧ answers s 3 = false) ∧ vfOn State.reset 3 = false ∧ answers State.reset 0 = false ∧
    ((true : Bool) ≠ false) := by decide

theorem test_hyp_InstancesResetAndLeave :
    (cfgUp up = true ∧ 255 ≤ maxInst up ∧ up.host.vfEnable = false ∧ (inst up 1).st = .absent) ∧
    (exists' tenant3 3 = true ∧ (fn tenant3 3).dstate ≠ .d3cold ∧ (inst tenant3 3).st ≠ .resetting) ∧
    (cfgUp tenant3 = true ∧ tenant3.host.vfEnable = true ∧ 3 ≤ tenant3.host.numVfs ∧ (inst tenant3 3).st ≠ .absent) ∧
    (let s := modInst 3 (fun x => { x with st := .resetting, removing := true }) tenant3
     (inst s 3).st = .resetting ∧ (inst s 3).removing = true ∧ s.host.vfEnable = true ∧ 3 ≤ s.host.numVfs) ∧
    (let s := modInst 3 (fun x => { x with st := .resetting, runCause := 2 }) tenant3
     (inst s 3).st = .resetting ∧ (inst s 3).removing = false) ∧
    (let s := modInst 3 (fun x => { x with st := .resetting, removing := true }) { tenant3 with host := up.host }
     (inst s 3).st = .resetting ∧ (inst s 3).removing = true ∧ s.host.vfEnable = false) := by decide

/-- Port 0 with pipe 10 READY, its context in the cache, and its transfer started. -/
def readyOn (kind : PKind) : State :=
  setPipe 10 { ssIn with state := .ready, kind := kind, admitBytes := 1024, x := some 7, ents := [{ q := 5, idx := 0 }] }
    { onBus ssIn inXfer 3 [] with sched := { up.sched with cache := [(10, false)] }, cfg := { up.cfg with active := [(0x100100, 1)] } }

def walk0 (path : List (Nat × Nat)) (probing : Bool) : Walk :=
  { report := { pipe := 10, port := 0, half := 0, addr := 1, status := 3, errinfo := 0 }, path := path, tier1 := 1, probing := probing }

def roomy (p : PortSched) : PortSched := { p with room := [100000, 100000, 100000] }

/-- The state in which a decision of port 0 chooses. -/
def deciding (s : State) : State :=
  prefetch 0 { s with sched := { s.sched with dec := s.sched.dec + 1, rr := 1 } }

theorem test_hyp_SchedulerDecides :
    (let s := modPsched 0 (fun y => { roomy y with klass := [10] }) (readyOn .interrupt)
     turnPort s = some 0 ∧ (pickPeriodic 0 (deciding s) (psched (deciding s) 0).klass).2.map (·.1) = some 10) ∧
    (let s := modPsched 0 roomy { readyOn .bulk with sump := { up.sump with walks := [(0, walk0 [(1, 2)] false)] } }
     let a := pickPeriodic 0 (deciding s) (psched (deciding s) 0).klass
     turnPort s = some 0 ∧ a.2.map (·.1) = none ∧ (probeReady a.1 0 0).map (·.2) = some (1, 2)) ∧
    (let s := modPsched 0 (fun y => { roomy y with lists := [(0, [10])] }) (readyOn .bulk)
     let a := pickPeriodic 0 (deciding s) (psched (deciding s) 0).klass
     turnPort s = some 0 ∧ a.2.map (·.1) = none ∧ (probeReady a.1 0 0).map (·.2) = none ∧
      (probeReady a.1 0 1).map (·.2) = none ∧ setReady a.1 0 0 = none ∧ setReady a.1 0 1 = none ∧
      (pickAsync 0 16 a.1 false).2.2.map (fun r => (r.1, r.2.2.2)) = some (10, 0)) ∧
    (let s := modPsched 0 roomy (modEngine 0 0 (fun e => { e with setAddr := some (3, 1) }) (readyOn .bulk))
     let a := pickPeriodic 0 (deciding s) (psched (deciding s) 0).klass
     turnPort s = some 0 ∧ a.2.map (·.1) = none ∧ (probeReady a.1 0 0).map (·.2) = none ∧
      (probeReady a.1 0 1).map (·.2) = none ∧ setReady a.1 0 0 = some 1) := by decide

/-- Pipe 10 READY on half 1 of port 0, high-speed. -/
def readyHs : State :=
  let s := onBus { hsIn with state := .ready } inXfer 3 []
  modPsched 0 (fun y => { roomy y with lists := [(0, [10])] })
    { s with sched := { s.sched with cache := [(10, false)] }, cfg := { up.cfg with active := [(0x100100, 1)] } }

/-- Half 1 of port 0 ENABLED too. -/
def both (s : State) : State := modPsched 0 roomy (modHalf 0 1 (fun h => { h with st := .enabled, speed := 4 }) s)

theorem test_hyp_SchedulerDecidesMore :
    (let w := { walk0 [(1, 2)] false with report := { (walk0 [] false).report with half := 1 } }
     let s : State := both { readyOn .bulk with sump := { up.sump with walks := [(1, w)] } }
     let a := pickPeriodic 0 (deciding s) (psched (deciding s) 0).klass
     turnPort s = some 0 ∧ a.2.map (·.1) = none ∧ (probeReady a.1 0 0).map (·.2) = none ∧
      (probeReady a.1 0 1).map (·.2) = some (1, 2)) ∧
    (let s := modEngine 0 1 (fun e => { e with setAddr := some (3, 1) }) (both (readyOn .bulk))
     let a := pickPeriodic 0 (deciding s) (psched (deciding s) 0).klass
     turnPort s = some 0 ∧ a.2.map (·.1) = none ∧ (probeReady a.1 0 0).map (·.2) = none ∧
      (probeReady a.1 0 1).map (·.2) = none ∧ setReady a.1 0 0 = none ∧ setReady a.1 0 1 = some 1) ∧
    (let a := pickPeriodic 0 (deciding readyHs) (psched (deciding readyHs) 0).klass
     turnPort readyHs = some 0 ∧ (pickAsync 0 16 a.1 false).2.2.map (fun r => (r.1, r.2.2.2)) = some (10, 0)) ∧
    (let s := modPsched 0 (fun y => { roomy y with lists := [(1, [10])] }) (modPipe 10 (fun x => { x with group := 1 })
       { readyOn .bulk with cfg := { up.cfg with active := [(0x100104, 0)] } })
     let a := pickPeriodic 0 (deciding s) (psched (deciding s) 0).klass
     let b := pickAsync 0 16 a.1 false
     turnPort s = some 0 ∧ a.2.map (·.1) = none ∧ b.2.2.map (·.1) = none ∧ b.2.1 = false ∧
      (pickScav 0 ((List.range 16).map (fun i => (i + (psched b.1 0).scavenger) % 16)) b.1).2.map (·.1) = some 10) ∧
    (let s := modPsched 0 (fun y => { roomy y with lists := [(0, [10])] }) (modEngine 0 0 (fun e => { e with
        descs := (List.range 16).map (fun k => { desc with pipe := 20 + k }) }) (readyOn .bulk))
     let a := pickPeriodic 0 (deciding s) (psched (deciding s) 0).klass
     turnPort s = some 0 ∧ ((engine s 0 0).descs.filter Machine.onBus).length = 16 ∧
      (pickAsync 0 16 a.1 false).2.2.map (·.1) = some 10) := by decide +kernel

theorem test_hyp_PortIntervalAdvances :
    ssRun.iso.running = true ∧ (port ssRun 0).inService = true ∧ ssRun.pm.gated = false ∧
      (engine ssRun 0 0).descs = [desc] := by decide

theorem test_hyp_ContextsArrive :
    10 ∈ ({ ssRun with sched := { ssRun.sched with fills := [10] } } : State).sched.fills := by decide

def hubUnit : Machine.Unit := { half := 1, parent := 2, hubPort := 3, route := 0, isHub := false }

theorem test_hyp_BurstsLeaveTheEngine :
    ((descOf ssRun 10).map (·.2) = some desc ∧ live desc = true ∧ pHalf ssIn = 0 ∧ ssIn.kind ≠ .iso ∧
      (ssIn.split = false ∨ desc.csplit = true)) ∧
    ((descOf hsRun 10).map (·.2) = some desc ∧ pHalf hsIn = 1 ∧ hsIn.kind ≠ .control) ∧
    (let d := { desc with isOver := true }
     let s := onBus ssIn inXfer 3 [d]
     (descOf s 10).map (·.2) = some d ∧ burstDue s ssIn d = true ∧ d.onWire = true ∧
      (descOf (isoOutSent 10 ssIn s) 10).map (·.2) = some d) ∧
    (let d := { desc with onWire := false }
     let s := onBus { ssIn with stopping := true } inXfer 3 [d]
     (descOf s 10).map (·.2) = some d ∧ burstDue s { ssIn with stopping := true } d = true) ∧
    (let x := { splitIn with state := .closing }
     let s := onBus x inXfer 3 []
     (pipe s 10).map (fun x => (x.state, x.split, x.splitOut)) = some (.closing, true, true)) ∧
    inState hsRun 0 1 .enabled = true ∧
    ((babbles hsRun 0 10).map (·.addr) = some 1 ∧ pathTo hsRun 0 6 1 = []) ∧
    (let s := modPort 0 (fun p => { p with units := [(1, hubUnit), (2, { hubUnit with parent := 0 })] }) hsRun
     (babbles s 0 10).map (·.addr) = some 1 ∧ pathTo s 0 6 1 ≠ []) := by decide

theorem test_hyp_BusErrorsAreCounted :
    ((descOf ssRun 10).map (·.2) = some desc ∧ live desc = true ∧ ssIn.state ≠ .closing ∧ ssIn.errs < 2 ∧
      (descOf (onBus { ssIn with errs := 2 } inXfer 3 [desc]) 10).map (·.1.errs) = some 2) ∧
    ((descOf (splitRun true) 10).map (fun r => (r.2.csplit, live r.2)) = some (true, true) ∧ splitIn.split = true) ∧
    (receiving ssRun { ssIn with x := some 7 } = true ∧ ssIn.split = false) ∧
    ((descOf hsOut 10).map (·.2) = some desc ∧ sending hsOut { hsIn with x := some 7 } desc = true) ∧
    ((descOf setupRun 10).map (fun r => (r.1.kind, r.1.stage)) = some (.control, 0)) := by decide

theorem test_hyp_PacketsAreCarried :
    (let x := { ssIn with x := some 7, ents := [{ q := 5, idx := 0 }] }
     descOf ssRun 10 = some (x, desc) ∧ receiving ssRun x = true ∧ xfer ssRun 7 = some inXfer ∧ 0 % 32 = x.seq.toNat ∧
      [(0 : Byte)].length ≤ x.mps ∧ total ssRun inXfer = (4096, true) ∧ inXfer.inPos + 1 ≤ 4096) ∧
    (let x := { splitIn with x := some 7, ents := [{ q := 5, idx := 0 }] }
     descOf (splitRun false) 10 = some (x, desc) ∧ sending (splitRun false) x desc = true ∧ periodic x = false ∧
      descOf (splitRun true) 10 = some (x, { desc with csplit := true, csOut := true }) ∧
      live { desc with csplit := true, csOut := true } = true ∧ pHalf x = 1) ∧
    (let x := { hsIn with dirIn := false, x := some 7, ents := [{ q := 5, idx := 0 }] }
     descOf hsOut 10 = some (x, desc) ∧ sending hsOut x desc = true ∧ xfer hsOut 7 = some outXfer ∧ pings hsOut x = true ∧
      x.seq.getLsbD 1 = false) ∧
    (let x := { hsIn with dirIn := false, seq := 2, x := some 7, ents := [{ q := 5, idx := 0 }] }
     let s := onBus { hsIn with dirIn := false, seq := 2 } outXfer 2 [desc]
     descOf s 10 = some (x, desc) ∧ sending s x desc = true ∧ x.seq.getLsbD 1 = true ∧ x.kind ≠ .control) := by decide

theorem test_hyp_ErdyIsHonouredOnce :
    (let x := { ssIn with erdyPend := true, x := some 7, ents := [{ q := 5, idx := 0 }] }
     pipe (onBus { ssIn with erdyPend := true } inXfer 3 [desc]) 10 = some x ∧ x.kind ≠ .streamEp ∧ x.state = .active) ∧
    (let e : Pipe := { kind := .streamEp, link := 10, streams := 4, curStream := 1 }
     let x := { ssIn with kind := .stream, state := .stopped, erdyPend := true, link := 9, streams := 1 }
     let s := setPipe 9 e (onBus x inXfer 3 [])
     pipe s 9 = some e ∧ e.kind = .streamEp ∧ 1 ≤ e.streams ∧ (pipe s (e.link + 1 - 1)).map (·.erdyPend) = some true) ∧
    (let e : Pipe := { kind := .streamEp, link := 10, streams := 4, curStream := 1 }
     let x := { ssIn with kind := .stream, state := .ready, sstate := 2, link := 9, streams := 1 }
     let s := setPipe 9 e (onBus x inXfer 3 [])
     (pipe s (e.link + 1 - 1)).map (fun x => (x.state, x.sstate)) = some (.ready, 2) ∧ e.curStream = 1) ∧
    pipe up 10 = none ∧ (pipe ssRun 10).map (·.erdyPend) = some false ∧
    ((pipe (onBus { ssIn with state := .parked, waitErdy := true } inXfer 3 []) 10).map (fun x => (x.state, x.x, x.ents))
      = some (.parked, some 7, [{ q := 5, idx := 0 }])) := by decide
/-- Half h of port 0 in the given state. -/
def half (h : Nat) (x : HalfReg) : State := modHalf 0 h (fun _ => x) up

theorem test_hyp_PortRequestsAct :
    answers up 0 = true ∧ portUp up 0 = true ∧ tst 0x10 4 = true ∧ tst 0x20 5 = true ∧
    (tst 0x40 6 = true ∧ tst 0x40 4 = false ∧ tst 0x40 5 = false) ∧
    (tst 0x80 7 = true ∧ tst 0x80 4 = false ∧ tst 0x80 5 = false ∧ tst 0x80 6 = false ∧ tst 0x80 8 = false) ∧
    (tst 0x100 8 = true ∧ tst 0x100 4 = false ∧ tst 0x100 5 = false ∧ tst 0x100 6 = false) ∧
    (halfReg (half 0 { st := .suspended }) 0 0).st = .suspended ∧ isoOpen (half 0 { st := .enabled }) 0 0 = false ∧
    isoOpen (readyOn .iso) 0 0 = true ∧ (halfReg (readyOn .iso) 0 0).st = .enabled ∧
    (halfReg up 0 0).st = .poweredOff ∧ (halfReg (half 1 { st := .disabled }) 0 1).st = .disabled := by decide

theorem test_hyp_PortMovesEnd :
    (inState (half 0 { st := .resetting }) 0 0 .resetting = true ∧ speedAllowed (half 0 { st := .resetting }) 0 0 3 = true ∧
      speedAllowed (half 1 { st := .resetting }) 0 1 4 = true ∧ (halfReg (half 0 { st := .resetting }) 0 0).warm = false) ∧
    (inState (half 0 { st := .enabled, suspending := true }) 0 0 .enabled = true ∧
      (halfReg (half 0 { st := .enabled, suspending := true }) 0 0).suspending = true) ∧
    inState (half 0 { st := .resuming }) 0 0 .resuming = true ∧ inState (half 1 { st := .suspended }) 0 1 .suspended = true ∧
    (inState (half 1 { st := .enabled, lstate := 2 }) 0 1 .enabled = true ∧
      (halfReg (half 1 { st := .enabled, lstate := 2 }) 0 1).lstate = 2) := by decide

theorem test_hyp_PortConnections :
    (let s := half 0 { st := .disconnected, lstate := 5 }
     inState s 0 0 .disconnected = true ∧ (halfReg s 0 0).lstate ≠ 4 ∧ (halfReg s 0 0).lstate ≠ 9 ∧ ssAllowed s 0 3 = true ∧
      compEn s 0 = false ∧ (halfReg s 0 0).tries + 1 < trainTries s 0) ∧
    (let s : State := { half 0 { st := .disconnected, lstate := 5 } with cfg := { up.cfg with active := [(0x400004, 0x140)] } }
     compEn s 0 = true) ∧
    (let s := half 0 { st := .disconnected, lstate := 5, tries := 14 }
     trainTries s 0 ≤ (halfReg s 0 0).tries + 1) ∧
    inState (half 1 { st := .disconnected }) 0 1 .disconnected = true ∧
    (portUp ssRun 0 = true ∧ (halfReg ssRun 0 0).st ≠ .poweredOff ∧ (halfReg ssRun 0 0).st ≠ .disconnected ∧
      inState ssRun 0 0 .enabled = true) ∧
    (let s := half 0 { st := .enabled, lanes := 2, speed := 3 }
     inState s 0 0 .enabled = true ∧ (halfReg s 0 0).lanes = 2 ∧ (halfReg s 0 0).lstate = 0) := by decide

theorem test_hyp_PortPowerAndTypeC :
    answers up 0 = true ∧ portUp up 0 = true ∧
    (let s : State := modPort 0 (fun p => { p with pp := true, ccNow1 := 1 })
       { up with cfg := { up.cfg with active := [(0x400004, 0x301)] } }
     portFused s 0 = true ∧ ccRead s 0 = true ∧ (port s 0).ccNow1 ≠ (port s 0).cc1) := by decide

/-- The timeouts of U1, U2 and L1 that an idle period may have. -/
def lpmOn : Word := 0x00200A05

theorem test_hyp_LinkPowerStates :
    (awake (half 0 { st := .enabled }) 0 false = true ∧ u1To (half 0 { st := .enabled }) 0 = 0) ∧
    (let s := half 0 { st := .enabled, lstate := 1, lpm := lpmOn }
     awake s 0 true = true ∧ u2To s 0 ≠ 0 ∧ u2To s 0 ≠ 0xFF ∧ periodicOpen s 0 0 = false ∧ burstWaits s 0 0 = false) ∧
    (let s : State := modPort 0 (fun p => { p with units := [(1, { hubUnit with parent := 0 })] })
       (half 1 { st := .enabled, lpm := lpmOn })
     inState s 0 1 .enabled = true ∧ (halfReg s 0 1).lstate = 0 ∧ fld (halfReg s 0 1).lpm 16 8 ≠ 0 ∧
      (port s 0).units.any (fun kv => kv.2.half = 1 && kv.2.parent = 0) = true ∧ periodicOpen s 0 1 = false ∧
      burstWaits s 0 1 = false) ∧
    (let s := half 0 { st := .enabled, lstate := 2, itpDue := true }
     portUp s 0 = true ∧ asleep s 0 0 = true ∧
      (halfReg (half 0 { st := .enabled, lstate := 2, lpm := cfgLpm s 0 }) 0 0).lpm = cfgLpm s 0) ∧
    asleep (half 1 { st := .enabled, lstate := 2 }) 0 1 = true := by decide

def lock (l : LockSt) (present : Bool) : State :=
  { up with iso := { up.iso with lock := l, arefPresent := present, arefIn := present } }

theorem test_hyp_Timebase :
    up.iso.running = true ∧ answers up 0 = true ∧ answers State.reset 0 = false ∧
    ((lock .acquiring true).iso.lock = .acquiring ∧ arefOk (lock .acquiring true) = true) ∧
    (lock .locked true).iso.lock = .locked ∧ (lock .locked true).iso.arefPresent = true ∧
    (lock .holdover false).iso.arefPresent = false ∧ (lock .holdover false).iso.lock = .holdover ∧
    ((10000 : BitVec 16).toInt.natAbs ≤ 10000 ∧ 12000 < (-12001 : BitVec 16).toInt.natAbs ∧
      10000 < (12000 : BitVec 16).toInt.natAbs ∧ (12000 : BitVec 16).toInt.natAbs ≤ 12000) ∧
    (let s : State := { half 0 { st := .enabled } with cfg := { up.cfg with active := [(0x300100, 0x2007)] } }
     inState s 0 0 .enabled = true ∧ tst (cfg s (0x300100 + 0 * 0x10)) 0 = true ∧
      (3 : BitVec 7).toNat = fld (cfg s (0x300100 + 0 * 0x10)) 1 7) := by decide

theorem test_hyp_WalksFindTheOrigin :
    (let s : State := { ssRun with sump := { ssRun.sump with walks := [(0, walk0 [(1, 2), (4, 1)] true)] } }
     find s.sump.walks (0 * 2 + 0) = some (walk0 [(1, 2), (4, 1)] true) ∧ (halfReg s 0 0).st = .enabled ∧
      originOver s 0 0 1 = none) ∧
    (let o : Origin := { mode := .held, kind := 1, addr := 1 }
     let s : State := { ssRun with sump := { ssRun.sump with walks := [(0, walk0 [(1, 2)] true)], origins := [(2, o)] } }
     find s.sump.walks (0 * 2 + 0) = some (walk0 [(1, 2)] true) ∧ originOver s 0 0 1 = some 2) ∧
    linkOk 0 (.status true true false false 0) = true ∧ linkOk 0 (.status false true false false 0) = false ∧
    linkOk 1 (.status true false false false 0) = false ∧
    (let s := setOrigin 2 { mode := .held, kind := 1, addr := 3, held := 1, sweeping := true } up
     (origin s 2).mode = .held ∧ (origin s 2).sweeping = true ∧ (origin s 2).held ≠ 0 ∧ s.sump.intake = []) := by decide

theorem test_hyp_CellarErrorsAreCounted :
    (celReg up 0).inSvc = true ∧ (celReg up 1).inSvc = true ∧ (celReg up 0).selfRefresh = false := by decide

/-- Channel 9 runs the job of transfer 7. -/
def jobRun (y : Xfer) (p : PumpReg) : State :=
  modPump 9 (fun _ => { p with st := .run, job := some 7 })
    (onBus ssIn { y with chan := some 9 } (if y.type = .inp then 3 else 2) [])

def filled : Xfer :=
  { inXfer with pages := [{ off := 0, len := 128, st := .full, segs := [(0, List.replicate 128 7)] }] }

theorem test_hyp_JobsAreBound :
    (let s : State := { ssRun with cis := { ssRun.cis with reqs := [{ place := 7, pages := 4 }] } }
     s.cis.reqs = [{ place := 7, pages := 4 }] ∧ xfer s 7 = some inXfer ∧ inXfer.q ≠ 4096) ∧
    (let s : State := { ssRun with cis := { ssRun.cis with norm := [7] } }
     idleChan s false = some 8 ∧ headJob s (nextClass s 8) = some 7 ∧ idleChan s (nextClass s 8) = some 8) ∧
    (movable ssRun { filled with chan := some 8, moved := 0, latched := none } = true ∧ filled.latched = none ∧
      ({ inXfer with latched := some (0x5000, 1, false) } : Xfer).latched = some (0x5000, 1, false)) ∧
    (let s := jobRun { inXfer with moved := 1000000 } {}
     let s : State := { s with cis := { s.cis with norm := [8] } }
     (pump s 9).job = some 7 ∧ (xfer s 7).map (fun x => (sliceUsed s x, x.reads, x.chan)) = some (true, [], some 9) ∧
      (pump s 9).st = .run) := by decide

/-- The job of transfer 7 waits at the front of the normal class. -/
def waitingJob (y : Xfer) : State :=
  let s := onBus ssIn y 3 []
  { s with cis := { s.cis with norm := [7] } }

theorem test_hyp_JobsBind :
    (let s := waitingJob filled
     let y := { filled with chan := some 8, moved := 0, latched := none }
     headJob s (nextClass s 8) = some 7 ∧ xfer s 7 = some filled ∧ idleChan s (nextClass s 8) = some 8 ∧
      filled.latched = none ∧ movable s (match curEnt s y with | some e => openCuts s y e | none => y) = true) ∧
    (let x := { inXfer with latched := some (0x5000, 1, false) }
     let s := waitingJob x
     headJob s (nextClass s 8) = some 7 ∧ xfer s 7 = some x ∧ idleChan s (nextClass s 8) = some 8) := by decide

theorem test_hyp_PumpsMoveData :
    (readChan (jobRun outXfer {}) = some 9 ∧ (readJob (jobRun outXfer {}) 9).map (·.1) = some 7 ∧
      pumpTag (jobRun outXfer {}) = true) ∧
    (let s : State := { jobRun outXfer {} with host := { up.host with reads := [{ outRd with silent := true }] } }
     (outRead s (.pump 7 0)).map (·.silent) = some true) ∧
    (let s : State := { jobRun outXfer {} with host := { up.host with reads := [outRd] } }
     outRead s (.pump 7 0) = some outRd) ∧
    (let s : State := { jobRun { outXfer with reads := [⟨0, 0, 4, 0x5000, none⟩] } {} with host := { up.host with reads := [outRd] } }
     outRead s (.pump 7 0) = some outRd ∧ outRd.silent = false ∧ outRd.discard = false ∧
      (xfer s 7).map (fun x => (x.reads.find? (fun r => r.num = 0), x.chan)) = some (some ⟨0, 0, 4, 0x5000, none⟩, some 9)) := by
  decide
theorem test_hyp_PumpsStage :
    (let s := jobRun filled {}
     beatChan s = some 9 ∧ (beatReady s 9).map (fun r => (r.1, beat r.2.2 0 + 0, r.2.2.len)) = some (7, 64, 128)) ∧
    (let s := jobRun filled { staged := 64 }
     beatChan s = some 9 ∧ (beatReady s 9).map (fun r => 64 + beat r.2.2 64) = some 128) := by decide +kernel

theorem test_hyp_PumpControl :
    answers up 0 = true ∧ (pump up 9).st ≠ .off ∧ offCode up (0xE00000 + 9 * 0x100) = none ∧
    (tst 1 0 = true ∧ tst 1 1 = false ∧ tst 0 0 = false ∧ tst 0 1 = false ∧ tst 2 1 = true) ∧
    ((pump up 9).pause = false ∧ (pump up 9).st = .idle) ∧
    (let s := jobRun { outXfer with reads := [⟨0, 0, 4, 0x5000, none⟩] } {}
     (pump s 9).pause = false ∧ (pump s 9).st = .run ∧ (pump s 9).job = some 7 ∧
      (xfer s 7).map (fun x => x.reads.isEmpty) = some false) ∧
    (let s := jobRun outXfer {}
     (pump s 9).removing = none ∧ (pump s 9).staged = 0 ∧ (xfer s 7).map (fun x => (x.reads, x.type)) = some ([], .out)) ∧
    (let s := modPump 9 (fun p => { p with pause := true, st := .pausing }) up
     (pump s 9).pause = true ∧ (pump s 9).st = .pausing) ∧
    (let s := modPump 9 (fun p => { p with st := .halted }) up
     (pump s 9).st = .halted ∧ tst 2 1 = true) ∧
    (pump (modPump 9 (fun p => { p with st := .off }) up) 9).st = .off := by decide
/-- A command packet at index 4 of queue 0. -/
def pkt (op owner d2 d3 d4 d5 d6 d7 d8 : Word) : Packet := { index := 4, dw := #v[op, owner, d2, d3, d4, d5, d6, d7, d8, 0, 0, 0] }

/-- The state with that packet next on queue 0. -/
def next (c : Packet) (s : State) : State :=
  setQueue 0 { st := .enabled, log2 := 4, head := 4, fetch := 5, pi := 5,
               ents := [{ idx := 4, place := 0, dw := c.dw, st := .fetched }] } s

def unit1 : Machine.Unit := { half := 0, parent := 0, hubPort := 0, route := 0, isHub := false, speed := 2 }
/-- A unit at address 1 of port 0, half 0 ENABLED. -/
def withUnit : State :=
  modPort 0 (fun p => { p with units := [(1, unit1)] }) (half 0 { st := .enabled, ccs := true, speed := 2 })
/-- Pipe 10 in the given state without entries. -/
def withPipe (st : PState) : State := setPipe 10 { ssIn with state := st } withUnit

theorem test_hyp_PacketsAreJudged :
    (let c := pkt 0x84 0 0 0 0 0 0 0 0
     cmdReady (next c up) c = true ∧ cOp c ∉ opcodes) ∧
    (Looked (.queueDelete (pkt 0x81 0 0 0 0 0 0 0 0)) (next (pkt 0x81 0 0 0 0 0 0 0 0) up) ∧
      verdict (.queueDelete (pkt 0x81 0 0 0 0 0 0 0 0)) (next (pkt 0x81 0 0 0 0 0 0 0 0) up) = some (0x10, 0x06)) ∧
    (let c := pkt 0xB2 3 0 0 0 0 0 0 0
     (cmdRow (.cfgCopy c)).map (fun r => (cInst r.1, r.2.tenants)) = some (3, false)) := by
  refine ⟨by decide, ⟨⟨by decide, by decide⟩, by decide⟩, by decide⟩

theorem test_hyp_QueueCommandsAct :
    (let c := pkt 0x80 0 0x40005 0x103 0x10000 0 0x20000 0 0
     Taken (.queueCreate c) (next c up)) ∧
    (let c := pkt 0x81 0 5 0 0 0 0 0 0
     Taken (.queueDelete c) (next c (withQ { subQ with st := .disabled }))) ∧
    (let c := pkt 0x82 0 5 0 0 0 0 0 0
     Taken (.queueEnable c) (next c (withQ { subQ with st := .disabled })) ∧
      queue (next c (withQ { subQ with st := .disabled })) 5 = some { subQ with st := .disabled }) ∧
    (let c := pkt 0x83 0 5 0 0 0 0 0 0
     Taken (.queueDisable c) (next c (withQ { subQ with st := .disabled })) ∧
      Taken (.queueDisable c) (next c (withQ subQ)) ∧ queue (next c (withQ subQ)) 5 = some subQ) := by
  refine ⟨⟨⟨by decide, by decide⟩, by decide⟩, ⟨⟨by decide, by decide⟩, by decide⟩,
    ⟨⟨⟨by decide, by decide⟩, by decide⟩, by decide⟩, ⟨⟨by decide, by decide⟩, by decide⟩,
    ⟨⟨by decide, by decide⟩, by decide⟩, by decide⟩

theorem test_hyp_UnitCommandsAct :
    (let c := pkt 0x88 0 0 0x20000 0 0 0 0 0
     Taken (.unitAddress c) (next c withUnit) ∧ takenAddr (next c withUnit) c = some 2) ∧
    (let s := modEngine 0 0 (fun e => { e with setAddr := some (4, 2), setSent := true })
       (next (pkt 0x88 0 0 0x20000 0 0 0 0 0) withUnit)
     (engine s 0 0).setAddr = some (4, 2) ∧ (engine s 0 0).setSent = true ∧ inState s 0 0 .enabled = true ∧
      (ent s 0 4).isSome = true) ∧
    (let s := modEngine 0 0 (fun e => { e with setAddr := some (4, 2) }) up
     (engine s 0 0).setAddr = some (4, 2) ∧ inState s 0 0 .enabled = false) ∧
    (let c := pkt 0x89 0 0x10000 0 0 0 0 0 0
     Taken (.unitRelease c) (next c withUnit)) ∧
    (let c := pkt 0x8A 0 0x10000 3 0 0 0 0 0
     let s := next c { withUnit with insts := tenant3.insts }
     Taken (.unitAssign c) s ∧ unitAt s 0 1 = some unit1) := by
  refine ⟨⟨⟨⟨by decide, by decide⟩, by decide⟩, by decide⟩, by decide, by decide, ⟨⟨by decide, by decide⟩, by decide⟩,
    ⟨⟨by decide, by decide⟩, by decide⟩, by decide⟩

theorem test_hyp_PipeCommandsAct :
    (let c := pkt 0x90 0 10 0x80089 0x1400 0 0 0 0
     Taken (.pipeOpen c) (next c withUnit) ∧ oKind c = some .bulk) ∧
    (let c := pkt 0x91 0 10 0 0 0 0 0 0
     Taken (.pipeClose c) (next c (withPipe .idle)) ∧ Taken (.pipeClose c) (next c ssRun) ∧
      descOf (next c ssRun) 10 ≠ none ∧ descOf (next c (withPipe .idle)) 10 = none) ∧
    (let c := pkt 0x91 0 10 0 0 0 0 0 0
     Taken (.pipeClose c) (next c unsent) ∧ (descOf (next c unsent) 10).map (·.2.onWire) = some false) ∧
    (let c := pkt 0x92 0 10 0 0 0 0 0 0
     Taken (.pipeStop c) (next c (withPipe .parked)) ∧ Taken (.pipeStop c) (next c ssRun)) ∧
    (let c := pkt 0x92 0 10 0 0 0 0 0 0
     Taken (.pipeStop c) (next c unsent) ∧ (pipe (next c unsent) 10).map (fun x => (x.state, x.kind)) =
      some (.active, .bulk) ∧ (descOf (next c unsent) 10).map (·.2.onWire) = some false) ∧
    (let c := pkt 0x93 0 10 0 0 0 0 0 0
     Taken (.pipeStart c) (next c (withPipe .stopped)) ∧
      Taken (.pipeStart c) (next c (onBus { ssIn with state := .stopped, waitErdy := true } inXfer 3 []))) ∧
    (let c := pkt 0x94 0 10 0 0 0 0 0 0
     Taken (.pipeReset c) (next c (withPipe .halted)) ∧
      Taken (.pipeReset c) (next c (onBus { ssIn with state := .halted } inXfer 3 []))) ∧
    (let c := pkt 0x95 0 10 0x8000 0 0 0 0 0
     Taken (.pipeQuery c) (next c ssRun) ∧ (pipe (next c ssRun) 10).map (·.ents.isEmpty) = some false) ∧
    (pipe (setPipe 10 { ssIn with state := .ready, block := 1 } up) 10).map (fun x => (x.state, x.block)) =
      some (.ready, 1) := by
  refine ⟨⟨⟨⟨by decide, by decide⟩, by decide⟩, by decide⟩,
    ⟨⟨⟨by decide, by decide⟩, by decide⟩, ⟨⟨by decide, by decide⟩, by decide⟩, by decide, by decide⟩,
    ⟨⟨⟨by decide, by decide⟩, by decide⟩, by decide⟩,
    ⟨⟨⟨by decide, by decide⟩, by decide⟩, ⟨⟨by decide, by decide⟩, by decide⟩⟩,
    ⟨⟨⟨by decide, by decide⟩, by decide⟩, by decide, by decide⟩,
    ⟨⟨⟨by decide, by decide⟩, by decide⟩, ⟨⟨by decide, by decide⟩, by decide⟩⟩,
    ⟨⟨⟨by decide, by decide⟩, by decide⟩, ⟨⟨by decide, by decide⟩, by decide⟩⟩,
    ⟨⟨⟨by decide, by decide⟩, by decide⟩, by decide⟩, by decide⟩

theorem test_hyp_StartsAgain :
    (let c := pkt 0x93 0 10 0 0 0 0 0 0
     let s := next c (onBus { ssIn with state := .stopped } inXfer 3 [])
     Taken (.pipeStart c) s ∧ (pipe s 10).map (fun x => (x.waitErdy, x.x, x.ents.isEmpty, periodic x, x.kind)) =
      some (false, some 7, false, false, .bulk)) ∧
    (let c := pkt 0x88 0 0x50000 0x20000 0 0 0 0 0
     Taken (.unitAddress c) (next c withUnit) ∧ uAddr c = 5 ∧ takenAddr (next c withUnit) c = some 5) := by
  refine ⟨⟨⟨⟨by decide, by decide⟩, by decide⟩, by decide⟩, ⟨⟨by decide, by decide⟩, by decide⟩, by decide, by decide⟩

/-- A stream endpoint 9 with streams 1 and 2 on pipes 10 and 11 in the given states. -/
def streamsAt (a b : PState) : State :=
  let x : Pipe := { ssIn with kind := .stream, link := 9, streams := 1 }
  setPipe 9 { ssIn with kind := .streamEp, state := .idle, link := 10, streams := 2 }
    (setPipe 10 { x with state := a } (setPipe 11 { x with state := b, streams := 2 } withUnit))

theorem test_hyp_StreamCommandsAct :
    (let c := pkt 0x91 0 9 0 0 0 0 0 0
     let s := next c (streamsAt .idle .stopped)
     Taken (.pipeClose c) s ∧ actsOn s 9 = [10, 11] ∧ (pipe s 9).map (·.kind) = some .streamEp) ∧
    (let c := pkt 0x92 0 9 0 0 0 0 0 0
     Taken (.pipeStop c) (next c (streamsAt .idle .parked))) ∧
    (let c := pkt 0x93 0 9 0 0 0 0 0 0
     Taken (.pipeStart c) (next c (streamsAt .stopped .stopped))) ∧
    (let c := pkt 0x94 0 9 0 0 0 0 0 0
     Taken (.pipeReset c) (next c (streamsAt .halted .halted))) := by
  refine ⟨⟨⟨⟨by decide, by decide⟩, by decide⟩, by decide, by decide⟩, ⟨⟨by decide, by decide⟩, by decide⟩,
    ⟨⟨by decide, by decide⟩, by decide⟩, ⟨⟨by decide, by decide⟩, by decide⟩⟩

theorem test_hyp_FaultCommandsAct :
    (let c := pkt 0xA0 0 2 0 0 0 0 0 0
     Taken (.originRelease c) (next c (setOrigin 2 { mode := .held, kind := 1, addr := 3, held := 1 } up))) ∧
    (let c := pkt 0xA1 0 2 0 0 0 0 0 0
     Taken (.originDrop c) (next c (setOrigin 2 { mode := .held, kind := 1, addr := 3, held := 1 } up))) ∧
    (let c := pkt 0xA2 0 0 16 0x8000 0 0 0 0
     Taken (.logRead c) (next c up)) ∧
    (let c := pkt 0xA9 0 9 0 0 0 0 0 0
     Taken (.pumpAck c) (next c (modPump 9 (fun p => { p with st := .halted, job := some 7 }) ssRun))) ∧
    (let c := pkt 0xA8 3 0 0 0 0 0 0 0
     Taken (.instanceResetCommand c) (next c tenant3) ∧ (inst (next c tenant3) 3).st ≠ .resetting ∧
      (let s := next c (modInst 3 (fun x => { x with st := .resetting, runCause := 2 }) tenant3)
       Taken (.instanceResetCommand c) s ∧ (inst s 3).st = .resetting)) := by
  refine ⟨⟨⟨by decide, by decide⟩, by decide⟩, ⟨⟨by decide, by decide⟩, by decide⟩, ⟨⟨by decide, by decide⟩, by decide⟩,
    ⟨⟨by decide, by decide⟩, by decide⟩, ⟨⟨by decide, by decide⟩, by decide⟩, by decide,
    ⟨⟨by decide, by decide⟩, by decide⟩, by decide⟩

theorem test_hyp_ConfigurationCommandsAct :
    (let c := pkt 0xB0 0 2 0x1104 0x6404 0x100100 3 0 0
     Taken (.cfgWrite c) (next c up) ∧ cPairs c = 2 ∧ (pair c 1).1 = 0x100100) ∧
    (let c := pkt 0xB1 0 0x1104 1 0 0 0 0 0
     Taken (.cfgRead c) (next c up)) ∧
    (let c := pkt 0xB2 0 0 0 0 0 0 0 0
     Taken (.cfgCopy c) (next c up)) ∧
    (let c := pkt 0xB3 0 0 0 0 0 0 0 0
     Taken (.cfgSwap c) (next c up)) ∧
    (let s : State := { up with cmd := { up.cmd with pendSwap := true, swapMic := 7 } }
     s.cmd.pendSwap = true ∧ s.iso.running = true ∧ s.iso.pos = 0 ∧ s.iso.mic ≠ s.cmd.swapMic ∧
      ∀ p, Sorted (psched s p).deficit) ∧
    (let c := pkt 0xE0 0 1 2 3 0 0 0 0
     Taken (.diagEcho c) (next c up)) := by
  refine ⟨⟨⟨⟨by decide, by decide⟩, by decide⟩, by decide⟩, ⟨⟨by decide, by decide⟩, by decide⟩,
    ⟨⟨by decide, by decide⟩, by decide⟩, ⟨⟨by decide, by decide⟩, by decide⟩,
    ⟨by decide, by decide, by decide, by decide, fun _ => List.Pairwise.nil⟩, ⟨⟨by decide, by decide⟩, by decide⟩⟩
theorem test_hyp_ServiceCommandsAct :
    (let c := pkt 0xB8 0 0 0 0 0 0 0 0
     Taken (.portService c .ok) (next c up) ∧ sReturn c = false) ∧
    (let c := pkt 0xB8 0 0x100 0 0 0 0 0 0
     Taken (.portService c .ok) (next c (modPort 0 (fun p => { p with inService := false }) up)) ∧ sReturn c = true) ∧
    (let c := pkt 0xB9 0 9 0 0 0 0 0 0
     Taken (.pumpService c true) (next c up) ∧ (pump (next c up) 9).st = .idle ∧ (pump (next c up) 9).pause = false ∧
      (let s := next c (jobRun { outXfer with reads := [⟨0, 0, 4, 0x5000, none⟩] } {})
       Taken (.pumpService c true) s ∧ (pump s 9).job = some 7 ∧ (pump s 9).pause = false)) ∧
    (let c := pkt 0xB9 0 0x109 0 0 0 0 0 0
     Taken (.pumpService c false) (next c (modPump 9 (fun p => { p with st := .off }) up)) ∧ sReturn c = true) ∧
    (let c := pkt 0xBA 0 1 0 0 0 0 0 0
     Taken (.cellarService c .ok) (next c up)) ∧
    (let c := pkt 0xBA 0 0x101 0 0 0 0 0 0
     Taken (.cellarService c .trainingFailed) (next c { up with glb := { up.glb with c1 := {} } }) ∧ sReturn c = true ∧
      Taken (.cellarService c (.channelFailed 0)) (next c { up with glb := { up.glb with c1 := {} } })) ∧
    (let c := pkt 0xC8 0 0x10002 0 0 0 0 0 0
     Taken (.chanBind c) (next c up) ∧ bUnbind c = false ∧ bHub c = false) ∧
    (let c := pkt 0xC0 0 2 0 0x1FF 0 0 0 0
     Taken (.pmEnter c) (next c up) ∧ (next c up).pm.entry = none ∧ 2 ≤ mSt c ∧ target c ≠ up.pm.st ∧ graceMs up ≠ 0) ∧
    (let c := pkt 0xC0 0 0 0 0 0 0 0 0
     let s : State := { next c up with pm := { up.pm with entry := some { target := .sleep, seq := 1, rooms := 0, selfRefresh := false, mask := 0, perm := 0x1FF1E } } }
     Taken (.pmEnter c) s ∧ s.pm.entry ≠ none ∧ mSt c = 0) := by
  refine ⟨⟨⟨⟨by decide, by decide⟩, by decide⟩, by decide⟩, ⟨⟨⟨by decide, by decide⟩, by decide⟩, by decide⟩,
    ⟨⟨⟨by decide, by decide⟩, by decide⟩, by decide, by decide, ⟨⟨by decide, by decide⟩, by decide⟩, by decide⟩,
    ⟨⟨⟨by decide, by decide⟩, by decide⟩, by decide⟩, ⟨⟨by decide, by decide⟩, by decide⟩,
    ⟨⟨⟨by decide, by decide⟩, by decide⟩, by decide, ⟨by decide, by decide⟩, by decide⟩,
    ⟨⟨⟨by decide, by decide⟩, by decide⟩, by decide⟩, ⟨⟨⟨by decide, by decide⟩, by decide⟩, by decide⟩,
    ⟨⟨by decide, by decide⟩, by decide⟩, by decide⟩

/-- A PM_ENTER in a state with the given power registers. -/
def entering (c : Packet) (p : Pm) : State := { next c up with pm := p }

def sleepReq : PmReq := { target := .sleep, seq := 1, rooms := 0, selfRefresh := false, mask := 0, perm := 0x1FF1E }

theorem test_hyp_PmEnter :
    (let c := pkt 0xC0 0 1 0 0 0 0 0 0
     Taken (.pmEnter c) (entering c up.pm) ∧ (entering c up.pm).pm.entry = none ∧ mSt c = 1 ∧
      refusers (entering c up.pm) .idle (pmPerm (entering c up.pm)) = []) ∧
    (let c := pkt 0xC0 0 0 0 0 0 0 0 0
     let p := { up.pm with st := .idle }
     Taken (.pmEnter c) (entering c p) ∧ (entering c p).pm.entry = none ∧ mSt c = 0) ∧
    (let c := pkt 0xC0 0 3 0 0 0 0 0 0
     let p := { up.pm with entry := some sleepReq }
     Taken (.pmEnter c) (entering c p) ∧ (entering c p).pm.entry ≠ none ∧ mSt c ≠ 0) ∧
    (let c := pkt 0xC8 0 0x109 0x301 0 0 0 0 0
     let s := next c (modPort 0 (fun p => { p with units := [(1, { unit1 with isHub := true })] }) up)
     Taken (.chanBind c) s ∧ bUnbind c = false ∧ bHub c = true) := by
  refine ⟨⟨⟨⟨by decide, by decide⟩, by decide⟩, by decide, by decide, by decide⟩,
    ⟨⟨⟨by decide, by decide⟩, by decide⟩, by decide, by decide⟩,
    ⟨⟨⟨by decide, by decide⟩, by decide⟩, by decide, by decide⟩, ⟨⟨by decide, by decide⟩, by decide⟩, by decide, by decide⟩

def stageRd : OutRead := { ref := .stage 0, fn := 0, addr := 0x8000, len := 64 }

/-- A header of Table 12-10 for a body of 320 bytes. -/
def header (v l : Byte) : List Byte :=
  [0x00, 0x0F, 0x60, 0x81, v, 0, 0, 0, l, 0, 0, 0, 0x40, 1] ++ List.replicate 242 0

def chunk (read last : Bool) : State :=
  { up with fw := { up.fw with chunk := some 4, chunkRead := read, chunkLen := 64, chunkLast := last, staging := true,
                               stageB := true }
            host := { up.host with reads := if read then [stageRd] else [] } }

theorem test_hyp_FirmwareActs :
    (let c := pkt 0xD0 0 0 0x8000 0 64 0 0 0
     Taken (.fwStage c) (next c up) ∧ fOff c = 0) ∧
    (let c := pkt 0xD0 0 1 0x8000 0 64 64 0 0
     let s : State := { up with fw := { up.fw with staging := true, staged := 64 } }
     Taken (.fwStage c) (next c s) ∧ fOff c ≠ 0) ∧
    (let s := chunk true false
     outRead s (.stage 0) = some stageRd ∧ s.fw.chunk = some 4 ∧ stageRd.discard = false ∧
      (retireRead (.stage 0) s).host.reads.any (fun r => isStage r.ref && !r.discard) = false) ∧
    (let s : State := { chunk true false with host := { up.host with reads := [stageRd, { stageRd with ref := .stage 64 }] } }
     outRead s (.stage 0) = some stageRd ∧
      (retireRead (.stage 0) s).host.reads.any (fun r => isStage r.ref && !r.discard) = true) ∧
    (let s : State := { chunk true false with host := { up.host with reads := [{ stageRd with discard := true }] } }
     (outRead s (.stage 0)).map (·.discard) = some true) ∧
    (let s := chunk false true
     s.fw.chunk = some 4 ∧ s.fw.chunkRead = false ∧ resultFits s.fw.chunkLast (.checked true) = true ∧
      imageFault s.fw.header (some (s.fw.staged + s.fw.chunkLen)) false s.fw.otp ≠ none) ∧
    (let s := chunk false true
     let s : State := { s with fw := { s.fw with header := header 7 2, staged := 512 } }
     imageFault s.fw.header (some (s.fw.staged + s.fw.chunkLen)) true s.fw.otp = none) ∧
    (let c := pkt 0xD1 0 1 0 0 0 0 0 0
     Taken (.fwActivate c true) (next c { up with fw := { up.fw with bValid := true } })) ∧
    (let s : State := { up with fw := { up.fw with actCmd := some 4, activating := true, updates := [⟨true, 8, 2, true⟩] } }
     s.fw.actCmd = some 4 ∧ s.boot.flrHeld = false ∧ s.fw.updates = ⟨true, 8, 2, true⟩ :: []) ∧
    (let c := pkt 0xD2 0 0 0 0 0 0 0 0
     Taken (.fwQuery c) (next c up)) := by
  refine ⟨⟨⟨⟨by decide, by decide⟩, by decide⟩, by decide⟩, ⟨⟨⟨by decide, by decide⟩, by decide⟩, by decide⟩, by decide,
    by decide, by decide, by decide +kernel, by decide +kernel, ⟨⟨by decide, by decide⟩, by decide⟩, by decide,
    ⟨⟨by decide, by decide⟩, by decide⟩⟩

/-- The device port in the given state on a SuperSpeed connection. -/
def dev (st : DevSt) : State :=
  { up with dev := { up.dev with en := true, st := st, conn := some .gen1x1, vbus := true, tunnel := true, alt1 := true } }

theorem test_hyp_DevicePortMoves :
    (answers up 0 = true ∧ offCode up 0xC00000 = none ∧ up.dev.en = false ∧ tst 0xA0003 0 = true ∧ tst 2 0 = false ∧
      (up.dev.st ≠ .suspended ∨ up.dev.en = true) ∧ (dev .configured).dev.en = true ∧ devOn (dev .configured) = true) ∧
    (let s : State := { dev .suspended with dev := { (dev .suspended).dev with rwe := true } }
     tst 9 3 = true ∧ tst 9 0 = true ∧ s.dev.en = true ∧ s.dev.st = .suspended ∧ s.dev.rwe = true ∧ s.dev.waking = false ∧
      ({ s with dev := { s.dev with waking := true } } : State).dev.waking = true) ∧
    ((dev .detached).dev.st = .detached ∧ (dev .detached).dev.ssOff = false) ∧
    (devSuper (dev .configured) = true ∧ (.warm = DevReset.usb2 ↔ devSuper (dev .configured) = false) ∧
      (.u1 = DevLpm.l1 ↔ devSuper (dev .configured) = false) ∧ (dev .configured).dev.st ≠ .suspended) ∧
    (tunnelOpen (dev .configured) = true ∧ tunRoom (dev .configured) 1 5 = true ∧ (1 : Fin 16) ≠ 0 ∧
      (5 : BitVec 16) ≠ 0 ∧ (5 : BitVec 16).toNat ≤ 65533 ∧ (dev .configured).dev.reqs = []) ∧
    (let q : Queue := { st := .enabled, log2 := 9, ents := List.replicate 512 (entOf 0 3 64 .attached) }
     let s : State := { dev .configured with dev := { (dev .configured).dev with tq := q } }
     tunRoom s 1 5 = false) ∧
    (let r : TunReq := { pair := 1, stream := 5, idx := some 0, dw0 := 0x07000001, len := 64, setup0 := 0, setup1 := 0 }
     let s : State := { dev .configured with dev := { (dev .configured).dev with reqs := [r] } }
     let e : TunReq := { r with ended := some ⟨0, 0, 0, 0, false⟩ }
     s.dev.reqs.find? (fun r => r.pair = 1 && r.stream = 5 && fld r.dw0 24 8 = 7 && r.ended.isNone) = some r ∧
      [e].find? (fun r => r.pair = 1 && r.stream = 5) = some e ∧ e.ended = some ⟨0, 0, 0, 0, false⟩) ∧
    (let c := pkt 0xE1 0 1 1000 0 0 0 0 0
     Taken (.diagLoopback c true) (next c up)) ∧
    ({ up with dev := { up.dev with loopCmd := some (4, 1, 1) } } : State).dev.loopCmd = some (4, 1, 1) := by
  refine ⟨by decide, by decide, by decide, by decide, by decide, by decide +kernel, by decide, ⟨⟨by decide, by decide⟩, by decide⟩,
    by decide⟩

theorem test_hyp_TunnelAnswers :
    let r : TunReq := { pair := 1, stream := 5, idx := some 0, dw0 := 0x07000001, len := 64, setup0 := 0, setup1 := 0
                        ended := some ⟨0, 0, 0, 0, false⟩ }
    let s : State := { dev .configured with dev := { (dev .configured).dev with reqs := [r] } }
    tunnelOpen s = true ∧ s.dev.reqs.find? (fun r => r.pair = 1 && r.stream = 5) = some r := by decide

theorem test_hyp_ControlRequestsAreAnswered :
    (devOn (dev .default) = true ∧ (dev .default).dev.st ≠ .suspended ∧ (dev .default).cmd.paused = false) ∧
    (let s : State := { dev .address with cmd := { up.cmd with paused := true } }
     devOn s = true ∧ s.dev.st ≠ .suspended ∧ s.cmd.paused = true) ∧
    hasTunnel (dev .configured) = true ∧ (0x41 : Byte).toNat / 32 % 4 = 2 ∧ (0x41, 0x77) ∉ vendorRequests := by decide

def ch (x : ChanReg) : State := modChan 2 (fun _ => x) up

/-- A channel that has cooled down, past its retries, and a sample without current. -/
def cooled : ChanReg := { en := true, st := .cooling, cause := 1, offLeft := 0, count := 10 }
def still : ChanSample := ⟨0, 5000, 12000, 100, 0, []⟩

theorem test_cool_gate : coolGate cooled = true := by
  simp [cooled, coolGate, tUse, tModel, tRearm, tTrip, fld]; decide

/-- T_HS of Table 14-4 is the temperature of a channel without dissipation (R376). -/
theorem test_still_is_T_HS (t : Word) (h : t = 0x3C0000 ∨ t = 0x3C5096) :
    tUse (heat { st := .on, tcfg := t } still) = 60 := by
  rcases h with rfl | rfl <;> simp [heat, still, tUse, tModel, fld, sense]

theorem test_hyp_ChannelsMove :
    (answers up 0 = true ∧ offCode up (chBase 2) = none ∧ tst 1 0 = true ∧ tst 1 1 = false ∧ tst 0 0 = false ∧
      tst 3 1 = true ∧ tst 3 0 = true) ∧
    ((chan (ch { en := true, st := .lockout }) 2).en = true ∧ (chan (ch { en := true, st := .lockout }) 2).st = .lockout) ∧
    (gateOn (ch { en := true, st := .on }) (chan (ch { en := true, st := .on }) 2) = true ∧
      (ch { st := .ramp }).mgmt.gatesHeld = false) ∧
    (let s := ch { en := true, st := .on, limiting := true, vout := 4000 }
     (chan s 2).limiting = true ∧ (chan s 2).vout.toNat < 4400) ∧
    (chanUp up 2 = true ∧ (chan up 2).seatA = false ∧ (chan (ch { seatA := true, seatB := true }) 2).seatA ≠ false) ∧
    ((chan (ch { en := true, st := .debounce }) 2).seatLeft = 0 ∧ permission (ch { en := true, st := .debounce }) 2 = true) ∧
    (chanUp up (0 * 8) = true ∧ isLow up 0 = false ∧ isLow { up with chans := { up.chans with lowA := true } } 0 = true ∧
      (chan { up with chans := { up.chans with lowA := true } } 3).st ≠ .on) ∧
    (chanUp (ch cooled) 2 = true ∧ chan (ch cooled) 2 = cooled ∧ retries cooled ≤ cooled.count) ∧
    (tTrip { tcfg := 0x3C0000 } = 0 ∧ tTrip { tcfg := 0x3C5096 } = 150 ∧ badSense (chan up 2) still = false) ∧
    (let m : ChanSample := ⟨100, 5000, 12000, 900, 0, []⟩
     badSense { tcfg := 0x13C5096 } m = true) := by decide +kernel

/-- A cradle without heat, that a terminal takes; and one whose port gives no permission. -/
def cold : ChanReg := { en := true, st := .unseated, offLeft := 0 }

theorem test_hyp_ChannelsMoveMore :
    (chanUp (ch cold) 2 = true ∧ (chan (ch cold) 2).seatA = false ∧ (chan (ch cold) 2).st = .unseated) ∧
    (let s := ch { en := true, st := .debounce, bound := true }
     (chan s 2).st = .debounce ∧ (chan s 2).seatLeft = 0 ∧ permission s 2 = false) ∧
    (let s := ch { en := true, st := .lockout, count := 3, bound := true }
     answers s 0 = true ∧ offCode s (chBase 2) = none ∧ (chan s 2).st = .lockout ∧ permission s 2 = false) ∧
    (let s := ch { cooled with count := 0 }
     chanUp s 2 = true ∧ (chan s 2).st = .cooling ∧ (chan s 2).count < retries (chan s 2) ∧ permission s 2 = true) ∧
    (let s := ch { en := true, st := .on, tcfg := 0x13C5096 }
     let m : ChanSample := ⟨100, 5000, 12000, 900, 0, []⟩
     chanUp s 2 = true ∧ badSense (chan s 2) m = true ∧ (chan s 2).senseFault = false) ∧
    (let s := ch { en := true, st := .on, tcfg := 0x3C0000 }
     chanUp s 2 = true ∧ gateOn s (chan s 2) = true ∧ TripCause.short ∈ ({ still with found := [.short] } : ChanSample).found) := by
  decide +kernel

theorem test_cold_gate : coolGate cold = true := by
  simp [cold, coolGate, tUse, tModel, tRearm, tTrip, fld]; decide

theorem test_hyp_PowerStatesMove :
    (let s : State := { up with funcs := [(0, { memEnable := true, dstate := .d3cold })]
                                pm := { up.pm with entry := some { target := .sleep, seq := 1, rooms := 0, selfRefresh := false, mask := 0, perm := 0x1FF1E } } }
     refusers s .sleep 0x1FF1E = [] ∧ refusers s .deep 0x1FF1E = [] ∧ refusers s .off 0x1FF1E = [] ∧ s.pm.pend = none) ∧
    (let s : State := { jobRun outXfer {} with pm := { up.pm with entry := some { target := .sleep, seq := 1, rooms := 0, selfRefresh := false, mask := 0, perm := 0x1FF1E } } }
     refusers s .sleep 0x1FF1E ≠ [] ∧ s.pm.pend = none) ∧
    (let s : State := { up with pm := { up.pm with st := .idle } }
     s.pm.st = .idle ∧ s.pm.gated = false ∧ fabQuiet s = true) ∧
    (let s : State := { up with pm := { up.pm with st := .sleep, armed := 0x1FF } }
     s.pm.entry = none ∧ s.pm.pend = none ∧ s.pm.armed.getLsbD 0 = true ∧ s.pm.armed.getLsbD 1 = true ∧
      s.pm.armed.getLsbD 7 = true ∧ 2 ≤ (7 : Fin 9).val ∧ (4 : Fin 8).val ≤ 6) ∧
    (let s : State := { State.reset with pm := { State.reset.pm with st := .off, armed := 1 } }
     s.pm.st = .off ∧ s.pm.armed.getLsbD 0 = true ∧ s.pm.pend = none) ∧
    (let s : State := { State.reset with pm := { State.reset.pm with st := .deep, armed := 0x107 } }
     s.pm.st = .deep ∧ s.pm.armed.getLsbD 0 = true ∧ s.pm.armed.getLsbD 1 = true ∧ s.pm.armed.getLsbD 2 = true ∧
      s.pm.entry = none ∧ s.pm.pend = none) ∧
    (let s : State := { up with funcs := [(0, { memEnable := true, dstate := .d3cold })]
                                pm := { up.pm with entry := some { target := .deep, seq := 1, rooms := 4, selfRefresh := false, mask := 0, perm := 0x1FF1E } } }
     s.pm.entry = some { target := .deep, seq := 1, rooms := 4, selfRefresh := false, mask := 0, perm := 0x1FF1E } ∧
      refusers s .deep 0x1FF1E = []) ∧
    (let s : State := { up with funcs := [(0, { memEnable := true, dstate := .d3cold })]
                                pm := { up.pm with entry := some { target := .off, seq := 1, rooms := 0, selfRefresh := false, mask := 1, perm := 0x1FF1E } } }
     s.pm.entry = some { target := .off, seq := 1, rooms := 0, selfRefresh := false, mask := 1, perm := 0x1FF1E } ∧
      refusers s .off 0x1FF1E = [] ∧ s.pm.st ≠ .off ∧ (1 : BitVec 9).getLsbD 0 = true ∧ sourcesOf .off ≠ 0) ∧
    (let s : State := { up with pm := { up.pm with entry := some { target := .sleep, seq := 1, rooms := 0, selfRefresh := false, mask := 0x80, perm := 0x1FF1E } } }
     s.pm.entry = some { target := .sleep, seq := 1, rooms := 0, selfRefresh := false, mask := 0x80, perm := 0x1FF1E } ∧ (((0x80 : BitVec 9) ||| 0x004) &&& sourcesOf .sleep).getLsbD 7 = true ∧
      (((0x80 : BitVec 9) ||| 0x004) &&& sourcesOf .sleep).getLsbD 3 = false) := by decide

theorem test_hyp_RoomsAreKept :
    let e : PmReq := { target := .deep, seq := 1, rooms := 4, selfRefresh := false, mask := 0, perm := 0x1FF1E }
    let s : State := { up with funcs := [(0, { memEnable := true, dstate := .d3cold })]
                               pm := { up.pm with entry := some e, rooms := [(262144, 7), (393216, 9)] } }
    s.pm.entry = some e ∧ refusers s .deep 0x1FF1E = [] ∧ e.rooms.getLsbD (262144 / 131072) = true ∧
      e.rooms.getLsbD (393216 / 131072) = false := by decide

def image (v : Byte) : Image := ⟨header v 2, true⟩
def noImage : Image := ⟨List.replicate 256 0, false⟩
/-- A boot whose slots hold these images. -/
def bootOf (a b : Image) (bad : Bool) : BootOutcome :=
  { ports := 0, lane1 := 0, cellar := 0, rooms := 0, pumps := 0, ways := 0, entries := 0, retiredPages := 0, recordBad := bad,
    slotAReads := true, slotA := a, slotAStarts := true, slotBReads := true, slotB := b, slotBStarts := true, otp := 0,
    bootMs := 100, cellarGiB := 8, cellarRate := 6400, aonTicks := 0, offMs := 0 }

theorem test_hyp_StartUpRuns :
    (State.reset.boot.up = false ∧ State.reset.boot.failed = false ∧ State.reset.pm.st = .run) ∧
    slotRuns (bootOf (image 7) noImage false) {} false = some (7, 2) ∧
    (slotRuns (bootOf noImage (image 8) false) {} false = none ∧
      slotRuns (bootOf noImage (image 8) false) {} (!false) = some (8, 2)) ∧
    (∀ b, slotRuns (bootOf noImage noImage true) {} b = none) ∧ up.boot.up = true ∧
    (let s : State := { up with boot := { up.boot with failed := true, xtalWait := true, otherCheck := true } }
     s.boot.failed = true ∧ s.boot.xtalWait = true ∧ s.boot.otherCheck = true) ∧
    (cfgUp up = true ∧ up.boot.fwReady = true ∧ up.cmd.paused = false ∧ up.pm.st ≠ .sleep) ∧
    (let s : State := { up with boot := { up.boot with fwReady := false } }
     cfgUp s = true ∧ s.boot.fwReady = false) := by decide

theorem test_hyp_ManagementAnswers :
    mgtUp up = true ∧ awakeFor 6 up = true ∧ awakeFor 7 up = true ∧ mgtUp State.reset = false ∧
      (∀ a ∈ [0x0, 0x4, 0x8], offCode up a = none) ∧ up.pm.st ≠ .sleep ∧
    (let s : State := { up with pm := { up.pm with st := .sleep, armed := 0xC0 } }
     mgtUp s = true ∧ s.pm.st = .sleep ∧ s.pm.entry = none ∧ s.pm.pend = none ∧ s.pm.armed.getLsbD 6 = true ∧
      s.pm.armed.getLsbD 7 = true) ∧
    ((((0xC0 : BitVec 9) ||| 0x004) &&& sourcesOf .sleep).getLsbD 6 = true ∧
      (((0xC0 : BitVec 9) ||| 0x004) &&& sourcesOf .sleep).getLsbD 7 = true) ∧
    gateOn (ch { st := .on }) (chan (ch { st := .on }) 2) = true := by decide

/-! ### Well-formedness: each check refuses an ill-formed command -/

theorem test_wf_refuses :
    ([.registerWrite .bar0 0x1000000 0, .offBlockAccess .bar0 0x1000000 1 true .pcie, .offBlockAccess .bar0 0 0 true .pcie, .entryFetchReturn 5 0 (.data []),
      .moderationTimerExpiry 3 16, .pendingMsixRelease 3 16, .msixVectorUnmask 3 255, .linkTrained 0 8 false,
      .linkTrained 5 3 false, .vfFunctionLevelReset 0, .instanceResetEnd 0 1, .instanceRemovalEnd 0, .mailboxT2mPost 0,
      .mailboxT2mAck 0, .mailboxM2tPost 0, .mailboxM2tAck 0, .rstDoneClear 0, .mailboxPaneWrite true 0 true 0 [1],
      .mailboxPaneWrite true 3 true 0 [], .mailboxPaneWrite true 3 true 255 [1, 2], .dataPacketReceived 0 ⟨[], 32, true, true, true, false⟩,
      .ackReceived 0 ⟨17, false, true⟩, .erdyReceived 0 65536, .probeResult 0 0 (.status true true false false 16),
      .busIntervalAdjustment 0 1 32768, .portResetComplete 0 0 4, .portResetComplete 0 1 3, .setConfiguration 65536,
      .setInterface 0 65536, .notice 0 0 (List.replicate 65536 0), .slotBackgroundCheck ⟨[], true⟩, .stageChunkReadReturn 65536 (.data []), .wakeSourceFired 1 ⟨⟨0, 0⟩, true, 0⟩,
      .wakeStepTimeout 0 7] : List Instr).all (fun i => !i.wf) = true := by decide +kernel

theorem test_wf_accepts :
    ([.registerWrite .bar0 0xFFFFFF 0, .msixVectorUnmask 0 255, .linkTrained 5 8 true, .mailboxPaneWrite true 3 true 252 [1, 2, 3, 4],
      .portResetComplete 0 1 4, .erdyReceived 0 65535, .wakeSourceFired 2 ⟨⟨0, 0⟩, true, 0⟩] : List Instr).all
        (fun i => i.wf) = true := by decide

/-! ### One step each -/

/-- The state after a command, or the state before where it stops. -/
def after (c : Instr) (s : State) : State := match exec c s with | .next t => t | _ => s

/-- No row of the table has bits. -/
theorem test_no_word_spells_a_command : decodeTableWord 32 0 = none := rfl

/-- Table 17-5: GLB_SCRATCH reads what was written. -/
theorem test_scratch_reads_back : bar0Word (after (.registerWrite .bar0 0xC 0x12345678) up) 0xC = 0x12345678 := by decide

/-- Table 17-5: GLB_STAT is 0 at reset. -/
theorem test_status_read : bar0Word State.reset 0x10 = 0 := by decide

/-- Table 2-5: a doorbell of a queue that does not exist is counted. -/
theorem test_doorbell_dropped : (after (.doorbellWrite (.manager 9)) up).qe.dbdrop = 1 := by decide

/-- Table 3-1: the cell is read whole, 16 bytes. -/
theorem test_doorbell_reads_cell : (after (.doorbellWrite (.manager 5)) (withQ subQ)).out = [.read 0 0x20000 16] := by decide

/-- R88: a fence counter wraps. -/
theorem test_fence_wraps :
    fenceGet (after (.fenceSignal 5 0) { withQ { subQ with ents := [entOf 0 9 0 .attached] } with
      qe := { (withQ { subQ with ents := [entOf 0 9 0 .attached] }).qe with fences := [(0, 0xFFFFFFFF)] } }) 0 0 = 0 := by
  decide

/-- R219: the master interval number wraps. -/
theorem test_interval_wraps :
    (after .masterIntervalTick { up with iso := { up.iso with mic := 0xFFFFFFFF, pos := 15359 } }).iso.mic = 0 := by decide

/-- R282: a read of the device port while it is off returns 0xBAD0_0005. -/
theorem test_off_read : (after (.offBlockAccess .bar0 0xC00008 1 false .pcie) up).out.getLast? = some (.readData 0xBAD00005) := by
  decide

/-- R300: a post from the tenant's side. -/
theorem test_mailbox_post : (inst (after (.mailboxT2mPost 3) tenant3) 3).t2m = true := by decide

/-- R160. -/
theorem test_second_erdy :
    (after (.erdyReceived 10 0) (onBus { ssIn with erdyPend := true } inXfer 3 [desc])).sched.stray = 1 := by decide

/-- Table 6-3: a port reset from DISABLED is warm. -/
theorem test_reset_from_disabled :
    (halfReg (after (.portReset 0 0 0x10) (half 0 { st := .disabled })) 0 0).warm = true := by decide

/-- Table 8-3: AREF lost in LOCKED without holdover time. -/
theorem test_aref_lost : (after .arefLost (lock .locked true)).iso.losses = 1 := by decide

/-- Table 12-6: DIAG_ECHO returns its dwords; a packet that fails a check is counted. -/
theorem test_refused_is_counted :
    (after (.queueDelete (pkt 0x81 0 0 0 0 0 0 0 0)) (next (pkt 0x81 0 0 0 0 0 0 0 0) up)).cmd.refused = 1 := by decide

/-- Table 12-3: a created queue is DISABLED. -/
theorem test_queue_created :
    (queue (after (.queueCreate (pkt 0x80 0 0x40005 0x103 0x10000 0 0x20000 0 0))
      (next (pkt 0x80 0 0x40005 0x103 0x10000 0 0x20000 0 0) up)) 5).map (·.st) = some .disabled := by decide

/-- R329: a swap does not commit in the interval of its acceptance. -/
theorem test_swap_waits :
    (after (.cfgSwap (pkt 0xB3 0 0 0 0 0 0 0 0)) (next (pkt 0xB3 0 0 0 0 0 0 0 0) up)).cmd.pendSwap = true := by decide

/-- R374, R378: a hard short opens the gate and is counted. -/
theorem test_hard_short : (chan (after (.hardShort 2 []) (ch { en := true, st := .on })) 2).shorts = 1 := by decide

/-- R349: SET_ADDRESS takes DEFAULT to ADDRESS. -/
theorem test_set_address : (after (.setAddress 9) (dev .default)).dev.st = .address := by decide

/-- R407: start-up runs the slot of the boot record. -/
theorem test_power_on : (after (.powerOn (bootOf (image 7) (image 8) false))
    { State.reset with fw := { State.reset.fw with recSlotB := true } }).fw.ver = 8 := by decide +kernel

/-- R441: a JTAG test instruction drives every gate off. -/
theorem test_extest : (after .extest up).mgmt.gatesHeld = true := by decide
end Sys2Proof.Tests
end

section
/-! Host bus errors (R60): what a host bus error writes to HI_HERR, and the fault-log record that it raises, written at
once or held through an activation pause (R286, R341). -/

namespace Sys2Proof.Machine

open Sys2Proof

/-! ### What a frame says of HI_HERR, the fault log and the pause -/

section Frames

variable {ps : List Part} {s t : State}

theorem Touches.herr (h : Touches ps s t) (n : .herr ∉ ps) :
    t.host.herrAddr = s.host.herrAddr ∧ t.host.herrInst = s.host.herrInst ∧ t.host.herrValid = s.host.herrValid ∧
    t.host.herrKind = s.host.herrKind ∧ t.host.herrSource = s.host.herrSource ∧
    t.host.herrEdges = s.host.herrEdges := by
  simpa only [Part.Same, Prod.mk.injEq] using h .herr n

theorem Touches.faultLog (h : Touches ps s t) (n : .log ∉ ps) :
    t.sump.logSeq = s.sump.logSeq ∧ t.sump.logCap = s.sump.logCap ∧ t.sump.log = s.sump.log := by
  simpa only [Part.Same, Prod.mk.injEq] using h .log n

theorem Touches.heldRecords (h : Touches ps s t) (n : .fwHeld ∉ ps) :
    t.fw.logHeld = s.fw.logHeld ∧ t.fw.logAbsent = s.fw.logAbsent := by
  have e := h .fwHeld n
  simp only [Part.Same, Prod.mk.injEq] at e
  obtain ⟨held, absent, -⟩ := e
  exact ⟨held, absent⟩

theorem Touches.mic (h : Touches ps s t) (n : .clock ∉ ps) : t.iso.mic = s.iso.mic := by
  have e := h .clock n
  simp only [Part.Same, Prod.mk.injEq] at e
  obtain ⟨-, mic, -⟩ := e
  exact mic

end Frames

/-! ### The fault log -/

theorem logPush_logSeq (kind : Nat) (iv : Word) (pay : List Word) (s : State) :
    (logPush kind iv pay s).sump.logSeq = s.sump.logSeq + 1 := rfl

/-- Dropping the oldest records never reaches the newest one while the ring has room for one (R286). -/
theorem logPush_getLast? (kind : Nat) (iv : Word) (pay : List Word) (s : State) (hcap : 0 < s.sump.logCap.toNat) :
    (logPush kind iv pay s).sump.log.getLast? =
      some { kind := kind, seq := s.sump.logSeq, interval := iv, pay := pay } := by
  unfold logPush
  dsimp only
  split
  case isTrue full =>
    have kept : ¬ (s.sump.log.length + 1 ≤ s.sump.log.length + 1 - s.sump.logCap.toNat) := by omega
    simp [List.getLast?_drop, kept]
  case isFalse => simp

/-- Outside an activation pause a record is written at once. -/
theorem logRec_running (kind : Nat) (pay : List Word) {s : State} (hp : s.cmd.paused = false) :
    logRec kind pay s = logPush kind s.iso.mic pay s := by
  simp [logRec, hp]

/-- An activation pause holds up to 256 records back (R341). -/
theorem logRec_paused_held (kind : Nat) (pay : List Word) {s : State} (hp : s.cmd.paused = true)
    (room : s.fw.logHeld.length < 256) :
    (logRec kind pay s).fw.logHeld =
      s.fw.logHeld ++ [{ kind := kind, seq := 0, interval := s.iso.mic, pay := pay }] := by
  simp [logRec, hp, room]

/-- A record beyond the 256 that an activation pause holds back is only counted (R341). -/
theorem logRec_paused_counted (kind : Nat) (pay : List Word) {s : State} (hp : s.cmd.paused = true)
    (full : 256 ≤ s.fw.logHeld.length) :
    (logRec kind pay s).fw.logHeld = s.fw.logHeld ∧ (logRec kind pay s).fw.logAbsent = s.fw.logAbsent + 1 := by
  simp [logRec, hp, Nat.not_lt.mpr full]

/-! ### A host bus error -/

/-- HI_HERR after an error: the first one since VALID was cleared is held, and each one advances EDGES (R60). -/
def recordHerr (i : Nat) (k : ErrKind) (source addr : Nat) (h : HostIf) : HostIf :=
  if h.herrValid then { h with herrEdges := h.herrEdges + 1 }
  else { h with
    herrEdges := h.herrEdges + 1, herrValid := true, herrInst := BitVec.ofNat 8 i,
    herrKind := BitVec.ofNat 3 (kindCode k), herrSource := BitVec.ofNat 4 source,
    herrAddr := BitVec.ofNat 64 (addr / 4 * 4) }

/-- The payload of the error's fault-log record, with EDGES as the error leaves it (Table 10-5). -/
def herrPay (i : Nat) (k : ErrKind) (source addr : Nat) (edges : BitVec 8) : List Word :=
  [wd (addr / 4 * 4), wd (addr / 2 ^ 32),
    pack [(i, 0), (1, 8), (kindCode k, 9), (source, 12), (edges.toNat, 16)], 0, 0]

/-- The state with the error in HI_HERR and AER, before its fault-log record is raised. -/
def markHostError (i : Nat) (k : ErrKind) (source addr : Nat) (s : State) : State :=
  aerMark i (aerOf k) (k = .unsupported || k = .abort) { s with host := recordHerr i k source addr s.host }

section HostError

variable (i : Nat) (k : ErrKind) (source addr : Nat)

theorem hostError_eq (s : State) :
    hostError i k source addr s =
      logRec 0x31 (herrPay i k source addr (s.host.herrEdges + 1)) (markHostError i k source addr s) := rfl

theorem recordHerr_herrValid (h : HostIf) : (recordHerr i k source addr h).herrValid = true := by
  unfold recordHerr
  split
  case isTrue held => exact held
  case isFalse => rfl

theorem recordHerr_herrEdges (h : HostIf) : (recordHerr i k source addr h).herrEdges = h.herrEdges + 1 := by
  unfold recordHerr
  split <;> rfl

theorem recordHerr_of_valid {h : HostIf} (held : h.herrValid = true) :
    recordHerr i k source addr h = { h with herrEdges := h.herrEdges + 1 } := if_pos held

theorem recordHerr_of_not_valid {h : HostIf} (free : h.herrValid = false) :
    recordHerr i k source addr h = { h with
      herrEdges := h.herrEdges + 1, herrValid := true, herrInst := BitVec.ofNat 8 i,
      herrKind := BitVec.ofNat 3 (kindCode k), herrSource := BitVec.ofNat 4 source,
      herrAddr := BitVec.ofNat 64 (addr / 4 * 4) } := if_neg (by simp [free])

/-- Only HI_HERR and what AER changes differ before the record is raised; the fault log and the pause do not. -/
theorem markHostError_touches (s : State) :
    Touches [.l1, .herr, .fnErr, .gate, .freeCount, .out] s (markHostError i k source addr s) := by
  have host : Eff [.herr] s { s with host := recordHerr i k source addr s.host } := by
    unfold recordHerr
    split <;> exact Eff.upd (Eff.refl _ _)
  exact (aerMark_eff.step host.weaken).touches

/-- AER and the fault log leave HI_HERR as the error was recorded there. -/
theorem hostError_herr (s : State) :
    let t := hostError i k source addr s
    let h := recordHerr i k source addr s.host
    t.host.herrAddr = h.herrAddr ∧ t.host.herrInst = h.herrInst ∧ t.host.herrValid = h.herrValid ∧
    t.host.herrKind = h.herrKind ∧ t.host.herrSource = h.herrSource ∧ t.host.herrEdges = h.herrEdges := by
  let s' : State := { s with host := recordHerr i k source addr s.host }
  have marked : Eff [.l1, .fnErr, .gate, .freeCount, .out] s' (markHostError i k source addr s) := aerMark_eff
  have logged : Eff [.l1, .fnErr, .log, .fwHeld, .gate, .freeCount, .out] s' (hostError i k source addr s) :=
    logRec_eff.step marked.weaken
  exact logged.touches.herr (by decide)

/-- Outside a pause the newest record of the fault log is the error's own. -/
theorem hostError_log_running {s : State} (hp : s.cmd.paused = false) (hcap : 0 < s.sump.logCap.toNat) :
    (hostError i k source addr s).sump.logSeq = s.sump.logSeq + 1 ∧
    (hostError i k source addr s).sump.log.getLast? =
      some { kind := 0x31, seq := s.sump.logSeq, interval := s.iso.mic,
             pay := herrPay i k source addr (s.host.herrEdges + 1) } := by
  have frame := markHostError_touches i k source addr s
  obtain ⟨hseq, hcapEq, -⟩ := frame.faultLog (by decide)
  rw [hostError_eq, logRec_running _ _ ((congrArg (·.paused) (frame .cmd (by decide))).trans hp),
    logPush_logSeq, logPush_getLast? _ _ _ _ (hcapEq ▸ hcap), hseq, frame.mic (by decide)]
  exact ⟨rfl, rfl⟩

/-- In a pause with room left the error's record joins those held back. -/
theorem hostError_log_held {s : State} (hp : s.cmd.paused = true) (room : s.fw.logHeld.length < 256) :
    (hostError i k source addr s).fw.logHeld = s.fw.logHeld ++
      [{ kind := 0x31, seq := 0, interval := s.iso.mic,
         pay := herrPay i k source addr (s.host.herrEdges + 1) }] := by
  have frame := markHostError_touches i k source addr s
  obtain ⟨hheld, -⟩ := frame.heldRecords (by decide)
  rw [hostError_eq, logRec_paused_held _ _ ((congrArg (·.paused) (frame .cmd (by decide))).trans hp)
    (hheld ▸ room), hheld, frame.mic (by decide)]

/-- In a pause without room the error's record is counted as absent. -/
theorem hostError_log_counted {s : State} (hp : s.cmd.paused = true) (full : 256 ≤ s.fw.logHeld.length) :
    (hostError i k source addr s).fw.logHeld = s.fw.logHeld ∧
    (hostError i k source addr s).fw.logAbsent = s.fw.logAbsent + 1 := by
  have frame := markHostError_touches i k source addr s
  obtain ⟨hheld, habsent⟩ := frame.heldRecords (by decide)
  have counted := logRec_paused_counted 0x31 (herrPay i k source addr (s.host.herrEdges + 1))
    ((congrArg (·.paused) (frame .cmd (by decide))).trans hp) (hheld ▸ full)
  rwa [← hostError_eq, hheld, habsent] at counted

end HostError

/-- Settles O17: HI_HERR holds what `recordHerr` gives, the record is what `logRec` makes of it inside and outside a
pause, and `hostError_eff` is the frame. -/
theorem firstHostErrorIsKept : Obligations.FirstHostErrorIsKept := by
  intro i k source addr s t pay
  obtain ⟨haddr, hinst, hvalid, hkind, hsource, hedges⟩ := hostError_herr i k source addr s
  have edges : t.host.herrEdges = s.host.herrEdges + 1 := hedges.trans (recordHerr_herrEdges ..)
  have hpay : pay = herrPay i k source addr (s.host.herrEdges + 1) := by rw [← edges]; rfl
  rw [hpay]
  refine ⟨hvalid.trans (recordHerr_herrValid ..), edges, fun held => ?first, fun free => ?new,
    hostError_log_running i k source addr, hostError_log_held i k source addr,
    hostError_log_counted i k source addr, hostError_eff.touches⟩
  case first =>
    rw [recordHerr_of_valid _ _ _ _ held] at haddr hinst hkind hsource
    exact ⟨haddr, hinst, hkind, hsource⟩
  case new =>
    rw [recordHerr_of_not_valid _ _ _ _ free] at haddr hinst hkind hsource
    exact ⟨haddr, hinst, hkind, hsource⟩

end Sys2Proof.Machine
end

section
/-! ERDY (R160, Table 5-2): which ERDY is dropped and counted in SCH_STRAY, which one is kept in ERDY_PEND, and what one
makes of a parked pipe. -/

namespace Sys2Proof.Machine

open Sys2Proof

section Erdy

variable {n : Nat} {x y : Pipe} {s : State}

/-! ### What the shared operations leave of a pipe's record and of SCH_STRAY -/

@[simp] theorem pipe_ungate (m : Nat) : pipe (ungate s) m = pipe s m := rfl
@[simp] theorem pipe_stray (m : Nat) : pipe (stray s) m = pipe s m := rfl
@[simp] theorem stray_counted : (stray s).sched.stray = s.sched.stray + 1 := rfl
@[simp] theorem setPipe_strayCount (m : Nat) : (setPipe m x s).sched.stray = s.sched.stray := rfl

@[simp] theorem modPipe_strayCount (m : Nat) (g : Pipe → Pipe) : (modPipe m g s).sched.stray = s.sched.stray := by
  unfold modPipe; split <;> rfl

theorem pipe_modPipe_of_some (g : Pipe → Pipe) (hy : pipe s n = some y) : pipe (modPipe n g s) n = some (g y) := by
  rw [pipe_modPipe, if_pos rfl, hy, Option.map_some]

@[simp] theorem bus_sched (p h : Nat) (k : BusPkt) : (bus p h k s).sched = s.sched :=
  bus_eff.touches .sched (by decide)

@[simp] theorem pipe_needCtx (n m : Nat) : pipe (needCtx n s) m = pipe s m := by
  unfold needCtx; split <;> rfl
@[simp] theorem needCtx_strayCount (n : Nat) : (needCtx n s).sched.stray = s.sched.stray := by
  unfold needCtx; split <;> rfl

@[simp] theorem pipe_setList (p g m : Nat) (l : List Nat) : pipe (setList p g l s) m = pipe s m := rfl
@[simp] theorem setList_strayCount (p g : Nat) (l : List Nat) :
    (setList p g l s).sched.stray = s.sched.stray := rfl

/-- Linking a pipe moves ready lists and context fills only. -/
@[simp] theorem pipe_link (n m : Nat) (atHead : Bool) : pipe (link n atHead s) m = pipe s m := by
  unfold link; split
  case h_1 => split <;> simp
  case h_2 => rfl
@[simp] theorem link_strayCount (n : Nat) (atHead : Bool) : (link n atHead s).sched.stray = s.sched.stray := by
  unfold link; split
  case h_1 => split <;> simp
  case h_2 => rfl

/-- A ready event that meets a stop may count as a cancel in RDYCANS and changes nothing else of the pipe (R154). -/
theorem pipe_readyCancel (hy : pipe s n = some y) :
    ∃ k, pipe (readyCancel n x s) n = some { y with rdycans := k } := by
  unfold readyCancel
  split
  case isTrue =>
    dsimp only
    split
    case isTrue => exact ⟨y.rdycans + 1, pipe_modPipe_of_some _ hy⟩
    case isFalse => exact ⟨y.rdycans, hy⟩
  case isFalse => exact ⟨y.rdycans, hy⟩

@[simp] theorem readyCancel_strayCount : (readyCancel n x s).sched.stray = s.sched.stray := by
  unfold readyCancel
  split
  case isTrue =>
    dsimp only
    split
    case isTrue => exact modPipe_strayCount ..
    case isFalse => rfl
  case isFalse => rfl

/-- Nothing starts at the head of a pipe that already has a transfer. -/
theorem startHeads_of_transfer (hy : pipe s n = some y) (busy : y.x ≠ none) : startHeads n s = s := by
  obtain ⟨k, hk⟩ := Option.ne_none_iff_exists'.mp busy
  simp only [startHeads, startHead, hy, hk]

/-! ### What an ERDY does, by the pipe's state -/

/-- The ready event of an ERDY that meets a stop (R154). -/
def erdyStopped (n : Nat) (x : Pipe) (s : State) : State :=
  if x.state = .stopped || x.stopping then readyCancel n x s else s

theorem pipe_erdyStopped (hy : pipe s n = some y) :
    ∃ k, pipe (erdyStopped n x s) n = some { y with rdycans := k } := by
  unfold erdyStopped
  split
  case isTrue => exact pipe_readyCancel hy
  case isFalse => exact ⟨y.rdycans, hy⟩

@[simp] theorem erdyStopped_strayCount : (erdyStopped n x s).sched.stray = s.sched.stray := by
  unfold erdyStopped
  split
  case isTrue => exact readyCancel_strayCount
  case isFalse => rfl

theorem erdyStopped_of_running (hs : x.state ≠ .stopped) (hr : x.stopping = false) : erdyStopped n x s = s := by
  simp [erdyStopped, hs, hr]

theorem erdyKept_of_halted_or_closing (h : x.state = .halted ∨ x.state = .closing) : erdyKept n x s = stray s := by
  obtain h | h := h <;> simp only [erdyKept, h]

theorem erdyKept_of_open (hh : x.state ≠ .halted) (hc : x.state ≠ .closing) : erdyKept n x s =
    if x.erdyPend then stray (erdyStopped n x s)
    else modPipe n (fun y => { y with erdyPend := true, rdyLatch := y.rdyLatch || decide (x.state = .stopped) })
      (erdyStopped n x s) := by
  unfold erdyKept erdyStopped
  split <;> simp_all

theorem erdyPipe_of_ready (h : x.state = .ready) : erdyPipe n x false s = stray s := by
  simp [erdyPipe, h]

theorem erdyPipe_of_idle (h : x.state = .idle) :
    erdyPipe n x false s = if x.kind = .stream then erdyKept n x s else stray s := by
  simp only [erdyPipe, h]

theorem erdyPipe_of_parked (h : x.state = .parked) (he : x.ents ≠ []) : erdyPipe n x false s =
    startHeads n (link n false (setPipe n { x with state := .ready, waitErdy := false } s)) := by
  simp [erdyPipe, h, he]

/-- A pipe that is neither IDLE, READY nor PARKED keeps an ERDY, or drops it. -/
theorem erdyPipe_eq_erdyKept (hi : x.state ≠ .idle) (hr : x.state ≠ .ready) (hp : x.state ≠ .parked) :
    erdyPipe n x false s = erdyKept n x s := by
  unfold erdyPipe
  split <;> simp_all

theorem exec_erdyReceived_pipe {n : PipeId} {st : Nat} (hx : pipe s n = some x) (hk : x.kind ≠ .streamEp) :
    exec (.erdyReceived n st) s = .next (erdyPipe n x false (ungate s)) := by
  change execErdyReceived n st s = _
  simp only [execErdyReceived, erdy, pipe_ungate, hx, if_neg hk]

theorem exec_erdyReceived_streamEp {n : PipeId} {st : Nat} (hx : pipe s n = some x) (hk : x.kind = .streamEp) :
    exec (.erdyReceived n st) s = .next (erdyStream n x st (ungate s)) := by
  change execErdyReceived n st s = _
  simp only [execErdyReceived, erdy, pipe_ungate, hx, if_pos hk]

theorem exec_erdyReceived_closed {n : PipeId} {st : Nat} (hx : pipe s n = none) :
    exec (.erdyReceived n st) s = .next (stray (ungate s)) := by
  change execErdyReceived n st s = _
  simp only [execErdyReceived, erdy, pipe_ungate, hx]

/-! ### A dropped ERDY -/

/-- An ERDY for pipe `n`, whose record was `x`, was dropped: it counts in SCH_STRAY, and the pipe keeps its state, its
ERDY_PEND and its entries. -/
def ErdyDropped (n : Nat) (x : Pipe) (s t : State) : Prop :=
  t.sched.stray = s.sched.stray + 1 ∧
    ∃ y, pipe t n = some y ∧ y.state = x.state ∧ y.erdyPend = x.erdyPend ∧ y.ents = x.ents

theorem stray_dropped (hx : pipe s n = some x) : ErdyDropped n x s (stray s) :=
  ⟨rfl, x, hx, rfl, rfl, rfl⟩

/-- A packet sent besides changes nothing of a drop. -/
theorem ErdyDropped.bus {t : State} (d : ErdyDropped n x s t) (p h : Nat) (k : BusPkt) :
    ErdyDropped n x s (bus p h k t) := by
  unfold ErdyDropped pipe
  rw [bus_sched]
  exact d

/-- A drop that follows a change of the record in other fields is one of the pipe as it stood before. -/
theorem ErdyDropped.of_setPipe {t : State} (d : ErdyDropped n y (setPipe n y s) t) (state : y.state = x.state)
    (pend : y.erdyPend = x.erdyPend) (ents : y.ents = x.ents) : ErdyDropped n x s t := by
  obtain ⟨count, z, hz, zstate, zpend, zents⟩ := d
  exact ⟨count, z, hz, zstate.trans state, zpend.trans pend, zents.trans ents⟩

/-- A second ERDY before the dispatch is dropped wherever the first one is kept (R160). -/
theorem erdyKept_dropped (hx : pipe s n = some x) (pend : x.erdyPend = true) :
    ErdyDropped n x s (erdyKept n x s) := by
  by_cases hh : x.state = .halted
  · rw [erdyKept_of_halted_or_closing (.inl hh)]; exact stray_dropped hx
  by_cases hc : x.state = .closing
  · rw [erdyKept_of_halted_or_closing (.inr hc)]; exact stray_dropped hx
  rw [erdyKept_of_open hh hc, if_pos pend]
  obtain ⟨k, hk⟩ := pipe_erdyStopped (x := x) hx
  exact ⟨by simp, _, hk, rfl, rfl, rfl⟩

theorem erdyPipe_dropped (hx : pipe s n = some x) (pend : x.erdyPend = true) (hp : x.state ≠ .parked) :
    ErdyDropped n x s (erdyPipe n x false s) := by
  by_cases hr : x.state = .ready
  · rw [erdyPipe_of_ready hr]; exact stray_dropped hx
  by_cases hi : x.state = .idle
  · rw [erdyPipe_of_idle hi]
    split
    case isTrue => exact erdyKept_dropped hx pend
    case isFalse => exact stray_dropped hx
  · rw [erdyPipe_eq_erdyKept hi hr hp]; exact erdyKept_dropped hx pend

/-- A stream's own pipe drops a second ERDY, and so does the current stream's pipe that is READY (R160). -/
theorem erdyStream_dropped {ep st : Nat} {e : Pipe} (h1 : 1 ≤ st) (h2 : st ≤ e.streams)
    (hx : pipe s (e.link + st - 1) = some x)
    (again : x.erdyPend = true ∧ (x.ents ≠ [] ∨ x.state ≠ .parked) ∨
      x.state = .ready ∧ x.ents ≠ [] ∧ x.sstate = 2 ∧ e.curStream = st) :
    ErdyDropped (e.link + st - 1) x s (erdyStream ep e st s) := by
  have named : ¬ (st = 0 || e.streams < st) = true := by simp; omega
  simp only [erdyStream, if_neg named, hx]
  by_cases he : x.ents = []
  · obtain ⟨pend, hp⟩ : x.erdyPend = true ∧ x.state ≠ .parked := by simpa [he] using again
    simp only [he, List.isEmpty_nil, if_true]
    refine .bus (.of_setPipe (erdyPipe_dropped (pipe_setPipe_same ..) ?_ ?_) ?_ ?_ ?_) ..
    exacts [pend, hp, rfl, rfl, he.symm]
  · have second : (x.erdyPend || (x.state = .ready && x.sstate = 2 && e.curStream = st)) = true := by
      simp only [Bool.or_eq_true, Bool.and_eq_true, decide_eq_true_eq]
      tauto
    rw [if_neg (by simpa using he), if_pos second]
    exact .of_setPipe (stray_dropped (pipe_setPipe_same ..)) rfl rfl rfl

/-- A READY, halted or closing pipe drops any ERDY (Table 5-2), and an ACTIVE or HELD one that no stop waits for drops a
second one (R160). -/
theorem erdyPipe_stray (h : x.state = .ready ∨ x.state = .halted ∨ x.state = .closing ∨
      x.erdyPend = true ∧ x.stopping = false ∧ (x.state = .active ∨ x.state = .held)) :
    erdyPipe n x false s = stray s := by
  obtain h | h | h | ⟨pend, run, h⟩ := h
  · exact erdyPipe_of_ready h
  · rw [erdyPipe_eq_erdyKept (by simp [h]) (by simp [h]) (by simp [h]), erdyKept_of_halted_or_closing (.inl h)]
  · rw [erdyPipe_eq_erdyKept (by simp [h]) (by simp [h]) (by simp [h]), erdyKept_of_halted_or_closing (.inr h)]
  · obtain ⟨hi, hr, hp, hs, hh, hc⟩ : x.state ≠ .idle ∧ x.state ≠ .ready ∧ x.state ≠ .parked ∧
        x.state ≠ .stopped ∧ x.state ≠ .halted ∧ x.state ≠ .closing := by
      obtain h | h := h <;> simp [h]
    rw [erdyPipe_eq_erdyKept hi hr hp, erdyKept_of_open hh hc, if_pos pend, erdyStopped_of_running hs run]

/-! ### An ERDY that is kept or honoured -/

/-- A STOPPED pipe holds an ERDY after any, and counts a second one. -/
theorem erdyPipe_stopped (hx : pipe s n = some x) (h : x.state = .stopped) :
    ∃ y, pipe (erdyPipe n x false s) n = some y ∧ y.state = .stopped ∧ y.erdyPend = true ∧ y.ents = x.ents ∧
      (erdyPipe n x false s).sched.stray = s.sched.stray + (if x.erdyPend then 1 else 0) := by
  have kept : erdyPipe n x false s = erdyKept n x s :=
    erdyPipe_eq_erdyKept (by simp [h]) (by simp [h]) (by simp [h])
  rw [kept]
  by_cases pend : x.erdyPend = true
  · obtain ⟨count, y, hy, state, again, ents⟩ := erdyKept_dropped hx pend
    exact ⟨y, hy, state.trans h, again.trans pend, ents, by rw [count, if_pos pend]⟩
  · obtain ⟨k, hk⟩ := pipe_erdyStopped (x := x) hx
    rw [erdyKept_of_open (by simp [h]) (by simp [h]), if_neg pend]
    exact ⟨_, pipe_modPipe_of_some _ hk, h, rfl, rfl, by simp [pend]⟩

/-- The first ERDY of an ACTIVE pipe is kept in ERDY_PEND. -/
theorem erdyPipe_active (hx : pipe s n = some x) (h : x.state = .active) (pend : x.erdyPend = false)
    (run : x.stopping = false) :
    pipe (erdyPipe n x false s) n = some { x with erdyPend := true } ∧
      (erdyPipe n x false s).sched.stray = s.sched.stray := by
  rw [erdyPipe_eq_erdyKept (by simp [h]) (by simp [h]) (by simp [h]),
    erdyKept_of_open (by simp [h]) (by simp [h]), if_neg (by simp [pend]), erdyStopped_of_running (by simp [h]) run]
  refine ⟨?_, modPipe_strayCount ..⟩
  rw [pipe_modPipe_of_some _ hx]
  simp [h]

/-- A parked pipe with a transfer under way and entries is READY again, and the ERDY is not counted. -/
theorem erdyPipe_parked (h : x.state = .parked) (he : x.ents ≠ []) (busy : x.x ≠ none) :
    pipe (erdyPipe n x false s) n = some { x with state := .ready, waitErdy := false } ∧
      (erdyPipe n x false s).sched.stray = s.sched.stray := by
  have linked : pipe (link n false (setPipe n { x with state := .ready, waitErdy := false } s)) n =
      some { x with state := .ready, waitErdy := false } := by simp
  rw [erdyPipe_of_parked h he, startHeads_of_transfer linked busy]
  exact ⟨linked, by simp⟩

end Erdy

/-- Settles O33: `erdyPipe` and `erdyStream` say what an ERDY does by the pipe's state, and `ErdyDropped` what a second
one leaves; that a halted or closing pipe drops one is the model's reading of Table 5-2 (log 47). -/
theorem erdyIsHonouredOnce : Obligations.ErdyIsHonouredOnce := by
  refine ⟨?unserved, ?stream, ?stopped, ?closed, ?active, ?parked⟩
  case unserved =>
    intro n st x s hx hk h
    rw [exec_erdyReceived_pipe hx hk, erdyPipe_stray h]
    rfl
  case stream =>
    intro n st e x s he hk h1 h2 hx again
    obtain ⟨count, y, kept⟩ := erdyStream_dropped (s := ungate s) (ep := n) h1 h2 hx again
    exact ⟨_, y, exec_erdyReceived_streamEp he hk, count, kept⟩
  case stopped =>
    intro n st x s hx hk h
    obtain ⟨y, kept⟩ := erdyPipe_stopped (s := ungate s) hx h
    exact ⟨_, y, exec_erdyReceived_pipe hx hk, kept⟩
  case closed =>
    intro n st s hx
    exact exec_erdyReceived_closed hx
  case active =>
    intro n st x s hx hk h pend run
    exact ⟨_, exec_erdyReceived_pipe hx hk, erdyPipe_active (s := ungate s) hx h pend run⟩
  case parked =>
    intro n st x s hx hk h he busy
    exact ⟨_, exec_erdyReceived_pipe hx hk, erdyPipe_parked h he busy⟩

end Sys2Proof.Machine
end

section
/-! The block as a whole: what the frame of every command is, that every command completes, and that every step keeps the
invariant `Safe`. -/

namespace Sys2Proof.Machine

open Sys2Proof

/-- Every command changes at most the parts that `mayChange` lists for it, and keeps what every command keeps. -/
theorem exec_eff {c : Instr} {s t : State} (h : exec c s = .next t) : Eff (mayChange c) s t := by
  cases c with
  | doorbellWrite _ => exact execDoorbellWrite_eff h
  | registerWrite _ _ _ => exact execRegisterWrite_eff h
  | offBlockAccess _ _ _ _ _ => exact execOffBlockAccess_eff h
  | unsupportedRequestRx _ _ => exact execUnsupportedRequestRx_eff h
  | poisonedWriteRx _ => exact execPoisonedWriteRx_eff h
  | isoMicRead => exact execIsoMicRead_eff h
  | indexCellReadReturn _ _ => exact execIndexCellReadReturn_eff h
  | entryFetchReturn _ _ _ => exact execEntryFetchReturn_eff h
  | completionTimeout _ => exact execCompletionTimeout_eff h
  | lateCompletionRx _ => exact execLateCompletionRx_eff h
  | barrierReadReturn _ _ _ => exact execBarrierReadReturn_eff h
  | fetchTurn => exact execFetchTurn_eff h
  | fenceSignal _ _ => exact execFenceSignal_eff h
  | fenceWaitSatisfied _ _ => exact execFenceWaitSatisfied_eff h
  | evqPollTimer _ => exact execEvqPollTimer_eff h
  | adminQueueEnable _ => exact execAdminQueueEnable_eff h
  | adminQueueDisable _ => exact execAdminQueueDisable_eff h
  | moderationTimerExpiry _ _ => exact execModerationTimerExpiry_eff h
  | pendingMsixRelease _ _ => exact execPendingMsixRelease_eff h
  | pmeResendTimer _ => exact execPmeResendTimer_eff h
  | l1IdleTimeout => exact execL1IdleTimeout_eff h
  | linkTrained _ _ _ => exact execLinkTrained_eff h
  | linkRecovery => exact execLinkRecovery_eff h
  | linkReset _ => exact execLinkReset_eff h
  | powerStateWrite _ _ => exact execPowerStateWrite_eff h
  | busMasterEnableWrite _ _ => exact execBusMasterEnableWrite_eff h
  | msixEnableWrite _ _ _ => exact execMsixEnableWrite_eff h
  | msixVectorUnmask _ _ => exact execMsixVectorUnmask_eff h
  | vfEnableWrite _ _ => exact execVfEnableWrite_eff h
  | vfFunctionLevelReset _ => exact execVfFunctionLevelReset_eff h
  | pfFunctionLevelReset => exact execPfFunctionLevelReset_eff h
  | instanceResetEnd _ _ => exact execInstanceResetEnd_eff h
  | instanceRemovalEnd _ => exact execInstanceRemovalEnd_eff h
  | mailboxPaneWrite _ _ _ _ _ => exact execMailboxPaneWrite_eff h
  | mailboxT2mPost _ => exact execMailboxT2mPost_eff h
  | mailboxT2mAck _ => exact execMailboxT2mAck_eff h
  | mailboxM2tPost _ => exact execMailboxM2tPost_eff h
  | mailboxM2tAck _ => exact execMailboxM2tAck_eff h
  | rstDoneClear _ => exact execRstDoneClear_eff h
  | schedulerDecision _ _ => exact execSchedulerDecision_eff h
  | masterIntervalTick => exact execMasterIntervalTick_eff h
  | portIntervalTick _ => exact execPortIntervalTick_eff h
  | contextFill _ _ => exact execContextFill_eff h
  | burstEnd _ => exact execBurstEnd_eff h
  | dataPacketReceived _ _ => exact execDataPacketReceived_eff h
  | ackReceived _ _ => exact execAckReceived_eff h
  | nrdyReceived _ => exact execNrdyReceived_eff h
  | erdyReceived _ _ => exact execErdyReceived_eff h
  | stallReceived _ => exact execStallReceived_eff h
  | nakReceived _ => exact execNakReceived_eff h
  | nyetReceived _ => exact execNyetReceived_eff h
  | hubErrReceived _ => exact execHubErrReceived_eff h
  | responseTimeout _ => exact execResponseTimeout_eff h
  | probeResult _ _ _ => exact execProbeResult_eff h
  | sweepComplete _ => exact execSweepComplete_eff h
  | endOfFrameGuard _ _ => exact execEndOfFrameGuard_eff h
  | splitCloseTimeout _ => exact execSplitCloseTimeout_eff h
  | functionWakeNotification _ _ => exact execFunctionWakeNotification_eff h
  | busIntervalAdjustment _ _ _ => exact execBusIntervalAdjustment_eff h
  | u1U2RequestRx _ _ => exact execU1U2RequestRx_eff h
  | linkIdleTimeout _ _ => exact execLinkIdleTimeout_eff h
  | lpmIdleTimeout _ => exact execLpmIdleTimeout_eff h
  | linkU0Reached _ _ => exact execLinkU0Reached_eff h
  | portReset _ _ _ => exact execPortReset_eff h
  | warmPortReset _ _ _ => exact execWarmPortReset_eff h
  | portDisable _ _ _ => exact execPortDisable_eff h
  | portSuspend _ _ _ => exact execPortSuspend_eff h
  | portResume _ _ _ => exact execPortResume_eff h
  | portPowerWrite _ _ => exact execPortPowerWrite_eff h
  | ccLevelChange _ _ _ => exact execCcLevelChange_eff h
  | ccDebounceExpiry _ => exact execCcDebounceExpiry_eff h
  | ssTrainingComplete _ _ _ => exact execSsTrainingComplete_eff h
  | trainingFailed _ => exact execTrainingFailed_eff h
  | usb2ConnectDebounce _ _ => exact execUsb2ConnectDebounce_eff h
  | disconnectDetected _ _ => exact execDisconnectDetected_eff h
  | linkFailure _ _ => exact execLinkFailure_eff h
  | portResetComplete _ _ _ => exact execPortResetComplete_eff h
  | portResetTimeout _ _ => exact execPortResetTimeout_eff h
  | suspendComplete _ _ => exact execSuspendComplete_eff h
  | resumeComplete _ _ => exact execResumeComplete_eff h
  | u3ExitTimeout _ => exact execU3ExitTimeout_eff h
  | unitWake _ _ => exact execUnitWake_eff h
  | lane1Loss _ => exact execLane1Loss_eff h
  | lockAcquired _ => exact execLockAcquired_eff h
  | acquisitionTimeout => exact execAcquisitionTimeout_eff h
  | arefPhaseError => exact execArefPhaseError_eff h
  | arefLost => exact execArefLost_eff h
  | arefRangeChange _ => exact execArefRangeChange_eff h
  | holdoverTimeout => exact execHoldoverTimeout_eff h
  | sharedPageGrant => exact execSharedPageGrant_eff h
  | jobBind _ => exact execJobBind_eff h
  | sliceExpiry _ => exact execSliceExpiry_eff h
  | pumpReadIssue => exact execPumpReadIssue_eff h
  | pumpReadCompletion _ _ _ => exact execPumpReadCompletion_eff h
  | pumpWriteIssue _ => exact execPumpWriteIssue_eff h
  | pumpPauseSet _ _ => exact execPumpPauseSet_eff h
  | pumpPauseClear _ _ => exact execPumpPauseClear_eff h
  | pumpHaltAck _ _ => exact execPumpHaltAck_eff h
  | cellarChannelFail _ => exact execCellarChannelFail_eff h
  | cellarScrub _ _ _ => exact execCellarScrub_eff h
  | undefinedCommand _ => exact execUndefinedCommand_eff h
  | queueCreate _ => exact execQueueCreate_eff h
  | queueDelete _ => exact execQueueDelete_eff h
  | queueEnable _ => exact execQueueEnable_eff h
  | queueDisable _ => exact execQueueDisable_eff h
  | unitAddress _ => exact execUnitAddress_eff h
  | setAddressRecoveryEnd _ _ _ => exact execSetAddressRecoveryEnd_eff h
  | unitRelease _ => exact execUnitRelease_eff h
  | unitAssign _ => exact execUnitAssign_eff h
  | pipeOpen _ => exact execPipeOpen_eff h
  | pipeClose _ => exact execPipeClose_eff h
  | pipeStop _ => exact execPipeStop_eff h
  | pipeStart _ => exact execPipeStart_eff h
  | pipeReset _ => exact execPipeReset_eff h
  | pipeQuery _ => exact execPipeQuery_eff h
  | originRelease _ => exact execOriginRelease_eff h
  | originDrop _ => exact execOriginDrop_eff h
  | logRead _ => exact execLogRead_eff h
  | pumpAck _ => exact execPumpAck_eff h
  | cfgWrite _ => exact execCfgWrite_eff h
  | cfgRead _ => exact execCfgRead_eff h
  | cfgCopy _ => exact execCfgCopy_eff h
  | cfgSwap _ => exact execCfgSwap_eff h
  | cfgSwapCommit => exact execCfgSwapCommit_eff h
  | portService _ _ => exact execPortService_eff h
  | pumpService _ _ => exact execPumpService_eff h
  | cellarService _ _ => exact execCellarService_eff h
  | pmEnter _ => exact execPmEnter_eff h
  | chanBind _ => exact execChanBind_eff h
  | fwStage _ => exact execFwStage_eff h
  | flashChunkProgrammed _ => exact execFlashChunkProgrammed_eff h
  | fwActivate _ _ => exact execFwActivate_eff h
  | fwReadyReport _ => exact execFwReadyReport_eff h
  | fwReadyTimeout _ => exact execFwReadyTimeout_eff h
  | bootRecordWritten => exact execBootRecordWritten_eff h
  | fwQuery _ => exact execFwQuery_eff h
  | diagEcho _ => exact execDiagEcho_eff h
  | diagLoopback _ _ => exact execDiagLoopback_eff h
  | devportEnable _ => exact execDevportEnable_eff h
  | devportDisable _ => exact execDevportDisable_eff h
  | devportRemoteWake _ => exact execDevportRemoteWake_eff h
  | devVbusPresent _ => exact execDevVbusPresent_eff h
  | devVbusAbsent _ _ => exact execDevVbusAbsent_eff h
  | devportBusReset _ _ _ => exact execDevportBusReset_eff h
  | devportSuspend => exact execDevportSuspend_eff h
  | devportHostResume _ => exact execDevportHostResume_eff h
  | getDescriptor _ => exact execGetDescriptor_eff h
  | setAddress _ => exact execSetAddress_eff h
  | setConfiguration _ => exact execSetConfiguration_eff h
  | setInterface _ _ => exact execSetInterface_eff h
  | setFeature _ => exact execSetFeature_eff h
  | getInfo _ _ => exact execGetInfo_eff h
  | getExports _ _ => exact execGetExports_eff h
  | getLog _ _ => exact execGetLog_eff h
  | notice _ _ _ => exact execNotice_eff h
  | unknownVendorRequest _ _ => exact execUnknownVendorRequest_eff h
  | tunnelRequest _ _ _ => exact execTunnelRequest_eff h
  | tunnelCancel _ _ _ => exact execTunnelCancel_eff h
  | seatClose _ => exact execSeatClose_eff h
  | seatOpen _ _ _ => exact execSeatOpen_eff h
  | seatDebounceExpiry _ => exact execSeatDebounceExpiry_eff h
  | vbusGoodReached _ => exact execVbusGoodReached_eff h
  | rampTimeout _ _ => exact execRampTimeout_eff h
  | hardShort _ _ => exact execHardShort_eff h
  | thermalModelUpdate _ _ => exact execThermalModelUpdate_eff h
  | supplyLow _ => exact execSupplyLow_eff h
  | supplyRestored _ => exact execSupplyRestored_eff h
  | onLimitTimeout _ _ => exact execOnLimitTimeout_eff h
  | coolGateOpen _ => exact execCoolGateOpen_eff h
  | channelEnable _ _ => exact execChannelEnable_eff h
  | channelDisable _ _ => exact execChannelDisable_eff h
  | channelClr _ _ => exact execChannelClr_eff h
  | pmRefusersCleared => exact execPmRefusersCleared_eff h
  | pmGraceExpiry _ => exact execPmGraceExpiry_eff h
  | fabClockGate => exact execFabClockGate_eff h
  | wakePinAssert _ _ => exact execWakePinAssert_eff h
  | wakeTimerExpiry _ => exact execWakeTimerExpiry_eff h
  | wakeSourceFired _ _ => exact execWakeSourceFired_eff h
  | wakeStepTimeout _ _ => exact execWakeStepTimeout_eff h
  | powerOn _ => exact execPowerOn_eff h
  | powerFail => exact execPowerFail_eff h
  | powerFailRestart _ _ => exact execPowerFailRestart_eff h
  | xtal32kReady => exact execXtal32kReady_eff h
  | xtal32kTimeout => exact execXtal32kTimeout_eff h
  | slotBackgroundCheck _ => exact execSlotBackgroundCheck_eff h
  | dieOvertempTrip => exact execDieOvertempTrip_eff h
  | ident _ => exact execIdent_eff h
  | status _ => exact execStatus_eff h
  | capacity _ => exact execCapacity_eff h
  | thermal _ _ => exact execThermal_eff h
  | channels _ => exact execChannels_eff h
  | faults _ => exact execFaults_eff h
  | smbusUnsupported _ _ _ => exact execSmbusUnsupported_eff h
  | smbusClockTimeout => exact execSmbusClockTimeout_eff h
  | uartRxCharacter c => exact execUartRxCharacter_eff (_c := c) h
  | bypass code => exact execBypass_eff (_code := code) h
  | idcode => exact execIdcode_eff h
  | samplePreload _ => exact execSamplePreload_eff h
  | extest => exact execExtest_eff h
  | clamp => exact execClamp_eff h
  | highz => exact execHighz_eff h
  | instanceResetCommand _ => exact execInstanceResetCommand_eff h
  | perstDeassert => exact execPerstDeassert_eff h
  | configSpaceWrite _ _ => exact execConfigSpaceWrite_eff h
  | vaonLoss => exact execVaonLoss_eff h
  | arefReturn _ => exact execArefReturn_eff h
  | cellarTrainingLoss _ => exact execCellarTrainingLoss_eff h
  | pollingTimeout _ => exact execPollingTimeout_eff h
  | devportLpmRequest _ => exact execDevportLpmRequest_eff h
  | tunnelInSelection _ _ => exact execTunnelInSelection_eff h
  | stageChunkReadReturn _ _ => exact execStageChunkReadReturn_eff h
  | loopbackDurationEnd _ => exact execLoopbackDurationEnd_eff h

/-- A command that waits for something to be there, and finds it or not, completes either way. -/
theorem exec_total (c : Instr) (s : State) : ∃ t, exec c s = .next t := by
  cases c with
  | indexCellReadReturn _ _ => simp only [exec, execIndexCellReadReturn]; split <;> exact ⟨_, rfl⟩
  | entryFetchReturn _ _ _ => simp only [exec, execEntryFetchReturn]; split <;> exact ⟨_, rfl⟩
  | completionTimeout _ => simp only [exec, execCompletionTimeout]; split <;> exact ⟨_, rfl⟩
  | barrierReadReturn _ _ _ => simp only [exec, execBarrierReadReturn]; split <;> exact ⟨_, rfl⟩
  | fenceSignal _ _ => simp only [exec, execFenceSignal]; split <;> exact ⟨_, rfl⟩
  | fenceWaitSatisfied _ _ => simp only [exec, execFenceWaitSatisfied]; split <;> exact ⟨_, rfl⟩
  | burstEnd _ => simp only [exec, execBurstEnd]; split <;> exact ⟨_, rfl⟩
  | nrdyReceived _ => simp only [exec, execNrdyReceived]; split <;> exact ⟨_, rfl⟩
  | stallReceived _ => simp only [exec, execStallReceived]; split <;> exact ⟨_, rfl⟩
  | nakReceived _ => simp only [exec, execNakReceived]; split <;> exact ⟨_, rfl⟩
  | hubErrReceived _ => simp only [exec, execHubErrReceived]; split <;> exact ⟨_, rfl⟩
  | responseTimeout _ => simp only [exec, execResponseTimeout]; split <;> exact ⟨_, rfl⟩
  | probeResult _ _ _ => simp only [exec, execProbeResult]; split <;> exact ⟨_, rfl⟩
  | splitCloseTimeout _ => simp only [exec, execSplitCloseTimeout]; split <;> exact ⟨_, rfl⟩
  | sharedPageGrant => simp only [exec, execSharedPageGrant]; split <;> exact ⟨_, rfl⟩
  | pumpReadIssue => simp only [exec, execPumpReadIssue]; split <;> exact ⟨_, rfl⟩
  | pumpReadCompletion _ _ _ => simp only [exec, execPumpReadCompletion]; split <;> exact ⟨_, rfl⟩
  | pumpWriteIssue _ => simp only [exec, execPumpWriteIssue]; split <;> exact ⟨_, rfl⟩
  | setAddressRecoveryEnd _ _ _ => simp only [exec, execSetAddressRecoveryEnd]; split <;> exact ⟨_, rfl⟩
  | flashChunkProgrammed _ => simp only [exec, execFlashChunkProgrammed]; split <;> exact ⟨_, rfl⟩
  | fwReadyReport _ => simp only [exec, execFwReadyReport]; split <;> exact ⟨_, rfl⟩
  | fwReadyTimeout _ => simp only [exec, execFwReadyTimeout]; split <;> exact ⟨_, rfl⟩
  | bootRecordWritten => simp only [exec, execBootRecordWritten]; split <;> exact ⟨_, rfl⟩
  | unknownVendorRequest _ _ => simp only [exec, execUnknownVendorRequest]; split <;> exact ⟨_, rfl⟩
  | pmRefusersCleared => simp only [exec, execPmRefusersCleared]; split <;> exact ⟨_, rfl⟩
  | pmGraceExpiry _ => simp only [exec, execPmGraceExpiry]; split <;> exact ⟨_, rfl⟩
  | stageChunkReadReturn _ _ => simp only [exec, execStageChunkReadReturn]; split <;> exact ⟨_, rfl⟩
  | loopbackDurationEnd _ => simp only [exec, execLoopbackDurationEnd]; split <;> exact ⟨_, rfl⟩
  -- Two things have to be there.
  | fetchTurn =>
    simp only [exec, execFetchTurn]
    split
    · split <;> exact ⟨_, rfl⟩
    · exact ⟨_, rfl⟩
  | dataPacketReceived _ _ =>
    simp only [exec, execDataPacketReceived]
    split
    · split <;> exact ⟨_, rfl⟩
    · exact ⟨_, rfl⟩
  | ackReceived _ _ =>
    simp only [exec, execAckReceived]
    split
    · split <;> exact ⟨_, rfl⟩
    · exact ⟨_, rfl⟩
  | nyetReceived _ =>
    simp only [exec, execNyetReceived]
    split
    · split <;> exact ⟨_, rfl⟩
    · exact ⟨_, rfl⟩
  | endOfFrameGuard _ _ =>
    simp only [exec, execEndOfFrameGuard]
    split
    · exact ⟨_, rfl⟩
    · split <;> exact ⟨_, rfl⟩
  | jobBind _ =>
    simp only [exec, execJobBind]
    split
    · split <;> exact ⟨_, rfl⟩
    · exact ⟨_, rfl⟩
  | sliceExpiry _ =>
    simp only [exec, execSliceExpiry]
    split
    · split <;> exact ⟨_, rfl⟩
    · exact ⟨_, rfl⟩
  | _ => exact ⟨_, rfl⟩

/-- What every command keeps keeps the invariant. -/
theorem Safe.of_keeps {code : Bool} {level : Nat} {s t : State} (h : Safe code level s) (k : Keeps s t) :
    Safe code level t :=
  ⟨k.fuse.trans h.fuse, h.otp.trans k.otp, k.rooms h.rooms, k.names h.names⟩

/-- A tick of the position keeps what every command keeps. -/
theorem idle_keeps (s : State) : Keeps s (idle s) := by
  unfold idle
  split
  · exact ⟨id, rfl, Nat.le_refl _, id, rfl, List.prefix_rfl⟩
  · exact Keeps.refl s

/-- A state with another queue of waiting commands is as safe. -/
theorem Safe.withPending {code : Bool} {level : Nat} {s : State} (h : Safe code level s) (cs : List Instr) :
    Safe code level { s with pending := cs } :=
  ⟨h.fuse, h.otp, h.rooms, h.names⟩

end Sys2Proof.Machine

open Sys2Proof Sys2Proof.Machine

/-- Settles O4: the frame of each command is the one its law gives. -/
theorem everyCommandKeepsItsFrame : Obligations.EveryCommandKeepsItsFrame :=
  fun _ _ _ h => (exec_eff h).touches

/-- Settles O5: each command's law gives what it keeps beside its frame. -/
theorem everyCommandKeepsWhatItMust : Obligations.EveryCommandKeepsWhatItMust :=
  fun _ _ _ h => (exec_eff h).keeps

/-- Settles O6: a step is a tick of the position, or the front command on the state with the queue's rest. -/
theorem everyStepStaysSafe : Obligations.EveryStepStaysSafe := by
  intro code level s t safe h
  unfold step at h
  split at h
  · cases h
    exact safe.of_keeps (idle_keeps s)
  · exact (safe.withPending _).of_keeps (exec_eff h).keeps

/-- Settles O3: every command answers a next state (log 3), so none is refused. -/
theorem noCommandIsRefused : Obligations.NoCommandIsRefused := by
  refine ⟨fun c s r h => ?_, exec_total⟩
  obtain ⟨t, ht⟩ := exec_total c s
  cases ht.symm.trans h

/-- Settles O1: `step` runs the front command on the state with the queue's rest. -/
theorem stepRunsTheFront : Obligations.StepRunsTheFront := by
  intro c rest s h
  unfold step
  rw [h]

/-- Settles O2: `idle` moves the position of a running timebase up to 15359 (log 7). -/
theorem idleStepMovesThePosition : Obligations.IdleStepMovesThePosition := by
  intro s empty range
  have idles : step s = .next (idle s) := by unfold step; rw [empty]
  rw [idles]
  unfold idle
  by_cases run : s.iso.running = true
  · rw [if_pos run]
    refine ⟨_, rfl, by omega, ?_⟩
    simp only [run, true_and]
    split <;> omega
  · rw [if_neg run]
    exact ⟨s.iso.pos, rfl, range, by simp [run]⟩

end

section
/-! Register writes and reads (files 01, 02, 17): the guards that a request of the host passes, what the stored and the
write-one-to-clear registers do, and the store rooms. -/

namespace Sys2Proof.Machine

open Sys2Proof

/-! ### Guards -/

section Guards

variable {s t : State} {i : Nat} {f : State → State}

theorem when_of {can : Bool} (h : can = true) : when s can t = .next t := by rw [when, if_pos h]

theorem when_not {can : Bool} (h : can = false) : when s can t = .next s := by rw [when, h]; rfl

theorem ifAnswers_of (h : answers s i = true) : ifAnswers i f s = f (wakeLink (ungate s)) := if_pos h

theorem ifAnswers_not (h : answers s i = false) : ifAnswers i f s = answerTlp (.unsupported i) s :=
  if_neg (by simp [h])

theorem regWrite_of {a : Nat} (h : answers s 0 = true) (on : offCode s a = none) :
    regWrite a f s = f (wakeLink (ungate s)) := by
  have on' : offCode (wakeLink (ungate s)) a = none := on
  simp only [regWrite, h, Bool.not_true, Bool.false_eq_true, if_false, on']

theorem regWrite_not {a : Nat} (h : answers s 0 = false) : regWrite a f s = answerTlp (.unsupported 0) s := by
  simp [regWrite, h]

end Guards

/-! ### Windows of blocks that no access finds off -/

section Windows

variable {a : Nat} (s : State)

theorem offCode_of_lt (h : a < 0x4000) : offCode s a = none := by
  have b : blockOf a = some 0x01 ∨ blockOf a = some 0x08 := by
    unfold blockOf
    by_cases low : a < 0x3000
    · exact Or.inl (if_pos low)
    · rw [if_neg low, if_pos h]
      exact Or.inr rfl
  rcases b with b | b <;> simp [offCode, b]

/-- The registers of the power management block, but for the window into the store rooms. -/
theorem offCode_pmReg (h : 0xF00000 ≤ a) (k : a < 0xF20000) : offCode s a = none := by
  have b : blockOf a = some 0x07 := by
    unfold blockOf
    repeat rw [if_neg (by omega)]
    rw [if_pos (by omega)]
  simp [offCode, b]
  omega

/-- The window into the store rooms, while the room that it shows has power. -/
theorem offCode_room (h : 0xF20000 ≤ a) (k : a < 0xF40000) (on : tst (wd s.boot.rooms.toNat) s.pm.rsel.val = false) :
    offCode s a = none := by
  have b : blockOf a = some 0x07 := by
    unfold blockOf
    repeat rw [if_neg (by omega)]
    rw [if_pos (by omega)]
  simp [offCode, b, on]

theorem offCode_sump (h : 0xF80000 ≤ a) (k : a < 0x1000000) : offCode s a = none := by
  have b : blockOf a = some 0x09 := by
    unfold blockOf
    repeat rw [if_neg (by omega)]
    rw [if_pos (by omega)]
  simp [offCode, b]

theorem writeBar0_pmu (v : Word) (h : 0xF00000 ≤ a) (k : a < 0xF80000) : writeBar0 a v s = writePmu a v s := by
  unfold writeBar0
  repeat rw [if_neg (by omega)]
  rw [if_pos ⟨h, k⟩]

/-- Below 0x5000, four registers of BAR0 take a write. -/
theorem writeBar0_low (v : Word) (h : a < 0x5000) (n0 : a ≠ 0xC) (n1 : a ≠ 0x10) (n2 : a ≠ 0x1004)
    (n3 : a ≠ 0x1018) : writeBar0 a v s = s := by
  unfold writeBar0
  repeat rw [if_neg (by omega)]

end Windows

/-! ### REGISTER_WRITE -/

section Bar0

variable {s : State} {a : Nat} {v : Word}

theorem inBar0 (range : a < 0x1000000) : (decide (a < windowSize .bar0) && windowExists s .bar0) = true := by
  rw [Bool.and_eq_true, decide_eq_true_eq]
  exact ⟨range, rfl⟩

/-- A whole dword written to BAR0 outside the pump registers goes to the register at the offset. -/
theorem exec_registerWrite_bar0 (range : a < 0x1000000) (whole : a % 4 = 0) (noPump : a < 0xE00000 ∨ 0xE04000 ≤ a)
    (h : answers s 0 = true) (on : offCode s a = none) :
    exec (.registerWrite .bar0 a v) s = .next (writeBar0 a v (wakeLink (ungate s))) := by
  calc exec (.registerWrite .bar0 a v) s = .next (writeWindow .bar0 a v s) := when_of (inBar0 range)
    _ = .next (accessBar0 a v s) := by simp [writeWindow, whole]
    _ = .next (regWrite a (writeBar0 a v) s) := by rw [accessBar0, if_neg (by omega)]
    _ = .next (writeBar0 a v (wakeLink (ungate s))) := by rw [regWrite_of h on]

/-- A part of a dword written to BAR0 is dropped. -/
theorem exec_registerWrite_bar0_part (range : a < 0x1000000) (part : a % 4 ≠ 0) :
    exec (.registerWrite .bar0 a v) s = .next (ifAnswers 0 id s) := by
  calc exec (.registerWrite .bar0 a v) s = .next (writeWindow .bar0 a v s) := when_of (inBar0 range)
    _ = .next (ifAnswers 0 id s) := by simp [writeWindow, part, inDoorbell]; rfl

/-- A write to BAR0 of a function that does not answer. -/
theorem exec_registerWrite_bar0_not (range : a < 0x1000000) (h : answers s 0 = false) :
    exec (.registerWrite .bar0 a v) s = .next (answerTlp (.unsupported 0) s) := by
  by_cases part : a % 4 = 0
  · calc exec (.registerWrite .bar0 a v) s = .next (writeWindow .bar0 a v s) := when_of (inBar0 range)
      _ = .next (accessBar0 a v s) := by simp [writeWindow, part]
      _ = .next (answerTlp (.unsupported 0) s) := by
        unfold accessBar0 pmpAccess
        simp only [regWrite_not h, h, Bool.false_and, Bool.false_eq_true, if_false, ite_self]
  · rw [exec_registerWrite_bar0_part range part, ifAnswers_not h]

/-- The store rooms take a dword through their window. -/
theorem exec_registerWrite_room {o : Nat} (range : o + 4 ≤ 0x20000) (whole : o % 4 = 0) (h : answers s 0 = true)
    (on : tst (wd s.boot.rooms.toNat) s.pm.rsel.val = false) :
    exec (.registerWrite .bar0 (0xF20000 + o) v) s = .next (writeRoom o v (wakeLink (ungate s))) := by
  rw [exec_registerWrite_bar0 (by omega) (by omega) (by omega) h (offCode_room s (by omega) (by omega) on),
    writeBar0_pmu _ _ (by omega) (by omega)]
  unfold writePmu
  repeat rw [if_neg (by omega)]
  rw [if_pos (by omega), Nat.add_sub_cancel_left]

/-- A room that belongs to software takes a dword. -/
theorem writeRoom_of_software {o : Nat} (h : 2 ≤ s.pm.rsel.val) : writeRoom o v s =
    { s with pm := { s.pm with rooms := writeBytes s.pm.rooms (s.pm.rsel.val * 131072 + o) (wordBytes v) } } :=
  if_neg (by omega)

end Bar0

/-- Each byte of a word in its place. -/
theorem wordBytes_getElem (w : Word) (k : Fin 4) : (wordBytes w)[k.val]'k.isLt = w.extractLsb' (8 * k.val) 8 := by
  fin_cases k <;> rfl

/-! ### The statements -/

/-- Settles O7: the reset state's registers, read one by one. -/
theorem resetIsSafe : Obligations.ResetIsSafe := by
  refine ⟨⟨rfl, Nat.le_refl _, wf_nil, ⟨by decide, by decide⟩⟩, rfl, rfl, ?_, ?_⟩
  · decide +kernel
  · decide +kernel

/-- Settles O8: three stored registers. -/
theorem registerWriteStores : Obligations.RegisterWriteStores := by
  intro v s h
  refine ⟨?scratch, ?l1ctl, fun j => ?scr⟩
  case scratch => exact exec_registerWrite_bar0 (by decide) rfl (by decide) h (offCode_of_lt s (by decide))
  case l1ctl => exact exec_registerWrite_bar0 (by decide) rfl (by decide) h (offCode_of_lt s (by decide))
  case scr =>
    have lt := j.isLt
    have write : exec (.registerWrite .bar0 (0xF00200 + 4 * j.val) v) s =
        .next (writeScr j.val v (wakeLink (ungate s))) := by
      rw [exec_registerWrite_bar0 (by omega) (by omega) (by omega) h (offCode_pmReg s (by omega) (by omega)),
        writeBar0_pmu _ _ (by omega) (by omega)]
      unfold writePmu
      repeat rw [if_neg (by omega)]
      rw [if_pos (by omega), Nat.add_sub_cancel_left, Nat.mul_div_cancel_left _ (by decide)]
    exact ⟨_, write, rfl, getD_setD_same .., fun k n => getD_setD_other _ _ _ n⟩

/-- Settles O9: dropped writes and unanswered ones (log 32). -/
theorem registerWriteDrops : Obligations.RegisterWriteDrops := by
  refine ⟨?unanswered, ?unansweredVf, ?part, ?partBar2, ?readOnly⟩
  case unanswered =>
    intro a v s range h
    exact exec_registerWrite_bar0_not range h
  case unansweredVf =>
    intro i a v s range there h
    have unsupported : writeWindow (.vf i) a v s = answerTlp (.unsupported i.val) s := by
      simp only [writeWindow, ifAnswers_not h]
    refine (when_of ?_).trans (congrArg Host.Outcome.next unsupported)
    rw [Bool.and_eq_true, decide_eq_true_eq]
    exact ⟨range, there⟩
  case part =>
    intro a v s range part h
    rw [exec_registerWrite_bar0_part range part, ifAnswers_of h]
    rfl
  case partBar2 =>
    intro a v s low range part h
    have dropped : writeWindow .bar2 a v s = wakeLink (ungate s) := by
      simp [writeWindow, ifAnswers_of h, inDoorbell, part, low]
    refine (when_of ?_).trans (congrArg Host.Outcome.next dropped)
    rw [Bool.and_eq_true, decide_eq_true_eq]
    exact ⟨range, rfl⟩
  case readOnly =>
    intro a v s range n0 n1 n2 n3 h on
    by_cases whole : a % 4 = 0
    · rw [exec_registerWrite_bar0 (by omega) whole (by omega) h on, writeBar0_low _ _ range n0 n1 n2 n3]
    · rw [exec_registerWrite_bar0_part (by omega) whole, ifAnswers_of h]
      rfl

/-- Settles O10: four flags, each with the register that holds it. -/
theorem writeOneToClear : Obligations.WriteOneToClear := by
  intro v s h
  refine ⟨?capChg, ?herr, ?acc, ?wfail⟩
  case capChg => exact exec_registerWrite_bar0 (by decide) rfl (by decide) h (offCode_of_lt s (by decide))
  case herr => exact exec_registerWrite_bar0 (by decide) rfl (by decide) h (offCode_of_lt s (by decide))
  case acc => exact exec_registerWrite_bar0 (by decide) rfl (by decide) h (offCode_sump s (by decide) (by decide))
  case wfail => exact exec_registerWrite_bar0 (by decide) rfl (by decide) h (offCode_pmReg s (by decide) (by decide))

/-- Settles O11: a store room reads back what was written to it. -/
theorem storeRoomReadsBack : Obligations.StoreRoomReadsBack := by
  intro o v s h range whole software on
  refine ⟨_, exec_registerWrite_room range whole h on, ?_, ?_, ?_⟩
  · intro k
    rw [writeRoom_of_software (s := wakeLink (ungate s)) software]
    exact (getD_writeBytes_inside _ _ _ _ k.isLt).trans (wordBytes_getElem v k)
  · intro a outside
    rw [writeRoom_of_software (s := wakeLink (ungate s)) software]
    exact getD_writeBytes_outside _ _ _ _ outside
  · exact (writeRoom_eff.step (wakeLink_eff.step (ungate_eff.weaken))).touches

/-- Settles O39: the master tick, and the snapshot that a read of ISO_MIC takes. -/
theorem masterIntervalTicks : Obligations.MasterIntervalTicks := by
  refine ⟨fun s run => when_of run, fun s h => ?_, fun s h => ?_⟩
  · exact congrArg Host.Outcome.next (if_neg (by simp [h]))
  · exact congrArg Host.Outcome.next (if_pos (by simp [h]))

end Sys2Proof.Machine
end

section
/-! The host interface (files 02 and 10): accesses to blocks that are off, requests that are not performed, the fault log,
and MSI-X vectors with their moderation. -/

namespace Sys2Proof.Machine

open Sys2Proof

/-! ### FLT_ACCINFO -/

theorem Touches.acc {ps : List Part} {s t : State} (h : Touches ps s t) (n : .acc ∉ ps) :
    t.sump.accAddr = s.sump.accAddr ∧ t.sump.accBlock = s.sump.accBlock ∧ t.sump.accInst = s.sump.accInst ∧
    t.sump.accWrite = s.sump.accWrite ∧ t.sump.accSource = s.sump.accSource ∧ t.sump.accValid = s.sump.accValid ∧
    t.sump.accCount = s.sump.accCount := by
  simpa only [Part.Same, Prod.mk.injEq] using h .acc n

section OffBlock

variable {a b i : Nat} {write : Bool} {src : AccSource} {s : State}

/-- While VALID is set, an access to a block that is off is counted, and no more. -/
theorem offAccess_of_valid (h : s.sump.accValid = true) :
    offAccess b a write i src s = { s with sump := { s.sump with accCount := s.sump.accCount + 1 } } := if_pos h

/-- With VALID clear it is the first, and is recorded. -/
theorem offAccess_first (h : s.sump.accValid = false) :
    (offAccess b a write i src s).sump.accAddr = BitVec.ofNat 24 a ∧
    (offAccess b a write i src s).sump.accBlock = BitVec.ofNat 8 b ∧
    (offAccess b a write i src s).sump.accInst = BitVec.ofNat 8 i ∧
    (offAccess b a write i src s).sump.accWrite = write ∧
    (offAccess b a write i src s).sump.accSource = BitVec.ofNat 2 (srcCode src) ∧
    (offAccess b a write i src s).sump.accValid = true ∧
    (offAccess b a write i src s).sump.accCount = s.sump.accCount + 1 := by
  unfold offAccess
  extract_lets _ u r t
  have told := (logRec_eff.step (event_eff.weaken) :
    Eff [.l1, .msg, .fnMsg, .queues, .log, .fwHeld, .tunnel, .gate, .heldEv, .out] t
      (logRec 0x10 [accOff r, accInfo r, 0, 0, 0] (event 0 0x11 [accOff r, accInfo r, 0, 0] t)))
  rw [if_neg (show ¬ u.accValid = true by rw [show u.accValid = s.sump.accValid from rfl, h]; decide)]
  exact told.touches.acc (by decide)

theorem offAccess_valid : (offAccess b a write i src s).sump.accValid = true := by
  cases h : s.sump.accValid
  · obtain ⟨-, -, -, -, -, valid, -⟩ := offAccess_first (a := a) (b := b) (i := i) (write := write) (src := src) h
    exact valid
  · rw [offAccess_of_valid h]
    exact h

theorem offAccess_count : (offAccess b a write i src s).sump.accCount = s.sump.accCount + 1 := by
  cases h : s.sump.accValid
  · obtain ⟨-, -, -, -, -, -, count⟩ := offAccess_first (a := a) (b := b) (i := i) (write := write) (src := src) h
    exact count
  · rw [offAccess_of_valid h]

/-- The answer to an access to a block that is off leaves the record as the access made it. -/
theorem offBlock_sump : (offBlock b a write src s).sump =
    (offAccess b a write 0 src (ungate (if src = .pcie then wakeLink s else s))).sump := by
  unfold offBlock
  extract_lets t
  exact (apply_ite State.sump _ _ _).trans (ite_self _)

theorem offBlock_read : (offBlock b a false .pcie s).out.getLast? = some (.readData (wd (0xBAD00000 + b))) := by
  unfold offBlock
  simp [answerTlp]

/-- No block is off at the offset of ISO_MIC. -/
theorem offCode_isoMic : offCode s 0x300008 = none := rfl

/-- An access to a block that is off, by whomever and whichever way, is `offBlock`. -/
theorem exec_offBlockAccess (h : offCode s a = some b) (whole : a % 4 = 0) (may : src ≠ .pcie ∨ answers s 0 = true) :
    exec (.offBlockAccess .bar0 a 1 write src) s = .next (offBlock b a write src s) := by
  have notMic : a ≠ 0x300008 := fun e => by rw [e, offCode_isoMic] at h; cases h
  have dword : a / 4 * 4 = a := by omega
  have alone : inPane .bar0 a 1 = false := by simp [inPane]
  refine congrArg Host.Outcome.next ?_
  show offBlockAccess .bar0 a 1 write src s = _
  cases src with
  | firmware => simp [offBlockAccess, h]
  | smbus => simp [offBlockAccess, h]
  | pcie =>
    have yes : answers s (windowFn .bar0) = true := may.resolve_left (by simp)
    cases write with
    | true => simp [offBlockAccess, dropWrite, yes, h]
    | false =>
      simp [offBlockAccess, serveRead, dword, yes, alone, List.range_succ, readWord, readBar0, notMic, h]

end OffBlock

/-! ### Requests that are not performed -/

section NotPerformed

variable {s : State} {i : Nat}

theorem fn_tlp (o : Out) (j : Nat) : fn (tlp o s) j = fn s j := rfl

/-- An advisory non-fatal error changes the AER of its function only, and sends ERR_COR where that is enabled. -/
theorem fn_aerMark_other {e : AerErr} {adv : Bool} {j : Nat} (h : j ≠ i) : fn (aerMark i e adv s) j = fn s j := by
  unfold aerMark
  extract_lets f a hd a' t
  have eq : fn t j = fn s j := (fn_setFn _ i j _).trans (if_neg h)
  split_ifs <;> exact eq

theorem aer_aerMark (e : AerErr) : (fn (aerMark i e true s) i).aer =
    { (fn s i).aer.set e with
      advisory := true, first := some ((fn s i).aer.first.getD e)
      header := if (fn s i).aer.first.isSome then ((fn s i).aer.set e).header
        else (List.range 4).map (fun k => Config.freeValue (s.free + k)) } := by
  unfold aerMark
  extract_lets f a hd a' t
  have eq : (fn t i).aer = a' := congrArg Func.aer (fn_setFn_same _ i _)
  have adv : a' = { a with advisory := true, first := some (f.aer.first.getD e)
                           header := if f.aer.first.isSome then a.header else hd } := by simp [a']
  refine Eq.trans ?_ adv
  simp only [if_true]
  split_ifs <;> exact eq

theorem out_aerMark (e : AerErr) : (aerMark i e true s).out =
    s.out ++ (if (fn s i).corReport then [.errMsg i false] else []) := by
  unfold aerMark
  extract_lets f a hd a' t
  simp only [if_true]
  split_ifs with h
  · rfl
  · exact (List.append_nil _).symm

end NotPerformed

/-! ### Vectors -/

section Vectors

variable {s : State} {i v : Nat}

theorem fn_setVec_other {j : Nat} (x : MsixVec) (h : j ≠ i) : fn (setVec i v x s) j = fn s j :=
  (fn_modFn _ i j _).trans (if_neg h)

theorem fn_setVec (x : MsixVec) : fn (setVec i v x s) i = { fn s i with vecs := setD {} (fn s i).vecs v x } :=
  fn_modFn_same ..

theorem vec_setVec_same (x : MsixVec) : vec (setVec i v x s) i v = x := (vec_setVec s i v i v x).trans (if_pos ⟨rfl, rfl⟩)

theorem vec_setVec_other {j w : Nat} (x : MsixVec) (h : j ≠ i ∨ w ≠ v) : vec (setVec i v x s) j w = vec s j w :=
  (vec_setVec s i v j w x).trans (if_neg (by omega))

theorem setVec_setVec (x y : MsixVec) : vec (setVec i v y (setVec i v x s)) i v = y := vec_setVec_same y

/-- Whether a vector may send does not depend on its bits but for the Mask bit. -/
theorem canSend_setVec {x : MsixVec} (h : x.masked = (vec s i v).masked) :
    canSend (setVec i v x s) i v = canSend s i v := by
  unfold canSend usable
  rw [vec_setVec_same, fn_setVec, h]
  rfl

theorem vec_trySend (x : MsixVec) (hx : vec s i v = x) :
    vec (trySend i v s) i v = { x with pending := x.pending && !canSend s i v } := by
  simp only [trySend, hx]
  split_ifs with h
  · obtain ⟨pend, can⟩ := Bool.and_eq_true_iff.mp h
    refine (vec_setVec_same (s := s) _).trans ?_
    rw [can, Bool.not_true, Bool.and_false]
  · have keeps : (x.pending && !canSend s i v) = x.pending := by
      cases p : x.pending <;> cases c : canSend s i v <;> simp_all
    rw [keeps, hx]

theorem vec_trySend_other {j w : Nat} (h : j ≠ i ∨ w ≠ v) : vec (trySend i v s) j w = vec s j w := by
  unfold trySend
  extract_lets x
  split_ifs
  · exact vec_setVec_other (s := s) _ h
  · rfl

/-- The message that a vector's table entry gives. -/
def message (i v : Nat) (x : MsixVec) : Out := .msix i v x.addrLo x.addrHi x.data

theorem out_trySend : (trySend i v s).out =
    s.out ++ (if (vec s i v).pending && canSend s i v then [message i v (vec s i v)] else []) := by
  unfold trySend
  extract_lets x
  split_ifs
  · rfl
  · exact (List.append_nil _).symm

/-- A vector that becomes due in D0 sends where it may, and is pending where it may not. -/
theorem due_d0 (h : (fn s i).dstate = .d0) :
    vec (due i v s) i v = { vec s i v with cnt := 0, timer := false, pending := !canSend s i v } ∧
    (due i v s).out = s.out ++ (if canSend s i v then [message i v (vec s i v)] else []) ∧
    ∀ j w, (j ≠ i ∨ w ≠ v) → vec (due i v s) j w = vec s j w := by
  let x : MsixVec := { vec s i v with cnt := 0, timer := false, pending := true }
  have d0 : (fn (setVec i v x s) i).dstate = .d0 := by rw [fn_setVec]; exact h
  have dueIs : due i v s = trySend i v (setVec i v x s) := if_pos d0
  have may : canSend (setVec i v x s) i v = canSend s i v := canSend_setVec rfl
  rw [dueIs]
  refine ⟨?_, ?_, fun j w n => ?_⟩
  · rw [vec_trySend x (vec_setVec_same x), may]
    rfl
  · rw [out_trySend, vec_setVec_same, may]
    rfl
  · rw [vec_trySend_other n, vec_setVec_other x n]

end Vectors

/-! ### The statements -/

/-- Settles O12: `offBlock` for every access to a block that is off (logs 132 and 32). -/
theorem offBlockAccessIsRecorded : Obligations.OffBlockAccessIsRecorded := by
  refine ⟨?off, ?unanswered, ?pane, ?long⟩
  case off =>
    intro a b write src s h small whole may
    have done := exec_offBlockAccess (write := write) h whole may
    let u : State := ungate (if src = .pcie then wakeLink s else s)
    have old : u.sump = s.sump := by unfold u; split_ifs <;> rfl
    refine ⟨_, done, ?_, ?_, ?_, ?_, ?_, (exec_eff done).touches⟩
    · rw [offBlock_sump, offAccess_count, old]
    · rw [offBlock_sump, offAccess_valid]
    · intro valid
      rw [offBlock_sump, offAccess_of_valid (old ▸ valid)]
      simp only [old, u, and_self]
    · intro clear
      obtain ⟨addr, block, instance0, dir, source, -⟩ :=
        offAccess_first (a := a) (b := b) (i := 0) (write := write) (src := src) (s := u) (old ▸ clear)
      rw [offBlock_sump]
      exact ⟨addr, block, instance0, dir, source.trans (by cases src <;> rfl)⟩
    · rintro rfl rfl
      rw [offBlock_read]
      simp only [wd, BitVec.ofNat_add]
  case unanswered =>
    intro w a n write s there h
    refine (when_of there).trans (congrArg Host.Outcome.next ?_)
    cases write <;> simp [offBlockAccess, dropWrite, serveRead, h] <;> rfl
  case pane =>
    intro i a n s there h whole inside
    have dword : a / 4 * 4 = a := by omega
    have yes : answers s (windowFn (.vf i)) = true := h
    refine (when_of there).trans (congrArg Host.Outcome.next ?_)
    simp only [offBlockAccess, serveRead, dword, yes, inside, Bool.false_eq_true, if_false, Bool.and_self, if_true]
    rfl
  case long =>
    intro w a n s there h whole outside many
    have dword : a / 4 * 4 = a := by omega
    refine (when_of there).trans (congrArg Host.Outcome.next ?_)
    simp only [offBlockAccess, serveRead, dword, outside, Bool.and_false, Bool.false_eq_true, if_false,
      show ¬ n ≤ 2 by omega, decide_false]
    rfl

/-- Settles O13: what `aerMark` records, and the answers that change nothing else (logs 111 and 31). -/
theorem hostRequestsNotPerformed : Obligations.HostRequestsNotPerformed := by
  refine ⟨?unsupported, ?poisoned, ?late, fun s up => when_of up⟩
  case unsupported =>
    intro i k s there fits
    exact when_of (by rw [there, fits]; rfl)
  case poisoned =>
    intro i s there
    have done : exec (.poisonedWriteRx i) s = .next (poisoned i s) := when_of there
    refine ⟨_, done, ?_, ?_, ?_, ?_, fun j n => ?_, (exec_eff done).touches⟩
    · rw [poisoned, aer_aerMark]; rfl
    · rw [poisoned, aer_aerMark]
    · rw [poisoned, aer_aerMark]; rfl
    · rw [poisoned, out_aerMark]; rfl
    · rw [poisoned, fn_aerMark_other n]; rfl
  case late =>
    intro i s there
    have done : exec (.lateCompletionRx i) s = .next (lateCompletion i s) := when_of (by simpa using there)
    refine ⟨_, done, ?_, ?_, ?_, ?_, ?_, ?_, fun j n => ?_, (exec_eff done).touches⟩
    · rw [lateCompletion, (aerMark_eff.touches .late (by decide) : _ = _)]; rfl
    · rw [lateCompletion, aer_aerMark]; rfl
    · rw [lateCompletion, aer_aerMark]
    · rw [lateCompletion, aer_aerMark]; rfl
    · rw [lateCompletion, aer_aerMark]; rfl
    · rw [lateCompletion, out_aerMark]; rfl
    · rw [lateCompletion, fn_aerMark_other n]; rfl

/-- Settles O18: below COUNT a cause is counted and starts the timer; at COUNT, or without a moderation time, the vector
becomes due. -/
theorem moderationCounts : Obligations.ModerationCounts := by
  intro i v s d0 p t n
  let counted := { vec s i v with cnt := n }
  let timed := { vec s i v with cnt := n, timer := true }
  have dueOf (x : MsixVec) (same : { x with cnt := 0, timer := false } = { vec s i v with cnt := 0, timer := false })
      (is : t = due i v (setVec i v x s)) :
      vec t i v = { vec s i v with cnt := 0, timer := false, pending := !canSend s i v } ∧
      t.out = s.out ++ (if canSend s i v then [message i v (vec s i v)] else []) ∧
      ∀ j w, (j ≠ i ∨ w ≠ v) → vec t j w = vec s j w := by
    have d0' : (fn (setVec i v x s) i).dstate = .d0 := by rw [fn_setVec]; exact d0
    obtain ⟨own, sent, others⟩ := due_d0 (v := v) d0'
    simp only [MsixVec.mk.injEq] at same
    obtain ⟨lo, hi, data, masked, -, -, -⟩ := same
    rw [vec_setVec_same, canSend_setVec masked] at own sent
    refine ⟨?_, ?_, fun j w m => ?_⟩
    · rw [is, own]; simp only [lo, hi, data, masked]
    · rw [is, sent]; simp only [message, lo, hi, data]; rfl
    · rw [is, others j w m, vec_setVec_other x m]
  by_cases timeless : fld p 8 16 = 0
  · obtain ⟨own, sent, others⟩ := dueOf counted rfl (if_pos timeless)
    exact ⟨fun _ => ⟨own, sent⟩, fun h => absurd timeless h, others⟩
  · have branch : t = if n ≥ max (fld p 0 8) 1 then due i v (setVec i v timed s) else setVec i v timed s :=
      if_neg timeless
    by_cases full : max (fld p 0 8) 1 ≤ n
    · obtain ⟨own, sent, others⟩ := dueOf timed rfl (branch.trans (if_pos full))
      exact ⟨fun _ => ⟨own, sent⟩, fun _ h => absurd full (by omega), others⟩
    · have is : t = setVec i v timed s := branch.trans (if_neg full)
      refine ⟨fun h => absurd h (by tauto), fun _ _ => ?_, fun j w m => ?_⟩
      · rw [is]; exact ⟨vec_setVec_same _, rfl⟩
      · rw [is, vec_setVec_other _ m]

/-- Settles O19: `logPush` appends a record and drops the oldest past the capacity. -/
theorem faultLogIsARing : Obligations.FaultLogIsARing := by
  intro kind iv pay s t
  let r : LogRec := { kind := kind, seq := s.sump.logSeq, interval := iv, pay := pay }
  have logIs : t.sump.log = if s.sump.logCap.toNat < (s.sump.log ++ [r]).length then
      (s.sump.log ++ [r]).drop ((s.sump.log ++ [r]).length - s.sump.logCap.toNat) else s.sump.log ++ [r] := rfl
  refine ⟨rfl, fun fits => ?_, fun room => ?_, fun _ full => ?_⟩
  · show t.sump.log.length ≤ s.sump.logCap.toNat
    rw [logIs]
    split_ifs with past
    · simp only [List.length_drop]; omega
    · omega
  · rw [logIs, if_neg (by simp; omega)]
  · rw [logIs, if_pos (by simp [full])]
    have one : (s.sump.log ++ [r]).length - s.sump.logCap.toNat = 1 := by simp [full]
    have head : s.sump.log ≠ [] := by rintro e; simp [e] at full; omega
    rw [one, List.drop_one, List.tail_append_of_ne_nil head]

end Sys2Proof.Machine
end

section
/-! MSI-X vectors outside D0, release and unmask, and the writes to configuration space (file 02). -/

namespace Sys2Proof.Machine

open Sys2Proof

/-! ### Vectors that become due outside D0, release and unmask -/

section Messages

variable {s : State} {i v : Nat}

theorem vec_pme (j w : Nat) : vec (pme i s) j w = vec s j w := by
  have marked : vec (setFn i { fn s i with pmeStatus := true } s) j w = vec s j w := by
    by_cases h : j = i
    · subst h; rw [vec, fn_setFn_same]; rfl
    · rw [vec, fn_setFn, if_neg h]; rfl
  unfold pme assertWake
  extract_lets f t
  split_ifs
  exacts [marked, marked, marked, rfl, marked]

/-- In D3hot PM_PME is sent where PME_Status was clear and PME_En is set. -/
theorem out_pme (h : (fn s i).dstate = .d3hot) :
    (pme i s).out = s.out ++ (if (fn s i).pmeEnable && !(fn s i).pmeStatus then [.pmPme i] else []) := by
  cases e : (fn s i).pmeEnable <;> cases p : (fn s i).pmeStatus <;> simp [pme, h, e, p]

theorem pmeStatus_pme (h : (fn s i).dstate = .d3hot) (p : (fn s i).pmeEnable = false ∨ (fn s i).pmeStatus = false) :
    (fn (pme i s) i).pmeStatus = true := by
  cases e : (fn s i).pmeEnable
  · simp [pme, e]
  · simp [pme, h, e, p.resolve_left (by simp [e]), fn_tlp]

/-- In D3hot a due vector stays pending, and PME_Status is set, with PM_PME where it was clear and PME_En is set. -/
theorem due_d3hot (h : (fn s i).dstate = .d3hot) :
    vec (due i v s) i v = { vec s i v with cnt := 0, timer := false, pending := true } ∧
    (((fn s i).pmeEnable = false ∨ (fn s i).pmeStatus = false) → (fn (due i v s) i).pmeStatus = true) ∧
    (due i v s).out = s.out ++ (if (fn s i).pmeEnable && !(fn s i).pmeStatus then [.pmPme i] else []) := by
  let x : MsixVec := { vec s i v with cnt := 0, timer := false, pending := true }
  have f : fn (setVec i v x s) i = { fn s i with vecs := setD {} (fn s i).vecs v x } := fn_setVec x
  have d3 : (fn (setVec i v x s) i).dstate = .d3hot := by rw [f]; exact h
  have dueIs : due i v s = pme i (setVec i v x s) := if_neg (by rw [d3]; decide)
  rw [dueIs]
  refine ⟨by rw [vec_pme, vec_setVec_same], fun p => pmeStatus_pme d3 (by rw [f]; exact p), ?_⟩
  rw [out_pme d3, f]
  rfl

/-- Clearing the Mask bit sends what is pending where nothing else holds it back. -/
theorem writeMsix_unmask : writeMsix i v 3 0 s = trySend i v (setVec i v { vec s i v with masked := false } s) := rfl

theorem canSend_unmasked : canSend (setVec i v { vec s i v with masked := false } s) i v =
    ((fn s i).msixEnable && !(fn s i).funcMask && usable s i && !gated s i && !causeHeld s i v) := by
  simp only [canSend, usable, vec_setVec_same, fn_setVec, Bool.not_false, Bool.true_and]
  rfl

end Messages

/-- Settles O14: what `due`, `trySend` and the unmasking write do. -/
theorem msixVectorsSend : Obligations.MsixVectorsSend := by
  refine ⟨?sends, ?waits, ?asleep, ?release, ?held, ?unmask, ?resend⟩
  case sends =>
    intro i v s timer d0 may
    obtain ⟨own, sent, -⟩ := due_d0 (v := v.val) d0
    exact ⟨_, when_of timer, by rw [own, may]; rfl, by rw [sent, may]; rfl⟩
  case waits =>
    intro i v s timer d0 may
    obtain ⟨own, sent, -⟩ := due_d0 (v := v.val) d0
    exact ⟨_, when_of timer, by rw [own, may]; rfl, by rw [sent, may]; exact List.append_nil _⟩
  case asleep =>
    intro i v s timer d3
    exact ⟨_, when_of timer, due_d3hot d3⟩
  case release =>
    intro i v s pend may
    refine ⟨_, when_of (by rw [pend, may]; rfl), ?_, ?_⟩
    · rw [vec_trySend _ rfl, pend, may]; rfl
    · rw [out_trySend, pend, may]; rfl
  case held =>
    intro i v s may
    exact when_not (by rw [may, Bool.and_false])
  case unmask =>
    intro i v s there hasV ans sends
    let u := wakeLink (ungate s)
    refine ⟨_, when_of (by rw [there, hasV]; rfl), ?_, ?_⟩
    · rw [ifAnswers_of ans, writeMsix_unmask, vec_trySend _ (vec_setVec_same _), canSend_unmasked]
      have once (p a b c d e : Bool) :
          (p && !(a && b && c && d && e)) = (p && !(p && a && b && c && d && e)) := by cases p <;> rfl
      exact congrArg (fun p => { vec s i v with masked := false, pending := p }) (once ..)
    · rw [ifAnswers_of ans, writeMsix_unmask, out_trySend, vec_setVec_same, canSend_unmasked]
      simp only [sends, message, ← Bool.and_assoc]
      rfl
  case resend =>
    intro i s st en d3
    exact ⟨_, when_of (by simp [st, en, d3]), rfl, rfl⟩

/-! ### Configuration space -/

/-- The controls of a function that configuration writes set. -/
def Func.controls (f : Func) : Bool × Bool × DState × Bool × Bool × Bool × Bool × Bool :=
  (f.memEnable, f.busMaster, f.dstate, f.msixEnable, f.funcMask, f.pmeEnable, f.corReport, f.nfReport)

theorem Touches.controls {ps : List Part} {s t : State} (h : Touches ps s t) (n : .fnCfg ∉ ps) (i : Nat) :
    (fn t i).controls = (fn s i).controls := h .fnCfg n i

/-- What a change of a function's configuration brings about in its instance leaves every function's controls. -/
theorem controls_changeFn (i j : Nat) (g : Func → Func) (s : State) :
    (fn (changeFn i g s) j).controls = (fn (modFn i g s) j).controls := by
  have still {ps : List Part} {u v : State} (e : Eff ps u v) (n : .fnCfg ∉ ps := by decide) :
      (fn v j).controls = (fn u j).controls := e.touches.controls n j
  unfold changeFn
  extract_lets was t u v
  have uIs : (fn u j).controls = (fn t j).controls := by
    unfold u
    split_ifs
    · exact still quiesce_eff
    · rfl
  have vIs : (fn v j).controls = (fn t j).controls := (still judgeInst_eff).trans uIs
  split_ifs
  · exact vIs
  · exact (still resume_eff).trans vIs
  · exact (still sendAll_eff).trans vIs

theorem controls_changeFn_same {i : Nat} {g : Func → Func} {s : State} :
    (fn (changeFn i g s) i).controls = (g (fn s i)).controls := by rw [controls_changeFn, fn_modFn_same]

theorem controls_changeFn_other {i j : Nat} {g : Func → Func} {s : State} (h : j ≠ i) :
    (fn (changeFn i g s) j).controls = (fn s j).controls := by rw [controls_changeFn, fn_modFn, if_neg h]

theorem controls_powerState (i j : Nat) (d3 : Bool) (s : State) : (fn (powerState i d3 s) j).controls =
    (fn (changeFn i (fun f => { f with dstate := if d3 then .d3hot else .d0 }) (wakeLink s)) j).controls := by
  have l1 (c : Bool) (t : State) : (fn (if c then enterLinkL1 true t else t) j).controls = (fn t j).controls := by
    cases c <;> rfl
  exact l1 _ _

/-- Settles O16: `changeFn` leaves the controls to the write, and the other writes are a field of a function or of the
link (log 26). -/
theorem configurationWrites : Obligations.ConfigurationWrites := by
  refine ⟨?busMaster, ?msix, ?power, ?fields, ?linkFields⟩
  case busMaster =>
    intro i on s there
    exact ⟨_, when_of there, controls_changeFn_same, fun j n => controls_changeFn_other n⟩
  case msix =>
    intro i on mask s there
    exact ⟨_, when_of there, controls_changeFn_same, fun j n => controls_changeFn_other n⟩
  case power =>
    intro i d3 s there
    exact ⟨_, when_of there, (controls_powerState ..).trans controls_changeFn_same,
      fun j n => (controls_powerState ..).trans (controls_changeFn_other n)⟩
  case fields =>
    intro i b c n s there
    have own (g : Func → Func) : fn (modFn i.val g (wakeLink s)) i.val = g (fn s i.val) := fn_modFn_same ..
    have others (g : Func → Func) (j : Nat) (h : j ≠ i.val) : fn (modFn i.val g (wakeLink s)) j = fn s j :=
      (fn_modFn _ _ _ _).trans (if_neg h)
    have pme (c : Bool) (j : Nat) (t : State) : fn (if c then tlp (.pmPme i) t else t) j = fn t j := by
      cases c <;> rfl
    refine ⟨⟨_, when_of there, own _, others _⟩,
      ⟨_, when_of there, (pme ..).trans (own _), fun j h => (pme ..).trans (others _ j h)⟩, ⟨_, when_of there, own _, others _⟩,
      ⟨_, when_of there, own _, others _⟩, ⟨_, when_of there, own _, others _⟩⟩
  case linkFields =>
    intro i a b c d v m r s there upd
    have fits (w : CfgSpaceWrite) (h : HostIf → HostIf)
        (is : cfgSpace i w (wakeLink s) = { s with host := { (if i.val = 0 then h s.host else s.host) with l1 := .l0 } }) :
        exec (.configSpaceWrite i w) s = upd h := (when_of there).trans (congrArg Host.Outcome.next is)
    refine ⟨fits (.tenBitTagEnable a) (fun h => { h with tenBit := a }) ?_,
      fits (.l1Substates a b c d) (fun h => { h with aspmL11 := a, aspmL12 := b, pciL11 := c, pciL12 := d }) ?_,
      fits (.completionTimeoutValue v) (fun h => { h with cplTimeout := v }) ?_,
      fits (.completionTimeoutDisable a) (fun h => { h with cplTimeoutOff := a }) ?_,
      fits (.ariHierarchy a) (fun h => { h with ari := a }) ?_, fits (.maxPayload m) (fun h => { h with mps := m }) ?_,
      fits (.maxReadRequest r) (fun h => { h with mrrs := r }) ?_⟩ <;>
      · simp only [cfgSpace]
        split_ifs <;> rfl

end Sys2Proof.Machine
end

section
/-! The timebase (file 08): the moves of Table 8-3, the adjustment requests of units, and a port's tick. -/

namespace Sys2Proof.Machine

open Sys2Proof

/-! ### The tick of a port -/

/-- A port at the tick of interval 1 with a full-speed unit and one burst in half 1's engine: the frame of eight slots
goes on (R146). -/
def frameState : State :=
  { iso := { running := true, mic := 1 }
    ports := [(0, { inService := true, h1 := { speed := 5 }, e1 := { descs := [{ pipe := 0, count := 1 }] } })] }

/-- Refutes O28: at full and low speed the room of half 1 spans a frame of eight slots, and a tick within the frame
leaves the descriptors of that half in the room in which they were dispatched. -/
theorem not_portIntervalAdvances : ¬ Obligations.PortIntervalAdvances := by
  intro h
  obtain ⟨t, is, -, -, -, aged⟩ := h 0 frameState (by decide) (by decide)
  have tIs : t = portTick 0 frameState := by
    have done : exec (.portIntervalTick 0) frameState = .next (portTick 0 frameState) := when_of (by decide)
    exact (Host.Outcome.next.inj (done.symm.trans is)).symm
  have young : (engine (portTick 0 frameState) 0 1).descs.map Desc.oldRoom = [false] := by decide
  have old : ∀ b ∈ (engine (portTick 0 frameState) 0 1).descs.map Desc.oldRoom, b = true := by
    intro b m
    obtain ⟨d, md, rfl⟩ := List.mem_map.mp m
    exact aged (by decide) 1 (by decide) d (tIs ▸ md)
  exact absurd (old false (by rw [young]; decide)) (by decide)

/-! ### The lock to AREF -/

theorem Touches.iso {ps : List Part} {s t : State} (h : Touches ps s t) (n : .clock ∉ ps ∧ .lock ∉ ps ∧ .portTime ∉ ps) :
    t.iso = s.iso := by
  obtain ⟨c, l, p⟩ := n
  have clock := h .clock c
  have lock := h .lock l
  have ports := h .portTime p
  simp only [Part.Same, Prod.mk.injEq] at clock ports
  simp only [Part.Same, Timebase.mk.injEq] at lock
  obtain ⟨running, mic, pos, snap⟩ := clock
  cases ht : t.iso
  cases hs : s.iso
  simp only [ht, hs] at running mic pos snap lock ports
  simp only [Timebase.mk.injEq]
  tauto

section Lock

variable {s : State} {dst : LockSt} {c : Nat} {g : Timebase → Timebase}

/-- The timebase after a move of Table 8-3 to another state. -/
def Timebase.moved (dst : LockSt) (b : Timebase) : Timebase :=
  { b with lock := dst, anchValid := b.anchValid && dst = .locked, lockChg := true, lockE := b.lockE + 1 }

theorem iso_timebaseEvent (port : Option Nat) (old : LockSt) : (timebaseEvent c port old s).iso = s.iso :=
  timebaseEvent_eff.touches.iso (by decide)

/-- A move to another state applies the row's own effect to the moved timebase, and to nothing else of it. -/
theorem iso_lockMove (h : s.iso.lock ≠ dst) : (lockMove dst c g s).iso =
    raiseLock (g { s.iso with lock := dst, anchValid := s.iso.anchValid && dst = .locked }) :=
  (iso_timebaseEvent ..).trans (if_neg h)

theorem cfg_lockMove (o : Nat) : cfg (lockMove dst c g s) o = cfg s o :=
  timebaseEvent_eff.touches.cfg (by decide) o

theorem iso_holdEnd (h : s.iso.lock = .holdover) : (holdEnd s).iso = s.iso.moved .free :=
  iso_lockMove (by rw [h]; decide)

/-- A locked timebase that loses AREF is in HOLDOVER, or FREE at once where HOLD_MS is 0. -/
theorem iso_enterHoldover (h : s.iso.lock = .locked) : (enterHoldover s).iso =
    let b := { s.iso.moved .holdover with losses := s.iso.losses + 1 }
    if fld (cfg s 0x300000) 8 12 = 0 then b.moved .free else b := by
  have held : (lockMove .holdover 0x05 addLoss s).iso = { s.iso.moved .holdover with losses := s.iso.losses + 1 } :=
    iso_lockMove (by rw [h]; decide)
  simp only [enterHoldover, isoCfg, cfg_lockMove]
  split_ifs
  · rw [iso_holdEnd (by rw [held]; rfl), held]
  · exact held

/-- What a loss of AREF makes of the timebase (Table 8-3), with the HOLD_MS of ISO_CFG. -/
def Timebase.lose (hold : Nat) (b : Timebase) : Timebase :=
  match b.lock with
  | .locked =>
    let h := { b.moved .holdover with losses := b.losses + 1 }
    if hold = 0 then h.moved .free else h
  | .acquiring => b.moved .free
  | _ => b

/-- What the return of AREF makes of it. -/
def Timebase.regain (b : Timebase) : Timebase := if b.lock = .holdover then b.moved .acquiring else b

theorem iso_arefBad : (arefBad s).iso = s.iso.lose (fld (cfg s 0x300000) 8 12) := by
  cases h : s.iso.lock <;> simp only [arefBad, Timebase.lose, h]
  case locked => exact iso_enterHoldover h
  case acquiring => exact iso_lockMove (by rw [h]; decide)

theorem iso_arefGood : (arefGood s).iso = s.iso.regain := by
  cases h : s.iso.lock <;> simp [arefGood, Timebase.regain, h]
  exact iso_lockMove (by rw [h]; decide)

/-- The timebase after a measurement of AREF. -/
def Timebase.measured (dev : BitVec 16) (b : Timebase) : Timebase :=
  { b with arefPresent := true, afreq := dev, arefIn := inRange dev b.arefIn }

theorem iso_measure (dev : BitVec 16) : (measure dev s).iso =
    let b := s.iso.measured dev
    if arefOk s = b.arefIn then b else if arefOk s then b.lose (fld (cfg s 0x300000) 8 12) else b.regain := by
  let u : State := { s with iso := s.iso.measured dev }
  have ok : arefOk u = (s.iso.measured dev).arefIn := Bool.true_and _
  have is : measure dev s = if arefOk s = arefOk u then u else if arefOk s then arefBad u else arefGood u := rfl
  rw [is, ok]
  dsimp only
  split_ifs
  · rfl
  · exact iso_arefBad
  · exact iso_arefGood

/-- Settles O40: each event is one move of Table 8-3, and the event that reports it leaves the timebase. -/
theorem lockStatesMove : Obligations.LockStatesMove := by
  refine ⟨?acquired, ?timeout, ?phase, ?lost, ?range, ?back, ?held⟩
  case acquired =>
    intro ph s h ok
    exact ⟨_, when_of (by simp [h, ok]), iso_lockMove (by rw [h]; decide)⟩
  case timeout =>
    intro s h
    exact ⟨_, when_of (by simp [h]), iso_lockMove (by rw [h]; decide)⟩
  case phase =>
    intro s h
    exact ⟨_, when_of (by simp [h]), iso_lockMove (by rw [h]; decide)⟩
  case lost =>
    intro s present
    have ok : arefOk s = s.iso.arefIn := by rw [arefOk, present, Bool.true_and]
    refine ⟨_, when_of present, ?_⟩
    cases inr : s.iso.arefIn
    · exact congrArg State.iso (if_neg (by rw [ok, inr]; decide))
    · calc (arefLost s).iso = (arefBad { s with iso := { s.iso with arefPresent := false } }).iso :=
            congrArg State.iso (if_pos (by rw [ok, inr]))
        _ = _ := iso_arefBad
  case range =>
    intro dev s present b
    have ok : arefOk s = s.iso.arefIn := by rw [arefOk, present, Bool.true_and]
    refine ⟨_, when_of present, ?_⟩
    have bIs : s.iso.measured dev = b := by simp only [b, Timebase.measured, present]; rfl
    rw [iso_measure, ok, bIs]
    show (if s.iso.arefIn = b.arefIn then b else if s.iso.arefIn then b.lose _ else b.regain) = _
    cases old : s.iso.arefIn <;> cases new : b.arefIn <;> rfl
  case back =>
    intro dev s absent b
    have ok : arefOk s = false := by rw [arefOk, absent, Bool.false_and]
    refine ⟨_, when_of (by rw [absent]; rfl), ?_⟩
    have bIs : s.iso.measured dev = b := rfl
    rw [iso_measure, ok, bIs]
    show (if false = b.arefIn then b else if false then b.lose _ else b.regain) = _
    cases new : b.arefIn <;> rfl
  case held =>
    intro s h
    exact ⟨_, when_of (by simp [h]), iso_holdEnd h⟩

end Lock

/-! ### Adjustment requests -/

/-- Settles O41: `adjust` in its two branches. -/
theorem adjustmentsAreClamped : Obligations.AdjustmentsAreClamped := by
  intro p a v s there x
  constructor
  · intro en own
    let new (y : PortTime) : PortTime := { y with
      target := max (-trimLimit s p) (min (trimLimit s p) v), adjRx := y.adjRx + 1, mode := 1
      since := if x.mode ≠ 1 then 0 else y.since }
    let u : State := modPtime p new (ungate s)
    have done : adjust p a v (ungate s) = if x.mode ≠ 1 then timebaseEvent 0x08 (some p) s.iso.lock u else u :=
      if_neg (by
        show ¬ ((!tst (cfg s _) 0 || decide (a.toNat ≠ fld (cfg s _) 1 7)) = true)
        rw [en, ← own]
        simp)
    have iso : (adjust p a v (ungate s)).iso = u.iso := by
      rw [done]
      split_ifs
      · exact iso_timebaseEvent ..
      · rfl
    have same (q : Nat) : ptime (adjust p a v (ungate s)) q = ptime u q := by rw [ptime, iso]; rfl
    refine ⟨_, when_of there, ?_, fun q n => ?_, by rw [iso]; rfl⟩
    · rw [same, ptime_modPtime_same]
      show new x = _
      simp only [new]
      congr 1
      split_ifs <;> tauto
    · rw [same, ptime_modPtime, if_neg n]
      rfl
  · intro wrong
    refine (when_of there).trans (congrArg Host.Outcome.next (if_pos ?_))
    rw [Bool.or_eq_true, decide_eq_true_eq, Bool.not_eq_true']
    exact wrong

end Sys2Proof.Machine
end

section
/-! Instances (file 11): the mailboxes, and how resets and removals move an instance. -/

namespace Sys2Proof.Machine

open Sys2Proof

/-! ### What leaves an instance alone -/

theorem Touches.instSame {ps : List Part} {s t : State} (h : Touches ps s t)
    (n : .instState ∉ ps ∧ .mailbox ∉ ps ∧ .resetRec ∉ ps) (i : Nat) : inst t i = inst s i := by
  obtain ⟨nl, nm, nr⟩ := n
  have life := h .instState nl i
  have box := h .mailbox nm i
  have record := h .resetRec nr i
  simp only [Prod.mk.injEq] at life box record
  cases ht : inst t i
  cases hs : inst s i
  simp only [ht, hs] at life box record
  simp only [Inst.mk.injEq]
  tauto

/-! ### Mailboxes -/

section Mailboxes

variable {s : State} {i : Nat} {f : State → State}

theorem mboxAccess_manager (h : answers s 0 = true) (on : vfOn s i = true) :
    mboxAccess true i f s = f (wakeLink (ungate s)) := by
  simp [mboxAccess, h, on]

theorem mboxAccess_tenant (h : answers s i = true) : mboxAccess false i f s = f (wakeLink (ungate s)) := by
  simp [mboxAccess, h]

/-- Either side's access to a mailbox that exists reaches it while the side's function answers. -/
theorem mboxAccess_of {b : Bool} (there : (if b then vfOn s i else tenant s i) = true)
    (h : answers s (if b then 0 else i) = true) : mboxAccess b i f s = f (wakeLink (ungate s)) := by
  cases b
  · exact mboxAccess_tenant h
  · exact mboxAccess_manager h there

theorem mboxAccess_unanswered {b : Bool} (h : answers s (if b then 0 else i) = false) :
    mboxAccess b i f s = answerTlp (.unsupported (if b then 0 else i)) s := by
  simp [mboxAccess, h]

theorem mboxAccess_off (h : answers s 0 = true) (off : vfOn s i = false) :
    mboxAccess true i f s = wakeLink (ungate s) := by
  simp [mboxAccess, h, off]

/-- Where the access itself leaves the other instances, so does the command. -/
theorem inst_mboxAccess_other {b : Bool} {j : Nat} (h : ∀ u : State, inst (f u) j = inst u j) :
    inst (mboxAccess b i f s) j = inst s j := by
  unfold mboxAccess
  extract_lets who
  split_ifs
  · rfl
  · rfl
  · exact h _

/-- A tenant's access to its mailbox may be made when the instance has a function. -/
theorem tenant_of {b : Bool} (h : (if b then vfOn s i else tenant s i) = true) : (b || (i ≠ 0 && exists' s i)) = true := by
  cases b
  · exact h
  · rfl

theorem inst_paneWrite_other {b m2t : Bool} {off j : Nat} {bs : List Byte} (h : j ≠ i) (u : State) :
    inst (paneWrite b i m2t off bs u) j = inst u j := by
  unfold paneWrite dropPane
  extract_lets x
  split_ifs <;> exact (inst_modInst ..).trans (if_neg h)

theorem inst_paneWrite {b : Bool} {off : Nat} {bs : List Byte} (fits : off + bs.length ≤ 256) (on : gated s i = false)
    (free : (if b then (inst s i).m2t else (inst s i).t2m) = false) : inst (paneWrite b i b off bs s) i =
      (if b then { inst s i with paneM2t := writeBytes (inst s i).paneM2t off bs }
        else { inst s i with paneT2m := writeBytes (inst s i).paneT2m off bs }) := by
  have whole : bs.take (256 - off) = bs := List.take_of_length_le (by omega)
  simp only [paneWrite, on, free, ne_eq, not_true_eq_false, decide_false, Bool.or_self, Bool.false_eq_true, if_false,
    inst_modInst_same, whole]

theorem inst_paneWrite_dropped {b m2t : Bool} {off : Nat} {bs : List Byte}
    (h : b ≠ m2t ∨ gated s i = true ∨ (if m2t then (inst s i).m2t else (inst s i).t2m) = true) :
    inst (paneWrite b i m2t off bs s) i = { inst s i with drops := (inst s i).drops + 1 } := by
  have drop : paneWrite b i m2t off bs s = dropPane i s := by
    refine if_pos ?_
    simp only [Bool.or_eq_true, decide_eq_true_eq]
    tauto
  rw [drop, dropPane, inst_modInst_same]

theorem inst_cause (i v j : Nat) (u : State) : inst (cause i v u) j = inst u j :=
  cause_eff.touches.instSame (by decide) j

theorem inst_t2mPost_other {j : Nat} (h : j ≠ i) (u : State) : inst (t2mPost i u) j = inst u j := by
  unfold t2mPost
  extract_lets x
  split_ifs
  · rfl
  · rw [inst_cause, inst_setInst, if_neg h]

theorem inst_m2tPost_other {j : Nat} (h : j ≠ i) (u : State) : inst (m2tPost i u) j = inst u j := by
  unfold m2tPost
  extract_lets x
  split_ifs
  · rfl
  · rw [inst_cause, inst_setInst, if_neg h]

/-- A mailbox post that sets its bit counts an edge. -/
theorem inst_t2mPost (on : gated s i = false) (h : (inst s i).t2m = false) :
    inst (t2mPost i s) i = { inst s i with t2m := true, t2mE := (inst s i).t2mE + 1 } := by
  simp only [t2mPost, on, h, Bool.or_self, Bool.false_eq_true, if_false, inst_cause, inst_setInst_same]

theorem inst_m2tPost (on : gated s i = false) (h : (inst s i).m2t = false) :
    inst (m2tPost i s) i = { inst s i with m2t := true, m2tE := (inst s i).m2tE + 1 } := by
  simp only [m2tPost, on, h, Bool.or_self, Bool.false_eq_true, if_false, inst_cause, inst_setInst_same]

theorem t2mPost_idle (h : gated s i = true ∨ (inst s i).t2m = true) : t2mPost i s = s := if_pos (by simpa using h)

theorem m2tPost_idle (h : gated s i = true ∨ (inst s i).m2t = true) : m2tPost i s = s := if_pos (by simpa using h)

/-- The commands of a mailbox leave the other instances. -/
theorem inst_mailbox_other {b m2t : Bool} {i off : Fn} {bs : List Byte} :
    ∀ c ∈ [Instr.mailboxPaneWrite b i m2t off bs, .mailboxT2mPost i, .mailboxT2mAck i, .mailboxM2tPost i,
      .mailboxM2tAck i, .rstDoneClear i], ∃ t, exec c s = .next t ∧ ∀ j, j ≠ i.val → inst t j = inst s j := by
  have mod (g : Inst → Inst) (j : Nat) (h : j ≠ i.val) (u : State) : inst (modInst i g u) j = inst u j :=
    (inst_modInst ..).trans (if_neg h)
  have guarded (can : Bool) (t : State) (same : ∀ j, j ≠ i.val → inst t j = inst s j) :
      ∃ u, when s can t = .next u ∧ ∀ j, j ≠ i.val → inst u j = inst s j := by
    cases can
    · exact ⟨s, rfl, fun _ _ => rfl⟩
    · exact ⟨t, rfl, same⟩
  simp only [List.mem_cons, List.not_mem_nil, or_false, forall_eq_or_imp, forall_eq]
  refine ⟨guarded _ _ fun j h => ?_, guarded _ _ fun j h => ?_, ⟨_, rfl, fun j h => ?_⟩, ⟨_, rfl, fun j h => ?_⟩,
    guarded _ _ fun j h => ?_, guarded _ _ fun j h => ?_⟩
  · rw [apply_ite (inst · j)]
    exact ite_eq_iff'.mpr ⟨fun _ => inst_mboxAccess_other (inst_paneWrite_other h), fun _ => rfl⟩
  · exact inst_mboxAccess_other (inst_t2mPost_other h)
  · exact inst_mboxAccess_other (mod _ j h)
  · exact inst_mboxAccess_other (inst_m2tPost_other h)
  · exact inst_mboxAccess_other (mod _ j h)
  · exact inst_mboxAccess_other (mod _ j h)

/-- Settles O25: the guards of a mailbox access, and then the one field that it changes (log 104). -/
theorem mailboxesPass : Obligations.MailboxesPass := by
  refine ⟨?pane, ?dropped, ?past, ?tenants, ?manager, ?windowOff, ?unanswered, ?isolated⟩
  case pane =>
    intro b i off bs s there ans fits on free
    refine ⟨_, when_of (tenant_of there), ?_⟩
    rw [if_pos fits, mboxAccess_of there ans, inst_paneWrite (s := wakeLink (ungate s)) fits on free]
    rfl
  case dropped =>
    intro b m2t i off bs s there ans fits why
    refine ⟨_, when_of (tenant_of there), ?_⟩
    rw [if_pos fits, mboxAccess_of there ans, inst_paneWrite_dropped (s := wakeLink (ungate s)) why]
    rfl
  case past =>
    intro b m2t i off bs s there long
    have may : (b || (i.val ≠ 0 && exists' s i)) = true := by simpa [tenant] using there
    exact (when_of may).trans (congrArg Host.Outcome.next (if_neg (by omega)))
  case tenants =>
    intro i s there ans
    refine ⟨fun on clear => ⟨_, when_of there, ?_⟩, fun why => ?_, ⟨_, when_of there, ?_⟩, ⟨_, when_of there, ?_⟩⟩
    · rw [mboxAccess_tenant ans, inst_t2mPost (s := wakeLink (ungate s)) on clear]; rfl
    · refine (when_of there).trans (congrArg Host.Outcome.next ?_)
      rw [mboxAccess_tenant ans, t2mPost_idle (s := wakeLink (ungate s)) why]
    · rw [mboxAccess_tenant ans]; exact inst_modInst_same ..
    · rw [mboxAccess_tenant ans]; exact inst_modInst_same ..
  case manager =>
    intro i s on ans
    refine ⟨fun free clear => ⟨_, rfl, ?_⟩, fun why => ?_, ⟨_, rfl, ?_⟩⟩
    · rw [mboxAccess_manager ans on, inst_m2tPost (s := wakeLink (ungate s)) free clear]; rfl
    · refine congrArg Host.Outcome.next ?_
      rw [mboxAccess_manager ans on, m2tPost_idle (s := wakeLink (ungate s)) why]
    · rw [mboxAccess_manager ans on]; exact inst_modInst_same ..
  case windowOff =>
    intro m2t i off bs s none fits
    simp only [List.mem_cons, List.not_mem_nil, or_false, forall_eq_or_imp, forall_eq]
    have pane : exec (.mailboxPaneWrite true i m2t off bs) s =
        .next (mboxAccess true i (paneWrite true i m2t off bs) s) :=
      congrArg Host.Outcome.next (if_pos fits)
    refine ⟨⟨fun ans => ?_, fun ans => ?_⟩, ⟨fun ans => ?_, fun ans => ?_⟩, fun ans => ?_, fun ans => ?_⟩
    · rw [pane, mboxAccess_off ans none]
    · rw [pane, mboxAccess_unanswered (b := true) ans]; rfl
    · exact congrArg Host.Outcome.next (mboxAccess_off ans none)
    · exact congrArg Host.Outcome.next (mboxAccess_unanswered (b := true) ans)
    · exact congrArg Host.Outcome.next (mboxAccess_off ans none)
    · exact congrArg Host.Outcome.next (mboxAccess_unanswered (b := true) ans)
  case unanswered =>
    intro m2t i off bs s there fits ans
    simp only [List.mem_cons, List.not_mem_nil, or_false, forall_eq_or_imp, forall_eq]
    have no {f : State → State} : mboxAccess false i f s = answerTlp (.unsupported i) s :=
      mboxAccess_unanswered (b := false) ans
    refine ⟨(when_of there).trans (congrArg Host.Outcome.next ?_), (when_of there).trans (congrArg Host.Outcome.next no),
      (when_of there).trans (congrArg Host.Outcome.next no), (when_of there).trans (congrArg Host.Outcome.next no)⟩
    rw [if_pos fits]
    exact no
  case isolated => exact fun b m2t i off bs s => inst_mailbox_other

end Mailboxes

end Sys2Proof.Machine
end

section
/-! Instances (file 11): VF Enable, function-level resets, the end of a reset, and removals. -/

namespace Sys2Proof.Machine

open Sys2Proof

/-- A fold that treats each index once, where a step changes what is seen at its own index only. -/
theorem foldl_each {α β : Type} {f : α → Nat → α} {v : α → Nat → β} {g : β → β} (own : ∀ s i, v (f s i) i = g (v s i))
    (other : ∀ s i j, j ≠ i → v (f s i) j = v s j) {l : List Nat} (once : l.Nodup) (s : α) (j : Nat) :
    v (l.foldl f s) j = if j ∈ l then g (v s j) else v s j := by
  induction l generalizing s with
  | nil => rfl
  | cons i is ih =>
    obtain ⟨fresh, rest⟩ := List.nodup_cons.mp once
    rw [List.foldl_cons, ih rest]
    by_cases h : j = i
    · subst h
      rw [if_neg fresh, own, if_pos List.mem_cons_self]
    · rw [other _ _ _ h]
      simp only [List.mem_cons, h, false_or]

theorem Touches.vfs {ps : List Part} {s t : State} (h : Touches ps s t) (n : .link ∉ ps) :
    t.host.vfEnable = s.host.vfEnable ∧ t.host.numVfs = s.host.numVfs := by
  have same := h .link n
  simp only [Part.Same, Prod.mk.injEq] at same
  tauto

section Resets

variable {s : State} {i j : Nat}

/-- An instance changes its state, and nothing else of it or of another. -/
theorem inst_setInstSt (st : InstSt) :
    inst (setInstSt i st s) j = if j = i then { inst s i with st := st } else inst s j := by
  unfold setInstSt
  extract_lets +onlyGivenNames old t f
  split_ifs with same own own
  · subst same own; rfl
  · rfl
  · subst own
    rw [event_eff.touches.instSame (by decide)]
    exact inst_modInst_same ..
  · rw [event_eff.touches.instSame (by decide)]
    exact (inst_modInst ..).trans (if_neg own)

theorem inst_setInstSt_same (st : InstSt) : inst (setInstSt i st s) i = { inst s i with st := st } :=
  (inst_setInstSt st).trans (if_pos rfl)

theorem inst_setInstSt_other (st : InstSt) (h : j ≠ i) : inst (setInstSt i st s) j = inst s j :=
  (inst_setInstSt st).trans (if_neg h)

/-- The gate of a reset counts the entries that it removes, and changes nothing else of an instance. -/
theorem inst_gateWork : ∃ n, ∀ j, inst (gateWork i s) j = if j = i then { inst s i with entsRemoved := n } else inst s j := by
  have still {ps : List Part} {u v : State} (e : Eff ps u v)
      (n : .instState ∉ ps ∧ .mailbox ∉ ps ∧ .resetRec ∉ ps := by decide) : ∀ j, inst v j = inst u j :=
    e.touches.instSame n
  unfold gateWork
  extract_lets +onlyGivenNames mine all₀ a b old c all d e
  refine ⟨all, fun j => ?_⟩
  have aIs : ∀ j, inst a j = inst s j :=
    still (hushReads_eff.step staleReports_eff.weaken : Eff [.reads, .origins] s a)
  have bIs : ∀ j, inst b j = inst a j := still (Eff.foldl (fun x t => dequeueJob_eff.step unbind_eff) (Eff.refl _ _) _)
  have cIs : ∀ j, inst c j = inst b j := fun _ => rfl
  have dIs : ∀ j, inst d j = inst (modInst i (fun x => { x with entsRemoved := all }) c) j := still resetTunnel_eff
  have eIs : ∀ j, inst e j = inst d j := still (Eff.foldl (fun n t => gatePipe_eff) (Eff.refl _ _) _)
  have endIs : ∀ j, inst (tellRoom ((mine.map Prod.fst).foldl (fun s q => gateQueue q s) e)) j = inst e j :=
    still (tellRoom_eff.step (Eff.foldl (fun q t => gateQueue_eff) (Eff.refl _ _) _))
  rw [endIs, eIs, dIs, inst_modInst, cIs, cIs, bIs, bIs, aIs, aIs]

/-- A reset request merges into the reset that runs, or begins one. -/
theorem inst_resetInst {c : Nat} {cmd : Option Word} {leave : Bool} :
    ∃ n, ∀ j, inst (resetInst i c cmd leave s) j = if j = i then
      (if (inst s i).st = .resetting then
        { inst s i with merged := true, remove := (inst s i).remove || leave
                        rstCmds := (inst s i).rstCmds ++ cmd.toList }
       else { inst s i with runCause := c, merged := false, remove := leave, rstCmds := cmd.toList
                            st := .resetting, entsRemoved := n })
      else inst s j := by
  unfold resetInst
  extract_lets +onlyGivenNames x t
  by_cases running : x.st = .resetting
  · refine ⟨0, fun j => ?_⟩
    rw [if_pos running, if_pos running, inst_setInst]
  · obtain ⟨n, gate⟩ := inst_gateWork (s := setInstSt i .resetting t) (i := i)
    refine ⟨n, fun j => ?_⟩
    rw [if_neg running, if_neg running, gate]
    split_ifs with own
    · rw [inst_setInstSt_same, inst_setInst_same]
    · rw [inst_setInstSt_other _ own, inst_setInst, if_neg own]

/-- The life of an instance: what a reset and a removal go by. -/
def Inst.life (x : Inst) : InstSt × Nat × Bool := (x.st, x.runCause, x.remove)

/-- What a reset to be removed makes of an instance's life. -/
def lifeRemoved (l : InstSt × Nat × Bool) : InstSt × Nat × Bool :=
  if l.1 = .absent then l else if l.1 = .resetting then (.resetting, l.2.1, true) else (.resetting, 4, true)

/-- VF Enable cleared, for one instance. -/
def leaveInst (s : State) (i : Nat) : State :=
  if (inst s i).st = .absent then s
  else resetInst i 4 none true (modFn i (fun f => { f with busMaster := false, msixEnable := false }) s)

theorem life_leaveInst : (inst (leaveInst s i) i).life = lifeRemoved (inst s i).life := by
  obtain ⟨n, is⟩ := inst_resetInst (i := i) (c := 4) (cmd := none) (leave := true)
    (s := modFn i (fun f => { f with busMaster := false, msixEnable := false }) s)
  have own (g : Func → Func) : inst (modFn i g s) i = inst s i := rfl
  unfold leaveInst
  show _ = if (inst s i).st = .absent then (inst s i).life
    else if (inst s i).st = .resetting then (.resetting, (inst s i).runCause, true) else (.resetting, 4, true)
  by_cases none : (inst s i).st = .absent
  · rw [if_pos none, if_pos none]
  · rw [if_neg none, if_neg none, is, if_pos rfl, own]
    by_cases running : (inst s i).st = .resetting
    · rw [if_pos running, if_pos running, Inst.life, Bool.or_true, running]
    · rw [if_neg running, if_neg running]; rfl

theorem life_leaveInst_other (h : j ≠ i) : (inst (leaveInst s i) j).life = (inst s j).life := by
  obtain ⟨n, is⟩ := inst_resetInst (i := i) (c := 4) (cmd := none) (leave := true)
    (s := modFn i (fun f => { f with busMaster := false, msixEnable := false }) s)
  unfold leaveInst
  split_ifs
  · rfl
  · rw [is, if_neg h]; rfl

/-- VF Enable set, for one instance. -/
def enterInst (s : State) (i : Nat) : State := if (inst s i).st = .absent then setInstSt i .quiesced s else s

theorem st_enterInst : (inst (enterInst s i) i).st = if (inst s i).st = .absent then .quiesced else (inst s i).st := by
  unfold enterInst
  split_ifs
  · rw [inst_setInstSt_same]
  · rfl

theorem st_enterInst_other (h : j ≠ i) : (inst (enterInst s i) j).st = (inst s j).st := by
  unfold enterInst
  split_ifs
  · rw [inst_setInstSt_other _ h]
  · rfl

/-- The virtual functions 1 to n. -/
theorem mem_vfs {n : Nat} (h : 1 ≤ i) (k : i ≤ n) : i ∈ (List.range n).map (· + 1) := by
  simp only [List.mem_map, List.mem_range]
  exact ⟨i - 1, by omega, by omega⟩

theorem nodup_vfs (n : Nat) : ((List.range n).map (· + 1)).Nodup :=
  List.nodup_range.map (fun _ _ h => Nat.succ.inj h)

/-! ### The end of a reset -/

/-- The work of a reset leaves the mailbox and the record of every instance. -/
theorem inst_resetWork : inst (retryBlocked (clearWork i s)) j = inst s j :=
  (retryBlocked_eff.touches.instSame (by decide) j).trans (clearWork_eff.touches.instSame (by decide) j)

/-- A filter that keeps no entry of a key leaves the default there. -/
theorem getD_filter_out {α : Type} {m : Sparse α} {d : α} {k : Nat} {p : Nat × α → Bool} (h : ∀ x, p (k, x) = false) :
    getD d (m.filter p) k = d := by
  have gone : find (m.filter p) k = Option.none := by
    induction m with
    | nil => rfl
    | cons e m ih =>
      obtain ⟨j, x⟩ := e
      by_cases keep : p (j, x) = true
      · have other : j ≠ k := by
          rintro rfl
          rw [h] at keep
          cases keep
        rw [List.filter_cons_of_pos keep, find, if_neg other, ih]
      · rw [List.filter_cons_of_neg keep, ih]
  rw [getD, gone]
  rfl

/-- The work of a reset leaves no fence counter of the instance. -/
theorem fences_clearWork (j : Fin 64) : fenceGet (clearWork i s) i j = 0 := by
  unfold clearWork
  extract_lets +onlyGivenNames a b c d e
  refine getD_filter_out (m := d.qe.fences) fun x => ?_
  have own : (i * 64 + j.val) / 64 = i := by omega
  simp [own]

theorem Touches.fenceGet {ps : List Part} {s t : State} (h : Touches ps s t) (n : .fences ∉ ps) (i j : Nat) :
    fenceGet t i j = fenceGet s i j := by
  have same : t.qe.fences = s.qe.fences := h .fences n
  rw [Machine.fenceGet, same, Machine.fenceGet]

/-- An instance's mailbox, RST_DONE and the record of its last reset. -/
def Inst.record (x : Inst) : Inst :=
  { x with st := .absent, runCause := 0, merged := false, rstCmds := [], entsRemoved := 0, remove := false
           removing := false }

theorem Touches.record {ps : List Part} {s t : State} (h : Touches ps s t) (n : .mailbox ∉ ps ∧ .resetRec ∉ ps)
    (i : Nat) : (inst t i).record = (inst s i).record := by
  obtain ⟨nm, nr⟩ := n
  have box := h .mailbox nm i
  have kept := h .resetRec nr i
  simp only [Prod.mk.injEq] at box kept
  simp only [Inst.record, Inst.mk.injEq]
  tauto

/-- The record that the end of a reset leaves. -/
def Inst.afterReset (us : Nat) (x : Inst) : Inst :=
  { x with
    paneT2m := [], paneM2t := [], t2m := false, m2t := false, rstDone := true, rstE := x.rstE + 1
    resets := x.resets + 1, cause := BitVec.ofNat 4 x.runCause, lastUs := BitVec.ofNat 11 us
    rstCmds := [], merged := false, removing := x.remove }

/-- The parts that what follows in the end of a reset may change: no mailbox, no record, no fence counter. -/
abbrev afterResetParts : List Part :=
  [.l1, .reads, .msg, .fnMsg, .queues, .sched, .cistern, .instState, .devWake, .tunnel, .gate, .heldEv, .out]

theorem endReset_tail {us : Nat} :
    Eff afterResetParts (modInst i (Inst.afterReset us) (retryBlocked (clearWork i s))) (endReset i us s) := by
  unfold endReset
  extract_lets +onlyGivenNames x pipes a reads b c d e f
  have cEff : Eff afterResetParts b c := event_eff.weaken
  have dEff : Eff afterResetParts b d := resetReplies_eff.step cEff
  have eEff : Eff afterResetParts b e := setInstSt_eff.step dEff
  have fEff : Eff afterResetParts b f := Eff.ite eEff (cause_eff.step eEff)
  exact Eff.ite dEff (Eff.ite (resume_eff.step fEff) fEff)

theorem record_endReset (us : Nat) : (inst (endReset i us s) i).record = ((inst s i).afterReset us).record := by
  rw [endReset_tail.touches.record (by decide), inst_modInst_same, inst_resetWork]

theorem fences_endReset (us : Nat) (j : Fin 64) : fenceGet (endReset i us s) i j = 0 := by
  have own (g : Inst → Inst) (u : State) : fenceGet (modInst i g u) i j = fenceGet u i j := rfl
  rw [endReset_tail.touches.fenceGet (by decide), own]
  exact (retryBlocked_eff.touches.fenceGet (by decide) i j).trans (fences_clearWork j)

/-! ### Removal -/

/-- The parts that the removal of an instance changes before it judges what becomes of it: not VF Enable. -/
abbrev removalParts : List Part :=
  [.l1, .msg, .fnCfg, .fnErr, .fnMsg, .queues, .sched, .halves, .units, .engines, .portReg, .instState, .resetRec,
   .capFlag, .devWake, .tunnel, .gate, .heldEv, .out]

/-- A removed instance is ABSENT, or QUIESCED where VF Enable is set again. -/
theorem inst_removeInst : (inst (removeInst i s) i).removing = false ∧
    (inst (removeInst i s) i).st = (if s.host.vfEnable ∧ i ≤ s.host.numVfs then .quiesced else .absent) := by
  unfold removeInst
  extract_lets +onlyGivenNames a b c d x e f
  have aEff : Eff removalParts s a := Eff.foldl (fun n t => erasePipe_eff.weaken) (Eff.refl _ _) _
  have bEff : Eff removalParts s b := Eff.foldl (fun q t => delQueue_eff.weaken) aEff _
  have cEff : Eff removalParts s c := Eff.foldl (fun p t => modPort_eff (Eff.refl _ _) (fun _ => {})) bEff _
  have dEff : Eff removalParts s d := setFn_eff cEff {}
  have eEff : Eff removalParts s e := modInst_eff dEff (fun _ => {})
  have fEff : Eff removalParts s f := resetReplies_eff.step (setInstSt_eff.step eEff)
  obtain ⟨on, num⟩ := fEff.touches.vfs (by decide)
  have gone : inst f i = { inst e i with st := .absent } :=
    (resetReplies_eff.touches.instSame (by decide) i).trans (inst_setInstSt_same _)
  have left : (inst e i).removing = false := by rw [inst_modInst_same]
  have back : (f.host.vfEnable && decide (i ≤ f.host.numVfs)) = true ↔ s.host.vfEnable = true ∧ i ≤ s.host.numVfs := by
    rw [on, num, Bool.and_eq_true, decide_eq_true_eq]
  simp only [back]
  split_ifs
  · rw [inst_setInstSt_same, gone]; exact ⟨left, rfl⟩
  · rw [gone]; exact ⟨left, rfl⟩

end Resets

/-- Settles O26: what one instance's turn does to it, once for each instance of VF Enable (log 59), and what the end of a
reset and of a removal leave. -/
theorem instancesResetAndLeave : Obligations.InstancesResetAndLeave := by
  refine ⟨?enable, ?disable, ?flr, ?resetEnd, ?removal⟩
  case enable =>
    intro n s up fits off
    let u : State := { wakeLink s with host := { (wakeLink s).host with vfEnable := true, numVfs := n } }
    have is : writeVfEnable true n (wakeLink s) = ((List.range n).map (· + 1)).foldl enterInst u := by
      have branch : writeVfEnable true n (wakeLink s) =
          if s.host.vfEnable then wakeLink s else ((List.range n).map (· + 1)).foldl enterInst u := rfl
      rw [branch, off]
      rfl
    have still : Eff [.l1, .msg, .fnMsg, .queues, .instState, .tunnel, .gate, .heldEv, .out] u
        (((List.range n).map (· + 1)).foldl enterInst u) :=
      Eff.foldl (fun i t => Eff.ite setInstSt_eff (Eff.refl _ _)) (Eff.refl _ _) _
    obtain ⟨on, num⟩ := still.touches.vfs (by decide)
    refine ⟨_, when_of (by simp [up, fits]), by rw [is, on], by rw [is, num], fun i low high gone => ?_⟩
    rw [is, foldl_each (v := fun s i => (inst s i).st) (g := fun st => if st = .absent then .quiesced else st)
      (fun s i => st_enterInst) (fun s i j h => st_enterInst_other h) (nodup_vfs _), if_pos (mem_vfs low high)]
    exact if_pos gone
  case disable =>
    intro n s up fits on
    let u : State := { wakeLink s with host := { (wakeLink s).host with vfEnable := false, numVfs := n } }
    have is : writeVfEnable false n (wakeLink s) = ((List.range s.host.numVfs).map (· + 1)).foldl leaveInst u := by
      have branch : writeVfEnable false n (wakeLink s) =
          if !s.host.vfEnable then { wakeLink s with host := { (wakeLink s).host with numVfs := n } }
          else ((List.range s.host.numVfs).map (· + 1)).foldl leaveInst u := rfl
      rw [branch, on]
      rfl
    have still : Eff [.l1, .reads, .msg, .fnCfg, .fnMsg, .queues, .sched, .halves, .engines, .bursts, .cistern, .origins,
        .log, .instState, .capFlag, .fwHeld, .devWake, .tunnel, .gate, .heldEv, .out] u
        (((List.range s.host.numVfs).map (· + 1)).foldl leaveInst u) :=
      Eff.foldl (fun i t => Eff.ite (Eff.refl _ _) (resetInst_eff.step (modFn_eff (Eff.refl _ _) (fun _ => {}))))
        (Eff.refl _ _) _
    refine ⟨_, when_of (by simp [up, fits]), by rw [is, (still.touches.vfs (by decide)).1], fun i low high there => ?_⟩
    have life := foldl_each (v := fun s i => (inst s i).life) (fun s i => life_leaveInst)
      (fun s i j h => life_leaveInst_other h) (nodup_vfs s.host.numVfs) u i
    rw [← is, if_pos (mem_vfs low high)] at life
    have uIs : inst u i = inst s i := rfl
    have split : lifeRemoved (inst s i).life =
        (.resetting, if (inst s i).st = .resetting then (inst s i).runCause else 4, true) := by
      show (if (inst s i).st = .absent then (inst s i).life
        else if (inst s i).st = .resetting then (.resetting, (inst s i).runCause, true) else (.resetting, 4, true)) = _
      rw [if_neg there]
      split_ifs <;> rfl
    rw [uIs, split] at life
    simp only [Inst.life, Prod.mk.injEq] at life
    obtain ⟨st, cause, leaves⟩ := life
    exact ⟨st, leaves, fun fresh => by rw [cause, if_neg fresh]⟩
  case flr =>
    intro i s own there up
    obtain ⟨n, is⟩ := inst_resetInst (i := i.val) (c := 2) (cmd := none) (leave := false)
      (s := modFn i (fun f => { f with busMaster := false, msixEnable := false, funcMask := false, dstate := .d0
                                       corReport := false, nfReport := false, vecs := [] }) (wakeLink s))
    have self := (is i).trans (if_pos rfl)
    have cfg := (resetInst_eff (i := i.val) (cause := 2) (cmd := none) (thenRemove := false)
      (s := modFn i (fun f => { f with busMaster := false, msixEnable := false, funcMask := false, dstate := .d0
                                       corReport := false, nfReport := false, vecs := [] }) (wakeLink s))).touches
        .fnCfg (by decide) i
    rw [fn_modFn_same] at cfg
    simp only [Prod.mk.injEq] at cfg
    obtain ⟨-, master, dstate, msix, mask, -, cor, nf⟩ := cfg
    have old : ∀ g, inst (modFn i g (wakeLink s)) i = inst s i := fun _ => rfl
    rw [old] at self
    refine ⟨_, when_of (by simp [own, there, up]), ?_, ?_, ?_, master, msix, mask, dstate, cor, nf⟩ <;>
      rw [vfReset, self] <;> split_ifs with running <;> simp [running]
  case resetEnd =>
    intro i us s running staying
    have fields := record_endReset (s := s) (i := i.val) us
    simp only [Inst.record, Inst.afterReset, Inst.mk.injEq] at fields
    refine ⟨_, when_of (by simp [running, staying]), ?_⟩
    have fences := fences_endReset (s := s) (i := i.val) us
    tauto
  case removal =>
    intro i s running leaving
    exact ⟨_, when_of (by simp [running, leaving]), inst_removeInst⟩

end Sys2Proof.Machine
end

section
/-! Link power states of the root ports (file 06): packets on an awake link, U1, U2 and L1, and the way back. -/

namespace Sys2Proof.Machine

open Sys2Proof

section Link

variable {s : State} {p h : Nat}

/-- What the link layer itself signals goes out at once. -/
theorem bus_signalling {k : BusPkt} (sig : signalling k = true) : bus p h k s = emit (.bus p h k) s :=
  if_pos (by rw [sig]; rfl)

/-- On an awake link every packet goes out at once. -/
theorem bus_awake {k : BusPkt} (up : asleep s p h = false) : bus p h k s = emit (.bus p h k) s :=
  if_pos (by rw [up]; simp)

theorem foldl_bus_awake (up : asleep s p h = false) (l : List BusPkt) :
    l.foldl (fun s k => bus p h k s) s = { s with out := s.out ++ l.map (fun k => .bus p h k) } := by
  induction l generalizing s with
  | nil => simp
  | cons k ks ih =>
    rw [List.foldl_cons, bus_awake up, ih (s := emit (.bus p h k) s) up]
    simp [emit]

/-- The beginning of an idle period stores the timeouts of the active set, and tells the unit of them where they changed. -/
theorem halfReg_idleStart (on : (halfReg s p h).st = .enabled) (up : asleep s p h = false) :
    halfReg (idleStart p h s) p h = { halfReg s p h with lpm := cfgLpm s p } := by
  let u := modHalf p h (fun x => { x with lpm := cfgLpm s p }) s
  have uIs : halfReg u p h = { halfReg s p h with lpm := cfgLpm s p } := halfReg_modHalf_same ..
  have uUp : asleep u p h = false := by
    unfold asleep at up ⊢
    rw [uIs]
    exact up
  unfold idleStart
  extract_lets +onlyGivenNames v x
  by_cases same : v = x.lpm
  · rw [if_pos (by simp [same])]
    exact (congrArg (fun v => { x with lpm := v }) same.symm : { x with lpm := x.lpm } = { x with lpm := v })
  · rw [if_neg (by simp [same, x, on])]
    by_cases own : h = 0
    · subst own
      dsimp only
      split_ifs
      · rw [show bus p 0 _ _ = _ from bus_awake uUp]; exact uIs
      · exact uIs
    · simp only [own, decide_false, Bool.false_and, Bool.false_eq_true, if_false]
      exact uIs

theorem out_idleStart (same : cfgLpm s p = (halfReg s p h).lpm) : (idleStart p h s).out = s.out :=
  congrArg State.out (if_pos (by rw [same]; simp))

/-- The half as it reaches U0 or L0. -/
def HalfReg.awoken (h : Half) (x : HalfReg) : HalfReg :=
  { x with lstate := 0, itpDue := false, txHeld := [], recov := if h = 0 && x.lstate ≠ 8 then x.recov + 1 else x.recov }

/-- At U0 or L0 the packets that waited leave in their order, an ITP first. -/
theorem linkAwake_sends {p : Port} {h : Half} (own : h = 0 ∨ (halfReg s p h).itpDue = false) : ∃ u : State,
    linkAwake p h s = idleStart p h u ∧ halfReg u p h = (halfReg s p h).awoken h ∧ cfgLpm u p = cfgLpm s p ∧
    u.out = s.out ++ (if (halfReg s p h).itpDue then
      [.bus p.val 0 (.itp ((ptime s p).num.toNat % 16384) (itpDelta s p))] else []) ++
      (halfReg s p h).txHeld.map (fun k => .bus p.val h.val k) := by
  let a := modHalf p h (HalfReg.awoken h) s
  have aIs : halfReg a p h = (halfReg s p h).awoken h := halfReg_modHalf_same ..
  have up : asleep a p h = false := by simp [asleep, aIs, HalfReg.awoken]
  have branch : linkAwake p h s = idleStart p h ((halfReg s p h).txHeld.foldl (fun s k => bus p h k s)
      (if (halfReg s p h).itpDue then bus p 0 (.itp ((ptime s p).num.toNat % 16384) (itpDelta s p)) a else a)) := rfl
  cases due : (halfReg s p h).itpDue
  · refine ⟨_, branch, ?_⟩
    rw [due, if_neg (by decide), if_neg (by decide), foldl_bus_awake up]
    exact ⟨aIs, rfl, by rw [List.append_nil]; rfl⟩
  · obtain rfl : h = 0 := own.resolve_right (by rw [due]; decide)
    refine ⟨_, branch, ?_⟩
    have itp (k : BusPkt) : bus p 0 k a = emit (.bus p 0 k) a := bus_awake (h := 0) up
    rw [due, if_pos rfl, if_pos rfl, itp, foldl_bus_awake (s := emit _ a) up]
    exact ⟨aIs, rfl, rfl⟩

end Link

/-- Settles O38: `enterU` and `enterL1` with their packet, and `linkAwake` (logs 52 and 125). -/
theorem linkPowerStates : Obligations.LinkPowerStates := by
  have entered (p : Port) (u2 : Bool) (s : State) : (halfReg (enterU p u2 s) p 0).lstate = (if u2 then 2 else 1) ∧
      (halfReg (enterU p u2 s) p 0).u1Ent = (halfReg s p 0).u1Ent + (if u2 then 0 else 1) ∧
      (halfReg (enterU p u2 s) p 0).u2Ent = (halfReg s p 0).u2Ent + (if u2 then 1 else 0) := by
    cases u2 <;> simp [enterU]
  refine ⟨?refused, ?taken, ?timer, ?l1, ?awake⟩
  case refused =>
    intro p u2 s up why
    refine (when_of up).trans (congrArg Host.Outcome.next ?_)
    rw [unitLpm, if_pos (by simpa [or_assoc] using why), bus_signalling rfl]
    rfl
  case taken =>
    intro p u2 s up due quiet free
    refine ⟨_, when_of up, ?_⟩
    rw [unitLpm, if_neg (by simp [due, quiet, free])]
    obtain ⟨l, u1, u2⟩ := entered p u2 s
    exact ⟨l, u1, u2, rfl⟩
  case timer =>
    intro p u2 s up due never quiet free
    refine ⟨_, when_of (by simp [up, due, never, quiet, free]), ?_⟩
    rw [bus_signalling rfl]
    obtain ⟨l, u1, u2⟩ := entered p u2 (emit (.bus p 0 (.lgo (if u2 then 2 else 1))) s)
    exact ⟨l, u1, u2, rfl⟩
  case l1 =>
    intro p s on awake due unit quiet free
    refine ⟨_, when_of (by simp [on, awake, due, unit, quiet, free]), ?_⟩
    rw [enterL1, bus_signalling rfl, halfReg_modHalf_same]
    exact ⟨rfl, rfl, rfl⟩
  case awake =>
    intro p h s there sleeping own
    obtain ⟨u, is, uIs, lpm, sent⟩ := linkAwake_sends own
    have on : (halfReg u p h).st = .enabled := by
      rw [uIs]
      simp only [asleep, Bool.and_eq_true, decide_eq_true_eq] at sleeping
      exact sleeping.1
    have up : asleep u p h = false := by simp [asleep, uIs, HalfReg.awoken]
    refine ⟨_, when_of (by rw [there, sleeping]; rfl), ?_⟩
    rw [is, halfReg_idleStart on up, lpm, uIs]
    refine ⟨rfl, rfl, rfl, fun same => ?_⟩
    rw [out_idleStart (by rw [lpm, uIs]; exact same.symm), sent]

end Sys2Proof.Machine
end

section
/-! The command processor (file 12): a packet that firmware looks at is refused by its first failing check or is accepted
with its effect. -/

namespace Sys2Proof.Machine

open Sys2Proof

/-! ### One packet -/

section Packets

variable {op : Nat} {masks : List Word} {tenants inRecovery : Bool} {checks : State → List Check} {f : State → State}
  {c : Packet} {r : Nat × Nat} {s : State}

theorem command_looked (ready : cmdReady s c = true) (own : cOp c = op) :
    command op masks tenants inRecovery checks f c s =
      .next (match firstBad (commonChecks (ungate s) c masks tenants inRecovery ++ checks (ungate s)) with
        | some r => refuse c r (ungate s)
        | none => f (taken c s)) :=
  when_of (by rw [ready, decide_eq_true own]; rfl)

theorem command_taken (ready : cmdReady s c = true) (own : cOp c = op)
    (pass : firstBad (commonChecks (ungate s) c masks tenants inRecovery ++ checks (ungate s)) = none) :
    command op masks tenants inRecovery checks f c s = .next (f (taken c s)) := by
  rw [command_looked ready own, pass]

theorem command_refused (ready : cmdReady s c = true) (own : cOp c = op)
    (bad : firstBad (commonChecks (ungate s) c masks tenants inRecovery ++ checks (ungate s)) = some r) :
    command op masks tenants inRecovery checks f c s = .next (refuse c r (ungate s)) := by
  rw [command_looked ready own, bad]

/-- A refusal is counted, and its completion concerns the queues and what they send. -/
theorem cmd_refuse : (refuse c r s).cmd = { s.cmd with refused := s.cmd.refused + 1 } :=
  reply_eff.touches .cmd (by decide)

end Packets

/-! ### The charge for want of permission -/

section Charged

variable {c : Packet} {s : State}

/-- A charge of PM_ENTER is one of the sixteen of PM_REF_ID and PM_REF_CNT. -/
theorem chargeDenied_refs (c : Packet) (s : State) : ∃ refs stamp,
    chargeDenied c s = { s with pm := { s.pm with refs := refs, refStamp := stamp } } := by
  unfold chargeDenied
  split_ifs
  · exact ⟨_, _, rfl⟩
  · exact ⟨s.pm.refs, s.pm.refStamp, rfl⟩

end Charged

/-! ### The verdict -/

/-- The charge that a packet brings before it is judged: PM_ENTER's. -/
def charged : Instr → State → State
  | .pmEnter c, s => chargeDenied c s
  | _, s => s

theorem charged_eff {i : Instr} {s : State} : Eff [.pmReg] s (charged i s) := by
  cases i with
  | pmEnter c => exact chargeDenied_eff
  | _ => exact Eff.refl _ _

/-- What an accepted packet does (Tables 12-3 to 12-6). -/
def effect : Instr → State → State
  | .queueCreate c, s => createQueue c s
  | .queueDelete c, s => ok c 0 0 0 (delQueue (cQueue c) s)
  | .queueEnable c, s =>
    let s := enableQueue (Fin.ofNat 4096 (cQueue c)) s
    ok c (match queue s (cQueue c) with | some x => x.fetch | none => 0) 0 0 s
  | .queueDisable c, s => disableCmd c s
  | .unitAddress c, s => startAddress c s
  | .unitRelease c, s => ok c 0 0 0 (freeUnit (uPort c) (uAddr c) s)
  | .unitAssign c, s => ok c 0 0 0 (assignUnit c s)
  | .pipeOpen c, s => openPipe c s
  | .pipeClose c, s => closeAll c s
  | .pipeStop c, s => (actsOn s (cPipe c)).foldl (fun s n => withdrawUnsent n s)
      (stateReply c ((actsOn s (cPipe c)).foldl (stopOne c.index) s))
  | .pipeStart c, s => stateReply c ((actsOn s (cPipe c)).foldl startOne s)
  | .pipeReset c, s => stateReply c ((actsOn s (cPipe c)).foldl resetOne s)
  | .pipeQuery c, s => queryPipe c s
  | .originRelease c, s =>
    if (origin s (cOrigin c)).mode = .closed then ok c 0 0 0 (freeClosed (cOrigin c) s)
    else ok c (wd (heldUnder s (cOrigin c)).length) 0 0 (releaseOrigin (cOrigin c) s)
  | .originDrop c, s =>
    if (origin s (cOrigin c)).mode = .closed then ok c 0 0 0 (freeClosed (cOrigin c) s)
    else ok c (wd (heldEntries s (cOrigin c))) 0 0 (dropOrigin (cOrigin c) s)
  | .logRead c, s => ok c (wd (cCount c)) s.sump.logSeq 0 (hostWrite (addr64 c.dw[4] c.dw[5])
      ((List.range (cCount c)).map (fun i => logBytes s (c.dw[2] + wd i))).flatten s)
  | .pumpAck c, s => ok c 0 0 0 (ackHalt (fld c.dw[2] 0 6) s)
  | .instanceResetCommand c, s => resetInst (cInst c) 1 (some c.index) false s
  | .cfgWrite c, s => ok c 0 0 0 (cfgWrites c s)
  | .cfgRead c, s => ok c (setGet (if tst c.dw[3] 0 then s.cfg.active else s.cfg.attic) (fld c.dw[2] 0 24)) 0 0 s
  | .cfgCopy c, s =>
    ok c 0 0 0 { s with cfg := { s.cfg with attic := s.cfg.active }, cmd := { s.cmd with dirty := true } }
  | .cfgSwap c, s => { s with cmd := { s.cmd with pendSwap := true, swapCmd := some c.index, swapMic := s.iso.mic } }
  | .chanBind c, s => ok c 0 0 0 (bindChan c s)
  | .diagEcho c, s => ok c c.dw[2] c.dw[3] c.dw[4] s
  | .portService c r, s => if sReturn c then returnPort c r s else removePort c s
  | .pumpService c pass, s => if sReturn c then returnPump c pass s else removePump c s
  | .cellarService c r, s => serveCellar c r s
  | .fwStage c, s => stageChunk c s
  | .fwActivate c recheck, s => activate' c recheck s
  | .fwQuery c, s => queryFw c s
  | .diagLoopback c reached, s => startLoop c reached s
  | .pmEnter c, s => enterPm c s
  | _, s => s

/-- The checks of a row as the processor makes them: PORT_SERVICE also waits for a removal that runs. -/
def furtherChecks : Instr → State → List Check
  | .portService c _, s => [busy (port s (sPort c)).removing.isSome 0x10]
  | _, _ => []

/-- Every row of the command tables is a `command` of its opcode, masks and checks. -/
theorem exec_row {i : Instr} {c : Packet} {r : CmdRow} (h : cmdRow i = some (c, r)) (s : State) :
    exec i s = command r.op r.masks r.tenants r.inRecovery (fun s => r.checks s ++ furtherChecks i s) (effect i) c
      (charged i s) := by
  cases i <;> simp only [cmdRow, Option.some.injEq, Prod.mk.injEq, reduceCtorEq] at h
  all_goals
    obtain ⟨rfl, rfl⟩ := h
    simp only [furtherChecks, List.append_nil]
    rfl

/-- The charge changes neither whether firmware looks at the packet nor how it is judged. -/
theorem judged_charged {i : Instr} {c : Packet} {r : CmdRow} (h : cmdRow i = some (c, r)) (s : State) :
    cmdReady (charged i s) c = cmdReady s c ∧
    commonChecks (ungate (charged i s)) c r.masks r.tenants r.inRecovery ++
      (r.checks (ungate (charged i s)) ++ furtherChecks i (ungate (charged i s))) =
    (commonChecks (ungate s) c r.masks r.tenants r.inRecovery ++ r.checks (ungate s)) ++ furtherChecks i (ungate s) := by
  rw [List.append_assoc]
  cases i <;> simp only [cmdRow, Option.some.injEq, Prod.mk.injEq, reduceCtorEq] at h
  case pmEnter c' =>
    obtain ⟨rfl, rfl⟩ := h
    obtain ⟨refs, stamp, is⟩ := chargeDenied_refs c' s
    simp only [charged, is]
    exact ⟨rfl, rfl⟩
  all_goals exact ⟨rfl, rfl⟩

theorem firstBad_append_of_some {l m : List Check} {r : Nat × Nat} (h : firstBad l = some r) :
    firstBad (l ++ m) = some r := by
  obtain ⟨x, found, rfl⟩ := Option.map_eq_some_iff.mp h
  simp only [firstBad, List.find?_append, found, Option.some_or, Option.map_some]

theorem firstBad_append_of_none {l m : List Check} (h : firstBad l = none) : firstBad (l ++ m) = firstBad m := by
  have none := Option.map_eq_none_iff.mp h
  simp only [firstBad, List.find?_append, none, Option.none_or]

theorem looked_of_row {i : Instr} {c : Packet} {r : CmdRow} {s : State} (h : cmdRow i = some (c, r))
    (l : Looked i s) : cmdReady s c = true ∧ cOp c = r.op := by
  simpa only [Looked, h] using l

theorem verdict_of_row {i : Instr} {c : Packet} {r : CmdRow} {s : State} (h : cmdRow i = some (c, r)) :
    verdict i s = firstBad (commonChecks (ungate s) c r.masks r.tenants r.inRecovery ++ r.checks (ungate s)) := by
  simp only [verdict, h]

/-- Only an instruction with a row is looked at as a packet. -/
theorem Looked.row {i : Instr} {s : State} (l : Looked i s) : ∃ c r, cmdRow i = some (c, r) := by
  cases h : cmdRow i with
  | none => simp only [Looked, h] at l
  | some cr => exact ⟨cr.1, cr.2, rfl⟩

/-- An accepted packet has its effect on the state in which it is accepted. -/
theorem exec_taken {i : Instr} {c : Packet} {r : CmdRow} {s : State} (h : cmdRow i = some (c, r)) (t : Taken i s)
    (free : firstBad (furtherChecks i (ungate s)) = none := by rfl) :
    exec i s = .next (effect i (taken c (charged i s))) := by
  obtain ⟨looked, pass⟩ := t
  obtain ⟨ready, own⟩ := looked_of_row h looked
  obtain ⟨same, checks⟩ := judged_charged h s
  rw [verdict_of_row h] at pass
  rw [exec_row h]
  exact command_taken (same.trans ready) own (by rw [checks, firstBad_append_of_none pass, free])

/-- A packet that fails a check is refused by the first. -/
theorem exec_refused {i : Instr} {c : Packet} {r : CmdRow} {v : Nat × Nat} {s : State} (h : cmdRow i = some (c, r))
    (l : Looked i s) (bad : verdict i s = some v) : exec i s = .next (refuse c v (ungate (charged i s))) := by
  obtain ⟨ready, own⟩ := looked_of_row h l
  obtain ⟨same, checks⟩ := judged_charged h s
  rw [verdict_of_row h] at bad
  rw [exec_row h]
  exact command_refused (same.trans ready) own (by rw [checks, firstBad_append_of_some bad])

/-- Settles O47: a refusal of a packet, after the charge that PM_ENTER brings. -/
theorem packetsAreJudged : Obligations.PacketsAreJudged := by
  refine ⟨?undefined, ?refused, ?instance0⟩
  case undefined =>
    intro c s ready unknown
    have fresh : opcodes.contains (cOp c) = false := by simpa using unknown
    refine ⟨_, when_of (by rw [ready, fresh]; rfl), cmd_refuse, ?_⟩
    exact (refuse_eff.step ungate_eff.weaken (ps := [.l1, .msg, .fnMsg, .queues, .cmd, .devWake, .tunnel, .gate,
      .heldEv, .out])).touches
  case refused =>
    intro i v s looked bad
    obtain ⟨c, r, row⟩ := looked.row
    have cmd : (charged i s).cmd = s.cmd := charged_eff.touches .cmd (by decide)
    refine ⟨_, exec_refused row looked bad, ?_, ?_⟩
    · rw [cmd_refuse, ungate_cmd, cmd]
    · exact (refuse_eff.step (ungate_eff.step charged_eff.weaken) (ps := [.l1, .msg, .fnMsg, .queues, .cmd, .devWake,
        .tunnel, .pmReg, .gate, .heldEv, .out])).touches
  case instance0 =>
    intro i c r s row own tenants pass
    have bad : firstBad (commonChecks (ungate s) c r.masks r.tenants r.inRecovery ++ r.checks (ungate s)) = none :=
      (verdict_of_row row).symm.trans pass
    have all := List.find?_eq_none.mp (Option.map_eq_none_iff.mp bad)
    refine all (inval (cInst c ≠ 0 && (!r.tenants || maxInst (ungate s) < cInst c ||
      (inst (ungate s) (cInst c)).st = .absent)) 0x02) ?_ ?_
    · exact List.mem_append_left _ (by simp [commonChecks])
    · simp [inval, own, tenants]

end Sys2Proof.Machine
end

section
/-! Parts out of service and back (file 12): why PORT_SERVICE is not always accepted. -/

namespace Sys2Proof.Machine

open Sys2Proof

/-- PORT_SERVICE that returns port 0. -/
def returnPort0 : Packet := { index := 0, dw := #v[0xB8, 0, 0x100, 0, 0, 0, 0, 0, 0, 0, 0, 0] }

/-- Firmware looks at the packet while port 0, out of service, still waits for its pipes to close (Table 6-5). -/
def leavingState : State :=
  { funcs := [(0, { busMaster := true })]
    qe := { queues := [(0, { st := .enabled, ents := [{ idx := 0, place := 0, dw := returnPort0.dw, st := .fetched }] })] }
    ports := [(0, { inService := false, removing := some (1, false, 0) })]
    boot := { fwReady := true } }

/-- Refutes O53: a port whose removal still runs answers PORT_SERVICE with BUSY 0x10, which is a check of the command that
its row does not list, so that the refusal is counted. -/
theorem not_serviceCommandsAct : ¬ Obligations.ServiceCommandsAct := by
  intro h
  obtain ⟨port, -⟩ := h
  have taken : Taken (.portService returnPort0 .ok) leavingState := ⟨⟨by decide, by decide⟩, by decide⟩
  obtain ⟨t, is, same, -⟩ := port returnPort0 .ok leavingState taken
  obtain ⟨ready, own⟩ := looked_of_row (i := .portService returnPort0 .ok) rfl taken.1
  have refused : exec (.portService returnPort0 .ok) leavingState =
      .next (refuse returnPort0 (stBusy, 0x10) (ungate leavingState)) := by
    rw [exec_row (i := .portService returnPort0 .ok) rfl]
    exact command_refused ready own (by decide)
  have tIs := Host.Outcome.next.inj (is.symm.trans refused)
  rw [tIs, cmd_refuse] at same
  exact absurd (congrArg CmdProc.refused same) (by decide)

end Sys2Proof.Machine
end

section
/-! What an accepted packet finds, and the commands of origins, the fault log, halted pumps and instances (file 12). -/

namespace Sys2Proof.Machine

open Sys2Proof

/-! ### Acceptance changes the entry and the clock gate alone -/

section Taken

variable (c : Packet) (s : State)

theorem taken_eff {c : Packet} {s : State} : Eff [.queues, .tunnel, .gate] s (taken c s) :=
  accept_eff.step ungate_eff.weaken

@[simp] theorem modEnt_host (q : Nat) (i : Word) (g : Ent → Ent) : (modEnt q i g s).host = s.host := modQueue_host ..
@[simp] theorem taken_host : (taken c s).host = s.host := modQueue_host ..
@[simp] theorem taken_funcs : (taken c s).funcs = s.funcs := modQueue_funcs ..
@[simp] theorem taken_sched : (taken c s).sched = s.sched := modQueue_sched ..
@[simp] theorem taken_ports : (taken c s).ports = s.ports := modQueue_ports ..
@[simp] theorem taken_iso : (taken c s).iso = s.iso := modQueue_iso ..
@[simp] theorem taken_cis : (taken c s).cis = s.cis := modQueue_cis ..
@[simp] theorem taken_sump : (taken c s).sump = s.sump := modQueue_sump ..
@[simp] theorem taken_cfg : (taken c s).cfg = s.cfg := modQueue_cfg ..
@[simp] theorem taken_insts : (taken c s).insts = s.insts := modQueue_insts ..
@[simp] theorem taken_glb : (taken c s).glb = s.glb := modQueue_glb ..
@[simp] theorem taken_cmd : (taken c s).cmd = s.cmd := modQueue_cmd ..
@[simp] theorem taken_fw : (taken c s).fw = s.fw := modQueue_fw ..
@[simp] theorem taken_boot : (taken c s).boot = s.boot := modQueue_boot ..
@[simp] theorem taken_chans : (taken c s).chans = s.chans := modQueue_chans ..
@[simp] theorem taken_pm : (taken c s).pm = { s.pm with gated := false } := modQueue_pm ..
@[simp] theorem taken_mgmt : (taken c s).mgmt = s.mgmt := modQueue_mgmt ..
@[simp] theorem taken_free : (taken c s).free = s.free := modQueue_free ..
@[simp] theorem taken_isL : (taken c s).isL = s.isL := modQueue_isL ..
@[simp] theorem taken_out : (taken c s).out = s.out := modQueue_out ..

@[simp] theorem pump_taken (n : Nat) : pump (taken c s) n = pump s n := taken_eff.touches.pump (by decide) n
@[simp] theorem xfer_taken (k : Nat) : xfer (taken c s) k = xfer s k := taken_eff.touches.xfer (by decide) k
@[simp] theorem inst_taken (i : Nat) : inst (taken c s) i = inst s i := taken_eff.touches.instSame (by decide) i
@[simp] theorem origin_taken (k : Nat) : origin (taken c s) k = origin s k := taken_eff.touches.origin (by decide) k
@[simp] theorem pipe_taken (n : Nat) : pipe (taken c s) n = pipe s n := taken_eff.touches.pipe (by decide) n
@[simp] theorem port_taken (p : Nat) : port (taken c s) p = port s p := by unfold port; rw [taken_ports]
@[simp] theorem chan_taken (n : Nat) : chan (taken c s) n = chan s n := taken_eff.touches.chan (by decide) n

end Taken

/-- An accepted packet has passed each check of its row. -/
theorem Taken.passes {i : Instr} {c : Packet} {r : CmdRow} {s : State} (h : cmdRow i = some (c, r)) (t : Taken i s)
    {k : Check} (m : k ∈ r.checks (ungate s)) : k.1 = false := by
  have all := List.find?_eq_none.mp (Option.map_eq_none_iff.mp ((verdict_of_row h).symm.trans t.2))
  exact Bool.eq_false_iff.mpr (all k (List.mem_append_right _ m))

/-- Nothing of the sump changes. -/
theorem Touches.sump {ps : List Part} {s t : State} (h : Touches ps s t)
    (n : .origins ∉ ps ∧ .sumpFlags ∉ ps ∧ .acc ∉ ps ∧ .memErr ∉ ps ∧ .log ∉ ps) : t.sump = s.sump := by
  obtain ⟨no, nf, na, nm, nl⟩ := n
  have o := h .origins no
  have f := h .sumpFlags nf
  have a := h .acc na
  have m := h .memErr nm
  have l := h .log nl
  simp only [Part.Same, Prod.mk.injEq] at o f a m l
  generalize t.sump = x at *
  cases x
  simp_all

/-- A reply is not the command processor's own. -/
theorem cmd_ok (c : Packet) (a b d : Word) (s : State) : (ok c a b d s).cmd = s.cmd :=
  ok_eff.touches .cmd (by decide)

/-! ### Origins -/

section Origins

variable {k : Nat} {s : State}

theorem origin_freeClosed : origin (freeClosed k s) k = {} :=
  (originEvent_eff.touches.origin (by decide) k).trans (origin_setOrigin_same ..)

theorem origin_releaseOrigin : origin (releaseOrigin k s) k = {} :=
  (originEvent_eff.touches.origin (by decide) k).trans (origin_setOrigin_same ..)

theorem origin_dropOrigin : origin (dropOrigin k s) k = {} :=
  (originEvent_eff.touches.origin (by decide) k).trans (origin_setOrigin_same ..)

theorem origin_ok (c : Packet) (a b d : Word) : origin (ok c a b d s) k = origin s k :=
  ok_eff.touches.origin (by decide) k

end Origins

/-! ### Halted pumps -/

theorem pump_ok (c : Packet) (a b d : Word) (s : State) (n : Nat) : pump (ok c a b d s) n = pump s n :=
  ok_eff.touches.pump (by decide) n

/-- A removal that waits for PAUSED leaves the channel as it is, or OFF. -/
theorem st_pumpOff (n : Nat) (s : State) : (pump (pumpOff n s) n).st = (pump s n).st ∨ (pump (pumpOff n s) n).st = .off := by
  unfold pumpOff
  split
  · split_ifs
    · refine Or.inr ?_
      rw [reply_eff.touches.pump (by decide), capChange_eff.touches.pump (by decide), pump_modPump_same]
    · exact Or.inl rfl
  · exact Or.inl rfl

theorem st_haltOver (n : Nat) (s : State) : (pump (haltOver n s) n).st ≠ .halted := by
  have stays := st_pumpOff n (modPump n (fun p => if p.st = .halted then
    { p with st := if p.pause then .paused else .idle, job := none } else p) s)
  rw [pump_modPump_same] at stays
  unfold haltOver
  rcases stays with is | is
  · rw [is]; split_ifs <;> simp_all
  · rw [is]; decide

theorem st_ackHalt (n : Nat) (s : State) : (pump (ackHalt n s) n).st ≠ .halted := by
  unfold ackHalt
  extract_lets p
  split_ifs with other
  · simpa using other
  · exact st_haltOver _ _

/-- Settles O51: the last change that a command makes to its origin, channel or instance; its reply changes none. -/
theorem faultCommandsAct : Obligations.FaultCommandsAct := by
  refine ⟨?release, ?drop, ?log, ?ack, ?reset⟩
  case release =>
    intro c s h
    refine ⟨_, exec_taken rfl h, ?_⟩
    simp only [effect]
    split_ifs
    · rw [cmd_ok, freeClosed_eff.touches .cmd (by decide), origin_ok]
      exact ⟨taken_cmd .., origin_freeClosed⟩
    · rw [cmd_ok, releaseOrigin_eff.touches .cmd (by decide), origin_ok]
      exact ⟨taken_cmd .., origin_releaseOrigin⟩
  case drop =>
    intro c s h
    refine ⟨_, exec_taken rfl h, ?_⟩
    simp only [effect]
    split_ifs
    · rw [cmd_ok, freeClosed_eff.touches .cmd (by decide), origin_ok]
      exact ⟨taken_cmd .., origin_freeClosed⟩
    · rw [cmd_ok, dropOrigin_eff.touches .cmd (by decide), origin_ok]
      exact ⟨taken_cmd .., origin_dropOrigin⟩
  case log =>
    intro c s h
    have same : logBytes (taken c s) = logBytes s := by unfold logBytes; rw [taken_sump]
    refine ⟨_, exec_taken rfl h, ?_, ?_⟩
    · exact ((ok_eff.step (hostWrite_eff.weaken) (ps := [.l1, .msg, .fnMsg, .queues, .devWake, .tunnel, .gate, .heldEv,
        .out])).touches.sump (by decide)).trans (taken_sump ..)
    · simp only [effect, charged, same, taken_sump]
  case ack =>
    intro c s h
    have halted : haltedOn (ungate s) c = true := by
      simpa [inval] using h.passes rfl (k := inval (!haltedOn (ungate s) c) 0x03) (by simp)
    refine ⟨?_, _, exec_taken rfl h, ?_, ?_⟩
    · have first := (Bool.and_eq_true_iff.mp halted).1
      exact of_decide_eq_true first
    · simp only [effect, cmd_ok]
      exact Eq.trans (ackHalt_eff.touches .cmd (by decide)) (taken_cmd ..)
    · simp only [effect, pump_ok]
      exact st_ackHalt _ _
  case reset =>
    intro c s h
    have own : cInst c ≠ 0 := by simpa [inval] using h.passes rfl (k := inval (cInst c = 0) 0x02) (by simp)
    obtain ⟨n, is⟩ := inst_resetInst (s := taken c s) (i := cInst c) (c := 1) (cmd := some c.index) (leave := false)
    have self := (is (cInst c)).trans (if_pos rfl)
    rw [inst_taken] at self
    refine ⟨own, _, exec_taken rfl h, Eq.trans (resetInst_eff.touches .cmd (by decide)) (taken_cmd ..), ?_⟩
    simp only [effect, charged, self]
    split_ifs with running <;> simp [running]

end Sys2Proof.Machine
end

section
/-! The configuration sets (file 12): why a swap can leave a deficit above the one that it cut. -/

namespace Sys2Proof.Machine

open Sys2Proof

/-- A swap commits while channel 0 is ON though its port's PP is off, and pipe 10 of the port has a burst in the engine:
group 0 has paid 3 packets of it, and its deficit is 0. -/
def swapState : State :=
  { sched := { pipes := [(10, { kind := .bulk, dirIn := true, state := .active, speed := 2, mps := 1024 })] }
    ports := [(0, { inService := true, vbusOk := true, channel := some 0, h0 := { st := .enabled, speed := 2 }
                    e0 := { descs := [{ pipe := 10, count := 3, charged := 3072, group := some 0 }] } })]
    iso := { running := true, mic := 1 }
    cmd := { pendSwap := true }
    chans := { regs := [(0, { en := true, st := .on, bound := true })] } }

/-- Refutes O52: the commit finds the channel without permission (R366), the port loses its power, and the burst that its
closed pipe had in the engine returns its charge to the deficit (R193), which is then above the cut one. -/
theorem not_configurationCommandsAct : ¬ Obligations.ConfigurationCommandsAct := by
  intro h
  obtain ⟨-, -, -, -, swap, -⟩ := h
  obtain ⟨t, is, -, -, cut⟩ := swap swapState (by decide) (by decide) (by decide) (by decide)
    (fun p => List.Pairwise.nil)
  have tIs : t = commitSwap swapState := by
    have done : exec .cfgSwapCommit swapState = .next (commitSwap swapState) := when_of (by decide)
    exact (Host.Outcome.next.inj (done.symm.trans is)).symm
  have held := (cut 0 0).2
  rw [tIs] at held
  exact absurd held (by decide +kernel)

end Sys2Proof.Machine
end

section
/-! Firmware (files 12 and 16): staging, activation, fallback and the boot record. -/

namespace Sys2Proof.Machine

open Sys2Proof

/-! ### What firmware keeps -/

/-- Firmware's slots, staging and activation, without what an activation pause holds back. -/
def Firmware.slots (f : Firmware) : Firmware := { f with logHeld := [], logAbsent := 0, devHeld := [] }

theorem Touches.slots {ps : List Part} {s t : State} (h : Touches ps s t) (n : .fwSlots ∉ ps) : t.fw.slots = s.fw.slots :=
  h .fwSlots n

/-- A field that a pause does not hold back is kept by what leaves the slots. -/
theorem Touches.firmware {ps : List Part} {s t : State} {α : Type} (h : Touches ps s t) (n : .fwSlots ∉ ps)
    (g : Firmware → α) (own : ∀ f, g f.slots = g f := by exact fun _ => rfl) : g t.fw = g s.fw := by
  rw [← own, h.slots n, own]

theorem Touches.fw {ps : List Part} {s t : State} (h : Touches ps s t) (n : .fwSlots ∉ ps ∧ .fwHeld ∉ ps) :
    t.fw = s.fw := by
  obtain ⟨ns, nh⟩ := n
  have slots := h .fwSlots ns
  have held := h .fwHeld nh
  simp only [Part.Same, Prod.mk.injEq] at slots held
  generalize t.fw = x at *
  cases x
  simp_all

theorem Touches.boot {ps : List Part} {s t : State} (h : Touches ps s t) (n : .boot ∉ ps) : t.boot = s.boot := h .boot n

theorem Touches.cmd {ps : List Part} {s t : State} (h : Touches ps s t) (n : .cmd ∉ ps) : t.cmd = s.cmd := h .cmd n

theorem Touches.herrEdges {ps : List Part} {s t : State} (h : Touches ps s t) (n : .herr ∉ ps) :
    t.host.herrEdges = s.host.herrEdges := by
  obtain ⟨-, -, -, -, -, edges⟩ := h.herr n
  exact edges

section Staging

variable {i : Word} {s : State}

theorem fw_reply (a b : Nat) (x y z : Word) : (reply i a b x y z s).fw = s.fw := reply_eff.touches.fw (by decide)
theorem fw_fwState (w : Nat) (b : Bool) (v : BitVec 24) (d : Nat) (us : Word) : (fwState w b v d us s).fw = s.fw :=
  fwState_eff.touches.fw (by decide)
theorem fw_retireRead (r : ReadRef) : (retireRead r s).fw = s.fw := retireRead_eff.touches.fw (by decide)

/-- The chunk under way ends with its command. -/
theorem fw_dropChunk : (dropChunk s).fw = { s.fw with chunk := none } := by
  unfold dropChunk
  split
  · exact fw_reply ..
  · next none => rw [← none]

theorem boot_dropChunk : (dropChunk s).boot = s.boot := dropChunk_eff.touches .boot (by decide)

theorem fw_stageFail (a d : Nat) :
    (stageFail i a d s).fw = { s.fw with staging := false, chunk := none, chunkRead := false } :=
  (fw_reply ..).trans (fw_fwState ..)

theorem slotValid_erased (b p v : Bool) (x : BitVec 24) (r : Nat) (u : State)
    (same : u.fw.aValid = (setPart b p (setSlot b v x r s)).fw.aValid ∧
      u.fw.bValid = (setPart b p (setSlot b v x r s)).fw.bValid) : slotValid u b = v := by
  cases b <;> simp_all [slotValid, setPart, setSlot]

theorem slotValid_setSlot_same (b v : Bool) (x : BitVec 24) (r : Nat) : slotValid (setSlot b v x r s) b = v := by
  cases b <;> rfl

/-- The fields of staging that a chunk's acceptance sets before its reads leave. -/
theorem fw_stageChunk (c : Packet) : ∃ u : State,
    (stageChunk c s).fw = { u.fw with
      chunk := some c.index, chunkRead := true, chunkLen := fLen c, chunkLast := tst c.dw[2] 0 } ∧
    (fOff c = 0 → u.fw.staging = true ∧ u.fw.staged = 0 ∧ slotValid u u.fw.stageB = false ∧
      (s.boot.recovery = false → u.fw.stageB = !s.fw.runB)) ∧
    (fOff c ≠ 0 → u = s) := by
  unfold stageChunk
  dsimp only
  refine ⟨_, chunkReads_eff.touches.fw (by decide), fun first => ?_, fun later => if_pos later⟩
  rw [if_neg (not_not.mpr first)]
  refine ⟨rfl, rfl, ?_, fun normal => ?_⟩
  · exact slotValid_erased _ _ _ _ _ _ ⟨rfl, rfl⟩
  · have stays : (dropChunk s).boot.recovery = false := (congrArg Boot.recovery boot_dropChunk).trans normal
    have runs : (dropChunk s).fw.runB = s.fw.runB := by rw [fw_dropChunk]
    simp only [emit_fw, stays, runs, Bool.false_eq_true, if_false]

theorem herrEdges_hostError (j : Nat) (k : ErrKind) (source addr : Nat) :
    (hostError j k source addr s).host.herrEdges = s.host.herrEdges + 1 :=
  (hostError_herr _ _ _ _ s).2.2.2.2.2.trans (recordHerr_herrEdges ..)

end Staging

/-! ### The pause and what follows it -/

section Pause

variable {i us : Word} {s : State}

theorem heldReset_of_not (h : s.boot.flrHeld = false) : heldReset s = s := by rw [heldReset, h]; rfl

/-- Steps 11 and 12 leave firmware and the command processor where no reset is held. -/
theorem finishBoot_of_not (h : s.boot.flrHeld = false) :
    (finishBoot s).fw = s.fw ∧ (finishBoot s).cmd = s.cmd ∧ (finishBoot s).boot.recovery = false := by
  unfold finishBoot
  extract_lets s0 ports pumps
  have first : Eff [.halves, .portReg, .cistern] s ports :=
    Eff.foldl (fun p t => bringPort_eff.weaken) (Eff.refl _ _) _
  have still : Eff [.halves, .portReg, .cistern] s pumps :=
    Eff.foldl (fun n t => Eff.ite modPump_eff.weaken (Eff.refl _ _)) first _
  rw [heldReset_of_not]
  · exact ⟨still.touches.fw (by decide), still.touches .cmd (by decide), rfl⟩
  · have stays := congrArg Boot.flrHeld (still.touches.boot (by decide))
    exact stays.trans h

/-- After an activation's end nothing of firmware changes but in a reset that was held. -/
theorem bootOn (h : s.boot.flrHeld = false) :
    let t := if s.boot.recovery then finishBoot s else heldReset s
    t.fw = s.fw ∧ t.cmd = s.cmd ∧ t.boot.recovery = false := by
  intro t
  by_cases r : s.boot.recovery = true
  · simp only [t, r, if_true]
    exact finishBoot_of_not h
  · simp only [t, r, heldReset_of_not h]
    exact ⟨rfl, rfl, by simpa using r⟩

theorem runSlot_fw (b : Bool) (v : BitVec 24 × Nat) :
    (runSlot b v s).fw.runB = b ∧ (runSlot b v s).fw.ver = v.1 ∧
    (runSlot b v s).fw.activating = s.fw.activating ∧ (runSlot b v s).fw.actCmd = s.fw.actCmd ∧
    (runSlot b v s).fw.updates = s.fw.updates ∧ (runSlot b v s).fw.fallbacks = s.fw.fallbacks ∧
    (runSlot b v s).fw.actRecord = s.fw.actRecord ∧ (runSlot b v s).fw.actCommit = s.fw.actCommit ∧
    slotRb (runSlot b v s) b = v.2 := by
  cases b <;> exact ⟨rfl, rfl, rfl, rfl, rfl, rfl, rfl, rfl, rfl⟩

/-- Reply, event and the end of the pause leave firmware's slots, the processor and the boot state. -/
theorem afterPause (a d w : Nat) (x y z : Word) (b : Bool) (v : BitVec 24) (k : Nat) :
    Eff [.l1, .msg, .fnMsg, .queues, .log, .fwHeld, .devWake, .tunnel, .gate, .heldEv, .out] s
      (releasePause (reply i a d x y z (fwState w b v k us s))) :=
  releasePause_eff.step (reply_eff.step fwState_eff.weaken)

end Pause

/-- Settles O54: each step's own change of firmware's state; its reply, event and reads leave that. -/
theorem firmwareActs : Obligations.FirmwareActs := by
  refine ⟨?stage, ?leftover, ?read, ?readError, ?programmed, ?activate, ?ready, ?timeout, ?record, ?query⟩
  case stage =>
    intro c s h
    obtain ⟨u, is, first, later⟩ := fw_stageChunk (s := taken c s) c
    refine ⟨_, exec_taken rfl h, Eq.trans (stageChunk_eff.touches .cmd (by decide)) (taken_cmd ..), ?_⟩
    simp only [effect, charged]
    rw [is]
    refine ⟨rfl, rfl, rfl, rfl, fun z => ?_, fun z => ?_⟩
    · have valid (t : State) (f : t.fw.aValid = u.fw.aValid ∧ t.fw.bValid = u.fw.bValid) (b : Bool) :
          slotValid t b = slotValid u b := by simp only [slotValid, f]
      obtain ⟨on, none, bad, slot⟩ := first z
      refine ⟨on, none, ?_, fun n => by simpa using slot (by simpa using n)⟩
      rw [valid _ (by rw [is]; exact ⟨rfl, rfl⟩)]
      exact bad
    · rw [later z, taken_fw]
      exact ⟨rfl, rfl⟩
  case leftover =>
    intro first o bs s found drop
    simp only [exec, execStageChunkReadReturn, found, stageReturn, drop, if_true]
  case read =>
    intro first o bs s found keep u h
    have is : exec (.stageChunkReadReturn first (.data bs)) s =
        .next (if u.host.reads.any (fun r => isStage r.ref && !r.discard) then { u with fw := { s.fw with header := h } }
          else emit (.flash 1 s.fw.chunkLen) { u with fw := { s.fw with header := h, chunkRead := false } }) := by
      simp only [exec, execStageChunkReadReturn, found, stageReturn, keep, Bool.false_eq_true, if_false, u, h, fw_retireRead]
    rw [is]
    exact ⟨fun last => by rw [last]; rfl, fun more => by rw [more]; rfl⟩
  case readError =>
    intro first o i k s found busy
    let f := takeFree (retireRead (.stage first) s)
    let u := hostError 0 k (f.1.toNat % 16) o.addr f.2
    have slots : u.fw.slots = s.fw.slots :=
      (hostError_eff.touches.slots (by decide)).trans (congrArg Firmware.slots (fw_retireRead _))
    have chunk : u.fw.chunk = some i := (congrArg Firmware.chunk slots).trans busy
    have edges : u.host.herrEdges = s.host.herrEdges + 1 := by
      rw [herrEdges_hostError]
      exact congrArg (· + 1) ((retireRead_eff (r := .stage first) (s := s)).touches.herrEdges (by decide))
    have is : exec (.stageChunkReadReturn first (.error k)) s = .next (if o.discard then u
        else stageFail i 9 0 (dropReads (fun r => isStage r.ref) u)) := by
      have branch : stageReturn o first (.error k) s = match u.fw.chunk with
          | some i => if o.discard then u else stageFail i 9 0 (dropReads (fun r => isStage r.ref) u)
          | none => u := rfl
      rw [chunk] at branch
      simp only [exec, execStageChunkReadReturn, found, branch]
    refine ⟨_, is, ?_, fun keep => ?_, fun drop => ?_⟩
    · split_ifs
      · exact edges
      · exact (Touches.herrEdges (stageFail_eff.step dropReads_eff.weaken (ps := [.l1, .reads, .msg, .fnMsg, .queues,
          .fwSlots, .devWake, .tunnel, .gate, .heldEv, .freeCount, .out])).touches (by decide)).trans edges
    · rw [keep, if_neg Bool.false_ne_true, fw_stageFail]
      exact ⟨rfl, rfl⟩
    · rw [drop, if_pos rfl]
      exact ⟨chunk, by simpa only [Firmware.slots] using congrArg Firmware.staging slots⟩
  case programmed =>
    intro i r s busy read fits n
    have is : exec (.flashChunkProgrammed r) s = .next (programmed i r s) := by
      simp only [exec, execFlashChunkProgrammed, busy]
      exact when_of (by simp [read, fits])
    have failed (a d : Nat) : (stageFail i a d s).fw.staging = false ∧
        (∀ b, slotValid (stageFail i a d s) b = slotValid s b) ∧ (stageFail i a d s).fw.chunk = none := by
      simp only [slotValid, fw_stageFail, implies_true, and_self]
    refine ⟨_, is, ?_, ?_, ?_, ?_, ?_⟩
    · cases r with
      | programmed => simp only [programmed, fw_reply]
      | failed => exact (failed ..).2.2
      | checked v =>
        simp only [programmed]
        split
        · exact (failed ..).2.2
        · simp only [stagePass, fw_reply, fw_fwState]
    · rintro rfl
      simp only [programmed, fw_reply, n, and_self]
    · rintro v rfl pass
      have pass : imageFault s.fw.header (some (s.fw.staged + s.fw.chunkLen)) v s.fw.otp = none := pass
      simp only [programmed, pass, stagePass, slotValid, slotVer, slotRb, fw_reply, fw_fwState]
      cases s.fw.stageB <;> simp [setSlot, setPart]
    · rintro rfl
      exact ⟨(failed ..).1, (failed ..).2.1⟩
    · rintro v rfl fault
      obtain ⟨d, is⟩ := Option.ne_none_iff_exists'.mp fault
      have is : imageFault s.fw.header (some (s.fw.staged + s.fw.chunkLen)) v s.fw.otp = some d := is
      simp only [programmed, is]
      exact ⟨(failed ..).1, (failed ..).2.1⟩
  case activate =>
    intro c recheck s h
    refine ⟨_, exec_taken rfl h, fun again => ?_, fun bad => ?_⟩
    · simp only [effect, activate', again, if_true, charged, taken_cmd, taken_fw, and_self]
    · simp only [effect, activate', bad, Bool.false_eq_true, if_false, charged]
  case ready =>
    intro i us s active
    refine ⟨activated i us s, by simp only [exec, execFwReadyReport, active], fun free => ?_⟩
    unfold activated
    extract_lets b v r f u w x
    obtain ⟨run, ver, on, cmd, ups, falls, recording, commit, rb⟩ := runSlot_fw (s := endPause s) b (v, slotRb s b)
    have late : Eff _ u x := afterPause ..
    have uBoot : u.boot = s.boot := by simp only [u]; split_ifs <;> rfl
    have uCmd : u.cmd = { s.cmd with paused := false } := by simp only [u]; split_ifs <;> rfl
    have uFw : u.fw = { r.fw with updates := r.fw.updates ++ (if r.fw.actRecord then
        [{ slotB := b, ver := v, rb := slotRb r b, commit := r.fw.actCommit }] else []) } := by
      simp only [u]
      split_ifs
      · rfl
      · rw [List.append_nil]
    have field {α : Type} (g : Firmware → α) (own : ∀ f, g f.slots = g f := by exact fun _ => rfl) : g x.fw = g u.fw :=
      late.touches.firmware (by decide) g own
    have stays := congrArg Boot.flrHeld ((late.touches.boot (by decide)).trans uBoot)
    obtain ⟨fw, proc, out⟩ := bootOn (s := x) (stays.trans free)
    rw [fw, proc]
    refine ⟨(late.touches.cmd (by decide)).trans uCmd, ?_, ?_, ?_, ?_, ?_, ?_, out⟩
    · rw [field (·.runB), uFw]; exact run
    · rw [field (·.ver), uFw]; exact ver
    · rw [field (·.activating), uFw]; exact on
    · rw [field (·.actCmd), uFw]; exact cmd
    · rw [field (·.updates), uFw]
      simp only [r, ups, recording, commit, rb]
      rfl
    · rw [field (·.fallbacks), uFw]; exact falls
  case timeout =>
    intro i us s active
    refine ⟨fellBack i us s, by simp only [exec, execFwReadyTimeout, active], fun free => ?_⟩
    unfold fellBack
    extract_lets b f u w x
    have late : Eff _ u x := afterPause ..
    have field {α : Type} (g : Firmware → α) (own : ∀ f, g f.slots = g f := by exact fun _ => rfl) : g x.fw = g u.fw :=
      late.touches.firmware (by decide) g own
    have stays := congrArg Boot.flrHeld (late.touches.boot (by decide))
    rw [heldReset_of_not (stays.trans free), ite_self]
    exact ⟨late.touches.cmd (by decide), field (·.runB), field (·.ver), field (·.activating), field (·.actCmd),
      field (·.updates), field (·.fallbacks)⟩
  case record =>
    intro u us s due
    refine ⟨recordWritten u s, by simp only [exec, execBootRecordWritten, due], ?_⟩
    unfold recordWritten
    extract_lets up f t
    have told : Eff [.l1, .msg, .fnMsg, .queues, .tunnel, .gate, .heldEv, .out] t
        (if up then fwState 6 u.slotB u.ver 0 0 (emit (.flash 3 u.rb) t) else t) :=
      Eff.ite (fwState_eff.step emit_eff.weaken) (Eff.refl _ _)
    have level : t.fw.otp = if u.commit then max s.fw.otp u.rb else s.fw.otp := by
      show (if up then u.rb else s.fw.otp) = _
      simp only [up, Bool.and_eq_true, decide_eq_true_eq]
      grind
    refine ⟨told.keeps.out, ?_⟩
    rw [told.touches.fw (by decide), level]
    exact ⟨congrArg List.tail due, rfl, rfl, rfl⟩
  case query =>
    intro c s h
    rw [exec_taken rfl h]
    simp only [effect, charged, queryFw, fwVer, fwStat, slotValid, slotVer, otherB, taken_fw, taken_boot]
    rfl

end Sys2Proof.Machine
end

section
/-! Units of the ports (file 12): their addresses and owners. -/

namespace Sys2Proof.Machine

open Sys2Proof

section Units

variable {p h : Nat} {s t : State}

theorem Touches.unitAt {ps : List Part} (k : Touches ps s t) (n : .units ∉ ps) (p a : Nat) : unitAt t p a = unitAt s p a := by
  unfold Machine.unitAt
  rw [(k.units n p).1]

theorem Touches.reserved {ps : List Part} (k : Touches ps s t) (n : .units ∉ ps) (p : Nat) :
    (port t p).reserved = (port s p).reserved := (k.units n p).2

/-- What a change of the topology records of a port says of the units at an address. -/
theorem unitAt_modPort (g : PortReg → PortReg) (a : Nat) : unitAt (modPort p g s) p a = find (g (port s p)).units a := by
  unfold unitAt
  rw [port_modPort_same]

theorem engine_modPort (g : PortReg → PortReg) (same : (g (port s p)).e0 = (port s p).e0 ∧ (g (port s p)).e1 = (port s p).e1) :
    engine (modPort p g s) p h = engine s p h := by
  unfold engine
  rw [port_modPort_same, same.1, same.2]

theorem units_modEngine (g : Engine → Engine) :
    (port (modEngine p h g s) p).units = (port s p).units ∧ (port (modEngine p h g s) p).reserved = (port s p).reserved := by
  unfold modEngine
  rw [port_modPort_same]
  split_ifs <;> exact ⟨rfl, rfl⟩

/-- A change of the records that keeps their keys. -/
theorem find_map_values {α : Type} (m : Sparse α) (g : Nat → α → α) (a : Nat) :
    find (m.map (fun kv => (kv.1, g kv.1 kv.2))) a = (find m a).map (g a) := by
  induction m with
  | nil => rfl
  | cons kv m ih =>
    obtain ⟨k, x⟩ := kv
    simp only [List.map_cons, find, ih]
    split_ifs with own
    · rw [own]; rfl
    · rfl

theorem unitAt_taken (c : Packet) (a : Nat) : unitAt (taken c s) p a = unitAt s p a := taken_eff.touches.unitAt (by decide) p a
theorem engine_taken (c : Packet) : engine (taken c s) p h = engine s p h := taken_eff.touches.engine (by decide) p h

theorem unitAt_ok (c : Packet) (x y z : Word) (a : Nat) : unitAt (ok c x y z s) p a = unitAt s p a :=
  ok_eff.touches.unitAt (by decide) p a

theorem ent_ungate (q : Nat) (i : Word) : ent (ungate s) q i = ent s q i := rfl

theorem unitAt_freeUnit (a b : Nat) : unitAt (freeUnit p a s) p b = if b = a then none else unitAt s p b := by
  unfold freeUnit
  split
  · next u there =>
    extract_lets t
    have erased : unitAt t p b = if b = a then none else unitAt s p b := by
      rw [unitAt_modPort]
      split_ifs with own
      · rw [own]; exact find_erase_same ..
      · exact find_erase_other _ own
    rw [← erased]
    split_ifs
    · exact leaveMode1_eff.touches.unitAt (by decide) p b
    · rfl
  · next none =>
    split_ifs with own
    · rw [own]; exact none
    · rfl

/-- The address that UNIT_ADDRESS takes is free, and is the lowest free one where none is named. -/
theorem takenAddr_free {c : Packet} {a : Nat} (h : takenAddr s c = some a) : addrTaken s (uPort c) a = false ∧
    (uAddr c ≠ 0 → a = uAddr c) ∧ (uAddr c = 0 → ∀ b, 0 < b → b < a → addrTaken s (uPort c) b = true) := by
  unfold takenAddr at h
  split_ifs at h with named used
  · simp only [Option.some.injEq] at h
    subst h
    exact ⟨by simpa using used, fun _ => rfl, fun z => absurd z named⟩
  · obtain ⟨free, i, short, is, before⟩ := List.find?_eq_some_iff_getElem.mp h
    simp only [List.length_map, List.length_range] at short
    simp only [List.getElem_map, List.getElem_range] at is before
    refine ⟨by simpa using free, fun n => absurd n named, fun _ b low high => ?_⟩
    have taken := before (b - 1) (by omega)
    rw [Nat.sub_add_cancel low] at taken
    simpa using taken

end Units

/-- Settles O49: the engine, the reserved addresses and the records of a port after each command and each end of a
SET_ADDRESS; replies change none of them. -/
theorem unitCommandsAct : Obligations.UnitCommandsAct := by
  refine ⟨?address, ?ended, ?failed, ?release, ?assign⟩
  case address =>
    intro c a s h takes
    have takes' : takenAddr (taken c s) c = some a := by
      rw [← takes]
      unfold takenAddr addrTaken
      simp only [unitAt_taken, port_taken]
    have is : effect (.unitAddress c) (taken c s) = modEngine (uPort c) (uHalf c)
        (fun e => { e with setAddr := some (c.index, a), setSent := false })
        (modPort (uPort c) (fun x => { x with reserved := x.reserved ++ [a] }) (taken c s)) := by
      simp only [effect, startAddress, takes']
    refine ⟨_, (exec_taken rfl h).trans (congrArg _ is), taken_cmd .., ?_, ?_, ?_, ?_, takenAddr_free takes⟩
    · rw [engine_modEngine_same]
    · rw [engine_modEngine_same]
    · rw [(units_modEngine _).2, port_modPort_same, port_taken]
    · rw [(units_modEngine _).1, port_modPort_same, port_taken]
  case ended =>
    intro p h i a e s runs sent on there
    let u := modPort p (fun x => { x with reserved := x.reserved.filter (· ≠ a) })
      (modEngine p h (fun e => { e with setAddr := none, setSent := false }) (ungate s))
    have found : ent u 0 i = some e := there
    have is : exec (.setAddressRecoveryEnd p h .ok) s = .next (reply i 0 0 (wd a) 0 0
        (modPort p (fun x => { x with units := insert x.units a (newUnit h e.dw) }) u)) := by
      simp only [exec, execSetAddressRecoveryEnd, runs, addressEnd]
      rw [when_of (by rw [sent, on]; rfl)]
      rw [show ent _ 0 i = some e from found]
    refine ⟨_, is, ?_, ?_, ?_, fun b other => ?_⟩
    · rw [reply_eff.touches.unitAt (by decide), unitAt_modPort]
      exact find_insert_same ..
    · rw [reply_eff.touches.engine (by decide), engine_modPort _ ⟨rfl, rfl⟩, engine_modPort _ ⟨rfl, rfl⟩,
        engine_modEngine_same]
    · rw [reply_eff.touches.reserved (by decide), port_modPort_same, port_modPort_same]
      simp
    · rw [reply_eff.touches.unitAt (by decide), unitAt_modPort]
      refine (find_insert_other _ _ other).trans ?_
      rw [port_modPort_same]
      exact congrArg (find · b) (units_modEngine _).1
  case failed =>
    intro p h i a r s runs bad fits
    let u := modPort p (fun x => { x with reserved := x.reserved.filter (· ≠ a) })
      (modEngine p h (fun e => { e with setAddr := none, setSent := false }) (ungate s))
    have ends : addressEnd p h i a r (ungate s) = reply i (setAddrStatus r) 0 0 0 0 u := by
      cases r with
      | ok => exact absurd rfl bad
      | stall _ => rfl
      | error _ => rfl
      | unitGone => rfl
    have is : exec (.setAddressRecoveryEnd p h r) s = .next (addressEnd p h i a r (ungate s)) := by
      simp only [exec, execSetAddressRecoveryEnd, runs]
      cases r <;> simp_all [when]
    refine ⟨_, is.trans (congrArg _ ends), ?_, ?_, ?_⟩
    · rw [reply_eff.touches.engine (by decide), engine_modPort _ ⟨rfl, rfl⟩, engine_modEngine_same]
    · rw [reply_eff.touches.reserved (by decide), port_modPort_same]
      simp
    · rw [(reply_eff.touches.units (by decide) _).1, port_modPort_same]
      exact (units_modEngine _).1
  case release =>
    intro c s h
    refine ⟨_, exec_taken rfl h, ?_, ?_, fun b other => ?_⟩
    · exact (cmd_ok ..).trans ((freeUnit_eff.touches.cmd (by decide)).trans (taken_cmd ..))
    · rw [effect, unitAt_ok, unitAt_freeUnit, if_pos rfl]
    · rw [effect, unitAt_ok, unitAt_freeUnit, if_neg other]
      exact unitAt_taken ..
  case assign =>
    intro c u s h there
    have is (b : Nat) : unitAt (assignUnit c (taken c s)) (uPort c) b =
        (unitAt s (uPort c) b).map (fun u => if b = uAddr c then { u with inst := uOwner c } else u) := by
      rw [assignUnit, unitAt_modPort, port_taken]
      have keyed : (fun kv : Nat × Machine.Unit => if kv.1 = uAddr c then (kv.1, { kv.2 with inst := uOwner c }) else kv) =
          fun kv => (kv.1, if kv.1 = uAddr c then { kv.2 with inst := uOwner c } else kv.2) := by
        funext kv
        split_ifs <;> rfl
      simp only [keyed]
      exact find_map_values _ (fun k (u : Machine.Unit) => if k = uAddr c then { u with inst := uOwner c } else u) b
    refine ⟨_, exec_taken rfl h, ?_, ?_, fun b other => ?_⟩
    · exact (cmd_ok ..).trans ((assignUnit_eff.touches.cmd (by decide)).trans (taken_cmd ..))
    · exact (unitAt_ok ..).trans ((is _).trans (by rw [there, Option.map_some, if_pos rfl]))
    · refine (unitAt_ok ..).trans ((is b).trans ?_)
      simp only [if_neg other, Option.map_id']

end Sys2Proof.Machine
end

section
/-! Pump control (file 9): why a channel whose pause is cleared does not always run. -/

namespace Sys2Proof.Machine

open Sys2Proof

/-- Channel 9 is PAUSED with an IN job bound that has nothing to move now. -/
def pausedState : State :=
  { host := { linkUp := true }
    funcs := [(0, { memEnable := true })]
    boot := { up := true }
    cis := { pumps := [(9, { st := .paused, pause := true, job := some 7 })]
             xfers := [(7, { type := .inp, inst := 0, q := 5, pipe := none, idx := 0, urg := false, chan := some 9 })] } }

/-- Refutes O46: with PAUSE cleared the job has no movable work and leaves its channel (R246), which is IDLE. -/
theorem not_pumpControl : ¬ Obligations.PumpControl := by
  intro h
  obtain ⟨inService, -⟩ := h 9 0 pausedState (by decide)
  obtain ⟨-, cleared, -⟩ := inService (by decide) (by decide)
  obtain ⟨t, is, -, -, -, runs⟩ := cleared (by decide) (by decide)
  have tIs : t = pmpAccess 9 0 pausedState := by
    have done : exec (.pumpPauseClear 9 0) pausedState = .next (pmpAccess 9 0 pausedState) := when_of (by decide)
    exact (Host.Outcome.next.inj (done.symm.trans is)).symm
  have st := runs (by decide) (by decide)
  rw [tIs] at st
  exact absurd st (by decide +kernel)

end Sys2Proof.Machine
end

section
/-! Pump reads and writes (file 9). -/

namespace Sys2Proof.Machine

open Sys2Proof

/-! ### The bytes that a channel has counted -/

/-- No channel's register has changed. -/
def SamePumps (s t : State) : Prop := t.cis.pumps = s.cis.pumps

/-- No channel has counted bytes. -/
def SameMoved (s t : State) : Prop := ∀ c, (pump t c).moved = (pump s c).moved

section Moved

variable {s t u : State} {k n : Nat}

/-- A further change that leaves the channels. -/
theorem SamePumps.step (k : SamePumps t u) (h : SamePumps s t) : SamePumps s u := Eq.trans k h

theorem SamePumps.moved (h : SamePumps s t) : SameMoved s t := fun c => by
  unfold pump
  rw [show t.cis.pumps = s.cis.pumps from h]

theorem SameMoved.refl (s : State) : SameMoved s s := fun _ => rfl

/-- A further change that counts no bytes. -/
theorem SameMoved.step (k : SameMoved t u) (h : SameMoved s t) : SameMoved s u := fun c => (k c).trans (h c)

theorem Eff.samePumps {ps : List Part} (h : Eff ps s t) (n : .cistern ∉ ps) : SamePumps s t :=
  congrArg Cistern.pumps (h.touches .cistern n)

theorem modPump_sameMoved {g : PumpReg → PumpReg} (keep : ∀ p, (g p).moved = p.moved := by exact fun _ => rfl) : SameMoved s (modPump n g s) :=
  fun c => by
    rw [pump_modPump]
    split_ifs with own
    · rw [keep, own]
    · rfl

theorem modXfer_samePumps {g : Xfer → Xfer} : SamePumps s (modXfer k g s) := by
  unfold modXfer
  split <;> rfl

theorem feedTunnel_samePumps {f : Nat} : SamePumps s (feedTunnel f k s) := by
  induction f generalizing s with
  | zero => rfl
  | succ f ih =>
    unfold feedTunnel
    dsimp only
    split
    · split_ifs
      · rfl
      · split
        · split_ifs
          · rfl
          · exact ih.step rfl
        · rfl
    · rfl

theorem giveShared_samePumps : SamePumps s (giveShared k n s) := by
  unfold giveShared
  split <;> rfl

theorem dropPages_samePumps {kept : Page → Bool} : SamePumps s (dropPages k kept s) := by
  unfold dropPages
  split
  · extract_lets keep gone a st busy b
    have bIs : SamePumps s b := by
      simp only [b]
      split_ifs
      · rfl
      · exact giveShared_samePumps.step rfl
    split_ifs
    · rfl
    · split
      · exact (unblock_eff.samePumps (by decide)).step bIs
      · exact bIs
  · rfl

theorem tunnelOffer_samePumps : SamePumps s (tunnelOffer k s) := by
  unfold tunnelOffer
  dsimp only
  split
  · split_ifs
    · rfl
    · split
      · split_ifs
        · rfl
        · exact dropPages_samePumps.step rfl
        · exact (tunErdy_eff.samePumps (by decide))
      · rfl
  · rfl

theorem queueJob_samePumps : SamePumps s (queueJob k s) := by
  unfold queueJob
  split
  · split_ifs
    · have fed : SamePumps s (tunnelOffer k (feedTunnel 512 k s)) := tunnelOffer_samePumps.step feedTunnel_samePumps
      dsimp only
      split
      · exact (unblock_eff.samePumps (by decide)).step fed
      · exact fed
    · rfl
    · rfl
    · rfl
  · rfl

theorem pumpOff_sameMoved : SameMoved s (pumpOff n s) := by
  unfold pumpOff
  split
  · split_ifs
    · refine ((reply_eff.samePumps (by decide)).step (capChange_eff.samePumps (by decide))).moved.step ?_
      exact modPump_sameMoved
    · exact SameMoved.refl s
  · exact SameMoved.refl s

theorem unbind_sameMoved : SameMoved s (unbind k s) := by
  unfold unbind
  split
  · split
    · refine pumpOff_sameMoved.step ?_
      exact SameMoved.step modPump_sameMoved (SamePumps.moved rfl)
    · exact SameMoved.refl s
  · exact SameMoved.refl s

theorem nextJob_sameMoved {f : Nat} : SameMoved s (nextJob f k s) := by
  induction f generalizing s with
  | zero => exact SameMoved.refl s
  | succ f ih =>
    unfold nextJob
    dsimp only
    have freed : SameMoved s (dequeueJob k (unbind k s)) := SameMoved.step (SamePumps.moved rfl) unbind_sameMoved
    split
    · split_ifs
      · split
        · split_ifs
          · exact ih.step (modXfer_samePumps.moved.step freed)
          · exact freed
        · exact freed
      · exact SameMoved.refl s
    · exact SameMoved.refl s

theorem settleJob_sameMoved : SameMoved s (settleJob k s) := by
  unfold settleJob
  extract_lets a
  have aIs : SameMoved s a := nextJob_sameMoved
  split
  · split
    · split_ifs
      · exact unbind_sameMoved.step aIs
      · exact aIs
    · exact queueJob_samePumps.moved.step aIs
  · exact aIs

theorem removeDone_sameMoved : SameMoved s (removeDone n s) := by
  unfold removeDone
  dsimp only
  split_ifs
  · exact SameMoved.refl s
  · split
    · next k _ =>
      have left : SameMoved s (modPump n (fun p => { p with job := none, staged := 0 })
          (modXfer k (fun x => { x with chan := none, moved := 0 }) s)) :=
        SameMoved.step modPump_sameMoved modXfer_samePumps.moved
      refine pumpOff_sameMoved.step ?_
      split
      · split_ifs
        · exact left
        · exact SameMoved.step (SamePumps.moved rfl) left
        · exact SameMoved.step (SamePumps.moved rfl) left
      · exact left
    · exact pumpOff_sameMoved

theorem pauseCheck_sameMoved : SameMoved s (pauseCheck n s) := by
  unfold pauseCheck
  dsimp only
  have paused : SameMoved s (removeDone n (modPump n (fun p => { p with st := .paused }) s)) :=
    removeDone_sameMoved.step modPump_sameMoved
  split_ifs
  · exact SameMoved.refl s
  · split
    · split_ifs
      · exact paused
      · exact SameMoved.refl s
    · exact paused

end Moved

/-! ### A read that leaves -/

section Reads

variable {s : State} {r : ReadRef} {i a l : Nat}

/-- With a tag free a read leaves at once (R38). -/
theorem issueRead_free (free : tagFree s = true) : (issueRead r i a l s).out = s.out ++ [.read i a l] ∧
    (issueRead r i a l s).host.reads = s.host.reads ++ [{ ref := r, fn := i, addr := a, len := l }] := by
  unfold issueRead
  rw [free]
  exact ⟨rfl, rfl⟩

theorem readSeq_askPages (m k : Nat) : (askPages m k s).cis.readSeq = s.cis.readSeq := by
  unfold askPages
  split <;> rfl

/-- A read whose entry is marked first, and whose pages are asked for after it. -/
theorem startedRead_free {m k q : Nat} {j : Word} (free : tagFree s = true) :
    let t := askPages m k (issueRead r i a l (markStarted q j s))
    t.out = s.out ++ [.read i a l] ∧ t.cis.readSeq = s.cis.readSeq ∧
    t.host.reads = s.host.reads ++ [{ ref := r, fn := i, addr := a, len := l }] := by
  have host : (markStarted q j s).host = s.host := modQueue_host ..
  have out : (markStarted q j s).out = s.out := modQueue_out ..
  have cis : (markStarted q j s).cis = s.cis := modQueue_cis ..
  have still : tagFree (markStarted q j s) = true := by
    rw [← free]
    unfold tagFree freeTags
    rw [host]
  obtain ⟨sent, reads⟩ := issueRead_free (r := r) (i := i) (a := a) (l := l) still
  refine ⟨?_, ?_, ?_⟩
  · rw [askPages_eff.touches .out (by decide), sent, out]
  · rw [readSeq_askPages, issueRead_eff.touches .cistern (by decide), cis]
  · rw [askPages_eff.touches .reads (by decide), reads, host]

/-- A pump read takes the next number, and leaves where a tag is free. -/
theorem doRead_free {k : Nat} {x : Xfer} {w : Want} (free : tagFree s = true) :
    (doRead k x w s).out = s.out ++ [.read x.inst w.addr w.len] ∧
    (doRead k x w s).cis.readSeq = s.cis.readSeq + 1 ∧
    (doRead k x w s).host.reads =
      s.host.reads ++ [{ ref := .pump k s.cis.readSeq, fn := x.inst, addr := w.addr, len := w.len }] :=
  startedRead_free free

theorem tagFree_of_pumpTag (h : pumpTag s = true) : tagFree s = true := by
  simp only [pumpTag, Bool.or_eq_true, decide_eq_true_eq, Bool.and_eq_true] at h
  rcases h with two | ⟨one, -⟩
  · exact decide_eq_true (by omega)
  · exact one

end Reads

/-! ### What a read brings -/

section Returns

variable {s : State} {k num : Nat} {o : OutRead}

theorem exec_pumpReadCompletion {a : ReadAnswer} (found : outRead s (.pump k num) = some o)
    (fits : ∀ bs, a = .data bs → bs.length = o.len) :
    exec (.pumpReadCompletion k num a) s = .next (pumpReturn k num o a s) := by
  simp only [exec, execPumpReadCompletion, found]
  cases a with
  | data bs => exact when_of (by simpa using fits bs rfl)
  | error e => exact when_of rfl

/-- A read's end gives back the shared pages that it had kept. -/
def pumpRetired (k num : Nat) (o : OutRead) (s : State) : State :=
  { retireRead (.pump k num) s with cis := { s.cis with sharedFree := s.cis.sharedFree + o.pages } }

theorem cis_retireRead (r : ReadRef) (s : State) : (retireRead r s).cis = s.cis := retireRead_eff.touches .cistern (by decide)

theorem pumpReturn_silent {a : ReadAnswer} (silent : o.silent = true) : pumpReturn k num o a s = pumpRetired k num o s := by
  unfold pumpReturn
  dsimp only
  rw [cis_retireRead, silent]
  rfl

/-- The error of a pump read is recorded; what follows it leaves HI_HERR. -/
theorem pumpReturn_error {e : ErrKind} (loud : o.silent = false) :
    Eff [.l1, .msg, .fnMsg, .queues, .sched, .cistern, .log, .fwHeld, .devWake, .tunnel, .gate, .heldEv, .out]
      (hostError o.fn e 0 o.addr (pumpRetired k num o s)) (pumpReturn k num o (.error e) s) := by
  unfold pumpReturn
  dsimp only
  rw [cis_retireRead, loud, if_neg Bool.false_ne_true]
  split_ifs
  · exact Eff.refl _ _
  · split
    · exact Eff.refl _ _
    · split
      · exact Eff.refl _ _
      · exact readFail_eff.step setXfer_eff.weaken

/-- The bytes of an OUT job count for its channel when they arrive. -/
theorem moved_land {x : Xfer} {r : JobRead} {bs : List Byte} {c : Nat} (whole : r.run = none) (bound : x.chan = some c) :
    (pump (land k x r bs s) c).moved = (pump s c).moved + (if x.type = .out then wd bs.length else 0) := by
  unfold land countLoaded countMoved
  rw [whole]
  dsimp only
  rw [xfer_setXfer_same, bound]
  split_ifs
  · rw [pump_modPump_same]
    rfl
  · exact (add_zero _).symm

/-- What a pump read brings is landed; what follows counts no bytes. -/
theorem moved_pumpReturn_data {x : Xfer} {r : JobRead} {bs : List Byte} {c : Nat} (loud : o.silent = false)
    (keep : o.discard = false) (job : xfer s k = some x) (mine : x.reads.find? (fun r => r.num = num) = some r)
    (whole : r.run = none) (bound : x.chan = some c) :
    (pump (pumpReturn k num o (.data bs) s) c).moved =
      (pump s c).moved + (if x.type = .out then wd bs.length else 0) := by
  unfold pumpReturn
  dsimp only
  rw [cis_retireRead, loud, if_neg Bool.false_ne_true, keep, if_neg Bool.false_ne_true]
  split
  · next none => exact absurd (none.symm.trans job) (by simp)
  · next y there =>
    obtain rfl : y = x := Option.some.inj (there.symm.trans job)
    rw [mine]
    dsimp only
    rw [bound]
    refine ((pauseCheck_sameMoved.step settleJob_sameMoved) c).trans ?_
    split
    · rw [unblock_eff.touches.pump (by decide)]
      exact moved_land whole rfl
    · exact moved_land whole rfl

end Returns

/-! ### Beats -/

section Beats

variable {s : State} {n k : Nat} {x : Xfer} {w : Write}

theorem exec_pumpWriteIssue (mem : PageAnswer) (grant : beatChan s = some n) :
    exec (.pumpWriteIssue mem) s = .next (pumpWrite n mem s) := by
  simp only [exec, execPumpWriteIssue, grant]

theorem Touches.ueFlag {ps : List Part} {s t : State} (h : Touches ps s t) (n : .sumpFlags ∉ ps) :
    t.sump.memUe = s.sump.memUe ∧ t.sump.ueE = s.sump.ueE := by
  have same := h .sumpFlags n
  simp only [Part.Same, Prod.mk.injEq] at same
  tauto

theorem Touches.badWords {ps : List Part} {s t : State} (h : Touches ps s t) (n : .memErr ∉ ps) :
    t.sump.cisCe = s.sump.cisCe ∧ t.sump.cisUe = s.sump.cisUe ∧ t.sump.chipUe = s.sump.chipUe ∧
    t.sump.cisRet = s.sump.cisRet := by
  have same := h .memErr n
  simp only [Part.Same, Prod.mk.injEq] at same
  tauto

/-- A page's failure is counted once. -/
theorem pageUe_counts (staging again : Bool) : let t := pageUe k x staging again s
    t.sump.memUe = true ∧ t.sump.ueE = s.sump.ueE + 1 ∧
    t.sump.cisUe = (if staging then s.sump.cisUe else s.sump.cisUe + 1) ∧
    t.sump.chipUe = (if staging then s.sump.chipUe + 1 else s.sump.chipUe) ∧
    t.sump.cisRet = (if !staging && again then s.sump.cisRet + 1 else s.sump.cisRet) := by
  unfold pageUe
  dsimp only
  have still {u : State} {a b c d e : Nat} : (memErrEvent a b c d e u).sump.memUe = u.sump.memUe ∧
      (memErrEvent a b c d e u).sump.ueE = u.sump.ueE ∧ (memErrEvent a b c d e u).sump.cisUe = u.sump.cisUe ∧
      (memErrEvent a b c d e u).sump.chipUe = u.sump.chipUe ∧ (memErrEvent a b c d e u).sump.cisRet = u.sump.cisRet := by
    have kept := (memErrEvent_eff (where' := a) (kind := b) (a := c) (b := d) (i := e) (s := u)).touches
    obtain ⟨flag, edges⟩ := kept.ueFlag (by decide)
    obtain ⟨-, cis, chip, ret⟩ := kept.badWords (by decide)
    exact ⟨flag, edges, cis, chip, ret⟩
  obtain ⟨flag, edges, cis, chip, ret⟩ := still
  rw [flag, edges, cis, chip, ret]
  cases staging <;> cases again <;> exact ⟨rfl, rfl, rfl, rfl, rfl⟩

/-- Taking turns marks the channels that a high-class beat pre-empts, and no more. -/
theorem pump_preempt (m : Nat) : ∃ b, pump (preempt s) m = { pump s m with preempted := b } := by
  unfold preempt
  dsimp only
  generalize ((List.range 56).map (· + 8)).filter (fun n => (beatReady s n).isSome && !(pump s n).preempted) = l
  show ∃ b, pump (l.foldl (fun s n => modPump n (fun p => { p with preempted := true }) s) s) m = _
  induction l generalizing s with
  | nil => exact ⟨(pump s m).preempted, rfl⟩
  | cons i l ih =>
    obtain ⟨b, is⟩ := ih (s := modPump i (fun p => { p with preempted := true }) s)
    refine ⟨b, is.trans ?_⟩
    rw [pump_modPump]
    split_ifs with own
    · rw [own]
    · rfl

/-- The outbound path's turn moves on, and a high-class beat pre-empts. -/
def beatTurn (n : Nat) (s : State) : State :=
  if n < 8 then preempt { s with cis := { s.cis with rrHigh := (n + 1) % 8 } }
  else { s with cis := { s.cis with rrNorm := (n - 8 + 1) % 56 } }

theorem beatTurn_out : (beatTurn n s).out = s.out := by
  unfold beatTurn
  split_ifs
  · exact preempt_eff.touches .out (by decide)
  · rfl

theorem pump_beatTurn : ∃ b, pump (beatTurn n s) n = { pump s n with preempted := b } := by
  unfold beatTurn
  split_ifs
  · exact pump_preempt n
  · exact ⟨(pump s n).preempted, rfl⟩

/-- The pages and the block that a job's write has taken. -/
def beatXfer (x : Xfer) (w : Write) : Xfer :=
  { x with
    pages := x.pages.map (fun p =>
      if p.st = .full && p.off < x.wrPos + max w.span 1 then { p with st := .draining } else p)
    wrN := if w.blkDone = 0 && w.blkN = 0 then x.wrN else w.blkN }

/-- A beat of a channel is staged. -/
def beatStaged (n k : Nat) (x : Xfer) (w : Write) (s : State) : State :=
  setXfer k (beatXfer x w)
    (modPump n (fun p => { p with staged := (pump s n).staged + beat w (pump s n).staged, preempted := false })
      (beatTurn n s))

theorem beatStaged_out : (beatStaged n k x w s).out = s.out := beatTurn_out

theorem pump_beatStaged : (pump (beatStaged n k x w s) n).staged = (pump s n).staged + beat w (pump s n).staged ∧
    (pump (beatStaged n k x w s) n).st = (pump s n).st := by
  obtain ⟨b, turned⟩ := pump_beatTurn (n := n) (s := s)
  unfold beatStaged
  rw [show ∀ u y, pump (setXfer k y u) n = pump u n from fun _ _ => rfl, pump_modPump_same, turned]
  exact ⟨rfl, rfl⟩

/-- The beat that makes a write whole hands it over. -/
theorem pumpBeat_of_ready (ready : beatReady s n = some (k, x, w)) :
    pumpBeat n s = (if (pump s n).staged + beat w (pump s n).staged = w.len
      then writeOut n k (beatXfer x w) w (beatStaged n k x w s) else beatStaged n k x w s) := by
  obtain ⟨b, turned⟩ := pump_beatTurn (n := n) (s := s)
  have staged : (pump (beatTurn n s) n).staged = (pump s n).staged := by rw [turned]
  unfold beatStaged
  rw [← staged]
  unfold pumpBeat
  rw [ready]
  rfl

/-- A write that is handed over leaves first; nothing of what follows takes output back. -/
theorem out_writeOut : s.out ++ [.write x.inst w.addr (w.bytes.take w.len)] <+: (writeOut n k x w s).out := by
  unfold writeOut
  dsimp only
  generalize left : tlp (.write x.inst w.addr (w.bytes.take w.len)) s = t
  have sent : t.out = s.out ++ [.write x.inst w.addr (w.bytes.take w.len)] := left ▸ rfl
  rw [← sent]
  refine List.IsPrefix.trans ?_ pauseCheck_eff.keeps.out
  refine List.IsPrefix.trans ?_ progress_eff.keeps.out
  refine List.IsPrefix.trans ?_ turnPages_eff.keeps.out
  refine List.IsPrefix.trans ?_ markStarted_eff.keeps.out
  exact List.IsPrefix.trans (modPump_eff.keeps.out.trans setXfer_eff.keeps.out) countMoved_eff.keeps.out

/-- After a bad word of a page is counted, what stops the job counts no word. -/
theorem badWord_counts (staging again : Bool) : let t := badWord n k x staging again s
    t.sump.memUe = true ∧ t.sump.ueE = s.sump.ueE + 1 ∧
    t.sump.cisUe = (if staging then s.sump.cisUe else s.sump.cisUe + 1) ∧
    t.sump.chipUe = (if staging then s.sump.chipUe + 1 else s.sump.chipUe) ∧
    t.sump.cisRet = (if !staging && again then s.sump.cisRet + 1 else s.sump.cisRet) := by
  have stopped : Eff [.l1, .reads, .msg, .fnMsg, .queues, .sched, .halves, .engines, .bursts, .portReg, .cistern,
      .capFlag, .devWake, .tunnel, .gate, .heldEv, .out] (pageUe k x staging again s) (badWord n k x staging again s) := by
    unfold badWord
    dsimp only
    have freed : Eff [.cistern] (pageUe k x staging again s) (setXfer k { x with pages := [], ending := none }
        (modPump n (fun p => { p with staged := 0 }) (pageUe k x staging again s))) := setXfer_eff.step modPump_eff
    split
    · split_ifs
      · exact haltPipe_eff.step (settleBurst_eff.step freed.weaken)
      · exact haltBehind_eff.step (endXfer_eff.step freed.weaken)
    · exact endXfer_eff.step freed.weaken
  have counted := pageUe_counts (k := k) (x := x) (s := s) staging again
  obtain ⟨flag, edges⟩ := stopped.touches.ueFlag (by decide)
  obtain ⟨-, cis, chip, ret⟩ := stopped.touches.badWords (by decide)
  dsimp only
  rw [flag, edges, cis, chip, ret]
  exact counted

theorem countCe_cistern : (countCe 0 1 s).sump.cisCe = s.sump.cisCe + 1 := by
  unfold countCe
  dsimp only
  unfold countCe
  split_ifs
  · have still (u : State) : (memErrEvent (ceWhere 0) 0 0 0 0 u).sump.cisCe = u.sump.cisCe :=
      (memErrEvent_eff.touches.badWords (by decide)).1
    rw [still]
    rfl
  · rfl

theorem out_pumpBeat_whole (ready : beatReady s n = some (k, x, w))
    (whole : (pump s n).staged + beat w (pump s n).staged = w.len) :
    s.out ++ [.write x.inst w.addr (w.bytes.take w.len)] <+: (pumpBeat n s).out := by
  have sent : (beatStaged n k x w s).out ++ [.write x.inst w.addr (w.bytes.take w.len)] <+:
      (writeOut n k (beatXfer x w) w (beatStaged n k x w s)).out := out_writeOut (x := beatXfer x w)
  rw [beatStaged_out] at sent
  rw [pumpBeat_of_ready ready, if_pos whole]
  exact sent

end Beats

/-- Settles O45: a read's leaving and its return, a beat's staging and a write's leaving, and the counts of bad words. -/
theorem pumpsMoveData : Obligations.PumpsMoveData := by
  refine ⟨?issue, ?silent, ?error, ?data, ?beat, ?last, ?bad⟩
  case issue =>
    intro n k x w s turn job tag
    have is : exec .pumpReadIssue s = .next (pumpRead n s) := by
      simp only [exec, execPumpReadIssue, turn]
      exact when_of tag
    refine ⟨_, is, ?_⟩
    have free := tagFree_of_pumpTag tag
    unfold pumpRead
    rw [job]
    dsimp only
    split_ifs
    · exact doRead_free free
    · exact doRead_free (s := { s with cis := { s.cis with rrRead := (n - 8 + 1) % 56 } }) free
  case silent =>
    intro k num o a s found silent fits
    rw [exec_pumpReadCompletion found fits, pumpReturn_silent silent]
    rfl
  case error =>
    intro k num o e s found loud
    refine ⟨_, exec_pumpReadCompletion found (by simp), ?_⟩
    have late := (pumpReturn_error (k := k) (num := num) (o := o) (e := e) (s := s) loud).touches
    obtain ⟨-, -, valid, -, -, -⟩ := late.herr (by decide)
    obtain ⟨-, -, valid', -, -, edges'⟩ := hostError_herr o.fn e 0 o.addr (pumpRetired k num o s)
    rw [late.herrEdges (by decide), herrEdges_hostError, valid, valid', recordHerr_herrValid]
    exact ⟨congrArg (· + 1) ((retireRead_eff (r := .pump k num) (s := s)).touches.herrEdges (by decide)), rfl⟩
  case data =>
    intro k num c o x r bs s found loud keep fits job mine whole bound
    exact ⟨_, exec_pumpReadCompletion found (by simpa using fits), moved_pumpReturn_data loud keep job mine whole bound⟩
  case beat =>
    intro n k x w s grant ready more
    refine ⟨_, exec_pumpWriteIssue .good grant, ?_⟩
    simp only [pumpWrite, ready]
    rw [pumpBeat_of_ready ready, if_neg more]
    exact ⟨pump_beatStaged.1, pump_beatStaged.2, beatStaged_out⟩
  case last =>
    intro n k x w s grant ready whole
    refine ⟨_, exec_pumpWriteIssue .good grant, ?_⟩
    simp only [pumpWrite, ready]
    exact out_pumpBeat_whole ready whole
  case bad =>
    intro n k x w again s grant ready
    refine ⟨⟨_, exec_pumpWriteIssue _ grant, ?_⟩, ⟨_, exec_pumpWriteIssue _ grant, ?_⟩, ⟨_, exec_pumpWriteIssue _ grant, ?_⟩⟩
    · obtain ⟨flag, edges, cis, -, ret⟩ := badWord_counts (n := n) (k := k) (x := x) (s := s) false again
      simp only [pumpWrite, ready]
      refine ⟨flag, edges, cis, ?_⟩
      rw [ret]
      cases again
      · simp
      · simp
    · obtain ⟨flag, edges, cis, chip, -⟩ := badWord_counts (n := n) (k := k) (x := x) (s := s) true false
      simp only [pumpWrite, ready]
      exact ⟨flag, edges, chip, cis⟩
    · simp only [pumpWrite, ready]
      exact (pumpBeat_eff.touches.badWords (by decide)).1.trans countCe_cistern

end Sys2Proof.Machine
end

section
/-! The end of a slice (file 9): why the job does not always go to the class of its first entry. -/

namespace Sys2Proof.Machine

open Sys2Proof

/-- The present entry of the job: a copy with URG set. -/
def urgentEnt : Ent :=
  { idx := 0, place := 0, dw := (Vector.replicate 12 0).set 0 0x1008, st := .attached }

/-- A job that has moved 16 KiB on its channel. -/
def urgentJob : Xfer :=
  { type := .copy, inst := 0, q := 5, pipe := none, idx := 0, urg := false, chan := some 9, moved := 16384 }

/-- Channel 9 has used its slice with a job whose first entry had URG clear, and whose present entry has it set;
another job of the high class waits. -/
def usedSliceState : State :=
  { qe := { queues := [(5, { ents := [urgentEnt] })] }
    cis := { high := [3]
             pumps := [(9, { st := .run, job := some 7, slice := 16 })]
             xfers := [(7, urgentJob)] } }

/-- Refutes O44: the class of a job is that of its present entry (R245), which need not have the URG of its first; the
job of the slice that ends goes to the high class, not to the normal one. -/
theorem not_jobsAreBound : ¬ Obligations.JobsAreBound := by
  rintro ⟨-, -, expires⟩
  obtain ⟨t, is, -, -, -, queued, -⟩ := expires 9 7 urgentJob usedSliceState (by decide) (by decide) (by decide)
    (by decide +kernel) (by decide) (by decide)
  have tIs : t = expire 7 true usedSliceState := by
    have done : exec (.sliceExpiry 9) usedSliceState = .next (expire 7 true usedSliceState) := when_of (by decide +kernel)
    exact (Host.Outcome.next.inj (done.symm.trans is)).symm
  rw [tIs] at queued
  exact absurd queued (by decide +kernel)

end Sys2Proof.Machine
end

section
/-! The end of a walk (file 10): why a report at the end of a sound path does not always halt its pipe. -/

namespace Sys2Proof.Machine

open Sys2Proof

/-- A report of pipe 5 whose instance has been reset since. -/
def staleReport : Report := { pipe := 5, port := 0, half := 0, addr := 3, status := 4, errinfo := 0, stale := true }

/-- The walk of that report. -/
def lastHubWalk : Walk := { report := staleReport, path := [(1, 1)], tier1 := 1, probing := true }

/-- The walk probes the last hub of the path. -/
def lastHubState : State :=
  { ports := [(0, { h0 := { st := .enabled } })]
    sched := { pipes := [(5, {})] }
    sump := { walks := [(0, lastHubWalk)] } }

/-- Refutes O42: the pipe of an instance that was reset meanwhile stays as the reset left it (R311), and is not
halted. -/
theorem not_walksFindTheOrigin : ¬ Obligations.WalksFindTheOrigin := by
  rintro ⟨probes, -⟩
  obtain ⟨-, -, sound⟩ := probes 0 0 lastHubWalk 1 1 [] lastHubState (by decide) rfl rfl (by decide)
  have is := (sound true true false false 0 (by decide)).1 rfl (by decide)
  have done : exec (.probeResult 0 0 (.status true true false false 0)) lastHubState = .next (endWalk 0 lastHubState) := when_of rfl
  have same := Host.Outcome.next.inj (done.symm.trans is)
  have halted := congrArg (fun t => (pipe t 5).map (·.state)) same
  exact absurd halted (by decide +kernel)

end Sys2Proof.Machine
end

section
/-! Memory errors of the cellar (file 10, Table 10-3). -/

namespace Sys2Proof.Machine

open Sys2Proof

/-! ### The counters of the cellar channels -/

/-- The corrected and the uncorrectable words that the two cellar channels have counted. -/
structure CelWords where
  ce0 : BitVec 16
  ce1 : BitVec 16
  ue0 : BitVec 16
  ue1 : BitVec 16

def celWords (s : State) : CelWords := ⟨s.sump.cel0Ce, s.sump.cel1Ce, s.sump.cel0Ue, s.sump.cel1Ue⟩

/-- So many corrected words of a channel are counted. -/
def CelWords.addCe (w : CelWords) (c n : Nat) : CelWords :=
  if c = 0 then { w with ce0 := w.ce0 + BitVec.ofNat 16 n } else { w with ce1 := w.ce1 + BitVec.ofNat 16 n }

/-- So many uncorrectable words of a channel are counted. -/
def CelWords.addUe (w : CelWords) (c n : Nat) : CelWords :=
  if c = 0 then { w with ue0 := w.ue0 + BitVec.ofNat 16 n } else { w with ue1 := w.ue1 + BitVec.ofNat 16 n }

theorem CelWords.addCe_succ (w : CelWords) (c n : Nat) : (w.addCe c 1).addCe c n = w.addCe c (n + 1) := by
  unfold CelWords.addCe
  split_ifs <;> simp only [BitVec.ofNat_add, BitVec.add_assoc, BitVec.add_comm (BitVec.ofNat 16 1)]

theorem CelWords.addUe_succ (w : CelWords) (c n : Nat) : (w.addUe c 1).addUe c n = w.addUe c (n + 1) := by
  unfold CelWords.addUe
  split_ifs <;> simp only [BitVec.ofNat_add, BitVec.add_assoc, BitVec.add_comm (BitVec.ofNat 16 1)]

section Counters

variable {s t : State} {ps : List Part} {c : Fin 2}

theorem Touches.celWords (h : Touches ps s t) (n : .memErr ∉ ps) : celWords t = celWords s := by
  have same := h .memErr n
  simp only [Part.Same, Prod.mk.injEq] at same
  unfold Machine.celWords
  simp only [same]

theorem Touches.celReg (h : Touches ps s t) (n : .cellar ∉ ps) (c : Nat) : celReg t c = celReg s c := by
  have same := h .cellar n
  simp only [Part.Same, Prod.mk.injEq] at same
  unfold Machine.celReg
  simp only [same]

theorem celWords_countCe (n : Nat) : celWords (countCe (2 + c) n s) = (celWords s).addCe c n := by
  induction n generalizing s with
  | zero => unfold countCe CelWords.addCe; split_ifs <;> simp
  | succ n ih =>
    unfold countCe
    dsimp only
    rw [ih]
    have counted (u : State) (hit : Bool) :
        celWords (if hit = true then memErrEvent (ceWhere (2 + c)) 0 0 0 0 u else u) = celWords u := by
      split_ifs
      · exact memErrEvent_eff.touches.celWords (by decide)
      · rfl
    rw [counted]
    match c with
    | 0 => exact CelWords.addCe_succ (celWords s) 0 n
    | 1 => exact CelWords.addCe_succ (celWords s) 1 n

theorem celWords_countUe (s : State) : celWords (countUe c s) = (celWords s).addUe c 1 := by
  match c with
  | 0 => rfl
  | 1 => rfl

/-- One bad word is counted once; what it takes with it counts nothing. -/
theorem loseWord_counted (l : Word × CellarLoss) : Eff [.l1, .reads, .msg, .fnMsg, .queues, .sched, .halves, .engines,
    .bursts, .portReg, .cistern, .origins, .log, .capFlag, .fwHeld, .devWake, .tunnel, .gate, .heldEv, .out]
    (countUe c s) (loseWord c l s) := by
  unfold loseWord
  dsimp only
  split
  · exact losePipe_eff.step memErrEvent_eff.weaken
  · split_ifs
    · exact losePipe_eff.step memErrEvent_eff.weaken
    · exact memErrEvent_eff.weaken
  · exact memErrEvent_eff.step (Eff.upd (Eff.refl _ _))
  · exact memErrEvent_eff.weaken

theorem celWords_loseWords (l : List (Word × CellarLoss)) :
    celWords (l.foldl (fun s l => loseWord c l s) s) = (celWords s).addUe c l.length := by
  induction l generalizing s with
  | nil => unfold CelWords.addUe; split_ifs <;> simp
  | cons w l ih =>
    rw [List.foldl_cons, ih, (loseWord_counted w).touches.celWords (by decide), celWords_countUe]
    exact CelWords.addUe_succ _ c l.length

theorem memUe_loseWords (l : List (Word × CellarLoss)) (some : l ≠ [] ∨ s.sump.memUe = true) :
    (l.foldl (fun s l => loseWord c l s) s).sump.memUe = true := by
  induction l generalizing s with
  | nil => exact some.resolve_left (by simp)
  | cons w l ih =>
    refine ih (.inr ?_)
    rw [((loseWord_counted w).touches.ueFlag (by decide)).1]
    unfold countUe
    split_ifs <;> rfl

theorem ueCheck_celWords : celWords (ueCheck c s) = celWords s := by
  unfold ueCheck
  split_ifs
  · exact failCellar_eff.touches.celWords (by decide)
  · rfl

theorem celReg_modCel {g : CelReg → CelReg} (c d : Fin 2) : celReg (modCel c g s) d =
    (if d = c then g (celReg s c) else celReg s d) := by
  fin_cases c <;> fin_cases d <;> rfl

/-- A channel that fails goes down; nothing that it takes with it moves the other. -/
theorem celReg_failCellar (c d : Fin 2) : celReg (failCellar c s) d = celReg (modCel c celDown s) d := by
  have others : Eff [.l1, .reads, .msg, .fnMsg, .queues, .sched, .halves, .engines, .bursts, .portReg, .cistern,
      .origins, .log, .capFlag, .fwHeld, .devWake, .tunnel, .gate, .heldEv, .freeCount, .out]
      (modCel c celDown (loseRecords (s.glb.c0.inSvc && s.glb.c1.inSvc) c s)) (failCellar c s) := by
    unfold failCellar
    exact capChange_eff.step (memErrEvent_eff.step
      (Eff.foldl (fun _ _ => losePipe_eff.weaken) resizeLog_eff.weaken _))
  rw [others.touches.celReg (by decide), celReg_modCel, celReg_modCel]
  simp only [loseRecords_eff.touches.celReg (by decide)]

/-- A scrub counts its words. -/
theorem celWords_scrub (n : Nat) (lost : List (Word × CellarLoss)) :
    celWords (ueCheck c (lost.foldl (fun s l => loseWord c l s) (countCe (2 + c) n s))) =
      ((celWords s).addCe c n).addUe c lost.length := by
  rw [ueCheck_celWords, celWords_loseWords, celWords_countCe]

theorem memUe_scrub (n : Nat) {lost : List (Word × CellarLoss)} (some : lost ≠ []) :
    (ueCheck c (lost.foldl (fun s l => loseWord c l s) (countCe (2 + c) n s))).sump.memUe = true := by
  rw [(ueCheck_eff.touches.ueFlag (by decide)).1]
  exact memUe_loseWords lost (.inl some)

end Counters

/-- Settles O43: the words of a scrub are counted by their channel, and a channel that fails leaves service alone. -/
theorem cellarErrorsAreCounted : Obligations.CellarErrorsAreCounted := by
  refine ⟨?scrub, ?training, ?fail⟩
  case scrub =>
    intro c n lost s up awake
    refine ⟨_, when_of (by simp [up, awake]), ?_⟩
    have words := celWords_scrub (s := s) (c := c) n lost
    refine ⟨(congrArg CelWords.ce0 words).trans ?_, (congrArg CelWords.ce1 words).trans ?_,
      (congrArg CelWords.ue0 words).trans ?_, (congrArg CelWords.ue1 words).trans ?_, memUe_scrub n⟩
    all_goals
      match c with
      | 0 => simp [CelWords.addCe, CelWords.addUe, celWords]
      | 1 => simp [CelWords.addCe, CelWords.addUe, celWords]
  case training =>
    intro c s up awake
    exact when_of (by simp [up, awake])
  case fail =>
    intro c s up
    refine ⟨_, when_of (by simp [up]), ?_, fun d other => ?_⟩
    · rw [celReg_failCellar, celReg_modCel, if_pos rfl]
      rfl
    · rw [celReg_failCellar, celReg_modCel, if_neg other]

end Sys2Proof.Machine
end

section
/-! The device port (file 13): why a resume does not always leave no remote wake under way. -/

namespace Sys2Proof.Machine

open Sys2Proof

/-- A tunnel request whose trailer waits. -/
def endedRequest : TunReq :=
  { pair := 1, stream := 1, idx := none, dw0 := 0, len := 0, setup0 := 0, setup1 := 0
    ended := some { d12 := 0, d13 := 0, d14 := 0, d15 := 0 } }

/-- A suspended port whose state before the suspend reads SUSPENDED too, with a trailer that waits. -/
def resumeState : State :=
  { dev := { en := true, st := .suspended, was := .suspended, rwe := true, reqs := [endedRequest] } }

/-- Refutes O55: the port resumes into the state before the suspend; where that reads SUSPENDED, the trailer that
waits starts a remote wake at once (R351). -/
theorem not_devicePortMoves : ¬ Obligations.DevicePortMoves := by
  rintro ⟨-, -, -, -, -, resumes, -⟩
  obtain ⟨t, is, -, -, -, -, still, -⟩ := resumes true resumeState rfl (.inl rfl)
  have done : exec (.devportHostResume true) resumeState = .next (devResume true (ungate resumeState)) := when_of rfl
  rw [← Host.Outcome.next.inj (done.symm.trans is)] at still
  exact absurd still (by decide +kernel)

end Sys2Proof.Machine
end

section
/-! Control requests of the device port (file 13, Table 13-3). -/

namespace Sys2Proof.Machine

open Sys2Proof

/-! ### What every request has in common -/

section Requests

variable {s : State} {f : State → State}

/-- In an activation pause every request is answered NRDY, or NAK at the USB 2.0 speeds (R341). -/
theorem control_paused (on : devOn s = true) (awake : s.dev.st ≠ .suspended) (paused : s.cmd.paused = true) :
    control f s = .next { s with out := s.out ++ [if devSuper s then .devNrdy true 0 0 else .devNak] } := by
  refine (when_of (by simp [on, awake])).trans ?_
  rw [if_pos paused]
  rfl

theorem control_open (on : devOn s = true) (awake : s.dev.st ≠ .suspended) (running : s.cmd.paused = false) :
    control f s = .next (f (devAwake (ungate s))) := by
  refine (when_of (by simp [on, awake])).trans ?_
  rw [running, if_neg Bool.false_ne_true]

/-- A vendor request with its wIndex 0 and a wValue of its row. -/
theorem vendor_accepted {can : Bool} (on : devOn s = true) (awake : s.dev.st ≠ .suspended) (running : s.cmd.paused = false)
    (fits : can = true) : vendor can f s = .next (f (devAwake (ungate s))) := by
  subst fits
  exact control_open on awake running

theorem vendor_stalled {can : Bool} (on : devOn s = true) (awake : s.dev.st ≠ .suspended) (running : s.cmd.paused = false)
    (bad : can = false) : vendor can f s = .next (emit .devStall (devAwake (ungate s))) := by
  subst bad
  exact control_open on awake running

theorem exec_unknownVendorRequest {t r : Byte} (vendor : t.toNat / 32 % 4 = 2)
    (unknown : (t.toNat, r.toNat) ∉ vendorRequests) : exec (.unknownVendorRequest t r) s = control stallControl s := by
  refine if_pos ?_
  simp [vendor, unknown]

/-- The states of a port that has a host and is not suspended. -/
theorem devSt_of_on (on : devOn s = true) (awake : s.dev.st ≠ .suspended) :
    s.dev.st = .default ∨ s.dev.st = .address ∨ s.dev.st = .configured := by
  unfold devOn at on
  cases st : s.dev.st <;> simp_all [devStCode]

end Requests

/-! ### The end of every tunnel request -/

section Moves

variable {s t : State}

theorem devTo_dev {st : DevSt} : (devTo st s).dev.st = st ∧ (devTo st s).dev.addr = s.dev.addr ∧
    (devTo st s).dev.config = s.dev.config ∧ (devTo st s).dev.alt1 = s.dev.alt1 ∧ (devTo st s).out = s.out := by
  unfold devTo
  split_ifs with same
  · exact ⟨same, rfl, rfl, rfl, rfl⟩
  · exact ⟨rfl, rfl, rfl, rfl, rfl⟩

theorem Touches.devRegs {ps : List Part} (h : Touches ps s t) (n : .devReg ∉ ps) : t.dev.st = s.dev.st ∧
    t.dev.addr = s.dev.addr ∧ t.dev.config = s.dev.config ∧ t.dev.alt1 = s.dev.alt1 := by
  have same := h .devReg n
  simp only [Part.Same, DevPort.mk.injEq] at same
  tauto

theorem devMove_dev {st : DevSt} : (devMove st s).dev.st = st ∧ (devMove st s).dev.addr = s.dev.addr ∧
    (devMove st s).dev.config = s.dev.config ∧ (devMove st s).dev.alt1 = s.dev.alt1 := by
  obtain ⟨st', addr, config, alt, -⟩ := devTo_dev (s := s) (st := st)
  have late : Touches [.l1, .msg, .fnMsg, .queues, .tunnel, .gate, .heldEv, .out] (devTo st s) (devMove st s) := by
    exact (devStateEvent_eff (s := devTo st s)).touches
  obtain ⟨a, b, c, d⟩ := late.devRegs (by decide)
  exact ⟨a.trans st', b.trans addr, c.trans config, d.trans alt⟩

end Moves

/-! ### Notices -/

section Notices

variable {s : State}

theorem logRec_counted {kind : Nat} {pay : List Word} (running : s.cmd.paused = false) :
    (logRec kind pay s).sump.logSeq = s.sump.logSeq + 1 := by
  rw [logRec_running kind pay running, logPush_logSeq]

theorem toNat_succ {w : Word} (room : w.toNat + 1 < 2 ^ 32) : (w + 1).toNat = w.toNat + 1 := by
  rw [BitVec.toNat_add]
  exact Nat.mod_eq_of_lt room

/-- The rest of a notice takes at most so many records. -/
theorem noticeRest_seq {kind n : Nat} {bs : List Byte} (running : s.cmd.paused = false)
    (room : s.sump.logSeq.toNat + n < 2 ^ 32) : s.sump.logSeq.toNat ≤ (noticeRest kind n bs s).sump.logSeq.toNat := by
  induction n generalizing s bs with
  | zero => exact le_refl _
  | succ n ih =>
    cases bs with
    | nil => exact le_refl _
    | cons b bs =>
      have counted := logRec_counted (kind := kind) (pay := (List.range 5).map (fun k => dwordAt (b :: bs) (4 * k))) running
      have next := toNat_succ (w := s.sump.logSeq) (by omega)
      have rest := ih (s := logRec kind ((List.range 5).map (fun k => dwordAt (b :: bs) (4 * k))) s)
        (bs := (b :: bs).drop 20) ((congrArg CmdProc.paused (logRec_eff.touches.cmd (by decide))).trans running)
        (by rw [counted, next]; omega)
      rw [counted, next] at rest
      exact (Nat.le_succ _).trans rest

/-- The state in which a notice's records are written: its event is posted, and their KIND is drawn. -/
def noticeEvent (bs : List Byte) (s : State) : State :=
  (takeFree (event 0 0x32 [wd bs.length, dwordAt bs 0, dwordAt bs 4, dwordAt bs 8, dwordAt bs 12, dwordAt bs 16] s)).2

theorem noticeEvent_eff {bs : List Byte} : Eff [.l1, .msg, .fnMsg, .queues, .tunnel, .gate, .heldEv, .freeCount, .out]
    s (noticeEvent bs s) := takeFree_eff.step event_eff.weaken

theorem raiseNotice_is (bs : List Byte) (s : State) : ∃ kind pay cs,
    raiseNotice bs s = noticeRest kind 12 cs (logRec kind pay (noticeEvent bs s)) := by
  refine ⟨(takeFree (event 0 0x32 [wd bs.length, dwordAt bs 0, dwordAt bs 4, dwordAt bs 8, dwordAt bs 12, dwordAt bs 16]
    s)).1.toNat % 256, [wd bs.length, dwordAt bs 0, dwordAt bs 4, dwordAt bs 8, dwordAt bs 12], bs.drop 16, ?_⟩
  rfl

/-- A notice is logged: at least its first record is written. -/
theorem raiseNotice_seq {bs : List Byte} (running : s.cmd.paused = false) (room : s.sump.logSeq.toNat + 13 < 2 ^ 32) :
    s.sump.logSeq.toNat < (raiseNotice bs s).sump.logSeq.toNat := by
  obtain ⟨kind, pay, cs, is⟩ := raiseNotice_is bs s
  have posted := (noticeEvent_eff (bs := bs) (s := s)).touches
  have still : (noticeEvent bs s).cmd.paused = false := (congrArg CmdProc.paused (posted.cmd (by decide))).trans running
  have first : (logRec kind pay (noticeEvent bs s)).sump.logSeq.toNat = s.sump.logSeq.toNat + 1 := by
    rw [logRec_counted still, (posted.faultLog (by decide)).1, toNat_succ (by omega)]
  have rest := noticeRest_seq (kind := kind) (n := 12) (bs := cs) (s := logRec kind pay (noticeEvent bs s))
    ((congrArg CmdProc.paused (logRec_eff.touches.cmd (by decide))).trans still) (by rw [first]; omega)
  rw [is]
  omega

theorem raiseNotice_free {bs : List Byte} : (raiseNotice bs s).free = s.free + 1 := by
  obtain ⟨kind, pay, cs, is⟩ := raiseNotice_is bs s
  have records : Eff [.log, .fwHeld] (noticeEvent bs s) (raiseNotice bs s) := is ▸ noticeRest_eff.step logRec_eff
  have still : (raiseNotice bs s).free = (noticeEvent bs s).free := records.touches .freeCount (by decide)
  rw [still]
  exact congrArg (· + 1) (event_eff.touches .freeCount (by decide))

end Notices

theorem ackControl_last (s : State) : (ackControl s).out.getLast? = some (.devControl []) := List.getLast?_concat

/-! ### The requests -/

section Running

variable {s : State} (on : devOn s = true) (awake : s.dev.st ≠ .suspended) (running : s.cmd.paused = false)

include on awake running

theorem setAddress_moves : ∀ a, ∃ t, exec (.setAddress a) s = .next t ∧
    (s.dev.st = .configured → t.dev.addr = s.dev.addr ∧ t.dev.st = .configured ∧ t.out = s.out ++ [.devStall]) ∧
    (s.dev.st = .default → t.dev.addr = (if a = 0 then s.dev.addr else a) ∧
      t.dev.st = (if a = 0 then .default else .address) ∧ t.out = s.out ++ [.devControl []]) ∧
    (s.dev.st = .address → t.dev.addr = a ∧ t.dev.st = (if a = 0 then .default else .address) ∧
      t.out = s.out ++ [.devControl []]) := by
  refine fun a => ⟨_, control_open on awake running, ?_⟩
  unfold setDevAddress
  refine ⟨fun st => ?_, fun st => ?_, fun st => ?_⟩
  · rw [show (devAwake (ungate s)).dev.st = .configured from st]
    exact ⟨rfl, st, rfl⟩
  · rw [show (devAwake (ungate s)).dev.st = .default from st]
    dsimp only
    split_ifs with zero
    · exact ⟨rfl, st, rfl⟩
    · obtain ⟨st', addr, -, -, out⟩ := devTo_dev (st := .address)
        (s := { devAwake (ungate s) with dev := { (devAwake (ungate s)).dev with addr := a } })
      exact ⟨addr, st', congrArg (· ++ _) out⟩
  · rw [show (devAwake (ungate s)).dev.st = .address from st]
    dsimp only
    split_ifs with zero
    · obtain ⟨st', addr, -, -, out⟩ := devTo_dev (st := .default)
        (s := { devAwake (ungate s) with dev := { (devAwake (ungate s)).dev with addr := a } })
      exact ⟨addr, st', congrArg (· ++ _) out⟩
    · exact ⟨rfl, st, rfl⟩

theorem setConfiguration_moves : ∀ v, ∃ t, exec (.setConfiguration v) s = .next t ∧
    (s.dev.st = .address → v = 1 → t.dev.st = .configured ∧ t.dev.config = 1 ∧ t.dev.alt1 = false) ∧
    (s.dev.st = .configured → v = 0 → t.dev.st = .address ∧ t.dev.config = 0 ∧ t.dev.alt1 = false) ∧
    (s.dev.st = .default ∨ 1 < v → t.dev.st = s.dev.st ∧ t.dev.config = s.dev.config ∧ t.out = s.out ++ [.devStall]) := by
  refine fun v => ⟨_, control_open on awake running, ?_⟩
  unfold setConfig
  refine ⟨fun st one => ?_, fun st none => ?_, fun bad => ?_⟩
  · rw [show (devAwake (ungate s)).dev.st = .address from st]
    subst one
    obtain ⟨st', -, config, alt⟩ := devMove_dev (st := .configured)
      (s := { devAwake (ungate s) with dev := { (devAwake (ungate s)).dev with config := 1, alt1 := false } })
    exact ⟨st', config, alt⟩
  · rw [show (devAwake (ungate s)).dev.st = .configured from st]
    subst none
    obtain ⟨st', -, config, alt, -⟩ := devTo_dev (st := .address)
      (s := { (abandon (devAwake (ungate s))).1 with
        dev := { (abandon (devAwake (ungate s))).1.dev with config := 0, alt1 := false } })
    exact ⟨st', config, alt⟩
  · rcases devSt_of_on on awake with st | st | st
    · rw [show (devAwake (ungate s)).dev.st = .default from st]
      exact ⟨rfl, rfl, rfl⟩
    · have two : 1 < v := bad.resolve_left (by rw [st]; decide)
      rw [show (devAwake (ungate s)).dev.st = .address from st]
      dsimp only
      rw [if_neg (by omega), if_neg (by omega)]
      exact ⟨rfl, rfl, rfl⟩
    · have two : 1 < v := bad.resolve_left (by rw [st]; decide)
      rw [show (devAwake (ungate s)).dev.st = .configured from st]
      dsimp only
      rw [if_neg (by omega), if_neg (by omega)]
      exact ⟨rfl, rfl, rfl⟩

theorem setInterface_moves : ∀ i alt, ∃ t, exec (.setInterface i alt) s = .next t ∧
    (s.dev.st = .configured → hasTunnel s = true → i = 1 → alt = 1 → t.dev.alt1 = true ∧
      t.out = s.out ++ [.devControl []]) ∧
    (s.dev.st = .configured → hasTunnel s = true → i = 1 → alt = 0 → t.dev.alt1 = false) ∧
    (s.dev.st ≠ .configured ∨ 1 < i ∨ 1 < alt → t.dev.alt1 = s.dev.alt1 ∧ t.out = s.out ++ [.devStall]) := by
  refine fun i alt => ⟨_, control_open on awake running, ?_⟩
  unfold setInterface
  rw [show (devAwake (ungate s)).dev.st = s.dev.st from rfl, show hasTunnel (devAwake (ungate s)) = hasTunnel s from rfl]
  refine ⟨fun st tunnel one one' => ?_, fun st tunnel one zero => ?_, fun bad => ?_⟩
  · simp only [st, tunnel, one, one']
    exact ⟨rfl, rfl⟩
  · simp only [st, tunnel, one, zero]
    rfl
  · rcases devSt_of_on on awake with st | st | st
    · rw [st]
      exact ⟨rfl, rfl⟩
    · rw [st]
      exact ⟨rfl, rfl⟩
    · have high : 1 < i ∨ 1 < alt := bad.resolve_left (not_not_intro st)
      rw [if_neg (by simp [st])]
      split_ifs with one two zero none
      · simp only [Bool.and_eq_true, decide_eq_true_eq] at one
        omega
      · simp only [Bool.and_eq_true, decide_eq_true_eq] at one
        omega
      · exact ⟨rfl, rfl⟩
      · simp only [Bool.and_eq_true, decide_eq_true_eq] at none
        omega
      · exact ⟨rfl, rfl⟩

theorem functionSuspend_moves : ∀ w, ∃ t, exec (.setFeature (.functionSuspend w)) s = .next t ∧
    t.dev.rwe = (if devSuper s then w else s.dev.rwe) ∧
    t.out = s.out ++ [if devSuper s then .devControl [] else .devStall] := by
  refine fun w => ⟨_, control_open on awake running, ?_⟩
  unfold setFeature
  dsimp only
  rw [show devSuper (devAwake (ungate s)) = devSuper s from rfl]
  split_ifs
  · exact ⟨rfl, rfl⟩
  · exact ⟨rfl, rfl⟩

theorem remoteWakeup_moves : ∃ t, exec (.setFeature .deviceRemoteWakeup) s = .next t ∧
    t.dev.rwe = (if devSuper s then s.dev.rwe else true) ∧
    t.out = s.out ++ [if devSuper s then .devStall else .devControl []] := by
  refine ⟨_, control_open on awake running, ?_⟩
  unfold setFeature
  dsimp only
  rw [show devSuper (devAwake (ungate s)) = devSuper s from rfl]
  split_ifs
  · exact ⟨rfl, rfl⟩
  · exact ⟨rfl, rfl⟩

theorem getLog_answers : ∀ n : BitVec 16, n ≠ 0 → n.toNat ≤ 16 →
    exec (.getLog n 0) s = .next (emit (.devControl (latestLog n.toNat s)) (devAwake (ungate s))) := by
  intro n some few
  refine (vendor_accepted on awake running (by simpa [few] using some)).trans ?_
  rfl

theorem notice_answers : ∀ bs, bs ≠ [] → bs.length ≤ 248 → ∃ t, exec (.notice 0 0 bs) s = .next t ∧
    t.free = s.free + 1 ∧ t.out.getLast? = some (.devControl []) ∧
    (0 < s.sump.logCap.toNat → s.sump.logSeq.toNat + 13 < 2 ^ 32 → s.sump.logSeq.toNat < t.sump.logSeq.toNat) := by
  intro bs some short
  refine ⟨_, vendor_accepted on awake running (by simp [some, short]), ?_, ?_, ?_⟩
  · exact raiseNotice_free (bs := bs) (s := devAwake (ungate s))
  · exact ackControl_last _
  · exact fun _ room => raiseNotice_seq (bs := bs) (s := devAwake (ungate s)) running room

theorem vendor_stalls : ∀ (m n : BitVec 16) (bs : List Byte), (n ≠ 0 ∨ m ≠ 0 → ∀ c ∈ [Instr.getInfo m n, .getExports m n, .notice m n bs],
      exec c s = .next (emit .devStall (devAwake (ungate s)))) ∧
    (n ≠ 0 ∨ m = 0 ∨ 16 < m.toNat → exec (.getLog m n) s = .next (emit .devStall (devAwake (ungate s)))) ∧
    (bs = [] ∨ 248 < bs.length → exec (.notice m n bs) s = .next (emit .devStall (devAwake (ungate s)))) := by
  refine fun m n bs => ⟨fun bad c requested => ?_, fun bad => ?_, fun bad => ?_⟩
  · simp only [List.mem_cons, List.not_mem_nil, or_false] at requested
    have not : ¬ (m = 0 ∧ n = 0) := by tauto
    rcases requested with rfl | rfl | rfl
    · exact vendor_stalled on awake running (by simpa using not)
    · exact vendor_stalled on awake running (by simpa using not)
    · exact vendor_stalled on awake running (by
        simp only [Bool.and_eq_false_iff, decide_eq_false_iff_not]
        tauto)
  · exact vendor_stalled on awake running (by
      simp only [Bool.and_eq_false_iff, decide_eq_false_iff_not, not_not, not_le]
      tauto)
  · exact vendor_stalled on awake running (by
      simp only [Bool.and_eq_false_iff, decide_eq_false_iff_not, not_le]
      rcases bad with rfl | long
      · exact .inl (.inr rfl)
      · exact .inr long)

end Running

/-- Settles O56: a request by request reading of Table 13-3. -/
theorem controlRequestsAreAnswered : Obligations.ControlRequestsAreAnswered := by
  refine ⟨?paused, ?pausedVendor, ?running⟩
  case paused =>
    intro a v i alt f d m n bs s on awake paused c requested
    simp only [List.mem_cons, List.not_mem_nil, or_false] at requested
    rcases requested with rfl | rfl | rfl | rfl | rfl | rfl | rfl | rfl | rfl
    all_goals exact control_paused on awake paused
  case pausedVendor =>
    intro t r s on awake paused vendor unknown
    rw [exec_unknownVendorRequest vendor unknown, control_paused on awake paused]
  case running =>
    intro s on awake running
    refine ⟨?descriptor, ?address, ?config, ?interface, ?suspend, ?wakeup, ?info, ?exports, ?log, ?notice, ?stalls, ?vendor⟩
    case descriptor => exact fun d => control_open on awake running
    case address => exact setAddress_moves on awake running
    case config => exact setConfiguration_moves on awake running
    case interface => exact setInterface_moves on awake running
    case suspend => exact functionSuspend_moves on awake running
    case wakeup => exact remoteWakeup_moves on awake running
    case info => exact control_open on awake running
    case exports => exact control_open on awake running
    case log => exact getLog_answers on awake running
    case notice => exact notice_answers on awake running
    case stalls => exact vendor_stalls on awake running
    case vendor =>
      intro t r vendor unknown
      rw [exec_unknownVendorRequest vendor unknown, control_open on awake running]
      rfl

end Sys2Proof.Machine
end

section
/-! The management interfaces (file 18): SMBus, the UART and JTAG. -/

namespace Sys2Proof.Machine

open Sys2Proof

/-! ### Wakes and aborts -/

section Wakes

variable {s t : State} {bit : Nat} {e : PmReq}

theorem Touches.pmRegs {ps : List Part} (h : Touches ps s t) (n : .pmReg ∉ ps) :
    t.pm.aborts = s.pm.aborts ∧ t.pm.st = s.pm.st ∧ t.pm.fired = s.pm.fired ∧ t.pm.pend = s.pm.pend ∧
    t.pm.was = s.pm.was := by
  have same := h .pmReg n
  simp only [Part.Same, Pm.mk.injEq] at same
  tauto

theorem wakeBy_awake (awake : awakeFor bit s = true) : wakeBy bit s = s := by
  simp only [awakeFor, Bool.and_eq_true, Bool.not_eq_true', Option.isNone_iff_eq_none] at awake
  unfold wakeBy
  simp [awake]

theorem moveIdle_aborts {st : PmSt} : (moveIdle st s).pm.aborts = s.pm.aborts :=
  (pmStateEvent_eff.touches.pmRegs (by decide)).1

theorem refused_aborts {r : PmSt} {q : BitVec 8} {rs : List (Nat × Nat)} {ms : Word} :
    (refused r q rs ms s).pm.aborts = s.pm.aborts := (event_eff.touches.pmRegs (by decide)).1

theorem startReq_aborts {r : PmReq} : (startReq r s).pm.aborts = s.pm.aborts := by
  unfold startReq
  split_ifs
  · rfl
  · split
    · exact moveIdle_aborts
    · dsimp only
      split_ifs
      · exact moveIdle_aborts
      · exact refused_aborts
    all_goals
      dsimp only
      split_ifs
      · exact refused_aborts
      · rfl

theorem nextReq_aborts : (nextReq s).pm.aborts = s.pm.aborts := by
  unfold nextReq
  split
  · exact startReq_aborts
  · rfl

/-- The source that a running entry watches aborts it. -/
theorem wakeBy_aborts (runs : s.pm.entry = some e)
    (watched : ((e.mask ||| 0x004) &&& sourcesOf e.target).getLsbD bit = true) (other : bit ≠ 1) :
    (wakeBy bit s).pm.aborts = s.pm.aborts + 1 := by
  unfold wakeBy
  rw [if_pos (by simp [runs])]
  have drawn : (freeWake s).2.pm = s.pm := rfl
  unfold fire
  dsimp only
  rw [drawn, runs]
  dsimp only
  rw [if_pos (by rw [watched]; simpa using other)]
  unfold abort
  rw [drawn, runs]
  exact nextReq_aborts

theorem wakeSleep_pm {w : WakeOutcome} (none : s.pm.pend = none) :
    (wakeSleep bit w s).pm.st = s.pm.was ∧ (wakeSleep bit w s).pm.fired = BitVec.ofNat 9 (2 ^ bit) := by
  unfold wakeSleep
  extract_lets up u held f glb pm v x y
  have vIs : v.pm.st = s.pm.was ∧ v.pm.fired = f ∧ v.pm.pend = s.pm.pend := ⟨rfl, rfl, rfl⟩
  have late : Eff [.link, .l1, .reads, .msg, .fnCfg, .fnMsg, .queues, .fences, .sched, .halves, .units, .engines,
      .bursts, .portReg, .lock, .portTime, .cistern, .origins, .log, .sets, .instState, .capFlag, .cmd, .fwSlots,
      .fwHeld, .boot, .devReg, .devWake, .tunnel, .chans, .gate, .heldEv, .freeCount, .out] v (heldReset (relock y)) :=
    heldReset_eff.step (relock_eff.step (Eff.foldl (fun _ _ => event_eff.weaken) pmStateEvent_eff.weaken _))
  obtain ⟨-, st, fired, pend, -⟩ := late.touches.pmRegs (by decide)
  unfold nextReq
  rw [pend, vIs.2.2, none]
  exact ⟨st.trans vIs.1, fired.trans vIs.2.1⟩

/-- The source that a SLEEP armed ends it. -/
theorem wakeBy_wakes (asleep : s.pm.st = .sleep) (idle : s.pm.entry = none) (none : s.pm.pend = none)
    (armed : s.pm.armed.getLsbD bit = true) :
    (wakeBy bit s).pm.st = s.pm.was ∧ (wakeBy bit s).pm.fired = BitVec.ofNat 9 (2 ^ bit) := by
  unfold wakeBy
  rw [if_pos (by simp [asleep, armed])]
  have drawn : (freeWake s).2.pm = s.pm := rfl
  unfold fire
  dsimp only
  rw [drawn, idle]
  dsimp only
  rw [armed, asleep]
  obtain ⟨st, fired⟩ := wakeSleep_pm (bit := bit) (w := (freeWake s).1) (s := (freeWake s).2) none
  exact ⟨st, fired⟩

end Wakes

theorem emit_last (o : Out) (s : State) : (emit o s).out.getLast? = some o := List.getLast?_concat

/-! ### SMBus -/

section Smbus

variable {s t : State} {f : State → State} {code n : Nat} {as : List Nat} {pec : Bool}

theorem addressed_awake (up : mgtUp s = true) (awake : awakeFor 6 s = true) : addressed f s = f s := by
  unfold addressed
  rw [if_pos up, wakeBy_awake awake]

theorem addressed_off (down : mgtUp s = false) : addressed f s = emit .smbusNack s := by
  unfold addressed
  rw [down]
  rfl

theorem smbReads_length : (smbReads as s).1.length = as.length := by
  induction as generalizing s with
  | nil => rfl
  | cons a as ih => exact congrArg (· + 1) ih

/-- Registers of blocks that are on read as they stand. -/
theorem smbReads_on (on : ∀ a ∈ as, offCode s a = none) (awake : s.pm.st ≠ .sleep) :
    smbReads as s = (as.map (fun a => bar0Word s a), s) := by
  induction as with
  | nil => rfl
  | cons a as ih =>
    have one : smbRead a s = (bar0Word s a, s) := by
      unfold smbRead
      rw [if_neg awake, on a List.mem_cons_self]
    unfold smbReads
    rw [one]
    dsimp only
    rw [ih (fun a h => on a (List.mem_cons_of_mem _ h))]
    rfl

theorem offCode_ungate (a : Nat) : offCode (ungate s) a = offCode s a := rfl

/-- What a Block Read answers. -/
theorem smbBlock_answers : ∃ ws : List Word,
    (smbBlock code n as pec s).out.getLast? =
      some (.smbus (smbAnswer code pec (ws.map (fun w => (wordBytes w).take n)).flatten)) ∧
    ws.length = as.length ∧
    ((∀ a ∈ as, offCode s a = none) → s.pm.st ≠ .sleep → ws = as.map (fun a => bar0Word (ungate s) a) ∧
      (smbBlock code n as pec s).out =
        s.out ++ [.smbus (smbAnswer code pec (ws.map (fun w => (wordBytes w).take n)).flatten)] ∧
      (smbBlock code n as pec s).sump = s.sump) := by
  refine ⟨(smbReads as (ungate s)).1, List.getLast?_concat, smbReads_length, fun on awake => ?_⟩
  have read := smbReads_on (s := ungate s) (fun a h => (offCode_ungate a).trans (on a h)) awake
  unfold smbBlock
  rw [read]
  exact ⟨rfl, rfl, rfl⟩

/-- The target has answered. -/
def Answered (t : State) : Prop := ∃ o, t.out.getLast? = some o ∧ (o = .smbusNack ∨ ∃ bs, o = .smbus bs)

theorem Answered.any {t : State} (h : Answered t) : t.out.getLast?.any (fun o => match o with
    | .smbus _ | .smbusNack => true
    | _ => false) = true := by
  obtain ⟨o, last, rfl | ⟨bs, rfl⟩⟩ := h
  · rw [last]
    rfl
  · rw [last]
    rfl

/-- Every transaction of the target ends with its answer, and leaves the power states alone. -/
theorem smbus_addressed (now : BitVec 16) (code : Byte) (read pec : Bool) (c : Instr)
    (mine : c ∈ [Instr.ident pec, .status pec, .capacity pec, .channels pec, .faults pec, .thermal now pec,
      .smbusUnsupported code read pec]) :
    ∃ f : State → State, (∀ s, exec c s = .next (addressed f s)) ∧ ∀ u, Answered (f u) ∧
      Touches [.l1, .msg, .fnMsg, .queues, .acc, .log, .fwHeld, .tunnel, .gate, .heldEv, .mgmt, .out] u (f u) := by
  have block (m n : Nat) (as : List Nat) (u : State) : Answered (smbBlock m n as pec u) ∧ Touches [.l1, .msg, .fnMsg,
      .queues, .acc, .log, .fwHeld, .tunnel, .gate, .heldEv, .mgmt, .out] u (smbBlock m n as pec u) :=
    ⟨⟨_, List.getLast?_concat, .inr ⟨_, rfl⟩⟩, smbBlock_eff.touches.weaken (by decide)⟩
  simp only [List.mem_cons, List.not_mem_nil, or_false] at mine
  rcases mine with rfl | rfl | rfl | rfl | rfl | rfl | rfl
  · exact ⟨_, fun _ => rfl, block _ _ _⟩
  · exact ⟨_, fun _ => rfl, block _ _ _⟩
  · exact ⟨_, fun _ => rfl, block _ _ _⟩
  · exact ⟨_, fun _ => rfl, block _ _ _⟩
  · exact ⟨_, fun _ => rfl, block _ _ _⟩
  · refine ⟨_, fun _ => rfl, fun u => ⟨⟨_, List.getLast?_concat, .inr ⟨_, rfl⟩⟩, ?_⟩⟩
    exact smbThermal_eff.touches.weaken (by decide)
  · refine ⟨_, fun _ => rfl, fun u => ⟨⟨_, List.getLast?_concat, ?_⟩, emit_eff.touches.weaken (by decide)⟩⟩
    split_ifs
    · exact .inr ⟨_, rfl⟩
    · exact .inl rfl

theorem smbAnswer_false (code : Nat) (bs : List Byte) : smbAnswer code false bs = BitVec.ofNat 8 bs.length :: bs :=
  List.append_nil _

theorem smbAnswer_true (code : Nat) (bs : List Byte) :
    ∃ crc, smbAnswer code true bs = (BitVec.ofNat 8 bs.length :: bs) ++ [crc] := ⟨_, rfl⟩

theorem addressed_answers (answers : ∀ u, Answered (f u)) : Answered (addressed f s) := by
  unfold addressed
  split_ifs
  · exact answers _
  · exact ⟨_, List.getLast?_concat, .inl rfl⟩

end Smbus

/-! ### JTAG -/

section Jtag

variable {s : State}

/-- The manufacturer's 11 bits lie outside the other fields of IDCODE. -/
theorem manufacturer_field (m : BitVec 11) : BitVec.ofNat 32 (m.toNat <<< 1) &&& 0xFFFFF001 = 0 := by
  have mask : ∀ i : Fin 32, (0xFFFFF001 : Word).getLsbD i = (decide (i.val = 0) || decide (12 ≤ i.val)) := by decide
  refine BitVec.eq_of_getLsbD_eq fun i low => ?_
  rw [BitVec.getLsbD_and, mask ⟨i, low⟩, BitVec.getLsbD_ofNat, Nat.testBit_shiftLeft]
  dsimp only
  rcases Nat.eq_zero_or_pos i with rfl | some
  · rfl
  · by_cases high : 12 ≤ i
    · rw [show m.toNat.testBit (i - 1) = false from BitVec.getLsbD_of_ge m (i - 1) (by omega)]
      simp
    · simp [high, some.ne']

theorem idWord_fields : idWord &&& 0xFFFFF001 = 0x18160001 := by
  have split : idWord = BitVec.ofNat 32 (Config.jtagManufacturer.toNat <<< 1) ||| 0x18160001 := by
    show _ ||| (_ ||| _) = _
    rw [← BitVec.or_assoc, BitVec.or_comm (BitVec.ofNat 32 (1 <<< 0)), BitVec.or_assoc]
    rfl
  have spread (a b c : Word) : (a ||| b) &&& c = (a &&& c) ||| (b &&& c) := by
    refine BitVec.eq_of_getLsbD_eq fun i _ => ?_
    simp only [BitVec.getLsbD_and, BitVec.getLsbD_or, Bool.and_or_distrib_right]
  rw [split, spread, manufacturer_field]
  decide

/-- One channel of the fast pull-down. -/
def pullGate (s : State) (c : Nat) : State :=
  if gateOn s (chan s c) then emit (.gateFast c) (emit (.gate c false) s) else s

theorem pullGate_eff {c : Nat} : Eff [.out] s (pullGate s c) := by
  unfold pullGate
  exact Eff.ite (emit_eff.step emit_eff) (Eff.refl _ _)

theorem pullGates_pulls {l : List Nat} {c : Nat} (mine : c ∈ l) (on : gateOn s (chan s c) = true) :
    .gate c false ∈ (l.foldl pullGate s).out := by
  induction l generalizing s with
  | nil => exact absurd mine List.not_mem_nil
  | cons d l ih =>
    have rest : Eff [.out] (pullGate s d) ((d :: l).foldl pullGate s) :=
      Eff.foldl (fun _ _ => pullGate_eff) (Eff.refl _ _) l
    by_cases same : c = d
    · subst same
      refine rest.keeps.out.subset ?_
      unfold pullGate
      rw [if_pos on]
      exact List.mem_append_left _ (List.mem_append_right _ List.mem_cons_self)
    · refine ih (List.mem_of_ne_of_mem same mine) ?_
      have one := (pullGate_eff (s := s) (c := d)).touches
      rw [one.chan (by decide), ← on]
      unfold gateOn
      rw [show (pullGate s d).mgmt = s.mgmt from one .mgmt (by decide)]

/-- Of the gates that are on, each is pulled off. -/
theorem gatesFast_pulls (c : Chan) (on : gateOn s (chan s c) = true) : .gate c false ∈ (gatesFast s).out :=
  pullGates_pulls (List.mem_range.mpr c.isLt) on

theorem samplePins_draws (n : Nat) : (samplePins n s).1.length = n ∧
    (samplePins n s).2 = { s with free := s.free + n } := by
  induction n generalizing s with
  | zero => exact ⟨rfl, rfl⟩
  | succ n ih =>
    obtain ⟨length, is⟩ := ih (s := (takeFree s).2)
    unfold samplePins
    refine ⟨congrArg (· + 1) length, is.trans ?_⟩
    show { s with free := s.free + 1 + n } = { s with free := s.free + (n + 1) }
    rw [Nat.add_assoc, Nat.add_comm 1]

/-- A test instruction holds every gate off, and pulls off those that were on. -/
theorem jtagTest_holds (j : JtagInstr) (m : Nat) : let t := jtagTest j m s
    t.mgmt = { s.mgmt with ir := j, gatesHeld := true } ∧ t.out.getLast? = some (.pins m) ∧
    (∀ c : Chan, gateOn t (chan t c) = false) ∧ ∀ c : Chan, gateOn s (chan s c) = true → .gate c false ∈ t.out := by
  have mgmt : (gatesFast s).mgmt = s.mgmt := gatesFast_eff.touches .mgmt (by decide)
  have pulls (c : Chan) := gatesFast_pulls (s := s) c
  unfold jtagTest
  dsimp only
  generalize gatesFast s = u at mgmt pulls
  refine ⟨?_, emit_last _ _, fun c => Bool.and_false _, fun c on => List.mem_append_left _ (pulls c on)⟩
  show { u.mgmt with ir := j, gatesHeld := true } = _
  rw [mgmt]

end Jtag

/-- Settles O60: transactions of the SMBus target awake, asleep and without power, and the instructions of JTAG. -/
theorem managementAnswers : Obligations.ManagementAnswers := by
  refine ⟨?blocks, ?thermal, ?unsupported, ?form, ?off, ?entries, ?sleeps, ?clock, ?uart, ?jtag⟩
  case blocks =>
    intro pec s up awake
    refine ⟨⟨_, congrArg Host.Outcome.next (addressed_awake up awake), smbBlock_answers⟩,
      ⟨_, congrArg Host.Outcome.next (addressed_awake up awake), smbBlock_answers⟩,
      ⟨_, congrArg Host.Outcome.next (addressed_awake up awake), smbBlock_answers⟩,
      ⟨_, congrArg Host.Outcome.next (addressed_awake up awake), smbBlock_answers⟩,
      ⟨_, congrArg Host.Outcome.next (addressed_awake up awake), smbBlock_answers⟩⟩
  case thermal =>
    intro now pec s up awake
    refine ⟨_, congrArg Host.Outcome.next (addressed_awake up awake), ?_⟩
    unfold smbThermal
    dsimp only [emit]
    split_ifs with higher
    · exact ⟨higher.le, le_refl _, .inl rfl, rfl⟩
    · exact ⟨le_refl _, not_lt.mp higher, .inr rfl, rfl⟩
  case unsupported =>
    intro code read pec s up awake
    exact congrArg Host.Outcome.next (addressed_awake up awake)
  case form =>
    intro code bs short
    obtain ⟨crc, checked⟩ := smbAnswer_true code bs
    refine ⟨?_, ?_, ?_, ?_⟩
    · rw [smbAnswer_false, List.head?_cons]
    · rw [smbAnswer_false, List.tail_cons]
    · rw [smbAnswer_false, checked]
      exact List.prefix_append _ _
    · rw [checked, List.length_append, List.length_cons, List.length_singleton]
  case off =>
    intro c now code read pec s down mine
    obtain ⟨f, is, -⟩ := smbus_addressed now code read pec c mine
    rw [is, addressed_off down]
    rfl
  case entries =>
    intro e now code read pec s up runs
    refine ⟨fun watched c mine => ?_, fun watched c => ⟨_, rfl, wakeBy_aborts runs watched (by decide)⟩⟩
    obtain ⟨f, is, answers⟩ := smbus_addressed now code read pec c mine
    refine ⟨_, is s, ?_, (addressed_answers fun u => (answers u).1).any⟩
    unfold addressed
    rw [if_pos up, ((answers _).2.pmRegs (by decide)).1, wakeBy_aborts runs watched (by decide)]
  case sleeps =>
    intro now code read pec s up asleep idle none
    refine ⟨fun armed c mine => ?_, fun armed c => ⟨_, rfl, wakeBy_wakes asleep idle none armed⟩⟩
    obtain ⟨f, is, answers⟩ := smbus_addressed now code read pec c mine
    refine ⟨_, is s, ?_⟩
    obtain ⟨st, fired⟩ := wakeBy_wakes asleep idle none armed
    obtain ⟨-, st', fired', -⟩ := (answers (wakeBy 6 s)).2.pmRegs (by decide)
    refine ⟨?_, ?_, (addressed_answers fun u => (answers u).1).any⟩
    · unfold addressed
      rw [if_pos up, st', st]
    · unfold addressed
      rw [if_pos up, fired', fired]
      rfl
  case clock => exact fun s up => when_of up
  case uart => exact fun c s awake => congrArg Host.Outcome.next (wakeBy_awake awake)
  case jtag =>
    intro s up
    refine ⟨fun code => when_of up, ⟨when_of up, idWord_fields⟩, fun chain => ?_, ?_, ?_, ?_⟩
    · obtain ⟨length, is⟩ := samplePins_draws (s := s) chain.length
      refine ⟨_, _, when_of up, length, ?_⟩
      unfold jtagSample
      dsimp only [emit, jtagSelect]
      rw [is]
      exact ⟨rfl, rfl, rfl⟩
    · exact ⟨_, when_of up, jtagTest_holds .extest 1⟩
    · exact ⟨_, when_of up, jtagTest_holds .clamp 2⟩
    · exact ⟨_, when_of up, jtagTest_holds .highz 3⟩

end Sys2Proof.Machine
end

section
/-! Bus errors of a burst (R195, Table 7-2). -/

namespace Sys2Proof.Machine

open Sys2Proof

variable {n : Nat} {x y : Pipe} {d : Desc} {a b : Nat} {ra : Bool} {s t u : State}

/-- What one error on a packet of the burst counts between `s` and `t`: a retry, or at the third an error that takes
the burst off its engine. -/
def ErrorCounted (n : Nat) (x : Pipe) (s t : State) : Prop :=
  (engine t x.port (pHalf x)).retries = (engine s x.port (pHalf x)).retries + (if x.errs < 2 then 1 else 0) ∧
  (engine t x.port (pHalf x)).xerrs = (engine s x.port (pHalf x)).xerrs + (if x.errs < 2 then 0 else 1) ∧
  (2 ≤ x.errs → ∀ e ∈ (engine t x.port (pHalf x)).descs, e.pipe ≠ n)

theorem ErrorCounted.from (h : SameErrs s u) (c : ErrorCounted n x u t) : ErrorCounted n x s t := by
  obtain ⟨hr, hx⟩ := h x.port (pHalf x)
  obtain ⟨cr, cx, gone⟩ := c
  exact ⟨hr ▸ cr, hx ▸ cx, gone⟩

theorem modDesc_pipe {g : Desc → Desc} : pipe (modDesc n g s) n = pipe s n := by
  unfold modDesc; split <;> rfl

theorem modDesc_sameErrs {g : Desc → Desc} (hg : ∀ d, (g d).pipe = d.pipe) : SameErrs s (modDesc n g s) :=
  (modDesc_eff (ps := [.engines]) hg (Eff.refl _ s)).sameErrs

/-- The pipe that the error is counted for may stand otherwise in the state than in the caller's copy, as long as it
stands on the same half. -/
theorem busError_counts_at (hy : pipe s n = some y) (hp : y.port = x.port) (hh : pHalf y = pHalf x)
    (hk : x.kind ≠ .iso) (hc : x.state ≠ .closing) : ErrorCounted n x s (busError n x d a b ra s) := by
  obtain ⟨s1, e1⟩ : ∃ u, u = modDesc n (fun d => { d with used := d.used + b, csOut := false }) (stampPipe x s) :=
    ⟨_, rfl⟩
  have p1 : pipe s1 n = some y := by rw [e1, modDesc_pipe, stampPipe_pipe, hy]
  have h1 : SameErrs s s1 := by rw [e1]; exact stampPipe_eff.sameErrs.trans (modDesc_sameErrs fun _ => rfl)
  refine .from h1 ?_
  by_cases he : 2 ≤ x.errs
  · have ht : busError n x d a b ra s =
        errorOut n x 4 a (modEngine x.port (pHalf x) (fun e => { e with xerrs := e.xerrs + 1 }) s1) := by
      simp only [busError, if_neg hk, if_neg hc, if_pos he, e1]
    have h2 := errorOut_sameErrs (n := n) (x := x) (a := 4) (b := a)
      (s := modEngine x.port (pHalf x) (fun e => { e with xerrs := e.xerrs + 1 }) s1) x.port (pHalf x)
    rw [engine_modEngine_same] at h2
    rw [ht]
    refine ⟨by rw [h2.1, if_neg (by omega)]; simp, by rw [h2.2, if_neg (by omega)], fun _ => ?_⟩
    rw [← hp, ← hh]
    exact errorOut_gone p1
  · have ht : SameErrs (modEngine x.port (pHalf x) (fun e => { e with retries := e.retries + 1 })
        (modPipe n (fun y => { y with errs := y.errs + 1 }) s1)) (busError n x d a b ra s) := by
      simp only [busError, if_neg hk, if_neg hc, if_neg he, ← e1]
      generalize modEngine _ _ _ (modPipe n _ s1) = u
      exact .ite finishBurst_sameErrs (.ite (.ite sendAck_eff.sameErrs (.ite (modDesc_sameErrs fun _ => rfl)
        resend_eff.sameErrs)) (.ite retryNow_sameErrs finishBurst_sameErrs))
    obtain ⟨hr, hx⟩ := ht x.port (pHalf x)
    have hm : SameErrs s1 (modPipe n (fun y => { y with errs := y.errs + 1 }) s1) := modPipe_eff.sameErrs
    obtain ⟨pr, px⟩ := hm x.port (pHalf x)
    rw [engine_modEngine_same] at hr hx
    refine ⟨?_, ?_, fun h => absurd h he⟩
    · rw [hr, ← pr, if_pos (by omega)]
    · rw [hx, ← px, if_pos (by omega)]; exact (BitVec.add_zero _).symm

theorem busError_counted (hx : pipe s n = some x) (hk : x.kind ≠ .iso) (hc : x.state ≠ .closing) :
    ErrorCounted n x s (busError n x d a b ra s) :=
  busError_counts_at hx rfl rfl hk hc

/-! ### The commands that find an error -/

section Commands

variable {m : PipeId} {k : Nat} {pkt : InPacket} {ack : Ack}

theorem badPacket_counted (hx : pipe s n = some x) (hk : x.kind ≠ .iso) (hc : x.state ≠ .closing)
    (bad : pkt.crcOk = false ∨ pkt.typeOk = false) : ErrorCounted n x s (dataPacket n k x d pkt s) := by
  unfold dataPacket
  cases hcrc : pkt.crcOk with
  | false => exact busError_counted hx hk hc
  | true =>
    have : pkt.typeOk = false := by simpa [hcrc] using bad
    simp only [this, Bool.not_true, Bool.not_false, if_true, Bool.false_eq_true, if_false]
    exact busError_counted hx hk hc

theorem badAck_counted (hx : pipe s n = some x) (hk : x.kind ≠ .iso) (hc : x.state ≠ .closing)
    (direct : x.split = false ∨ d.csplit = true) (bad : ack.allowed = false ∨ ack.retry = true) :
    ErrorCounted n x s (ackReceived n k x d ack s) := by
  unfold ackReceived
  cases ha : ack.allowed with
  | false => exact busError_counted hx hk hc
  | true =>
    have retry : ack.retry = true := by simpa [ha] using bad
    have dir : (x.split && !d.csplit) = false := by rcases direct with h | h <;> simp [h]
    have kept : SameErrs s (modDesc n (fun d => { d with numP := ack.numP }) s) := modDesc_sameErrs fun _ => rfl
    simp only [retry, dir, Bool.not_true, Bool.false_eq_true, if_true, if_false]
    have hx' : pipe (modDesc n (fun d => { d with numP := ack.numP }) s) n = some x := modDesc_pipe.trans hx
    generalize modDesc n _ s = u at kept hx' ⊢
    exact .from kept (busError_counted hx' hk hc)

theorem setupNak_counted (hx : pipe s n = some x) (hk : x.kind = .control) (stage : x.stage = 0)
    (hc : x.state ≠ .closing) (direct : x.split = false ∨ d.csplit = true) : ErrorCounted n x s (nak n x d s) := by
  have dir : (!x.split || d.csplit) = true := by rcases direct with h | h <;> simp [h]
  unfold nak
  rw [if_pos (by simp [hk, stage, dir])]
  obtain ⟨z, hz, port, half⟩ := modPipe_place (g := fun y => { y with nrdys := y.nrdys + 1 }) (fun _ => ⟨rfl, rfl⟩) hx
  exact .from modPipe_eff.sameErrs (busError_counts_at hz port half (by simp [hk]) hc)

end Commands

/-- Settles O31: every command that finds an error on a packet of the burst counts it by way of `busError`. -/
theorem busErrorsAreCounted : Obligations.BusErrorsAreCounted := by
  rintro n x d s ⟨hd, hl⟩ hk hc counted
  have hx : pipe s n = some x := (descOf_some hd).1
  refine ⟨?_, fun split csplit => ?_, fun pkt k hk' rcv direct bad => ?_, fun a k hk' snd direct bad => ?_,
    fun ctl stage half direct => ?_⟩
  · have run : exec (.responseTimeout n) s = .next (busError n x d 2 (hsCharge x.speed) false s) := by
      show execResponseTimeout n s = _
      rw [execResponseTimeout, hd]
      exact when_of (by simp [hl, hk])
    exact ⟨_, run, busError_counted hx hk hc⟩
  · have run : exec (.hubErrReceived n) s = .next (busError n x d 5 (hsCharge x.speed) false s) := by
      show execHubErrReceived n s = _
      rw [execHubErrReceived, hd]
      exact when_of (by simp [hl, split, csplit])
    exact ⟨_, run, busError_counted hx hk hc⟩
  · have run : exec (.dataPacketReceived n pkt) s = .next (dataPacket n k x d pkt s) := by
      show execDataPacketReceived n pkt s = _
      rw [execDataPacketReceived, hd]
      simp only [hk']
      exact when_of (by rcases direct with h | h <;> simp [hl, rcv, h])
    exact ⟨_, run, badPacket_counted hx hk hc bad⟩
  · have run : exec (.ackReceived n a) s = .next (ackReceived n k x d a s) := by
      show execAckReceived n a s = _
      rw [execAckReceived, hd]
      simp only [hk']
      exact when_of (by simp [hl, snd])
    exact ⟨_, run, badAck_counted hx hk hc direct bad⟩
  · have run : exec (.nakReceived n) s = .next (nak n x d s) := by
      show execNakReceived n s = _
      rw [execNakReceived, hd]
      exact when_of (by simp [hl, half, ctl])
    exact ⟨_, run, setupNak_counted hx ctl stage hc direct⟩

end Sys2Proof.Machine
end

section
/-! Packets of a burst (file 07): why a packet that fits MPS is not always carried. -/

namespace Sys2Proof.Machine

open Sys2Proof

/-- An interrupt IN pipe whose interval admits 8 bytes. -/
def admitsEight : Pipe :=
  { kind := .interrupt, dirIn := true, state := .active, speed := 2, mps := 64, admitBytes := 8, x := some 7 }

/-- The transfer of that pipe. -/
def admittedXfer : Xfer :=
  { type := .inp, inst := 0, q := 5, pipe := some 10, idx := 0, urg := false, sig := (2, 10, 0) }

/-- The burst of that pipe, with its packet on the wire. -/
def admittedBurst : Desc := { pipe := 10, count := 1, onWire := true, charged := 64 }

def admittedState : State :=
  setPipe 10 admitsEight (setXfer 7 admittedXfer (modEngine 0 0 (fun e => { e with descs := [admittedBurst] }) {}))

/-- A packet of 16 bytes: more than the interval admits, less than MPS. -/
def longerThanAdmitted : InPacket :=
  { data := List.replicate 16 0, seq := 0, crcOk := true, typeOk := true, eob := false }

theorem longerThanAdmitted_ends : exec (.dataPacketReceived 10 longerThanAdmitted) admittedState =
    .next (dataPacket 10 7 admitsEight admittedBurst longerThanAdmitted admittedState) :=
  when_of (by decide +kernel)

/-- Refutes O32: an interrupt packet longer than the bytes that its interval still admits is one that is longer than
allowed (R107), although it fits MPS: the burst ends with an error, and no descriptor has carried it. -/
theorem not_packetsAreCarried : ¬ Obligations.PacketsAreCarried := by
  rintro ⟨carries, -⟩
  obtain ⟨t, e, is, found, -⟩ := carries 10 7 admitsEight admittedBurst admittedXfer longerThanAdmitted admittedState
    (by unfold OnWire; decide +kernel) rfl (by decide +kernel) (.inl rfl) rfl rfl (by decide) (by decide +kernel) (by decide +kernel)
    (by decide +kernel) (by decide +kernel)
  rw [← Host.Outcome.next.inj (longerThanAdmitted_ends.symm.trans is)] at found
  have gone : (engine (dataPacket 10 7 admitsEight admittedBurst longerThanAdmitted admittedState) 0 0).descs = [] := by
    decide +kernel
  exact absurd found (by rw [show (admitsEight.port : Nat) = 0 from rfl, show pHalf admitsEight = 0 from rfl, gone]; simp)

end Sys2Proof.Machine
end

section
/-! What reactions leave of the ports: pipes that close, walks that end and bursts that leave an engine wake a half's
link, hold its packets and begin its idle periods, and a removal that waited takes its port out; no state, no change
flag and no counter of a half moves with them. -/

namespace Sys2Proof.Machine

open Sys2Proof

variable {s t u : State}

/-! ### The relation -/

/-- A half as it was, but for its link's wake from a low power state, what waits for it, and its idle period. -/
structure HalfReg.Calm (a b : HalfReg) : Prop where
  same : { b with lstate := 0, recov := 0, lpm := 0, itpDue := false, txHeld := [], sigDue := [] } =
    { a with lstate := 0, recov := 0, lpm := 0, itpDue := false, txHeld := [], sigDue := [] }
  awake : a.lstate = 0 → b.lstate = 0 ∧ b.recov = a.recov

/-- A port as it was, but for calm halves, its engines, its units and its power. -/
structure PortReg.Calm (a b : PortReg) : Prop where
  h0 : a.h0.Calm b.h0
  h1 : a.h1.Calm b.h1
  rest : { b with h0 := {}, h1 := {}, units := [], reserved := [], powered := true, removing := none, e0 := {}, e1 := {} } =
    { a with h0 := {}, h1 := {}, units := [], reserved := [], powered := true, removing := none, e0 := {}, e1 := {} }

def Calm (s t : State) : Prop := ∀ p, (port s p).Calm (port t p)

theorem HalfReg.Calm.refl (a : HalfReg) : a.Calm a := ⟨rfl, fun h => ⟨h, rfl⟩⟩

theorem HalfReg.Calm.trans {a b c : HalfReg} (h : a.Calm b) (k : b.Calm c) : a.Calm c where
  same := k.same.trans h.same
  awake e := ⟨(k.awake (h.awake e).1).1, (k.awake (h.awake e).1).2.trans (h.awake e).2⟩

theorem PortReg.Calm.refl (a : PortReg) : a.Calm a := ⟨.refl _, .refl _, rfl⟩

theorem PortReg.Calm.trans {a b c : PortReg} (h : a.Calm b) (k : b.Calm c) : a.Calm c :=
  ⟨h.h0.trans k.h0, h.h1.trans k.h1, k.rest.trans h.rest⟩

theorem Calm.refl (s : State) : Calm s s := fun _ => .refl _

theorem Calm.step (k : Calm t u) (h : Calm s t) : Calm s u := fun p => (h p).trans (k p)

theorem Calm.ite {c : Prop} [Decidable c] (h : Calm s t) (k : Calm s u) : Calm s (if c then t else u) := by
  split <;> assumption

theorem Calm.foldl {α : Type} {f : State → α → State} (hf : ∀ t x, Calm t (f t x)) (h : Calm s t) (l : List α) :
    Calm s (l.foldl f t) := by
  induction l generalizing t with
  | nil => exact h
  | cons x xs ih => exact ih (.step (hf t x) h)

theorem Calm.upd (h : Calm s t) (e : u.ports = t.ports) : Calm s u := fun p => by
  have : port u p = port t p := by unfold port; rw [e]
  rw [this]
  exact h p

/-- A frame without the halves and the port's own registers is calm. -/
theorem Eff.calm {ps : List Part} (h : Eff ps s t) (free : .halves ∉ ps ∧ .portReg ∉ ps) :
    Calm s t := fun p => by
  have halves := h.touches .halves free.1 p
  have regs := h.touches .portReg free.2 p
  simp only [Prod.mk.injEq] at halves
  refine ⟨halves.1 ▸ .refl _, halves.2 ▸ .refl _, ?_⟩
  exact congrArg (fun r : PortReg => { r with powered := true, removing := none }) regs

theorem modPort_calm {p : Nat} {g : PortReg → PortReg} (hg : (port s p).Calm (g (port s p))) :
    Calm s (modPort p g s) := fun q => by
  rw [port_modPort]
  split_ifs with h
  · exact h ▸ hg
  · exact .refl _

theorem modHalf_calm {p h : Nat} {g : HalfReg → HalfReg} (hg : (halfReg s p h).Calm (g (halfReg s p h))) :
    Calm s (modHalf p h g s) := by
  unfold halfReg at hg
  refine modPort_calm ?_
  split_ifs at hg ⊢
  · exact ⟨hg, .refl _, rfl⟩
  · exact ⟨.refl _, hg, rfl⟩

theorem modDesc_calm {n : Nat} {g : Desc → Desc} : Calm s (modDesc n g s) := by
  unfold modDesc
  split
  · exact (modEngine_eff.calm (by decide))
  · exact .refl _

/-! ### What is read of a calm port -/

theorem Calm.half (h : Calm s t) (p i : Nat) : (halfReg s p i).Calm (halfReg t p i) := by
  unfold halfReg
  split_ifs
  · exact (h p).h0
  · exact (h p).h1

/-! ### The base of the reactions -/

/-- A packet that meets a sleeping link starts its exit: the half's link state was not U0. -/
theorem bus_calm {p h : Nat} {k : BusPkt} : Calm s (bus p h k s) := by
  unfold bus
  split
  · exact (emit_eff.calm (by decide))
  · rename_i sends
    extract_lets x
    have hx : Calm s x := .ite (emit_eff.calm (by decide)) (.refl _)
    have same : halfReg x p h = halfReg s p h := by unfold x; split <;> rfl
    refine .step (modHalf_calm ⟨rfl, fun awake => ?_⟩) hx
    have asleep : asleep s p h = true := by
      simp only [Bool.or_eq_true, not_or, Bool.not_eq_true', Bool.not_eq_false] at sends
      exact sends.2
    rw [same] at awake ⊢
    by_cases hh : h = 0
    · subst hh
      simp [Machine.asleep, awake] at asleep
    · simp [hh, awake]

theorem idleStart_calm {p h : Nat} : Calm s (idleStart p h s) := by
  unfold idleStart
  extract_lets +onlyGivenNames v x
  refine .ite (.refl _) ?_
  extract_lets a
  have ha : Calm s a := modHalf_calm ⟨rfl, fun e => ⟨e, rfl⟩⟩
  exact .ite (.step bus_calm ha) ha

theorem signal_calm {p h : Nat} {k : BusPkt} : Calm s (signal p h k s) := by
  unfold signal
  exact .ite (modHalf_calm ⟨rfl, fun e => ⟨e, rfl⟩⟩) bus_calm

theorem sendSignals_calm {p h : Nat} : Calm s (sendSignals p h s) := by
  unfold sendSignals
  refine .ite (.refl _) ?_
  extract_lets l
  exact .ite (.refl _) (.foldl (fun _ _ => bus_calm) (modHalf_calm ⟨rfl, fun e => ⟨e, rfl⟩⟩) _)

theorem portRemoved_calm {p : Port} : Calm s (portRemoved p s) := by
  unfold portRemoved
  split
  · refine .ite (.refl _) ?_
    extract_lets a b
    have ha : Calm s a := .step (modPort_calm ⟨.refl _, .refl _, rfl⟩) (.ite (switchOff_eff.calm (by decide)) (.refl _))
    have hb : Calm s b := .step (modPsched_eff.calm (by decide)) ha
    exact .step (reply_eff.calm (by decide)) (.step (portServiceEvent_eff.calm (by decide)) (.step (capChange_eff.calm (by decide)) hb))
  · exact .refl _

theorem busOut_calm {x : Pipe} {k : BusPkt} : Calm s (busOut x k s) := by
  unfold busOut
  extract_lets x0
  have h0 : Calm s x0 := .ite (.step bus_calm (.refl _)) (.refl _)
  exact .step bus_calm h0

theorem sendPages_calm {x : Pipe} {k m : Nat} : Calm s (sendPages x k m s) := by
  unfold sendPages
  split
  · extract_lets x1 x2 x3 x4 x5 x6
    have h6 : Calm s x6 := .foldl (fun _ _ => .step busOut_calm (.refl _)) (.refl _) _
    exact .step (setXfer_eff.calm (by decide)) h6
  · exact .refl _

theorem sendBurst_calm {n : Nat} {x : Pipe} {pl : Plan} {numP : Nat} : Calm s (sendBurst n x pl numP s) := by
  unfold sendBurst
  extract_lets x0 x1 x2 x3 x4 x5 x8 x13
  have h5 : Calm s x5 := .step (modPipe_eff.calm (by decide)) (.refl _)
  have h8 : Calm s x8 := by
    unfold x8
    split
    · exact .step (modXfer_eff.calm (by decide)) h5
    · exact h5
  have h13 : Calm s x13 := .ite (.step busOut_calm h8) h8
  refine .ite ?_ ?_
  · split
    · exact .step busOut_calm h13
    · exact h13
  · refine .ite (.step busOut_calm h13) ?_
    refine .ite (.ite (.step busOut_calm h13) (.step busOut_calm h13)) ?_
    refine .ite (.step busOut_calm h13) ?_
    refine .ite (.step busOut_calm h13) ?_
    extract_lets x38
    split
    · exact .step modDesc_calm (.step sendPages_calm h13)
    · exact h13

theorem startDesc_calm {p h : Nat} {d : Desc} : Calm s (startDesc p h d s) := by
  unfold startDesc
  split
  · refine .ite ?_ (.refl _)
    split
    · exact .ite (.refl _) (.step (ssDone_eff.calm (by decide)) (.step sendBurst_calm (modEngine_eff.calm (by decide))))
    · exact .refl _
  · exact .refl _

/-! ### The reactions -/

theorem erasePipe_calm {n : Nat} : Calm s (erasePipe n s) := by
  unfold erasePipe
  split
  · extract_lets x1 x5 x10 x13
    have h1 : Calm s x1 := .step (unlink_eff.calm (by decide)) (.refl _)
    have h5 : Calm s x5 := .ite (.step (modPsched_eff.calm (by decide)) h1) h1
    have h10 : Calm s x10 := .step (modEngine_eff.calm (by decide)) h5
    have h13 : Calm s x13 := .step (ltrUpdate_eff.calm (by decide)) (.step (closeEndpoint_eff.calm (by decide)) (.step (dropCtx_eff.calm (by decide)) (.step
      (delPipe_eff.calm (by decide)) h10)))
    exact .step portRemoved_calm (.ite (.step idleStart_calm h13) h13)
  · exact .refl _

theorem closeDone_calm {n : Nat} : Calm s (closeDone n s) := by
  unfold closeDone
  split
  · refine .ite ?_ (.refl _)
    extract_lets x2
    have h2 : Calm s x2 := .foldl (fun _ _ => .step (complete_eff.calm (by decide)) (.step (detach_eff.calm (by decide)) (.refl _))) (.refl _) _
    exact .step erasePipe_calm (.step (replyPipe_eff.calm (by decide)) h2)
  · exact .refl _

theorem dropXfer_calm {k : Nat} {c : Cpl} : Calm s (dropXfer k c s) := by
  unfold dropXfer
  split
  · extract_lets x1 x2 x3
    have h3 : Calm s x3 := .step (keepPlace_eff.calm (by decide)) (.step (endChain_eff.calm (by decide)) (.step (freeXfer_eff.calm (by decide)) (.step
      (detachXfer_eff.calm (by decide)) (.refl _))))
    split
    · exact .step closeDone_calm h3
    · exact h3
  · exact .refl _

theorem startCopy_calm {r : EntRef} : Calm s (startCopy r s) := by
  unfold startCopy
  split
  · split
    · extract_lets x2 x3 x9
      have h3 : Calm s x3 := .upd (.refl _) rfl
      have h9 : Calm s x9 := .step (newXfer_eff.calm (by decide)) h3
      exact .ite (.step dropXfer_calm h9) (.step (askPages_eff.calm (by decide)) (.step (queueJob_eff.calm (by decide)) h9))
    · exact .refl _
  · exact .upd (.refl _) rfl

theorem retryBlocked_calm : Calm s (retryBlocked s) := by
  unfold retryBlocked
  extract_lets x0
  have h0 : Calm s x0 := .foldl (fun _ _ => .step (startHeads_eff.calm (by decide)) (.step (unblock_eff.calm (by decide)) (.refl _))) (.refl _) _
  exact .foldl (fun _ _ => .step startCopy_calm (.refl _)) h0 _

theorem endXfer_calm {k : Nat} {c : Cpl} : Calm s (endXfer k c s) := by
  unfold endXfer
  exact .step retryBlocked_calm (.step dropXfer_calm (.refl _))

theorem progress_calm {k : Nat} : Calm s (progress k s) := by
  unfold progress
  extract_lets x0
  have h0 : Calm s x0 := .step (passEntries_eff.calm (by decide)) (.step (tunnelOffer_eff.calm (by decide)) (.refl _))
  split
  · extract_lets +onlyGivenNames x5
    have h5 : Calm s x5 := .ite (.step (markStarted_eff.calm (by decide)) h0) h0
    refine .ite (.step (settleJob_eff.calm (by decide)) h5) ?_
    split
    · extract_lets x15 x16
      have h16 : Calm s x16 := .ite h5 (.step (detachXfer_eff.calm (by decide)) h5)
      exact .ite (.step endXfer_calm h16) (.step (settleJob_eff.calm (by decide)) h16)
    · exact .ite (.step endXfer_calm h5) (.step (settleJob_eff.calm (by decide)) h5)
  · exact h0

theorem endBus_calm {k : Nat} {c : Cpl} : Calm s (endBus k c s) := by
  unfold endBus
  split
  · exact .step progress_calm (.step (setXfer_eff.calm (by decide)) (.refl _))
  · exact .refl _

theorem endAll_calm {n : Nat} {started other : Cpl} : Calm s (endAll n started other s) := by
  unfold endAll
  split
  · extract_lets x1 x2 x3
    have h3 : Calm s x3 := .foldl (fun _ _ => .step (complete_eff.calm (by decide)) (.step (detach_eff.calm (by decide)) (.refl _))) (.refl _) _
    split
    · exact .step endBus_calm h3
    · exact h3
  · exact .refl _

theorem closeEnded_calm {n : Nat} {x : Pipe} {c : Cpl} : Calm s (closeEnded n x c s) := by
  unfold closeEnded
  refine .step closeDone_calm ?_
  split
  · exact .step endBus_calm (.refl _)
  · exact .refl _

theorem haltPipe_calm {n status errinfo : Nat} : Calm s (haltPipe n status errinfo s) := by
  unfold haltPipe
  split
  · refine .ite (.refl _) ?_
    refine .ite (.step closeEnded_calm (.refl _)) ?_
    extract_lets x6 x7 x8 x12 x15 x20
    have h8 : Calm s x8 := .step (unlink_eff.calm (by decide)) (.refl _)
    have h12 : Calm s x12 := .step (modPipe_eff.calm (by decide)) h8
    have h15 : Calm s x15 := by
      unfold x15
      split
      · exact .step endBus_calm h12
      · exact h12
    have h20 : Calm s x20 := by
      unfold x20
      split
      · exact .ite (.ite (.step (setPipe_eff.calm (by decide)) h15) (.step (link_eff.calm (by decide)) h15)) h15
      · exact h15
    exact .ite (.step (replyPipe_eff.calm (by decide)) h20) h20
  · exact .refl _

theorem unholdXfers_calm {n : Nat} : Calm s (unholdXfers n s) := by
  unfold unholdXfers
  exact .foldl (fun _ _ => .step progress_calm (.refl _)) (.refl _) _

theorem holdPipe_calm {k n : Nat} : Calm s (holdPipe k n s) := by
  unfold holdPipe
  split
  · refine .ite (.step closeEnded_calm (.refl _)) ?_
    refine .ite (.refl _) ?_
    extract_lets x6 x10 x11 x14
    have h6 : Calm s x6 := .step (unlink_eff.calm (by decide)) (.refl _)
    have h11 : Calm s x11 := .step (modPipe_eff.calm (by decide)) h6
    have h14 : Calm s x14 := .step (modOrigin_eff.calm (by decide)) h11
    exact .ite (.step (replyPipe_eff.calm (by decide)) (.step (modPipe_eff.calm (by decide)) h14)) h14
  · exact .refl _

theorem closeGone_calm {n : Nat} : Calm s (closeGone n s) := by
  unfold closeGone
  split
  · refine .ite (.refl _) ?_
    extract_lets x3 x4
    have h4 : Calm s x4 := .step (modPipe_eff.calm (by decide)) (.step (unlink_eff.calm (by decide)) (.step (leaveHeld_eff.calm (by decide)) (.refl _)))
    exact .step erasePipe_calm (.step (replyPipe_eff.calm (by decide)) (.step endAll_calm (.step unholdXfers_calm h4)))
  · exact .refl _

theorem drainReport_calm {r : Report} : Calm s (drainReport r s) := by
  unfold drainReport
  split
  · split
    · exact .ite (.step endBus_calm (.refl _)) (.refl _)
    · exact .refl _
  · exact .refl _

theorem echo_calm {k : Nat} {r : Report} : Calm s (echo k r s) := by
  unfold echo
  extract_lets x0
  have h0 : Calm s x0 := .step (modOrigin_eff.calm (by decide)) (.refl _)
  split
  · exact .ite h0 (.step drainReport_calm (.step holdPipe_calm h0))
  · exact .ite h0 (.step closeGone_calm h0)
  · exact h0

theorem noFault_calm {r : Report} : Calm s (noFault r s) := by
  unfold noFault
  exact .ite (.refl _) (.step haltPipe_calm (.refl _))

theorem portWalk_calm {r : Report} : Calm s (portWalk r s) := by
  unfold portWalk
  extract_lets x0
  split
  · exact .ite (.step echo_calm (.refl _)) (.step (portOrigin_eff.calm (by decide)) (.step closeGone_calm (.refl _)))
  · exact .ite (.refl _) (.step echo_calm (.refl _))

theorem judge_calm {r : Report} : Calm s (judge r s) := by
  unfold judge
  split
  · refine .ite (.step echo_calm (.refl _)) ?_
    split
    · exact .step echo_calm (.refl _)
    · refine .ite (.step noFault_calm (.refl _)) ?_
      refine .ite (.step portWalk_calm (.refl _)) ?_
      split
      · exact .step noFault_calm (.refl _)
      · exact .upd (.refl _) rfl
  · split
    · exact .step echo_calm (.refl _)
    · exact .refl _

theorem report_calm {r : Report} : Calm s (report r s) := by
  unfold report
  split
  · split
    · exact .ite (.step echo_calm (.refl _)) (.ite (.upd (.refl _) rfl) (.step judge_calm (.refl _)))
    · exact .upd (.refl _) rfl
  · exact .step judge_calm (.refl _)

theorem endWalk_calm {key : Nat} : Calm s (endWalk key s) := by
  unfold endWalk
  extract_lets x0 x1 x4 x5 x6
  have h1 : Calm s x1 := .upd (.refl _) rfl
  have h6 : Calm s x6 := .upd h1 rfl
  exact .foldl (fun _ _ => .step report_calm (.refl _)) h6 _

theorem startSplitOf_calm {p : Nat} {d : Desc} : Calm s (startSplitOf p d s) := by
  unfold startSplitOf
  split
  · refine .ite (.refl _) ?_
    extract_lets +onlyGivenNames x3 x4 x5 x6 x10
    have h6 : Calm s x6 := .step (setPipe_eff.calm (by decide)) (.refl _)
    refine .ite (.ite h6 (.step modDesc_calm h6)) ?_
    refine .ite h6 ?_
    refine .ite ?_ (.step busOut_calm (.step modDesc_calm (.step (splitDispatch_eff.calm (by decide)) h6)))
    extract_lets x20 x21 x22 x23
    have h23 : Calm s x23 := .step busOut_calm (.step (splitDispatch_eff.calm (by decide)) h6)
    exact .step busOut_calm h23
  · exact .refl _

theorem startNext_calm {p h : Nat} : Calm s (startNext p h s) := by
  unfold startNext
  extract_lets x0
  have h0 : Calm s x0 := .ite (.foldl (fun _ _ => .step startSplitOf_calm (.refl _)) (.refl _) _) (.refl _)
  exact .foldl (fun _ _ => .step startDesc_calm (.refl _)) h0 _

theorem settleBurst_calm {n : Nat} : Calm s (settleBurst n s) := by
  unfold settleBurst
  split
  · extract_lets x1 x2 x3 x7 x12 x15 x18
    have h3 : Calm s x3 := .step (modEngine_eff.calm (by decide)) (.refl _)
    have h7 : Calm s x7 := .ite (.step idleStart_calm h3) h3
    have h12 : Calm s x12 := .step sendSignals_calm h7
    have h15 : Calm s x15 := .step (chargeRoom_eff.calm (by decide)) h12
    have h18 : Calm s x18 := .ite h15 (.ite (.step (modPsched_eff.calm (by decide)) (.step (modPipe_eff.calm (by decide)) h15)) h15)
    split
    · exact .ite h18 (.step (modPsched_eff.calm (by decide)) h18)
    · exact h18
  · exact .refl _

theorem drainCheck_calm {n : Nat} : Calm s (drainCheck n s) := by
  unfold drainCheck
  split
  · split
    · exact .ite (.step progress_calm (.ite (.step (unpause_eff.calm (by decide)) (.refl _)) (.refl _))) (.ite (.step endBus_calm
        (.step (unpause_eff.calm (by decide)) (.refl _))) (.refl _))
    · exact .refl _
  · exact .refl _

theorem burstClosed_calm {n : Nat} {x : Pipe} : Calm s (burstClosed n x s) := by
  unfold burstClosed
  split
  · exact .step endAll_calm (.refl _)
  · exact .step endBus_calm (.refl _)
  · exact .refl _

theorem finishBurst_calm {n : Nat} {how : BurstEnd} : Calm s (finishBurst n how s) := by
  unfold finishBurst
  split
  · exact .refl _
  · extract_lets x2 x3 x6 x11 x14 x19 x23
    have h3 : Calm s x3 := .step settleBurst_calm (.refl _)
    have h6 : Calm s x6 := by
      unfold x6
      split
      · exact .step (modXfer_eff.calm (by decide)) h3
      · exact h3
    have h11 : Calm s x11 := .step (modPipe_eff.calm (by decide)) h6
    have h14 : Calm s x14 := .ite (.step (retryStore_eff.calm (by decide)) h11) h11
    have h19 : Calm s x19 := .step (freeTt_eff.calm (by decide)) (.step (streamAfter_eff.calm (by decide)) h14)
    have h23 : Calm s x23 := by
      unfold x23
      split
      · exact .step (burstState_eff.calm (by decide)) h19
      · exact .step burstClosed_calm h19
      · exact h19
    exact .step startNext_calm (.step (streamEmpty_eff.calm (by decide)) (.step closeDone_calm (.step drainCheck_calm h23)))

theorem closePipe_calm {n : Nat} {soft : Bool} {started other : Cpl} : Calm s (closePipe n soft started
    other s) := by
  unfold closePipe
  extract_lets +onlyGivenNames x0 x4 x5 x6 x7 x8
  have h0 : Calm s x0 := .step (unlink_eff.calm (by decide)) (.step (leaveHeld_eff.calm (by decide)) (.refl _))
  have h8 : Calm s x8 := .step unholdXfers_calm (.step (modPipe_eff.calm (by decide)) h0)
  refine .ite h8 ?_
  extract_lets x14 x17 x20 x27
  have h14 : Calm s x14 := .step settleBurst_calm h8
  have h17 : Calm s x17 := .step (modPipe_eff.calm (by decide)) h14
  have h20 : Calm s x20 := by
    unfold x20
    split
    · exact .ite (.step (freeTt_eff.calm (by decide)) h17) h17
    · exact h14
  have h27 : Calm s x27 := by
    unfold x27
    split
    · exact .step (modXfer_eff.calm (by decide)) h20
    · exact h20
  exact .step erasePipe_calm (.step (replyPipe_eff.calm (by decide)) (.step endAll_calm h27))

theorem closePipes_calm {ns : List Nat} {soft : Bool} {status errinfo : Nat} : Calm s (closePipes ns soft
    status errinfo s) := by
  unfold closePipes
  refine .foldl (fun _ _ => ?_) (.refl _) _
  split
  · exact .step closePipe_calm (.refl _)
  · exact .refl _

theorem closeHalf_calm {p : Port} {h : Half} {status errinfo : Nat} : Calm s (closeHalf p h status errinfo
    s).1 := by
  unfold closeHalf
  extract_lets x0 x1 x2 x3 x4 x9 x12 x17 x24
  have h4 : Calm s x4 := .ite (.step (portOrigin_eff.calm (by decide)) (.refl _)) (.refl _)
  have h9 : Calm s x9 := .step closePipes_calm h4
  have h12 : Calm s x12 := .ite h9 (.step (portOrigin_eff.calm (by decide)) h9)
  have h17 : Calm s x17 := by
    unfold x17
    split
    · exact .ite h12 (.step echo_calm h12)
    · exact h12
  have h24 : Calm s x24 := .step endWalk_calm h17
  exact .step (freeHalf_eff.calm (by decide)) (.step (endSet_eff.calm (by decide)) h24)

theorem leaveWalk_calm {p : Port} {h : Half} : Calm s (leaveWalk p h s) := by
  unfold leaveWalk
  split
  · exact .ite (.refl _) (.step endWalk_calm (.step portWalk_calm (.refl _)))
  · exact .refl _

theorem losePipe_calm {n : Nat} : Calm s (losePipe n s) := by
  unfold losePipe
  split
  · extract_lets x1 x2
    have h2 : Calm s x2 := .foldl (fun _ _ => .step closePipe_calm (.refl _)) (.refl _) _
    exact .step closePipe_calm h2
  · exact .refl _

end Sys2Proof.Machine
end

section
/-! The halves of a port (file 06): what one move of Table 6-3 leaves, and the requests, ends and connections that are
such moves. -/

namespace Sys2Proof.Machine

open Sys2Proof

variable {s t u : State} {p : Port} {h : Half}

/-! ### What is read of a calm half -/

/-- A field that does not see what a calm half may change. -/
theorem HalfReg.Calm.get {α : Type} {a b : HalfReg} (c : a.Calm b) (f : HalfReg → α)
    (hf : ∀ x, f { x with lstate := 0, recov := 0, lpm := 0, itpDue := false, txHeld := [], sigDue := [] } = f x := by
      intro _; rfl) : f b = f a := by
  rw [← hf b, ← hf a, c.same]

/-- The same of a port. -/
theorem PortReg.Calm.get {α : Type} {a b : PortReg} (c : a.Calm b) (f : PortReg → α)
    (hf : ∀ x, f { x with h0 := {}, h1 := {}, units := [], reserved := [], powered := true, removing := none, e0 := {},
                          e1 := {} } = f x := by intro _; rfl) : f b = f a := by
  rw [← hf b, ← hf a, c.rest]

theorem Calm.get {α : Type} (c : Calm s t) {p i : Nat} (f : HalfReg → α)
    (hf : ∀ x, f { x with lstate := 0, recov := 0, lpm := 0, itpDue := false, txHeld := [], sigDue := [] } = f x := by
      intro _; rfl) : f (halfReg t p i) = f (halfReg s p i) :=
  (c.half p i).get f hf

/-! ### One move -/

/-- A move closes pipes, settles the half in its new state with its flags, and reacts. -/
theorem goHalf_calm (p : Port) (h : Half) (st : HalfSt) (fs : List HFlag) (cause : Nat) (close : Option (Nat × Nat))
    (s : State) : ∃ u, Calm s u ∧
      Calm (modHalf p h (fun x => raises fs (settleHalf h st x)) u) (goHalf p h st fs cause close s) := by
  unfold goHalf
  extract_lets old is r a b
  have hr : Calm s r.1 := by
    unfold r
    cases close with
    | none => exact .refl _
    | some c => exact closeHalf_calm
  have hb : Calm a b := .ite (.step idleStart_calm (.step (reachEnabled_eff.calm (by decide)) (.refl _))) leaveWalk_calm
  exact ⟨r.1, hr, .ite hb (.step (portChange_eff.calm (by decide)) hb)⟩

/-- The half after a move, as a calm half of the settled one. -/
theorem goHalf_half (p : Port) (h : Half) (st : HalfSt) (fs : List HFlag) (cause : Nat) (close : Option (Nat × Nat))
    (s : State) : ∃ x, (halfReg s p h).Calm x ∧
      (raises fs (settleHalf h st x)).Calm (halfReg (goHalf p h st fs cause close s) p h) := by
  obtain ⟨u, before, after⟩ := goHalf_calm p h st fs cause close s
  refine ⟨halfReg u p h, before.half p h, ?_⟩
  have := after.half p h
  rwa [halfReg_modHalf_same] at this

/-- A settled half is in the state that it was settled in. -/
theorem settleHalf_st (st : HalfSt) (x : HalfReg) : (settleHalf h st x).st = st := by
  cases st <;> rfl

theorem raises_st (fs : List HFlag) (x : HalfReg) : (raises fs x).st = x.st := by
  unfold raises
  induction fs generalizing x with
  | nil => rfl
  | cons f fs ih => rw [List.foldl_cons, ih]; cases f <;> rfl

theorem goHalf_st (st : HalfSt) (fs : List HFlag) (cause : Nat) (close : Option (Nat × Nat)) :
    (halfReg (goHalf p h st fs cause close s) p h).st = st := by
  obtain ⟨x, -, after⟩ := goHalf_half p h st fs cause close s
  rw [after.get HalfReg.st, raises_st, settleHalf_st]

/-! ### Requests of PRT_SC -/

theorem blockOf_sc : blockOf (scOff p h) = some (0x10 + p.val) := by
  revert p h; decide +kernel

theorem offCode_sc (up : portUp s p = true) : offCode s (scOff p h) = none := by
  unfold offCode
  rw [blockOf_sc]
  have low : (decide (0x10 ≤ 0x10 + p.val) && decide (0x10 + p.val < 0x18)) = true := by
    simp only [Bool.and_eq_true, decide_eq_true_eq]; omega
  simp only [low, if_true, Nat.add_sub_cancel_left, up, Bool.not_true, Bool.false_eq_true, if_false]

theorem halfReg_woken (q i : Nat) : halfReg (wakeLink (ungate s)) q i = halfReg s q i := rfl

theorem port_woken (q : Nat) : port (wakeLink (ungate s)) q = port s q := rfl

theorem startReset_half (p : Port) (h : Half) (warm : Bool) (close : Option (Nat × Nat)) (s : State) :
    (halfReg (startReset p h warm close s) p h).st = .resetting ∧
    (halfReg (startReset p h warm close s) p h).warm = warm := by
  unfold startReset
  extract_lets a
  have st : (halfReg a p h).st = .resetting := goHalf_st ..
  refine ⟨?_, ?_⟩
  · rw [signal_calm.get HalfReg.st, halfReg_modHalf_same, st]
  · rw [signal_calm.get HalfReg.warm, halfReg_modHalf_same]

theorem startResume_half (p : Port) (h : Half) (host : Bool) (s : State) :
    (halfReg (startResume p h host s) p h).st = .resuming ∧
    (halfReg (startResume p h host s) p h).rsHost = host ∧
    (halfReg (startResume p h host s) p h).rsUnit = !host ∧
    (halfReg (startResume p h host s) p h).plcE = (halfReg s p h).plcE ∧
    (halfReg (startResume p h host s) p h).suspending = false ∧
    (if host then (halfReg (startResume p h host s) p h).wHost = true ∧
        (halfReg (startResume p h host s) p h).hostE = (halfReg s p h).hostE + 1
      else (halfReg (startResume p h host s) p h).unitE = (halfReg s p h).unitE + 1) := by
  unfold startResume
  extract_lets a
  obtain ⟨x, before, after⟩ := goHalf_half p h .resuming [if host then .host else .unit] 0 none s
  change HalfReg.Calm _ (halfReg a p h) at after
  rw [bus_calm.get HalfReg.st, bus_calm.get HalfReg.rsHost, bus_calm.get HalfReg.rsUnit, bus_calm.get HalfReg.plcE,
    bus_calm.get HalfReg.suspending, bus_calm.get HalfReg.wHost, bus_calm.get HalfReg.hostE,
    bus_calm.get HalfReg.unitE, halfReg_modHalf_same]
  refine ⟨goHalf_st .., rfl, rfl, ?_, ?_, ?_⟩
  · rw [← before.get HalfReg.plcE]
    cases host <;> exact after.get HalfReg.plcE
  · cases host <;> exact after.get HalfReg.suspending
  · rw [← before.get HalfReg.hostE, ← before.get HalfReg.unitE]
    cases host
    · exact after.get HalfReg.unitE
    · exact ⟨after.get HalfReg.wHost, after.get HalfReg.hostE⟩

/-! A write of PRT_SC first clears its flags and counts the requests that do not act. -/

section Sc

variable {v : Word}

/-- What a write of PRT_SC leaves for the request that acts. -/
def scCleared (p : Port) (h : Half) (v : Word) (s : State) : State :=
  ignore (b1 (tst v 4) + b1 (tst v 5) + b1 (tst v 6) + b1 (tst v 8) + b1 (tst v 7) - 1) p (modHalf p h (clearSc v) s)

theorem halfReg_ignore (n : Nat) (q i : Nat) : halfReg (ignore n q s) q i = halfReg s q i := by
  unfold ignore halfReg; rw [port_modPort_same]

theorem halfReg_scCleared : halfReg (scCleared p h v s) p h = clearSc v (halfReg s p h) := by
  unfold scCleared; rw [halfReg_ignore, halfReg_modHalf_same]

theorem ignored_modHalf (g : HalfReg → HalfReg) : (port (modHalf p h g s) p).ignored = (port s p).ignored := by
  unfold modHalf; rw [port_modPort_same]; split <;> rfl

theorem ignored_ignore (n : Nat) : (port (ignore n p s) p).ignored = (port s p).ignored + BitVec.ofNat 8 n := by
  unfold ignore; rw [port_modPort_same]

theorem ignored_scCleared : (port (scCleared p h v s) p).ignored = (port s p).ignored +
    BitVec.ofNat 8 (b1 (tst v 4) + b1 (tst v 5) + b1 (tst v 6) + b1 (tst v 8) + b1 (tst v 7) - 1) := by
  unfold scCleared; rw [ignored_ignore, ignored_modHalf]

theorem isoOpen_scCleared : isoOpen (scCleared p h v s) p h = isoOpen s p h := rfl

theorem writeSc_reset (r : tst v 4 = true ∨ tst v 5 = true) :
    writeSc p h v s = reqReset p h (tst v 5) (scCleared p h v s) :=
  if_pos (by rcases r with r | r <;> simp [r])

theorem writeSc_disable (pr : tst v 4 = false) (wpr : tst v 5 = false) (dis : tst v 6 = true) :
    writeSc p h v s = reqDisable p h (scCleared p h v s) :=
  (if_neg (by simp [pr, wpr])).trans (if_pos dis)

theorem writeSc_resume (pr : tst v 4 = false) (wpr : tst v 5 = false) (dis : tst v 6 = false) (res : tst v 8 = true) :
    writeSc p h v s = reqResume p h (scCleared p h v s) :=
  (if_neg (by simp [pr, wpr])).trans ((if_neg (by simp [dis])).trans (if_pos res))

theorem writeSc_suspend (pr : tst v 4 = false) (wpr : tst v 5 = false) (dis : tst v 6 = false) (res : tst v 8 = false)
    (susp : tst v 7 = true) : writeSc p h v s = reqSuspend p h (scCleared p h v s) :=
  (if_neg (by simp [pr, wpr])).trans ((if_neg (by simp [dis])).trans ((if_neg (by simp [res])).trans (if_pos susp)))

end Sc

/-! The requests by the state of the half. -/

section Requests

variable {wpr : Bool}

theorem reqReset_live (live : (halfReg s p h).st = .enabled ∨ (halfReg s p h).st = .suspended) :
    reqReset p h wpr s = startReset p h wpr (some (6, 0)) s := by
  unfold reqReset
  rcases live with e | e <;> simp only [e]

/-- A reset of a half that is DISABLED or RESUMING is a warm reset. -/
theorem reqReset_warm (e : (halfReg s p h).st = .disabled ∨ (halfReg s p h).st = .resuming) :
    (halfReg (reqReset p h wpr s) p h).st = .resetting ∧ (halfReg (reqReset p h wpr s) p h).warm = true := by
  unfold reqReset
  rcases e with e | e <;> simp only [e] <;> exact startReset_half ..

theorem reqReset_ignored (e : (halfReg s p h).st = .poweredOff ∨ (halfReg s p h).st = .resetting) :
    reqReset p h wpr s = ignore 1 p s := by
  unfold reqReset
  rcases e with e | e <;> simp only [e]

theorem reqDisable_live (live : (halfReg s p h).st = .enabled ∨ (halfReg s p h).st = .suspended) :
    (halfReg (reqDisable p h s) p h).st = .disabled := by
  unfold reqDisable
  rcases live with e | e <;> simp only [e] <;> exact goHalf_st ..

theorem reqDisable_ignored (e : (halfReg s p h).st = .resetting ∨ (halfReg s p h).st = .resuming) :
    reqDisable p h s = ignore 1 p s := by
  unfold reqDisable
  rcases e with e | e <;> simp only [e]

theorem reqSuspend_st : (halfReg (reqSuspend p h s) p h).st = (halfReg s p h).st := by
  unfold reqSuspend
  extract_lets x
  split
  · rfl
  · split_ifs
    · rw [halfReg_ignore]
    · rfl
    · rw [signal_calm.get HalfReg.st, halfReg_modHalf_same]
  · rw [halfReg_ignore]

theorem reqSuspend_starts (e : (halfReg s p h).st = .enabled) (free : isoOpen s p h = false) :
    (halfReg (reqSuspend p h s) p h).suspending = true := by
  simp only [reqSuspend, e, free, Bool.false_eq_true, if_false]
  split_ifs with already
  · exact already
  · rw [signal_calm.get HalfReg.suspending, halfReg_modHalf_same]

theorem reqSuspend_ignored (e : (halfReg s p h).st = .enabled) (iso : isoOpen s p h = true) :
    reqSuspend p h s = ignore 1 p s := by
  simp only [reqSuspend, e, iso, if_true]

theorem reqResume_starts (e : (halfReg s p h).st = .suspended) : reqResume p h s = startResume p h true s := by
  simp only [reqResume, e]

end Requests

/-- Where two requests are counted, the one that acts not is added to those that stand aside. -/
theorem ignored_both (i : BitVec 8) (n : Nat) : i + BitVec.ofNat 8 (n + 1 - 1) + BitVec.ofNat 8 1 = i + 1 + BitVec.ofNat 8 n := by
  rw [Nat.add_sub_cancel, BitVec.add_assoc, BitVec.add_comm (BitVec.ofNat 8 n), ← BitVec.add_assoc]
  rfl

/-- Settles O34: the request that acts is decided after the flags are cleared, which leaves the half in its state. -/
theorem portRequestsAct : Obligations.PortRequestsAct := by
  intro p h v s manager up
  have write : regWrite (scOff p h) (writeSc p h v) s = writeSc p h v (wakeLink (ungate s)) :=
    regWrite_of manager (offCode_sc up)
  have woken : halfReg (wakeLink (ungate s)) p h = halfReg s p h := rfl
  have count : (port (wakeLink (ungate s)) p).ignored = (port s p).ignored := rfl
  have iso : isoOpen (wakeLink (ungate s)) p h = isoOpen s p h := rfl
  generalize wakeLink (ungate s) = a at write woken count iso
  have half : halfReg (scCleared p h v a) p h = clearSc v (halfReg s p h) := by rw [halfReg_scCleared, woken]
  have st : (halfReg (scCleared p h v a) p h).st = (halfReg s p h).st := by rw [half]; rfl
  have run : ∀ {t}, writeSc p h v a = t → (.next (regWrite (scOff p h) (writeSc p h v) s) : Res) = .next t :=
    fun e => by rw [write, e]
  refine ⟨fun pr => ⟨_, run (writeSc_reset (.inl pr)), fun live => ?_, fun warm => ?_, fun none => ?_⟩,
    fun wpr => ⟨_, run (writeSc_reset (.inr wpr)), fun e => ?_⟩,
    fun dis pr wpr => ⟨_, run (writeSc_disable pr wpr dis), fun live => ?_, fun none => ?_⟩,
    fun susp pr wpr dis res => ⟨_, run (writeSc_suspend pr wpr dis res susp), ?_, fun e free => ?_, fun e open' => ?_⟩,
    fun res pr wpr dis => ⟨_, run (writeSc_resume pr wpr dis res), fun e => ?_⟩⟩
  · rw [← st] at live
    rw [reqReset_live live]
    exact startReset_half ..
  · exact reqReset_warm (st ▸ warm)
  · rw [reqReset_ignored (st ▸ none), halfReg_ignore, ignored_ignore, ignored_scCleared, count, pr]
    refine ⟨st, ?_⟩
    rw [← ignored_both]
    congr 3
    simp [b1]; omega
  · rcases e with e | e | e | e
    · rw [reqReset_live (.inl (st ▸ e)), wpr]; exact startReset_half ..
    · rw [reqReset_live (.inr (st ▸ e)), wpr]; exact startReset_half ..
    · exact reqReset_warm (.inl (st ▸ e))
    · exact reqReset_warm (.inr (st ▸ e))
  · exact reqDisable_live (st ▸ live)
  · rw [reqDisable_ignored (st ▸ none), halfReg_ignore, ignored_ignore, ignored_scCleared, count, pr, wpr, dis]
    refine ⟨st, ?_⟩
    rw [← ignored_both]
    congr 3
    simp [b1]; omega
  · rw [reqSuspend_st, st]
  · exact reqSuspend_starts (st ▸ e) (isoOpen_scCleared.trans (iso.trans free))
  · rw [reqSuspend_ignored (st ▸ e) (isoOpen_scCleared.trans (iso.trans open')), halfReg_ignore, ignored_ignore,
      ignored_scCleared, count, half, pr, wpr, dis, res, susp]
    refine ⟨rfl, ?_⟩
    simp [b1]
  · rw [reqResume_starts (st ▸ e)]
    obtain ⟨isSt, host, -, -, -, woke, counted⟩ := startResume_half p h true (scCleared p h v a)
    exact ⟨isSt, host, woke, by rw [counted, half]; rfl⟩

end Sys2Proof.Machine
end

section
/-! The halves of a port (file 06): the ends of resets, suspends and resumes (Table 6-4), and connections (Table 6-3). -/

namespace Sys2Proof.Machine

open Sys2Proof

variable {s t u : State} {p : Port} {h : Half}

/-- A field of a half after a move, where the settled half with its flags gives it. -/
theorem goHalf_get {α : Type} {st : HalfSt} {fs : List HFlag} {cause : Nat} {close : Option (Nat × Nat)}
    (f : HalfReg → α) {v : HalfReg → α}
    (hf : ∀ x, f { x with lstate := 0, recov := 0, lpm := 0, itpDue := false, txHeld := [], sigDue := [] } = f x := by
      intro _; rfl)
    (hv : ∀ x, v { x with lstate := 0, recov := 0, lpm := 0, itpDue := false, txHeld := [], sigDue := [] } = v x := by
      intro _; rfl)
    (settled : ∀ x, f (raises fs (settleHalf h st x)) = v x := by intro _; rfl) :
    f (halfReg (goHalf p h st fs cause close s) p h) = v (halfReg s p h) := by
  obtain ⟨x, before, after⟩ := goHalf_half p h st fs cause close s
  rw [after.get f hf, settled, before.get v hv]

theorem inState_iff {st : HalfSt} : inState s p h st = true ↔ portUp s p = true ∧ (halfReg s p h).st = st := by
  simp [inState]

theorem halfReg_setSpeed (v : Nat) : halfReg (setSpeed p h v s) p h = { halfReg s p h with
    speed := BitVec.ofNat 3 v, lanes := if h = 0 then lanesOf v else 0 } := by
  unfold setSpeed
  rw [halfReg_modHalf_same]
  cases h using Fin.cases <;> rfl

/-! ### Ends of resets, suspends and resumes -/

theorem resetTimeout_warm (hot : (halfReg s p 0).warm = false) (st : (halfReg s p 0).st = .resetting) :
    (halfReg (resetTimeout p 0 s) p 0).st = .resetting ∧ (halfReg (resetTimeout p 0 s) p 0).warm = true := by
  have : resetTimeout p 0 s = bus p 0 .warmReset (modHalf p 0 (fun x => { x with warm := true }) s) :=
    if_pos (by simp [hot])
  rw [this, bus_calm.get HalfReg.st, bus_calm.get HalfReg.warm, halfReg_modHalf_same]
  exact ⟨st, rfl⟩

theorem resetTimeout_ends (ends : ¬(h = 0 ∧ (halfReg s p 0).warm = false)) :
    resetTimeout p h s = goHalf p h .disabled [.prc, .err] 0x04 none s := by
  refine if_neg fun c => ends ?_
  simp only [Bool.and_eq_true, decide_eq_true_eq, Bool.not_eq_true'] at c
  obtain ⟨rfl, cold⟩ := c
  exact ⟨rfl, cold⟩

/-- Settles O35: each end is a move of the half with its flags. -/
theorem portMovesEnd : Obligations.PortMovesEnd := by
  refine ⟨fun p h v s resetting allowed => ?_, fun p h s resetting => ?_, fun p h s enabled suspending => ?_,
    fun p h s resuming => ?_, fun p s resuming => ?_, fun p h s asleep => ?_, fun p s enabled l1 => ?_,
    fun p a s enabled => ?_⟩
  · refine ⟨goHalf p h .enabled [.prc] 0x03 none (setSpeed p h v s), when_of (by rw [resetting, allowed]; rfl),
      goHalf_st .., goHalf_get HalfReg.prc (v := fun _ => true), ?_, goHalf_get HalfReg.ccs (v := fun _ => true), ?_⟩
    · rw [goHalf_get HalfReg.prcE (v := fun x => x.prcE + 1), halfReg_setSpeed]
    · rw [goHalf_get HalfReg.speed (v := HalfReg.speed), halfReg_setSpeed]
  · refine ⟨resetTimeout p h s, when_of resetting, ?_⟩
    split_ifs with hot
    · obtain ⟨rfl, cold⟩ := hot
      exact resetTimeout_warm cold (inState_iff.mp resetting).2
    · rw [resetTimeout_ends hot]
      exact ⟨goHalf_st .., goHalf_get HalfReg.errE (v := fun x => x.errE + 1),
        goHalf_get HalfReg.prcE (v := fun x => x.prcE + 1)⟩
  · refine ⟨suspendEnd p h s, when_of (by rw [enabled, suspending]; rfl), ?_⟩
    unfold suspendEnd
    extract_lets wake a
    have sus : (halfReg a p h).suspending = false := goHalf_get HalfReg.suspending (v := fun _ => false)
    have plc : (halfReg a p h).plcE = (halfReg s p h).plcE + 1 := goHalf_get HalfReg.plcE (v := fun x => x.plcE + 1)
    have st : (halfReg a p h).st = .suspended := goHalf_st ..
    split_ifs with w
    · obtain ⟨isSt, -, -, plcE, off, -⟩ := startResume_half p h false a
      exact ⟨off, plcE.trans plc, isSt⟩
    · exact ⟨sus, plc, st⟩
  · refine ⟨resumeEnd p h s, when_of resuming, ?_⟩
    unfold resumeEnd
    extract_lets x a
    rw [(portWake_eff.calm (by decide)).get HalfReg.st, (portWake_eff.calm (by decide)).get HalfReg.plcE]
    exact ⟨goHalf_st .., goHalf_get HalfReg.plcE (v := fun x => x.plcE + 1)⟩
  · refine ⟨u3Timeout p s, when_of resuming, ?_⟩
    unfold u3Timeout
    extract_lets x is a
    rw [(portWake_eff.calm (by decide)).get HalfReg.st, (portWake_eff.calm (by decide)).get HalfReg.pecE, (portWake_eff.calm (by decide)).get HalfReg.errE]
    exact ⟨goHalf_st (h := 0) .., goHalf_get (h := 0) HalfReg.pecE (v := fun x => x.pecE + 1),
      goHalf_get (h := 0) HalfReg.errE (v := fun x => x.errE + 1)⟩
  · refine ⟨unitWake p h s, when_of (by rcases asleep with e | e <;> rw [e] <;> simp), ?_⟩
    rcases asleep with e | e
    · have st := (inState_iff.mp e).2
      simp only [unitWake, st]
      obtain ⟨isSt, -, unit, -, -, counted⟩ := startResume_half p h false (modHalf p h (fun x => { x with fwake := false }) s)
      rw [halfReg_modHalf_same] at counted
      exact ⟨isSt, unit, counted⟩
    · have st := (inState_iff.mp e).2
      simp only [unitWake, st, halfReg_modHalf_same]
      exact ⟨rfl, rfl, rfl⟩
  · have st := (inState_iff (h := 1)).mp enabled
    have run : exec (.unitWake p 1) s = .next (unitWake p 1 s) :=
      when_of (by simp [enabled, l1])
    rw [run]
    have : unitWake p 1 s = bus p 1 .resume s := by
      have e : (halfReg s p ((1 : Half) : Nat)).st = .enabled := st.2
      simp only [unitWake, e]; rfl
    rw [this, bus_signalling rfl]
    rfl
  · refine ⟨functionWake p a s, when_of enabled, ?_⟩
    unfold functionWake
    extract_lets sus
    split_ifs with w
    · rw [halfReg_modHalf_same]
      exact ⟨rfl, rfl, rfl, fun _ => ⟨rfl, rfl⟩⟩
    · rw [(portWake_eff.calm (by decide)).get HalfReg.fwake, (portWake_eff.calm (by decide)).get HalfReg.wAddr, (portWake_eff.calm (by decide)).get HalfReg.unitE,
        halfReg_modHalf_same]
      exact ⟨rfl, rfl, rfl, fun e => absurd e w⟩

/-! ### Connections -/

theorem trainFailed_half (p : Port) (s : State) :
    (halfReg (trainFailed p s) p 0).st = (halfReg s p 0).st ∧ (halfReg (trainFailed p s) p 0).lstate = 4 ∧
    (halfReg (trainFailed p s) p 0).errE = (halfReg s p 0).errE + 1 ∧ (halfReg (trainFailed p s) p 0).tries = 0 := by
  unfold trainFailed
  extract_lets n is
  have still : ∀ {o c d : Nat} {a : State}, halfReg (portChange p 0 is o c d a) p 0 = halfReg a p 0 := fun {o c d a} => by
    unfold halfReg port
    rw [if_pos rfl, if_pos rfl]
    exact (Prod.mk.inj ((portChange_eff (p := p) (h := 0) (is := is) (old := o) (cause := c) (closed := d)
      (s := a)).touches .halves (by decide) p)).1
  rw [still, halfReg_modHalf_same]
  exact ⟨rfl, rfl, rfl, rfl⟩

/-- What a disconnect is of any connected half: a move that clears CCS and counts CSC. -/
theorem disconnect_moves (off : (halfReg s p h).st ≠ .poweredOff) (away : (halfReg s p h).st ≠ .disconnected) :
    (halfReg (disconnect p h s) p h).st = .disconnected ∧ (halfReg (disconnect p h s) p h).ccs = false ∧
    (halfReg (disconnect p h s) p h).cscE = (halfReg s p h).cscE + 1 := by
  unfold disconnect
  cases st : (halfReg s p h).st with
  | poweredOff => exact absurd st off
  | disconnected => exact absurd st away
  | resuming =>
    dsimp only
    refine ⟨goHalf_st .., goHalf_get HalfReg.ccs (v := fun _ => false), ?_⟩
    rw [goHalf_get HalfReg.cscE (v := fun x => x.cscE + 1)]
    exact congrArg (· + 1) ((resumeWake_eff.calm (by decide)).get HalfReg.cscE)
  | _ => exact ⟨goHalf_st .., goHalf_get HalfReg.ccs (v := fun _ => false),
      goHalf_get HalfReg.cscE (v := fun x => x.cscE + 1)⟩

theorem linkFail_half (p : Port) (h : Half) (s : State) :
    (halfReg (linkFail p h s) p h).st = .disabled ∧
    (halfReg (linkFail p h s) p h).pecE = (halfReg s p h).pecE + 1 ∧
    (halfReg (linkFail p h s) p h).errE = (halfReg s p h).errE + 1 ∧
    (halfReg (linkFail p h s) p h).linkErr = (halfReg s p h).linkErr + 1 := by
  unfold linkFail
  extract_lets a b
  have moved : (halfReg b p h).st = .disabled ∧ (halfReg b p h).pecE = (halfReg s p h).pecE + 1 ∧
      (halfReg b p h).errE = (halfReg s p h).errE + 1 ∧ (halfReg b p h).linkErr = (halfReg s p h).linkErr + 1 := by
    refine ⟨goHalf_st .., ?_, ?_, ?_⟩
    · rw [goHalf_get HalfReg.pecE (v := fun x => x.pecE + 1), halfReg_modHalf_same]
    · rw [goHalf_get HalfReg.errE (v := fun x => x.errE + 1), halfReg_modHalf_same]
    · rw [goHalf_get HalfReg.linkErr (v := HalfReg.linkErr), halfReg_modHalf_same]
  split_ifs with z
  · subst z
    have same : halfReg (modHalf p 0 (fun x => { x with lstate := 6 }) b) p (0 : Half) =
        { halfReg b p (0 : Half) with lstate := 6 } := halfReg_modHalf_same ..
    rw [same]
    exact moved
  · exact moved

/-! The loss of lane 1. -/

theorem fitLane1_calm (ix n : Nat) : Calm s (fitLane1 p ix n s).1 := by
  induction n generalizing s with
  | zero => exact .refl _
  | succ n ih =>
    unfold fitLane1
    split
    · exact .refl _
    · split
      · exact .refl _
      · exact .step ih closePipes_calm

theorem lane1Loss_half (p : Port) (s : State) (up : (halfReg s p 0).lstate = 0) :
    (halfReg (lane1Loss p s) p 0).dgcE = (halfReg s p 0).dgcE + 1 ∧
    (halfReg (lane1Loss p s) p 0).recov = (halfReg s p 0).recov + 1 ∧
    (halfReg (lane1Loss p s) p 0).linkErr = (halfReg s p 0).linkErr + 1 ∧
    (halfReg (lane1Loss p s) p 0).lanes = lanesOf (x1Speed (halfReg s p 0).speed.toNat) ∧
    (halfReg (lane1Loss p s) p 0).speed = BitVec.ofNat 3 (x1Speed (halfReg s p 0).speed.toNat) := by
  unfold lane1Loss
  extract_lets a old v b c d e
  have ended : Calm s a := .foldl (fun _ _ => finishBurst_calm) (.refl _) _
  have fitted : Calm c e.1 := .step (fitLane1_calm 1 _) (fitLane1_calm 0 _)
  have cIs : halfReg c p 0 = { halfReg b p 0 with speed := BitVec.ofNat 3 v, lanes := lanesOf v } :=
    halfReg_setSpeed (h := 0) v
  have bIs : halfReg b p 0 = raise .dgc { halfReg a p 0 with
    recov := (halfReg a p 0).recov + 1, linkErr := (halfReg a p 0).linkErr + 1 } := halfReg_modHalf_same ..
  have vIs : v = x1Speed (halfReg s p 0).speed.toNat :=
    congrArg (fun x : BitVec 3 => x1Speed x.toNat) (ended.get (p := p) (i := 0) HalfReg.speed)
  obtain ⟨awake, kept⟩ := (ended.half p 0).awake up
  have whole : Calm c (event 0 0x23 [pack [(p.val, 0), (1, 16), (v, 20)], wd (d.2 + e.2)] e.1) :=
    .step (event_eff.calm (by decide)) fitted
  rw [whole.get HalfReg.dgcE, whole.get HalfReg.linkErr, whole.get HalfReg.lanes, whole.get HalfReg.speed,
    ((whole.half p 0).awake (by rw [cIs, bIs]; exact awake)).2, cIs, bIs, ← vIs, ← kept,
    ← ended.get (p := p) (i := 0) HalfReg.dgcE, ← ended.get (p := p) (i := 0) HalfReg.linkErr]
  exact ⟨rfl, rfl, rfl, rfl, rfl⟩

theorem lanesOf_x1Speed (v : Nat) : lanesOf (x1Speed v) = 1 := by
  unfold x1Speed lanesOf
  split
  · rfl
  · rfl
  · rename_i one three
    rw [if_neg (by simpa using ⟨one, three⟩)]

/-- Settles O36: a connection, a disconnect and a failure are moves of the half with their flags. -/
theorem portConnections : Obligations.PortConnections := by
  refine ⟨fun p v s away live allowed => ⟨?_, ?_⟩, fun p s away live => ?_, fun p s away live comp => ?_,
    fun p low s away => ?_, fun p h s up off away => ?_, fun p h s enabled => ?_, fun p s enabled lanes up => ?_⟩
  · refine ⟨goHalf p 0 .enabled [.csc] 0x01 none (setSpeed p 0 v s), when_of (by rw [away, decide_eq_true live, allowed]; rfl),
      goHalf_st (h := 0) .., goHalf_get (h := 0) HalfReg.ccs (v := fun _ => true), ?_, ?_⟩
    · refine (goHalf_get (h := 0) HalfReg.cscE (v := fun x => x.cscE + 1)).trans ?_
      exact (congrArg (fun x : HalfReg => x.cscE + 1) (halfReg_setSpeed (h := 0) v)).trans rfl
    · refine (goHalf_get (h := 0) HalfReg.speed (v := HalfReg.speed)).trans ?_
      exact congrArg HalfReg.speed (halfReg_setSpeed (h := 0) v)
  · exact when_of (by rw [away, decide_eq_true live, allowed]; rfl)
  · obtain ⟨st, lstate, err, tries⟩ := trainFailed_half p s
    exact ⟨trainFailed p s, when_of (by rw [away, decide_eq_true live]; rfl), st.trans (inState_iff (h := 0).mp away).2, lstate, err, tries⟩
  · have st := (inState_iff (h := 0).mp away).2
    obtain ⟨fSt, fLstate, fErr, -⟩ := trainFailed_half p s
    refine ⟨pollingTimeout p s, when_of (by rw [away, decide_eq_true live, decide_eq_true comp]; rfl), ?_⟩
    unfold pollingTimeout
    split_ifs with compliance last
    · rw [halfReg_modHalf_same]
      exact ⟨st, fun _ => rfl, fun n => absurd compliance (by simp [n]), fun n => absurd compliance (by simp [n])⟩
    · exact ⟨fSt.trans st, fun c => absurd c compliance, fun _ more => absurd last (by omega), fun _ _ => ⟨fLstate, fErr⟩⟩
    · rw [halfReg_modHalf_same]
      exact ⟨st, fun c => absurd c compliance, fun _ _ => ⟨rfl, rfl, rfl⟩, fun _ more => absurd more last⟩
  · refine ⟨usb2Connect p low s, when_of away, goHalf_st (h := 1) .., ?_, ?_, ?_⟩
    · refine (goHalf_get (h := 1) HalfReg.ccs (v := HalfReg.ccs)).trans ?_
      exact congrArg HalfReg.ccs (halfReg_modHalf_same ..)
    · refine (goHalf_get (h := 1) HalfReg.speed (v := HalfReg.speed)).trans ?_
      exact congrArg HalfReg.speed (halfReg_modHalf_same ..)
    · refine (goHalf_get (h := 1) HalfReg.cscE (v := fun x => x.cscE + 1)).trans ?_
      exact (congrArg (fun x : HalfReg => x.cscE + 1) (halfReg_modHalf_same ..)).trans rfl
  · exact ⟨disconnect p h s, when_of (by simp [up, off, away]), disconnect_moves off away⟩
  · exact ⟨linkFail p h s, when_of enabled, linkFail_half p h s⟩
  · obtain ⟨dgc, recov, link, lane, speed⟩ := lane1Loss_half p s up
    exact ⟨lane1Loss p s, when_of (by simp [enabled, lanes]), dgc, recov, link, lane.trans (lanesOf_x1Speed _), speed⟩

end Sys2Proof.Machine
end

section
/-! Type-C and port power (R168–R171): what port power and the channels leave of PRT_TC. -/

namespace Sys2Proof.Machine

open Sys2Proof

variable {s t u : State} {p : Port} {h : Half}

/-- The fields of PRT_TC that port power does not move. -/
def PortReg.wiring (x : PortReg) : Bool × BitVec 2 × BitVec 2 × Bool × Bool × BitVec 8 :=
  (x.pp, x.cc1, x.cc2, x.attached, x.tcChg, x.tcE)

def Wired (s t : State) : Prop := ∀ q, (port t q).wiring = (port s q).wiring

theorem Wired.refl (s : State) : Wired s s := fun _ => rfl

theorem Wired.step (k : Wired t u) (h : Wired s t) : Wired s u := fun q => (k q).trans (h q)

theorem Wired.ite {c : Prop} [Decidable c] (h : Wired s t) (k : Wired s u) : Wired s (if c then t else u) := by
  split <;> assumption

theorem Calm.wired (c : Calm s t) : Wired s t := fun q => (c q).get PortReg.wiring

theorem Eff.wired {ps : List Part} (e : Eff ps s t) (free : .halves ∉ ps ∧ .portReg ∉ ps) :
    Wired s t := (e.calm free).wired

theorem modPort_wired {q : Nat} {g : PortReg → PortReg} (hg : ∀ x, (g x).wiring = x.wiring) :
    Wired s (modPort q g s) := fun r => by
  rw [port_modPort]
  split_ifs with e
  · rw [hg, e]
  · rfl

theorem modHalf_wired {q i : Nat} {g : HalfReg → HalfReg} : Wired s (modHalf q i g s) :=
  modPort_wired fun x => by split <;> rfl

theorem goHalf_wired {st : HalfSt} {fs : List HFlag} {cause : Nat} {close : Option (Nat × Nat)} :
    Wired s (goHalf p h st fs cause close s) := by
  obtain ⟨u, before, after⟩ := goHalf_calm p h st fs cause close s
  exact after.wired.step (modHalf_wired.step before.wired)

theorem halfOn_wired : Wired s (halfOn p h s) := .ite goHalf_wired (.refl _)

theorem halfOff_wired {ei : Nat} : Wired s (halfOff p h ei s) := by
  unfold halfOff
  cases (halfReg s p h).st with
  | poweredOff => exact .refl _
  | resuming => exact goHalf_wired.step (resumeWake_eff.wired (by decide))
  | _ => exact goHalf_wired

theorem portPower_wired {detach : Bool} : Wired s (portPower p detach s) := by
  unfold portPower
  extract_lets +onlyGivenNames on
  refine .ite (.refl _) ?_
  extract_lets c a
  have powered : Wired s a := modPort_wired fun _ => rfl
  exact .ite powered (.ite (halfOn_wired.step (halfOn_wired.step powered))
    (halfOff_wired.step (halfOff_wired.step powered)))

theorem goChan_wired {c : Nat} {st : ChanSt} {g : ChanReg → ChanReg} : Wired s (goChan c st g s) := by
  unfold goChan
  extract_lets x moved y vg y' a b d is e
  have ha : Wired s a := (setChan_eff.wired (by decide))
  have hb : Wired s b := .ite ha ((emit_eff.wired (by decide)).step ha)
  have hd : Wired s d := .ite hb (.ite ((emit_eff.wired (by decide)).step hb) ((emit_eff.wired (by decide)).step hb))
  have he : Wired s e := .ite (Wired.step (.ite portPower_wired (.refl _)) hd) hd
  exact .ite ((chanState_eff.wired (by decide)).step he) he

theorem recheck_wired {c : Nat} : Wired s (recheck c s) := by
  unfold recheck
  extract_lets +onlyGivenNames x
  refine .ite goChan_wired (.ite ?_ (.refl _))
  extract_lets a
  exact .ite (goChan_wired.step goChan_wired) goChan_wired

theorem recheckPort_wired {q : Nat} : Wired s (recheckPort q s) := by
  unfold recheckPort
  split
  · exact recheck_wired
  · exact .refl _

theorem writePp_pp (p : Port) (on : Bool) (s : State) : (port (writePp p on s) p).pp = on := by
  unfold writePp
  split_ifs with same
  · exact same.symm
  · extract_lets a b
    have ha : (port a p).pp = on := by unfold a; rw [port_modPort_same]
    have hb : (port b p).pp = on := (congrArg Prod.fst ((Wired.ite (emit_eff.wired (by decide)) (.refl a) : Wired a b) p)).trans ha
    exact (congrArg Prod.fst (recheckPort_wired.step (portPower_wired (s := b)) p)).trans hb

theorem blockOf_prt : blockOf (prtBase p) = some (0x10 + p.val) := by
  revert p; decide +kernel

theorem offCode_prt (up : portUp s p = true) : offCode s (prtBase p) = none := by
  unfold offCode
  rw [blockOf_prt]
  have low : (decide (0x10 ≤ 0x10 + p.val) && decide (0x10 + p.val < 0x18)) = true := by
    simp only [Bool.and_eq_true, decide_eq_true_eq]; omega
  simp only [low, if_true, Nat.add_sub_cancel_left, up, Bool.not_true, Bool.false_eq_true, if_false]

/-- A CC line's band as the statement gives it. -/
theorem ccBand_eq (old : BitVec 2) (mv : Nat) : ccBand old mv =
    if 2600 < mv then 0 else if 850 ≤ mv ∧ mv ≤ 2450 then 1 else if mv < 750 then 2 else old := by
  unfold ccBand
  simp only [Bool.and_eq_true, decide_eq_true_eq]
  by_cases high : 2600 < mv
  · rw [if_neg (by omega), if_neg (by omega), if_pos high, if_pos high]
  · by_cases low : mv < 750
    · rw [if_pos low, if_neg high, if_neg (by omega), if_pos low]
    · rw [if_neg low, if_neg high, if_neg high, if_neg low]

theorem acceptCc_wiring (p : Port) (s : State) : (port (acceptCc p s) p).wiring =
    ((port s p).pp, (port s p).ccNow1, (port s p).ccNow2,
      decide (((port s p).ccNow1 = 1) ≠ ((port s p).ccNow2 = 1)), true, (port s p).tcE + 1) := by
  unfold acceptCc
  extract_lets x a b att flip acc c d
  have hd : Wired c d := (event_eff.wired (by decide))
  rw [(recheckPort_wired.step (portPower_wired.step hd)) p]
  unfold c
  rw [port_setPort_same]
  rfl

/-- Settles O37: port power and the channels leave PRT_TC as it was written or accepted. -/
theorem portPowerAndTypeC : Obligations.PortPowerAndTypeC := by
  refine ⟨fun p v s manager up => ?_, fun p a b s fused => ?_, fun p s read differs => ?_⟩
  · have run : exec (.portPowerWrite p v) s = .next (writeTc p v (wakeLink (ungate s))) :=
      congrArg Host.Outcome.next (regWrite_of manager (offCode_prt up))
    exact ⟨_, run, writePp_pp ..⟩
  · intro band
    refine ⟨modPort p _ s, when_of fused, ?_, ?_, ?_, ?_⟩
    · rw [port_modPort_same]; exact ccBand_eq ..
    · rw [port_modPort_same]; exact ccBand_eq ..
    · exact (modPort_eff (Eff.refl _ _) fun _ => {}).touches
    · intro q other
      rw [port_modPort, if_neg other]
  · refine ⟨acceptCc p s, when_of ?_, ?_⟩
    · rw [read, Bool.true_and, Bool.or_eq_true, bne_iff_ne, bne_iff_ne]
      exact differs
    · have wiring := acceptCc_wiring p s
      simp only [PortReg.wiring, Prod.mk.injEq] at wiring
      obtain ⟨-, cc1, cc2, attached, changed, counted⟩ := wiring
      exact ⟨cc1, cc2, attached, changed, counted⟩

end Sys2Proof.Machine
end

section
/-! What takes a burst off its engine (R104, R191, R199, R202, R203, R214). -/

namespace Sys2Proof.Machine

open Sys2Proof

variable {n m : Nat} {x y : Pipe} {d : Desc} {s t u : State}

/-- No descriptor of the pipe is in the engine of the place. -/
def NoBurst (s : State) (n p h : Nat) : Prop := ∀ e ∈ (engine s p h).descs, e.pipe ≠ n

theorem descOf_eq_none (hx : pipe s n = some x) (gone : NoBurst s n x.port (pHalf x)) : descOf s n = none := by
  have : (engine s x.port (pHalf x)).descs.find? (fun d => d.pipe = n) = none :=
    List.find?_eq_none.mpr fun e he => by simpa using gone e he
  unfold descOf
  simp only [hx, this]

/-- A burst stays where the pipe stays and the engines keep their bursts. -/
theorem descOf_kept (h : descOf s n = some (x, d)) (same : SameBursts s t) (hy : pipe t n = some y)
    (port : y.port = x.port) (half : pHalf y = pHalf x) : ∃ e, descOf t n = some (y, e) := by
  have mem : n ∈ (engine s x.port (pHalf x)).descs.map (fun d => d.pipe) := by
    have found := (descOf_some h).2
    exact List.mem_map.mpr ⟨d, List.mem_of_find?_eq_some found, by simpa using List.find?_some found⟩
  have kept : (engine t x.port (pHalf x)).descs.map (fun d => d.pipe) =
      (engine s x.port (pHalf x)).descs.map (fun d => d.pipe) := congrArg Prod.fst (same _ _)
  rw [← kept] at mem
  obtain ⟨e, he, hp⟩ := List.mem_map.mp mem
  unfold descOf
  simp only [hy, port, half]
  cases found : (engine t x.port (pHalf x)).descs.find? (fun d => d.pipe = n) with
  | some c => exact ⟨c, rfl⟩
  | none => exact absurd hp (by simpa using List.find?_eq_none.mp found e he)

/-- The end of a burst whose pipe was changed before, but not moved. -/
theorem finishBurst_gone_at {how : BurstEnd} (h : descOf s n = some (x, d)) (same : SameBursts s t)
    (hy : ∃ y, pipe t n = some y ∧ y.port = x.port ∧ pHalf y = pHalf x) :
    NoBurst (finishBurst n how t) n x.port (pHalf x) := by
  obtain ⟨y, hy, port, half⟩ := hy
  obtain ⟨e, he⟩ := descOf_kept h same hy port half
  have := finishBurst_gone (how := how) he
  rwa [port, half] at this

theorem modDesc_sameBursts {g : Desc → Desc} (hg : ∀ d, (g d).pipe = d.pipe) : SameBursts s (modDesc n g s) :=
  (modDesc_eff (ps := [.engines]) hg (Eff.refl _ s)).sameBursts

/-- The pipe stands on its half with its burst, whatever else of it and of the burst has changed. -/
def Stands (n : Nat) (x : Pipe) (s t : State) : Prop :=
  SameBursts s t ∧ ∃ y, pipe t n = some y ∧ y.port = x.port ∧ pHalf y = pHalf x

theorem Stands.refl (hx : pipe s n = some x) : Stands n x s s := ⟨.refl s, x, hx, rfl, rfl⟩

theorem Stands.modPipe {g : Pipe → Pipe} (k : Stands n x s t) (hg : ∀ z, (g z).port = z.port ∧ pHalf (g z) = pHalf z) :
    Stands n x s (modPipe n g t) := by
  obtain ⟨same, y, hy, port, half⟩ := k
  exact ⟨same.trans modPipe_eff.sameBursts, g y, pipe_modPipe_of_some g hy, (hg y).1.trans port, (hg y).2.trans half⟩

theorem Stands.modDesc {g : Desc → Desc} (k : Stands n x s t) (hg : ∀ d, (g d).pipe = d.pipe) :
    Stands n x s (modDesc n g t) := by
  obtain ⟨same, y, hy, place⟩ := k
  exact ⟨same.trans (modDesc_sameBursts hg), y, modDesc_pipe.trans hy, place⟩

theorem Stands.stampPipe {z : Pipe} (k : Stands n x s t) : Stands n x s (stampPipe z t) := by
  obtain ⟨same, y, hy, place⟩ := k
  exact ⟨same.trans stampPipe_eff.sameBursts, y, stampPipe_pipe.trans hy, place⟩

theorem Stands.ite {c : Prop} [Decidable c] (k : Stands n x s t) (l : Stands n x s u) :
    Stands n x s (if c then t else u) := by split <;> assumption

theorem Stands.finished {how : BurstEnd} (h : descOf s n = some (x, d)) (k : Stands n x s t) :
    NoBurst (finishBurst n how t) n x.port (pHalf x) := finishBurst_gone_at h k.1 k.2

theorem nrdy_gone (h : descOf s n = some (x, d)) : NoBurst (nrdy n x s) n x.port (pHalf x) := by
  unfold nrdy
  extract_lets a b c
  have ha : Stands n x s a := .modDesc (Stands.refl (descOf_some h).1).stampPipe fun _ => rfl
  have hb : Stands n x s b := .modPipe ha fun _ => ⟨rfl, rfl⟩
  have hc : Stands n x s c := .ite (.modPipe hb fun _ => ⟨rfl, rfl⟩) hb
  exact hc.finished h

theorem nak_gone (h : descOf s n = some (x, d))
    (handshake : x.kind ≠ .control ∨ x.stage ≠ 0 ∨ (x.split = true ∧ d.csplit = false)) :
    NoBurst (nak n x d s) n x.port (pHalf x) := by
  have later : (x.kind = .control && x.stage = 0 && (!x.split || d.csplit)) = false := by
    rcases handshake with k | st | ⟨split, start⟩
    · simp [k]
    · simp [st]
    · simp [split, start]
  unfold nak
  rw [if_neg (by simp [later])]
  extract_lets a b
  have ha : Stands n x s a := .modDesc (Stands.refl (descOf_some h).1).stampPipe fun _ => rfl
  have hb : Stands n x s b := .modPipe ha fun _ => ⟨rfl, rfl⟩
  exact hb.finished h

/-! ### The end of a split's close -/

/-- The pipe of a settled burst is as it was, but for the charge that it holds pending. -/
theorem pipe_settleBurst (hx : pipe s n = some x) : ∃ k, pipe (settleBurst n s) n = some { x with pend := k } := by
  unfold settleBurst
  split
  · rename_i z e found
    obtain rfl : z = x := by simpa [hx] using (descOf_some found).1.symm
    extract_lets p back a b c v w
    have hc : pipe c n = some z := by
      have e : pipe c n = pipe s n := by
        have : Eff [.halves, .engines, .bursts, .out] s c :=
          .step sendSignals_eff (.ite (.step idleStart_eff (.step modEngine_eff (.refl _ _))) (.step modEngine_eff (.refl _ _)))
        exact this.touches.pipe (by decide) n
      rw [e, hx]
    have hw : ∃ k, pipe w n = some { z with pend := k } := by
      unfold w
      split_ifs
      · exact ⟨z.pend, hc⟩
      · exact ⟨z.pend + back.toNat, pipe_modPipe_of_some _ hc⟩
      · exact ⟨z.pend, hc⟩
    split
    · split_ifs
      · exact hw
      · exact hw
    · exact hw
  · exact ⟨x.pend, hx⟩

/-- A pipe that is not READY is not unblocked. -/
theorem pipe_unblock (why : Nat) (hx : pipe s n = some x) (busy : x.state ≠ .ready) :
    pipe (unblock m why s) n = some x := by
  unfold unblock
  split
  · rename_i y hy
    split_ifs with can
    · have ready : y.state = .ready := by simpa using (Bool.and_eq_true_iff.mp can).2
      have other : n ≠ m := fun e => busy (by
        obtain rfl : x = y := by simpa [e, hy] using hx.symm
        exact ready)
      rw [pipe_link, pipe_setPipe_other _ _ other, hx]
    · exact hx
  · exact hx

theorem pipe_freeTt (hx : pipe s n = some x) (busy : x.state ≠ .ready) : pipe (freeTt y s) n = some x := by
  unfold freeTt
  split
  · exact hx
  · generalize pipesWhere s _ = l
    induction l generalizing s with
    | nil => exact hx
    | cons m l ih => exact ih (pipe_unblock 2 hx busy)

theorem pipe_closeEndpoint (gone : pipe s n = none) : pipe (closeEndpoint y s) n = none := by
  unfold closeEndpoint
  split
  · split_ifs
    · by_cases e : n = y.link
      · rw [e]; exact pipe_delPipe_same s _
      · exact (pipe_delPipe_other s e).trans gone
    · exact gone
  · exact gone

theorem pipe_portRemoved {p : Port} : pipe (portRemoved p s) n = pipe s n := by
  unfold portRemoved
  split
  · split
    · rfl
    · extract_lets a b
      have ha : Eff [.portReg, .out] s a := modPort_eff (.ite switchOff_eff.weaken (Eff.refl _ _)) fun _ => {}
      have hb : pipe b n = pipe a n := rfl
      exact (reply_eff.touches.pipe (by decide) n).trans ((portServiceEvent_eff.touches.pipe (by decide) n).trans
        ((capChange_eff.touches.pipe (by decide) n).trans (hb.trans (ha.touches.pipe (by decide) n))))
  · rfl

theorem pipe_erasePipe : pipe (erasePipe n s) n = none := by
  unfold erasePipe
  split
  · extract_lets a b c d
    have hd : pipe d n = none := by
      have e : pipe d n = pipe (closeEndpoint _ (dropCtx n (delPipe n c))) n := ltrUpdate_eff.touches.pipe (by decide) n
      rw [e]
      exact pipe_closeEndpoint (pipe_delPipe_same _ n)
    rw [pipe_portRemoved]
    split_ifs
    · exact (idleStart_eff.touches.pipe (by decide) n).trans hd
    · exact hd
  · assumption

/-- A pipe that closes goes where neither a transfer nor a burst nor a split of it is left. -/
theorem pipe_closeDone (hx : pipe s n = some x) (closing : x.state = .closing) (idle : x.x = none)
    (off : descOf s n = none) (whole : x.splitOut = false) (free : ∀ kv ∈ s.cis.xfers, kv.2.pipe ≠ some n) :
    pipe (closeDone n s) n = none := by
  have noXfer : s.cis.xfers.any (fun kv => kv.2.pipe = some n) = false := by
    simpa using fun a b mem => free (a, b) mem
  unfold closeDone
  simp only [hx, closing, idle, off, whole, noXfer]
  exact pipe_erasePipe

theorem splitClose_gone (hx : pipe s n = some x) : NoBurst (splitClose n s) n x.port (pHalf x) := by
  unfold splitClose
  extract_lets a b c
  have hb : SameBursts a b := by
    unfold b
    split
    · exact modPipe_eff.sameBursts.trans freeTt_eff.sameBursts
    · exact .refl _
  have done : ∀ t, SameBursts a t → NoBurst t n x.port (pHalf x) := fun t same => same.gone (settleBurst_gone hx)
  split
  · exact done _ ((hb.trans endBus_eff.sameBursts).trans closeDone_eff.sameBursts)
  · exact done _ (hb.trans closeDone_eff.sameBursts)

theorem splitClose_erases (hx : pipe s n = some x) (closing : x.state = .closing) (idle : x.x = none)
    (free : ∀ kv ∈ s.cis.xfers, kv.2.pipe ≠ some n) : pipe (splitClose n s) n = none := by
  obtain ⟨k, ha⟩ := pipe_settleBurst hx
  unfold splitClose
  extract_lets a b c
  have ha' : pipe a n = some { x with pend := k } := ha
  have bIs : b = freeTt { x with pend := k } (modPipe n (fun y => { y with splitOut := false }) a) := by
    unfold b; simp only [ha']
  have hb : pipe b n = some { x with pend := k, splitOut := false } := by
    rw [bIs]
    exact pipe_freeTt (pipe_modPipe_of_some _ ha') (by simp [closing])
  have eff : Eff [.sched, .halves, .engines, .bursts, .out] s b := by
    rw [bIs]
    exact .step freeTt_eff (.step modPipe_eff (.step settleBurst_eff (.refl _ s)))
  have cis : b.cis = s.cis := eff.touches .cistern (by decide)
  have same : SameBursts a b := by rw [bIs]; exact modPipe_eff.sameBursts.trans freeTt_eff.sameBursts
  have noBurst : NoBurst b n x.port (pHalf x) := same.gone (settleBurst_gone hx)
  have off : descOf b n = none := descOf_eq_none hb noBurst
  have none' : (pipe b n).bind (·.x) = none := by rw [hb]; exact idle
  simp only [none']
  exact pipe_closeDone hb closing idle off rfl (by rw [cis]; exact free)

/-! ### Babble -/

theorem babbles_eq {p : Port} (h : babbles s p n = some x) :
    (∃ d, descOf s n = some (x, d)) ∧ x.port = p ∧ pHalf x = 1 := by
  unfold babbles at h
  split at h
  · rename_i y d found
    split_ifs at h with c
    simp only [Option.some.injEq] at h
    subst h
    simp only [Bool.and_eq_true, decide_eq_true_eq] at c
    exact ⟨⟨d, found⟩, c.1.1.1, c.1.1.2⟩
  · simp at h

/-- Settles O30: each handshake ends in `finishBurst` or `errorOut`, which take the pipe's descriptors off. -/
theorem burstsLeaveTheEngine : Obligations.BurstsLeaveTheEngine := by
  refine ⟨fun n x d s ⟨hd, hl⟩ half iso => ?_, fun n x d s ⟨hd, hl⟩ iso direct => ?_,
    fun n x d s ⟨hd, hl⟩ half iso handshake => ?_, fun n x d s hd due off => ?_, fun n x y d e s hd due on sent => ?_,
    fun n x d s hd iso => ?_, fun n x s hx closing split out => ?_, fun p s enabled => when_of enabled,
    fun p n x s babble behind => ?_, fun p n x s babble direct => ?_⟩
  · have run : exec (.nrdyReceived n) s = .next (nrdy n x s) := by
      show execNrdyReceived n s = _
      rw [execNrdyReceived, hd]
      exact when_of (by simp [hl, half, iso])
    exact ⟨_, run, half ▸ nrdy_gone hd⟩
  · have run : exec (.stallReceived n) s = .next (stall n x s) := by
      show execStallReceived n s = _
      rw [execStallReceived, hd]
      exact when_of (by rcases direct with h | h <;> simp [hl, iso, h])
    exact ⟨_, run, errorOut_gone (modDesc_pipe.trans (descOf_some hd).1)⟩
  · have run : exec (.nakReceived n) s = .next (nak n x d s) := by
      show execNakReceived n s = _
      rw [execNakReceived, hd]
      exact when_of (by simp [hl, half, iso])
    exact ⟨_, run, half ▸ nak_gone hd handshake⟩
  · have run : exec (.burstEnd n) s = .next (burstEnd n x d s) := by
      show execBurstEnd n s = _
      rw [execBurstEnd, hd]
      exact when_of due
    refine ⟨_, run, ?_⟩
    unfold burstEnd
    rw [if_neg (by simp [off])]
    exact finishBurst_gone hd
  · have run : exec (.burstEnd n) s = .next (burstEnd n x d s) := by
      show execBurstEnd n s = _
      rw [execBurstEnd, hd]
      exact when_of due
    refine ⟨_, run, ?_⟩
    unfold burstEnd
    rw [if_pos on]
    exact finishBurst_gone sent
  · have still : isoOutSent n x s = s := by
      unfold isoOutSent
      split
      · split
        · exact if_neg (by simp [iso])
        · rfl
      · rfl
    rw [still, hd]
  · have run : exec (.splitCloseTimeout n) s = .next (splitClose n s) := by
      show execSplitCloseTimeout n s = _
      rw [execSplitCloseTimeout, hx]
      exact when_of (by simp [closing, split, out])
    exact ⟨_, run, splitClose_gone hx, splitClose_erases hx closing⟩
  · obtain ⟨⟨d, hd⟩, port, half⟩ := babbles_eq babble
    have run : exec (.endOfFrameGuard p (some n)) s = .next (errorOut n x 3 3 s) := by
      show execEndOfFrameGuard p (some n) s = _
      simp only [execEndOfFrameGuard, babble]
      exact congrArg _ (if_neg (by simpa using behind))
    refine ⟨_, run, ?_⟩
    rw [← port, ← half]
    exact errorOut_gone (descOf_some hd).1
  · have run : exec (.endOfFrameGuard p (some n)) s = .next (linkFail p 1 (errorOut n x 3 3 s)) := by
      show execEndOfFrameGuard p (some n) s = _
      simp only [execEndOfFrameGuard, babble]
      exact congrArg _ (if_pos (by simpa using direct))
    exact ⟨_, run, (linkFail_half p 1 _).1⟩

end Sys2Proof.Machine
end

section
/-! A pipe that closes is gone or CLOSING from then on: what the reactions to a close do to the pipes (R174, R217). -/

namespace Sys2Proof.Machine

open Sys2Proof

variable {s t u : State}

/-! ### The relation -/

/-- The pipe is gone, or it is CLOSING. -/
def Leaving (s : State) (n : Nat) : Prop := ∀ x, pipe s n = some x → x.state = .closing

/-- What leaves goes on leaving. -/
def Fades (s t : State) : Prop := ∀ n, Leaving s n → Leaving t n

theorem Leaving.cases {n : Nat} (h : Leaving s n) : pipe s n = none ∨ ∃ y, pipe s n = some y ∧ y.state = .closing := by
  cases hp : pipe s n with
  | none => exact .inl rfl
  | some y => exact .inr ⟨y, rfl, h y hp⟩

theorem Fades.refl (s : State) : Fades s s := fun _ h => h

theorem Fades.step (k : Fades t u) (h : Fades s t) : Fades s u := fun n l => k n (h n l)

theorem Fades.ite {c : Prop} [Decidable c] (h : Fades s t) (k : Fades s u) : Fades s (if c then t else u) := by
  split <;> assumption

theorem Fades.foldl {α : Type} {f : State → α → State} (hf : ∀ t x, Fades t (f t x)) (h : Fades s t) (l : List α) :
    Fades s (l.foldl f t) := by
  induction l generalizing t with
  | nil => exact h
  | cons x xs ih => exact ih (.step (hf t x) h)

/-- Every pipe is as it was. -/
theorem Fades.of_pipe (same : ∀ n, pipe t n = pipe s n) : Fades s t := fun n h x hx => h x (same n ▸ hx)

theorem Fades.upd (h : Fades s t) (e : u.sched.pipes = t.sched.pipes) : Fades s u :=
  .step (.of_pipe fun n => by unfold pipe; rw [e]) h

theorem Eff.fades {ps : List Part} (h : Eff ps s t) (n : .sched ∉ ps) : Fades s t :=
  .of_pipe (h.touches.pipe n)

/-! ### Operations on pipes -/

theorem setPipe_fades {n : Nat} {x y : Pipe} (hx : pipe s n = some x) (keep : x.state = .closing → y.state = .closing) :
    Fades s (setPipe n y s) := fun m h z hz => by
  by_cases e : m = n
  · subst e
    rw [pipe_setPipe_same, Option.some.injEq] at hz
    exact hz ▸ keep (h x hx)
  · exact h z (pipe_setPipe_other s y e ▸ hz)

theorem modPipe_fades {n : Nat} {g : Pipe → Pipe} (keep : ∀ x, x.state = .closing → (g x).state = .closing) :
    Fades s (modPipe n g s) := by
  unfold modPipe
  split
  · exact setPipe_fades ‹_› (keep _)
  · exact .refl _

theorem delPipe_fades {n : Nat} : Fades s (delPipe n s) := fun m h z hz => by
  by_cases e : m = n
  · rw [e, pipe_delPipe_same] at hz; simp at hz
  · exact h z (pipe_delPipe_other s e ▸ hz)

theorem modPsched_fades {p : Nat} {g : PortSched → PortSched} : Fades s (modPsched p g s) := .upd (.refl s) rfl

theorem setList_fades {p g : Nat} {l : List Nat} : Fades s (setList p g l s) := .upd (.refl s) rfl

theorem dropCtx_fades {n : Nat} : Fades s (dropCtx n s) := .upd (.refl s) rfl

theorem newXfer_fades {k : Nat} {y : Xfer} : Fades s (newXfer k y s) := .upd (setXfer_eff.fades (by decide)) rfl

theorem chargeRoom_fades {p ix : Nat} {c : Int} : Fades s (chargeRoom p ix c s) := modPsched_fades

theorem modDesc_fades {n : Nat} {g : Desc → Desc} : Fades s (modDesc n g s) := by
  unfold modDesc
  split
  · exact (modEngine_eff.fades (by decide))
  · exact .refl _

theorem unblock_fades {n why : Nat} : Fades s (unblock n why s) := by
  unfold unblock
  split
  · rename_i x hx
    refine .ite (.step (.of_pipe (pipe_link n · false)) (setPipe_fades hx id)) (.refl _)
  · exact .refl _

theorem closeEndpoint_fades {x : Pipe} : Fades s (closeEndpoint x s) := by
  unfold closeEndpoint
  split
  · exact .ite (.step dropCtx_fades delPipe_fades) (.refl _)
  · exact .refl _

theorem portRemoved_fades {p : Port} : Fades s (portRemoved p s) := .of_pipe fun _ => pipe_portRemoved

theorem lowerPend_fades {n : Nat} {x : Pipe} {c : Nat} : Fades s (lowerPend n x c s) := by
  unfold lowerPend
  exact .step modPsched_fades (.step (modPipe_fades fun _ h => h) (.refl _))

theorem dropKlass_fades {n : Nat} : Fades s (dropKlass n s) := by
  unfold dropKlass
  split
  · exact .ite (.step modPsched_fades (.step lowerPend_fades (.refl _))) (.refl _)
  · exact .refl _

theorem unlink_fades {n : Nat} : Fades s (unlink n s) := by
  unfold unlink
  split
  · exact .step dropKlass_fades (.step setList_fades (.refl _))
  · exact .refl _

/-- Only a READY pipe becomes IDLE. -/
theorem emptied_fades {n : Nat} : Fades s (emptied n s) := by
  unfold emptied
  split
  · rename_i x hx
    split
    · rename_i can
      have ready : x.state = .ready := by
        simp only [Bool.and_eq_true, decide_eq_true_eq] at can; exact can.1.1
      intro m h z hz
      have hm : m ≠ n := fun e => by
        have := h x (e ▸ hx)
        rw [ready] at this; cases this
      rw [pipe_setPipe_other _ _ hm] at hz
      exact unlink_fades m h z hz
    · exact .refl _
  · exact .refl _

theorem blockPipe_fades {n why : Nat} : Fades s (blockPipe n why s) := by
  unfold blockPipe
  extract_lets x0 x3
  have h0 : Fades s x0 := .step unlink_fades (.refl _)
  exact .step (modPipe_fades fun _ h => h) (.upd h0 rfl)

theorem clearErrs_fades {n : Nat} : Fades s (clearErrs n s) := by
  unfold clearErrs
  split
  · rename_i x hx
    exact .step (modEngine_eff.fades (by decide)) (setPipe_fades hx id)
  · exact .refl _

theorem replyPipe_fades {n : Nat} {code : Nat} : Fades s (replyPipe n code s) := by
  unfold replyPipe
  split
  · rename_i x hx
    refine .foldl (fun _ _ => (replyStop_eff.fades (by decide))) ?_ _
    exact setPipe_fades hx id
  · exact .refl _

theorem dropPages_fades {k : Nat} {kept : Page → Bool} : Fades s (dropPages k kept s) := by
  unfold dropPages
  split
  · extract_lets +onlyGivenNames x1 x2 x3
    have h3 : Fades s x3 := .step (setXfer_eff.fades (by decide)) (.refl _)
    refine .ite h3 ?_
    extract_lets +onlyGivenNames x9 x10 x11
    have h11 : Fades s x11 := .ite h3 (.step (giveShared_eff.fades (by decide)) h3)
    split
    · exact .step unblock_fades h11
    · exact h11
  · exact .refl _

theorem turnPages_fades {k pos : Nat} : Fades s (turnPages k pos s) := by
  unfold turnPages
  exact .step dropPages_fades (.refl _)

theorem tunnelOffer_fades {k : Nat} : Fades s (tunnelOffer k s) := by
  unfold tunnelOffer
  split
  · refine .ite (.refl _) ?_
    split
    · extract_lets +onlyGivenNames x4
      refine .ite (.refl _) ?_
      refine .ite ?_ (.step (tunErdy_eff.fades (by decide)) (.refl _))
      extract_lets +onlyGivenNames x8
      have h8 : Fades s x8 := .step (emit_eff.fades (by decide)) (.refl _)
      exact .step turnPages_fades (.step (setXfer_eff.fades (by decide)) h8)
    · exact .refl _
  · exact .refl _

theorem queueJob_fades {k : Nat} : Fades s (queueJob k s) := by
  unfold queueJob
  split
  · refine .ite ?_ (.ite (.refl _) (.ite (.upd (.refl _) rfl) (.upd (.refl _) rfl)))
    extract_lets x2
    have h2 : Fades s x2 := .step tunnelOffer_fades (.step (feedTunnel_eff.fades (by decide)) (.refl _))
    split
    · exact .step unblock_fades h2
    · exact h2
  · exact .refl _

theorem settleJob_fades {k : Nat} : Fades s (settleJob k s) := by
  unfold settleJob
  extract_lets x0
  have h0 : Fades s x0 := .step (nextJob_eff.fades (by decide)) (.refl _)
  split
  · split
    · exact .ite (.step (unbind_eff.fades (by decide)) h0) h0
    · exact .step queueJob_fades h0
  · exact h0

theorem detach_fades {n : Nat} {q : Nat} {i : Word} : Fades s (detach n q i s) := by
  unfold detach
  exact .step (modPipe_fades fun _ h => h) (.refl _)

theorem endFollowers_fades {n : Option Nat} {q : Nat} {sig : Nat × Nat × Nat} {c : Cpl} {l : List Ent} :
    Fades s (endFollowers n q sig c l s) := by
  induction l generalizing s with
  | nil => exact .refl _
  | cons e es ih =>
    unfold endFollowers
    extract_lets a b
    have ha : Fades s a := by
      unfold a
      split
      · exact detach_fades
      · exact .refl _
    have hb : Fades s b := .ite (.step (leaveWord_eff.fades (by decide)) ha) ha
    exact .step ih (.step (complete_eff.fades (by decide)) hb)

theorem passEntries_fades {fuel k : Nat} : Fades s (passEntries fuel k s) := by
  induction fuel generalizing s with
  | zero => exact .refl _
  | succ fuel ih =>
    unfold passEntries
    split
    · split
      · extract_lets +onlyGivenNames pos len closed
        refine .ite ?_ (.refl _)
        extract_lets c a b d e
        have ha : Fades s a := by
          unfold a
          split
          · exact .step (modPipe_fades fun _ h => h) detach_fades
          · exact .refl _
        have hb : Fades s b := .step (endEntry_eff.fades (by decide)) ha
        have hd : Fades s d := .ite (.step (markStarted_eff.fades (by decide)) hb) hb
        have he : Fades s e := .ite hd (.step (dequeueJob_eff.fades (by decide)) (.step (unbind_eff.fades (by decide)) hd))
        exact .step ih (.step (modXfer_eff.fades (by decide)) he)
      · exact .refl _
    · exact .refl _

theorem activate_fades {n : Nat} {x : Pipe} {r : EntRef} {d : Slot} : Fades s (activate n x r d s) := by
  unfold activate
  split
  · exact .step (modPipe_fades fun _ h => h) (.step newXfer_fades (.refl _))
  · exact .refl _

theorem endIdle_fades {n : Nat} {r : EntRef} : Fades s (endIdle n r s) := by
  unfold endIdle
  split
  · exact .step endFollowers_fades (.refl _)
  · exact .refl _

theorem startHead_fades {fuel n : Nat} : Fades s (startHead fuel n s) := by
  induction fuel generalizing s with
  | zero => exact .refl _
  | succ fuel ih =>
    unfold startHead
    split
    · split
      · refine .ite (.refl _) (.ite (.step ih (.step emptied_fades endIdle_fades)) ?_)
        split
        · refine .ite (.ite ?_ blockPipe_fades) (.refl _)
          split
          · exact .step (askPages_eff.fades (by decide)) (.step queueJob_fades activate_fades)
          · exact .refl _
        · exact .refl _
      · exact .refl _
    · exact .refl _

theorem startHeads_fades {n : Nat} : Fades s (startHeads n s) := by
  unfold startHeads
  exact .step startHead_fades (.refl _)

theorem nextHead_fades {n : Nat} : Fades s (nextHead n s) := by
  unfold nextHead
  split
  · split
    · exact .ite (.step emptied_fades (.refl _)) (.step startHeads_fades (.refl _))
    · exact .step startHeads_fades (.refl _)
    · exact .refl _
  · exact .refl _

theorem detachXfer_fades {k : Nat} : Fades s (detachXfer k s) := by
  unfold detachXfer
  split
  · split
    · refine .ite ?_ (.refl _)
      extract_lets x3 x4
      have h4 : Fades s x4 := .step modDesc_fades (.refl _)
      exact .step nextHead_fades (.step clearErrs_fades (.step (modPipe_fades fun _ h => h) h4))
    · exact .refl _
  · exact .refl _

theorem endChain_fades {x : Xfer} {pos : Nat} {c : Cpl} {chain : List Ent} : Fades s (endChain x pos c
    chain s) := by
  unfold endChain
  split
  · extract_lets x1 x2 x3 x4 x11 x16
    have h4 : Fades s x4 := by
      unfold x4
      split
      · exact .step detach_fades (.refl _)
      · exact .refl _
    have h11 : Fades s x11 := .ite (.step (leaveWord_eff.fades (by decide)) h4) h4
    have h16 : Fades s x16 := .step (endEntry_eff.fades (by decide)) h11
    exact .step endFollowers_fades h16
  · exact .step (leaveWord_eff.fades (by decide)) (.refl _)

theorem erasePipe_fades {n : Nat} : Fades s (erasePipe n s) := by
  unfold erasePipe
  split
  · extract_lets x1 x5 x10 x13
    have h1 : Fades s x1 := .step unlink_fades (.refl _)
    have h5 : Fades s x5 := .ite (.step modPsched_fades h1) h1
    have h10 : Fades s x10 := .step (modEngine_eff.fades (by decide)) h5
    have h13 : Fades s x13 := .step (ltrUpdate_eff.fades (by decide)) (.step closeEndpoint_fades (.step dropCtx_fades (.step
      delPipe_fades h10)))
    exact .step portRemoved_fades (.ite (.step (idleStart_eff.fades (by decide)) h13) h13)
  · exact .refl _

theorem closeDone_fades {n : Nat} : Fades s (closeDone n s) := by
  unfold closeDone
  split
  · refine .ite ?_ (.refl _)
    extract_lets x2
    have h2 : Fades s x2 := .foldl (fun _ _ => .step (complete_eff.fades (by decide)) (.step detach_fades (.refl _))) (.refl _) _
    exact .step erasePipe_fades (.step replyPipe_fades h2)
  · exact .refl _

theorem dropXfer_fades {k : Nat} {c : Cpl} : Fades s (dropXfer k c s) := by
  unfold dropXfer
  split
  · extract_lets x1 x2 x3
    have h3 : Fades s x3 := .step (keepPlace_eff.fades (by decide)) (.step endChain_fades (.step (freeXfer_eff.fades (by decide)) (.step
      detachXfer_fades (.refl _))))
    split
    · exact .step closeDone_fades h3
    · exact h3
  · exact .refl _

theorem startCopy_fades {r : EntRef} : Fades s (startCopy r s) := by
  unfold startCopy
  split
  · split
    · extract_lets x2 x3 x9
      have h3 : Fades s x3 := .upd (.refl _) rfl
      have h9 : Fades s x9 := .step newXfer_fades h3
      exact .ite (.step dropXfer_fades h9) (.step (askPages_eff.fades (by decide)) (.step queueJob_fades h9))
    · exact .refl _
  · exact .upd (.refl _) rfl

theorem retryBlocked_fades : Fades s (retryBlocked s) := by
  unfold retryBlocked
  extract_lets x0
  have h0 : Fades s x0 := .foldl (fun _ _ => .step startHeads_fades (.step unblock_fades (.refl _))) (.refl _) _
  exact .foldl (fun _ _ => .step startCopy_fades (.refl _)) h0 _

theorem endXfer_fades {k : Nat} {c : Cpl} : Fades s (endXfer k c s) := by
  unfold endXfer
  exact .step retryBlocked_fades (.step dropXfer_fades (.refl _))

theorem progress_fades {k : Nat} : Fades s (progress k s) := by
  unfold progress
  extract_lets x0
  have h0 : Fades s x0 := .step passEntries_fades (.step tunnelOffer_fades (.refl _))
  split
  · extract_lets +onlyGivenNames x5
    have h5 : Fades s x5 := .ite (.step (markStarted_eff.fades (by decide)) h0) h0
    refine .ite (.step settleJob_fades h5) ?_
    split
    · extract_lets x15 x16
      have h16 : Fades s x16 := .ite h5 (.step detachXfer_fades h5)
      exact .ite (.step endXfer_fades h16) (.step settleJob_fades h16)
    · exact .ite (.step endXfer_fades h5) (.step settleJob_fades h5)
  · exact h0

theorem endBus_fades {k : Nat} {c : Cpl} : Fades s (endBus k c s) := by
  unfold endBus
  split
  · exact .step progress_fades (.step (setXfer_eff.fades (by decide)) (.refl _))
  · exact .refl _

theorem endAll_fades {n : Nat} {started other : Cpl} : Fades s (endAll n started other s) := by
  unfold endAll
  split
  · extract_lets x1 x2 x3
    have h3 : Fades s x3 := .foldl (fun _ _ => .step (complete_eff.fades (by decide)) (.step detach_fades (.refl _))) (.refl _) _
    split
    · exact .step endBus_fades h3
    · exact h3
  · exact .refl _

theorem unholdXfers_fades {n : Nat} : Fades s (unholdXfers n s) := by
  unfold unholdXfers
  exact .foldl (fun _ _ => .step progress_fades (.refl _)) (.refl _) _

theorem settleBurst_fades {n : Nat} : Fades s (settleBurst n s) := by
  unfold settleBurst
  split
  · extract_lets x1 x2 x3 x7 x12 x15 x18
    have h3 : Fades s x3 := .step (modEngine_eff.fades (by decide)) (.refl _)
    have h7 : Fades s x7 := .ite (.step (idleStart_eff.fades (by decide)) h3) h3
    have h12 : Fades s x12 := .step (sendSignals_eff.fades (by decide)) h7
    have h15 : Fades s x15 := .step chargeRoom_fades h12
    have h18 : Fades s x18 := .ite h15 (.ite (.step modPsched_fades (.step (modPipe_fades fun _ h => h) h15)) h15)
    split
    · exact .ite h18 (.step modPsched_fades h18)
    · exact h18
  · exact .refl _

theorem freeTt_fades {x : Pipe} : Fades s (freeTt x s) := by
  unfold freeTt
  exact .ite (.refl _) (.foldl (fun _ _ => .step unblock_fades (.refl _)) (.refl _) _)

theorem closePipe_fades {n : Nat} {soft : Bool} {started other : Cpl} : Fades s (closePipe n soft started
    other s) := by
  unfold closePipe
  extract_lets +onlyGivenNames x0 x4 x5 x6 x7 x8
  have h0 : Fades s x0 := .step unlink_fades (.step (leaveHeld_eff.fades (by decide)) (.refl _))
  have h8 : Fades s x8 := .step unholdXfers_fades (.step (modPipe_fades fun _ _ => rfl) h0)
  refine .ite h8 ?_
  extract_lets x14 x17 x20 x27
  have h14 : Fades s x14 := .step settleBurst_fades h8
  have h17 : Fades s x17 := .step (modPipe_fades fun _ h => h) h14
  have h20 : Fades s x20 := by
    unfold x20
    split
    · exact .ite (.step freeTt_fades h17) h17
    · exact h14
  have h27 : Fades s x27 := by
    unfold x27
    split
    · exact .step (modXfer_eff.fades (by decide)) h20
    · exact h20
  exact .step erasePipe_fades (.step replyPipe_fades (.step endAll_fades h27))

theorem losePipe_fades {n : Nat} : Fades s (losePipe n s) := by
  unfold losePipe
  split
  · extract_lets x1 x2
    have h2 : Fades s x2 := .foldl (fun _ _ => .step closePipe_fades (.refl _)) (.refl _) _
    exact .step closePipe_fades h2
  · exact .refl _

/-! ### A close -/

/-- A close leaves the pipe gone, or CLOSING while a packet of it is on the wire. -/
theorem closePipe_leaves {n : Nat} {soft : Bool} {started other : Cpl} : Leaving (closePipe n soft started other s) n := by
  unfold closePipe
  extract_lets +onlyGivenNames a wait before other' started' b
  have hb : Leaving b n := by
    refine unholdXfers_fades n fun y hy => ?_
    rw [pipe_modPipe, if_pos rfl] at hy
    obtain ⟨x, -, rfl⟩ := Option.map_eq_some_iff.mp hy
    rfl
  split
  · exact hb
  · extract_lets
    exact fun y hy => absurd (pipe_erasePipe.symm.trans hy) (by simp)

theorem losePipe_leaves {n : Nat} : Leaving (losePipe n s) n := by
  unfold losePipe
  split
  · exact closePipe_leaves
  · rename_i gone
    exact fun y hy => absurd (gone.symm.trans hy) (by simp)

theorem failCellar_fades {c : Nat} : Fades s (failCellar c s) := by
  unfold failCellar
  extract_lets both gone a b d
  have ha : Fades s a := (loseRecords_eff.fades (by decide))
  have hb : Fades s b := .step (resizeLog_eff.fades (by decide)) (.step (modCel_eff.fades (by decide)) ha)
  have hd : Fades s d := .foldl (fun _ _ => losePipe_fades) hb _
  exact .step (capChange_eff.fades (by decide)) (.step (memErrEvent_eff.fades (by decide)) hd)

theorem ueCheck_fades {c : Nat} : Fades s (ueCheck c s) := by
  unfold ueCheck
  exact .ite (.step failCellar_fades (.upd (.refl _) rfl)) (.refl _)

/-! ### A context that arrives -/

section Fill

variable {n : Nat}

theorem intoSet_some {v : State} (h : intoSet n s = some v) :
    v.sched.fills = s.sched.fills ∧ v.sched.pipes = s.sched.pipes ∧ v.sched.cache.any (fun c => c.1 = n) = true := by
  unfold intoSet at h
  extract_lets set at h
  split_ifs at h
  · rw [Option.some.injEq] at h
    subst h
    exact ⟨rfl, rfl, by simp⟩
  · obtain ⟨c, -, rfl⟩ := Option.map_eq_some_iff.mp h
    exact ⟨rfl, rfl, by simp⟩

theorem roomOver_room (room : s.sched.overflow.length < 2048) : roomOver s = s := if_pos room

theorem roomOver_keeps : (roomOver s).sched.fills = s.sched.fills ∧ (roomOver s).sched.pipes = s.sched.pipes := by
  unfold roomOver
  split_ifs
  · exact ⟨rfl, rfl⟩
  · split
    · rename_i m _
      extract_lets src a
      cases h : intoSet m a with
      | none => rw [Option.getD_none]; exact ⟨rfl, rfl⟩
      | some v => rw [Option.getD_some]; exact ⟨(intoSet_some h).1, (intoSet_some h).2.1⟩
    · exact ⟨rfl, rfl⟩

/-- The context goes to the overflow, where that has a place. -/
def spilt (n : Nat) (s : State) : State :=
  let s := roomOver s
  if s.sched.overflow.length < 2048 then { s with sched := { s.sched with overflow := s.sched.overflow ++ [n] } } else s

theorem spilt_keeps : (spilt n s).sched.fills = s.sched.fills ∧ (spilt n s).sched.pipes = s.sched.pipes := by
  unfold spilt
  extract_lets a
  split_ifs <;> exact roomOver_keeps

theorem spilt_holds (room : s.sched.overflow.length < 2048) : n ∈ (spilt n s).sched.overflow := by
  simp [spilt, roomOver_room room, room]

/-- A context that arrives is asked for no more, and is in its set or spilt. -/
theorem fillCtx_eq : ∃ u, u.sched.fills = s.sched.fills.filter (· ≠ n) ∧ u.sched.pipes = s.sched.pipes ∧
    u.sched.overflow = s.sched.overflow ∧ (fillCtx n s = spilt n u ∨ intoSet n u = some (fillCtx n s)) := by
  refine ⟨{ s with sched := { s.sched with fills := s.sched.fills.filter (· ≠ n) } }, rfl, rfl, rfl, ?_⟩
  unfold fillCtx
  extract_lets set src u spill
  split_ifs
  · exact .inl rfl
  · cases h : intoSet n u with
    | none => exact .inl rfl
    | some v => exact .inr (by rw [Option.getD_some])

theorem fillCtx_keeps : (fillCtx n s).sched.fills = s.sched.fills.filter (· ≠ n) ∧
    (fillCtx n s).sched.pipes = s.sched.pipes := by
  obtain ⟨u, fills, pipes, -, h | h⟩ := fillCtx_eq (n := n) (s := s)
  · rw [h, spilt_keeps.1, spilt_keeps.2]; exact ⟨fills, pipes⟩
  · rw [(intoSet_some h).1, (intoSet_some h).2.1]; exact ⟨fills, pipes⟩

theorem fillCtx_holds (room : s.sched.overflow.length < 2048) :
    (fillCtx n s).sched.cache.any (fun c => c.1 = n) = true ∨ n ∈ (fillCtx n s).sched.overflow := by
  obtain ⟨u, -, -, over', h | h⟩ := fillCtx_eq (n := n) (s := s)
  · rw [h]; exact .inr (spilt_holds (over' ▸ room))
  · exact .inl (intoSet_some h).2.2

end Fill

theorem celOf_lt (n : Nat) : celOf s n < 2 := by
  unfold celOf
  split_ifs <;> omega

theorem notAsked {n : Nat} {l : List Nat} : n ∉ l.filter (· ≠ n) := by simp

/-- The counters that an uncorrectable word of the channel leaves, whatever is lost with it. -/
theorem lostWord_counted {c : Fin 2} {n m : Nat} {w k : Nat} {i : Nat} :
    celWords (ueCheck c (losePipe n (memErrEvent w 1 k m i (countUe c s)))) = (celWords s).addUe c 1 ∧
    (ueCheck c (losePipe n (memErrEvent w 1 k m i (countUe c s)))).sump.memUe = true := by
  constructor
  · rw [ueCheck_celWords, losePipe_eff.touches.celWords (by decide), memErrEvent_eff.touches.celWords (by decide),
      celWords_countUe]
  · rw [(ueCheck_eff.touches.ueFlag (by decide)).1, (losePipe_eff.touches.ueFlag (by decide)).1,
      (memErrEvent_eff.touches.ueFlag (by decide)).1]
    unfold countUe
    split_ifs <;> rfl

/-- Settles O29: a good context is in its set or spilt; a lost one closes its pipe, which then leaves. -/
theorem contextsArrive : Obligations.ContextsArrive := by
  intro n s asked
  have run : ∀ a, exec (.contextFill n a) s = .next (ctxArrives n a s) := fun a =>
    when_of (by simpa using asked)
  obtain ⟨c, hc⟩ : ∃ c : Fin 2, celOf s n = c.val := ⟨⟨celOf s n, celOf_lt n⟩, rfl⟩
  refine ⟨⟨_, run .good, ?_, fillCtx_holds, fillCtx_keeps.2⟩, ⟨_, run .corrected, ?_, ?_⟩, ⟨_, run .uncorrectable, ?_, ?_⟩⟩
  · show n.val ∉ (fillCtx n s).sched.fills
    rw [fillCtx_keeps.1]
    exact notAsked
  · show n.val ∉ (countCe (2 + celOf s n) 1 (fillCtx n s)).sched.fills
    have same : (countCe (2 + celOf s n) 1 (fillCtx n s)).sched = (fillCtx n s).sched :=
      countCe_eff.touches .sched (by decide)
    rw [same, fillCtx_keeps.1]
    exact notAsked
  · have counted : celWords (ctxArrives n .corrected s) = (celWords s).addCe c 1 := by
      show celWords (countCe (2 + celOf s n) 1 (fillCtx n s)) = _
      rw [hc, celWords_countCe, fillCtx_eff.touches.celWords (by decide)]
    rw [hc]
    simp only [celWords, CelWords.addCe] at counted
    split_ifs at counted ⊢ with zero <;> simp only [CelWords.mk.injEq] at counted <;>
      exact ⟨by simpa using counted.1, by simpa using counted.2.1⟩
  · exact (ueCheck_fades n losePipe_leaves).cases
  · obtain ⟨counted, flag⟩ := lostWord_counted (s := (takeFree s).2) (c := c) (n := n) (m := n) (w := 4 + c.val)
      (k := (takeFree s).1.toNat) (i := pipeInst s n)
    have is : ctxArrives n .uncorrectable s = ueCheck c (losePipe n (memErrEvent (4 + c.val) 1 (takeFree s).1.toNat n
        (pipeInst s n) (countUe c (takeFree s).2))) := by
      show ueCheck (celOf s n) _ = _
      rw [hc]
    have start : celWords (takeFree s).2 = celWords s := rfl
    rw [is, hc]
    rw [start] at counted
    refine ⟨flag, ?_⟩
    simp only [celWords, CelWords.addUe] at counted
    split_ifs at counted ⊢ with zero <;> simp only [CelWords.mk.injEq] at counted <;>
      exact ⟨by simpa using counted.2.2.1, by simpa using counted.2.2.2⟩

end Sys2Proof.Machine
end

section
/-! Power channels (file 14): what a move and a trip leave in the channel's registers, and the rows of Table 14-2. -/

namespace Sys2Proof.Machine

open Sys2Proof

variable {s t u : State} {c d : Nat} {x : ChanReg}

/-! ### One move -/

theorem chan_congr (h : t.chans = s.chans) (d : Nat) : chan t d = chan s d := by
  unfold chan; rw [h]

/-- The channel's registers after a move from `x`, with `y` prepared for it. -/
def ChanReg.moved (x : ChanReg) (st : ChanSt) (y : ChanReg) : ChanReg :=
  let z : ChanReg := { y with st := st, limiting := (if st = .ramp || st = .on then y.limiting else false) }
  if (x.st = .on) ≠ (st = .on) then { z with vgChg := true, vgE := z.vgE + 1 } else z

theorem tellPort_chans : (tellPort x s).chans = s.chans := tellPort_eff.touches .chans (by decide)

theorem goChan_chans (st : ChanSt) (g : ChanReg → ChanReg) :
    (goChan c st g s).chans = (setChan c ((chan s c).moved st (g (chan s c))) s).chans := by
  unfold goChan
  extract_lets x moved y vg y' a b e is f
  have yIs : y' = (chan s c).moved st (g (chan s c)) := by
    unfold ChanReg.moved y' vg y
    simp only [decide_eq_true_eq]
    rfl
  have hb : b.chans = a.chans := by unfold b; split <;> rfl
  have he : e.chans = a.chans := by unfold e; split_ifs <;> exact hb
  have hf : f.chans = a.chans := by
    unfold f
    split
    · exact tellPort_chans.trans he
    · exact he
  rw [← yIs]
  split
  · exact Eq.trans (show _ = f.chans from chanState_eff.touches .chans (by decide)) hf
  · exact hf

theorem chan_goChan (st : ChanSt) (g : ChanReg → ChanReg) :
    chan (goChan c st g s) c = (chan s c).moved st (g (chan s c)) := by
  rw [chan_congr (goChan_chans st g), chan_setChan_same]

theorem chan_goChan_other (st : ChanSt) (g : ChanReg → ChanReg) (h : d ≠ c) :
    chan (goChan c st g s) d = chan s d := by
  rw [chan_congr (goChan_chans st g), chan_setChan, if_neg h]

theorem moved_still {st : ChanSt} {y : ChanReg} (still : (x.st = .on) = (st = .on)) : x.moved st y =
    { y with st := st, limiting := (if st = .ramp || st = .on then y.limiting else false) } := by
  unfold ChanReg.moved
  exact if_neg (by simp [still])

theorem moved_st (st : ChanSt) (y : ChanReg) : (x.moved st y).st = st := by
  unfold ChanReg.moved
  extract_lets z
  split_ifs <;> rfl

/-- A move that neither enters nor leaves ON is seen by no port. -/
theorem goChan_local {st : ChanSt} {g : ChanReg → ChanReg} (still : ((chan s c).st = .on) = (st = .on)) :
    Eff [.l1, .msg, .fnMsg, .queues, .tunnel, .chans, .gate, .heldEv, .out] s (goChan c st g s) := by
  unfold goChan
  extract_lets x moved y vg y' a b e is f
  have ha : Eff [.chans, .out] s a := setChan_eff.weaken
  have hb : Eff [.chans, .out] s b := .ite ha (.step emit_eff ha)
  have he : Eff [.chans, .out] s e := .ite hb (.ite (.step emit_eff hb) (.step emit_eff hb))
  have hf : f = e := if_neg (by simp [vg, x, still])
  rw [hf]
  exact .ite (.step chanState_eff he.weaken) he.weaken

/-! ### Trips -/

/-- A cause is found by a trip of cause `k`. -/
def isFound (x : ChanReg) (k : TripCause) (found : List TripCause) (z : TripCause) : Bool :=
  z = k || (found.contains z && causeHolds x z)

/-- The cause with the lowest code. -/
def firstCause (p : TripCause → Bool) (k : TripCause) : Nat :=
  if p .short then 1 else if p .thermal then 2 else if p .lowVbus then 3 else if p .supply then 4 else tripCode k

/-- The registers with every cause found counted. -/
def ChanReg.counted (x : ChanReg) (p : TripCause → Bool) : ChanReg :=
  { x with
    shorts := x.shorts + (if p .short then 1 else 0), thermal := x.thermal + (if p .thermal then 1 else 0)
    lowVbus := x.lowVbus + (if p .lowVbus then 1 else 0), supply := x.supply + (if p .supply then 1 else 0) }

/-- The channel's registers after a trip. -/
def ChanReg.tripped (x : ChanReg) (k : TripCause) (found : List TripCause) : ChanReg :=
  { x.counted (isFound x k found) with
    cause := BitVec.ofNat 3 (firstCause (isFound x k found) k), trip := true, tripE := x.tripE + 1
    offLeft := offMs x * 10, st := .cooling, limiting := false
    vgChg := x.vgChg || x.st = .on, vgE := (if x.st = .on then x.vgE + 1 else x.vgE) }

theorem foldl_countCause (p : TripCause → Bool) (x : ChanReg) :
    ([TripCause.short, .thermal, .lowVbus, .supply].filter p).foldl countCause x = x.counted p := by
  unfold ChanReg.counted
  cases hs : p .short <;> cases ht : p .thermal <;> cases hl : p .lowVbus <;> cases hu : p .supply <;>
    simp [hs, ht, hl, hu, countCause]

theorem head_tripCode (p : TripCause → Bool) (k : TripCause) :
    ((([TripCause.short, .thermal, .lowVbus, .supply].filter p).map tripCode).head?).getD (tripCode k) =
      firstCause p k := by
  unfold firstCause
  cases hs : p .short <;> cases ht : p .thermal <;> cases hl : p .lowVbus <;> cases hu : p .supply <;>
    simp [hs, ht, hl, hu, tripCode]

theorem trip_chans (k : TripCause) (found : List TripCause) :
    (trip c k found s).chans = (setChan c ((chan s c).tripped k found) s).chans := by
  unfold trip
  extract_lets ks n x y last a is b on y' e
  have xIs : x = (chan s c).counted (isFound (chan s c) k found) := foldl_countCause ..
  have nIs : n = firstCause (isFound (chan s c) k found) k := head_tripCode ..
  have yIs : y' = (chan s c).tripped k found := by
    unfold y' y on
    rw [nIs, xIs]
    unfold ChanReg.tripped ChanReg.counted offMs
    simp only [decide_eq_true_eq]
  have ha : a.chans = s.chans := by unfold a; split_ifs <;> rfl
  have hb : b.chans = a.chans := events_eff.touches .chans (by decide)
  have he : e.chans = (setChan c ((chan s c).tripped k found) s).chans := by
    unfold e setChan
    rw [yIs, hb, ha]
  split
  · exact Eq.trans (show _ = (tellPort y' e).chans from chanState_eff.touches .chans (by decide))
      (tellPort_chans.trans he)
  · exact he

theorem chan_trip (k : TripCause) (found : List TripCause) :
    chan (trip c k found s) c = (chan s c).tripped k found := by
  rw [chan_congr (trip_chans k found), chan_setChan_same]

theorem chan_trip_other (k : TripCause) (found : List TripCause) (h : d ≠ c) :
    chan (trip c k found s) d = chan s d := by
  rw [chan_congr (trip_chans k found), chan_setChan, if_neg h]

/-- A trip found short goes off fast. -/
theorem trip_out (found : List TripCause) (driven : gateOn s (chan s c) = true) :
    s.out ++ [.gate c false, .gateFast c] <+: (trip c .short found s).out := by
  unfold trip
  extract_lets ks n x y last a is b on y' e
  have nIs : n = firstCause (isFound (chan s c) .short found) .short := head_tripCode ..
  have one : n = 1 := by rw [nIs]; rfl
  have xSt : x.st = (chan s c).st := by
    show ((List.filter _ _).foldl countCause (chan s c)).st = _
    rw [foldl_countCause]; rfl
  have on' : gateOn s x = true := by unfold gateOn at driven ⊢; rwa [xSt]
  have ha : a.out = s.out ++ [.gate c false, .gateFast c] := by
    unfold a
    rw [if_pos on', if_pos one]
    simp [emit]
  have hb : a.out <+: b.out := events_eff.keeps.out
  rw [← ha]
  have he : a.out <+: e.out := hb
  split
  · exact he.trans (tellPort_eff.keeps.out.trans chanState_eff.keeps.out)
  · exact he

/-! ### Permission -/

/-- What permission is read from. -/
theorem permission_congr (en : (chan t c).en = (chan s c).en) (bound : (chan t c).bound = (chan s c).bound)
    (hub : (chan t c).hubBound = (chan s c).hubBound) (at' : (chan t c).port = (chan s c).port)
    (low : t.chans.lowA = s.chans.lowA ∧ t.chans.lowB = s.chans.lowB)
    (regs : ∀ p, (port t p).pp = (port s p).pp ∧ (port t p).attached = (port s p).attached ∧
      (port t p).vbusOk = (port s p).vbusOk ∧ (port t p).cfg = (port s p).cfg)
    (sets : ∀ o, cfg t o = cfg s o) : permission t c = permission s c := by
  unfold permission typeC portCfg cfgPrt
  simp only [en, bound, hub, at', low.1, low.2, regs, sets]

theorem Touches.portKeys {ps : List Part} (h : Touches ps s t) (n : .portReg ∉ ps) (p : Nat) :
    (port t p).pp = (port s p).pp ∧ (port t p).attached = (port s p).attached ∧
    (port t p).vbusOk = (port s p).vbusOk ∧ (port t p).cfg = (port s p).cfg := by
  have same := h .portReg n p
  have pp := congrArg PortReg.pp same
  have attached := congrArg PortReg.attached same
  have vbus := congrArg PortReg.vbusOk same
  have cfg := congrArg PortReg.cfg same
  exact ⟨pp, attached, vbus, cfg⟩

/-- A move that no port sees leaves permission, of the channel and of the others. -/
theorem permission_goChan {st : ChanSt} {g : ChanReg → ChanReg} (still : ((chan s c).st = .on) = (st = .on))
    (keep : (g (chan s c)).en = (chan s c).en ∧ (g (chan s c)).bound = (chan s c).bound ∧
      (g (chan s c)).hubBound = (chan s c).hubBound ∧ (g (chan s c)).port = (chan s c).port) (d : Nat) :
    permission (goChan c st g s) d = permission s d := by
  obtain ⟨en, bound, hub, at'⟩ := keep
  have moved := moved_still (y := g (chan s c)) still
  have low : (goChan c st g s).chans.lowA = s.chans.lowA ∧ (goChan c st g s).chans.lowB = s.chans.lowB := by
    rw [goChan_chans]; exact ⟨rfl, rfl⟩
  have same : ∀ {α : Type} (f : ChanReg → α), f ((chan s c).moved st (g (chan s c))) = f (chan s c) →
      f (chan (goChan c st g s) d) = f (chan s d) := fun f h => by
    by_cases e : d = c
    · rw [e, chan_goChan, h]
    · rw [chan_goChan_other _ _ e]
  refine permission_congr (same ChanReg.en ?_) (same ChanReg.bound ?_) (same ChanReg.hubBound ?_) (same ChanReg.port ?_)
    low ((goChan_local still).touches.portKeys (by decide)) ((goChan_local still).touches.cfg (by decide))
  all_goals rw [moved]; assumption

/-! ### Rechecks and ramps -/

theorem recheck_armed (st : (chan s c).st = .armed) :
    recheck c s = if permission s c then startRamp c id s else s := by
  unfold recheck
  simp [st]

theorem recheck_idle (armed : (chan s c).st ≠ .armed) (ramp : (chan s c).st ≠ .ramp) (on : (chan s c).st ≠ .on) :
    recheck c s = s := by
  unfold recheck
  simp [armed, ramp, on]

theorem chan_startRamp {g : ChanReg → ChanReg} (off : (chan s c).st ≠ .on) :
    (chan (startRamp c g s) c).st = .ramp ∧ (chan (startRamp c g s) c).cfg = chCfg s c 0x100 ∧
    (chan (startRamp c g s) c).retry = chCfg s c 0x104 ∧
    (chan (startRamp c g s) c).count = (g (chan s c)).count := by
  unfold startRamp
  rw [chan_goChan, moved_still (by simp [off])]
  exact ⟨rfl, rfl, rfl, rfl⟩

theorem chan_startRamp_other {g : ChanReg → ChanReg} (h : d ≠ c) : chan (startRamp c g s) d = chan s d :=
  chan_goChan_other _ _ h

/-- A channel that comes to ARMED ramps where it has permission. -/
theorem chan_armed_recheck {g : ChanReg → ChanReg} (off : (chan s c).st ≠ .on)
    (keep : (g (chan s c)).en = (chan s c).en ∧ (g (chan s c)).bound = (chan s c).bound ∧
      (g (chan s c)).hubBound = (chan s c).hubBound ∧ (g (chan s c)).port = (chan s c).port) :
    (chan (recheck c (goChan c .armed g s)) c).st = (if permission s c then .ramp else .armed) ∧
    (permission s c = true → (chan (recheck c (goChan c .armed g s)) c).cfg = chCfg s c 0x100 ∧
      (chan (recheck c (goChan c .armed g s)) c).retry = chCfg s c 0x104) ∧
    (chan (recheck c (goChan c .armed g s)) c).count = (g (chan s c)).count := by
  have still : ((chan s c).st = .on) = (ChanSt.armed = .on) := by simp [off]
  have now : chan (goChan c .armed g s) c = _ := (chan_goChan .armed g).trans (moved_still still)
  have sets : ∀ o, chCfg (goChan c .armed g s) c o = chCfg s c o := fun o =>
    (goChan_local still).touches.cfg (by decide) _
  have perm := permission_goChan still keep c
  have armed : (chan (goChan c .armed g s) c).st = .armed := by rw [now]
  rw [recheck_armed armed, perm]
  by_cases may : permission s c = true
  · rw [if_pos may, if_pos may]
    obtain ⟨st, cfg, retry, count⟩ := chan_startRamp (g := id) (s := goChan c .armed g s) (c := c) (by rw [armed]; decide)
    exact ⟨st, fun _ => ⟨cfg.trans (sets _), retry.trans (sets _)⟩, by rw [count, id, now]⟩
  · rw [if_neg may, if_neg may]
    exact ⟨armed, fun h => absurd h may, by rw [now]⟩

/-! ### CH_CTL -/

section Ctl

variable {v : Word}

theorem writeEn_on (off : (chan s c).st = .off) :
    (chan (writeEn c true s) c).en = true ∧ (chan (writeEn c true s) c).st = .unseated := by
  unfold writeEn
  extract_lets x a
  have now : chan a c = { x with en := true } := chan_setChan_same ..
  rw [if_pos rfl, if_pos off, chan_goChan, now, moved_still (by simp [x, off])]
  exact ⟨rfl, rfl⟩

theorem chan_writeEn_on (on : (chan s c).st ≠ .off) : chan (writeEn c true s) c = { chan s c with en := true } := by
  unfold writeEn
  extract_lets x a
  rw [if_pos rfl, if_neg on]
  exact chan_setChan_same ..

/-- A disable goes OFF; from ON it is seen in VG_CHG. -/
theorem chan_writeEn_off : (chan (writeEn c false s) c).en = false ∧ (chan (writeEn c false s) c).st = .off ∧
    ((chan s c).st = .on → (chan (writeEn c false s) c).vgChg = true ∧
      (chan (writeEn c false s) c).vgE = (chan s c).vgE + 1) := by
  unfold writeEn
  extract_lets x a
  have now : chan a c = { x with en := false } := chan_setChan_same ..
  rw [if_neg (by decide)]
  cases st : x.st with
  | off => exact ⟨by rw [now], by rw [now]; exact st, fun on => absurd on (by decide)⟩
  | on =>
    dsimp only
    rw [chan_goChan, now]
    unfold ChanReg.moved
    simp only [st, ne_eq, eq_self, reduceCtorEq, true_and, not_false_eq_true, if_true]
    exact ⟨rfl, rfl, fun _ => ⟨rfl, rfl⟩⟩
  | _ =>
    dsimp only
    rw [chan_goChan, now, moved_still (by simp [st])]
    exact ⟨rfl, rfl, fun on => absurd on (by decide)⟩

theorem chan_clrChan (st : (chan s c).st ≠ .ramp) (on : (chan s c).st ≠ .on) (lock : (chan s c).st ≠ .lockout) :
    chan (clrChan c s) c = { chan s c with count := 0 } := by
  unfold clrChan
  cases e : (chan s c).st with
  | ramp => exact absurd e st
  | on => exact absurd e on
  | lockout => exact absurd e lock
  | _ => exact chan_modChan_same ..

theorem clrChan_running (st : (chan s c).st = .ramp ∨ (chan s c).st = .on) : clrChan c s = s := by
  unfold clrChan
  rcases st with e | e <;> simp only [e]

theorem chan_clrChan_lockout (st : (chan s c).st = .lockout) : (chan (clrChan c s) c).count = 0 ∧
    (chan (clrChan c s) c).st = (if permission s c then .ramp else .armed) := by
  unfold clrChan
  simp only [st]
  obtain ⟨now, -, count⟩ := chan_armed_recheck (g := fun x => { x with count := 0 }) (s := s) (c := c)
    (by rw [st]; decide) ⟨rfl, rfl, rfl, rfl⟩
  exact ⟨count, now⟩

theorem channelControl (c : Chan) (v : Word) (s : State) (manager : answers s 0 = true)
    (on : offCode s (chBase c) = none) :
    regWrite (chBase c) (writeChCtl c v) s = writeChCtl c v (wakeLink (ungate s)) :=
  regWrite_of manager on

end Ctl

end Sys2Proof.Machine
end

section
/-! Power channels (file 14): the rows of Table 14-2, command by command. -/

namespace Sys2Proof.Machine

open Sys2Proof

variable {s t u : State} {c : Chan} {x : ChanReg} {found : List TripCause}

/-! ### CH_CTL -/

theorem channelEnable_acts (v : Word) (en : tst v 0 = true) (clr : tst v 1 = false) :
    (chan (writeChCtl c v s) c).en = true ∧
    (chan (writeChCtl c v s) c).st = (if (chan s c).st = .off then .unseated else (chan s c).st) := by
  have is : writeChCtl c v s = writeEn c true s := by
    unfold writeChCtl
    rw [en]
    exact if_neg (by simp [clr])
  rw [is]
  split_ifs with off
  · exact writeEn_on off
  · rw [chan_writeEn_on off]
    exact ⟨rfl, rfl⟩

theorem channelDisable_acts (v : Word) (dis : tst v 0 = false) :
    (chan (writeChCtl c v s) c).en = false ∧ (chan (writeChCtl c v s) c).st = .off ∧
    ((chan s c).st = .on → (chan (writeChCtl c v s) c).vgChg = true ∧
      (chan (writeChCtl c v s) c).vgE = (chan s c).vgE + 1) := by
  unfold writeChCtl
  rw [dis]
  extract_lets a
  obtain ⟨en, off, seen⟩ := chan_writeEn_off (c := c) (s := s)
  split
  · have now : chan (clrChan c a) c = { chan a c with count := 0 } :=
      chan_clrChan (by rw [off]; decide) (by rw [off]; decide) (by rw [off]; decide)
    rw [now]
    exact ⟨en, off, seen⟩
  · exact ⟨en, off, seen⟩

/-- CLR of an enabled channel, whose EN is written again. -/
theorem channelClr_acts (v : Word) (clr : tst v 1 = true) (en : tst v 0 = true) (was : (chan s c).en = true)
    (on : (chan s c).st ≠ .off) :
    ((chan s c).st = .ramp ∨ (chan s c).st = .on → chan (writeChCtl c v s) c = chan s c) ∧
    ((chan s c).st = .lockout → (chan (writeChCtl c v s) c).count = 0 ∧
      (chan (writeChCtl c v s) c).st = (if permission s c then .ramp else .armed)) ∧
    ((chan s c).st ≠ .ramp → (chan s c).st ≠ .on → (chan s c).st ≠ .lockout →
      chan (writeChCtl c v s) c = { chan s c with count := 0 }) := by
  unfold writeChCtl
  rw [en, if_pos clr]
  have same : chan (writeEn c true s) c = chan s c := by rw [chan_writeEn_on on, ← was]
  have may : permission (writeEn c true s) c = permission s c := by
    have is : writeEn c true s = setChan c { chan s c with en := true } s := by
      unfold writeEn
      exact (if_pos rfl).trans (if_neg on)
    refine permission_congr (by rw [same]) (by rw [same]) (by rw [same]) (by rw [same]) ?_ ?_ ?_ <;> rw [is]
    · exact ⟨rfl, rfl⟩
    · exact fun _ => ⟨rfl, rfl, rfl, rfl⟩
    · exact fun _ => rfl
  refine ⟨fun run => ?_, fun lock => ?_, fun ramp on' lock => ?_⟩
  · rw [clrChan_running (by rw [same]; exact run), same]
  · rw [← may]
    exact chan_clrChan_lockout (by rw [same]; exact lock)
  · rw [chan_clrChan (by rw [same]; exact ramp) (by rw [same]; exact on') (by rw [same]; exact lock), same]

/-! ### Trips -/

theorem firstCause_short (p : TripCause → Bool) (k : TripCause) (h : p .short = true) : firstCause p k = 1 := if_pos h

theorem tripped_counts (k z : TripCause) (h : z ≠ k) :
    (if isFound x k found z then (1 : BitVec 8) else 0) = if z ∈ found ∧ causeHolds x z = true then 1 else 0 := by
  unfold isFound
  simp [h]

theorem isFound_self (k : TripCause) : isFound x k found k = true := by simp [isFound]

theorem isFound_short {k : TripCause} (h : k ≠ .short) : isFound x k found .short = true ↔ .short ∈ found := by
  unfold isFound
  simp [Ne.symm h, causeHolds]

theorem isFound_none {k z : TripCause} (h : z ≠ k) (n : z ∉ found) : isFound x k found z = false := by
  unfold isFound
  simp [h, n]

/-- A trip on a low VBUS has that cause, where neither a short nor a temperature is found with it. -/
theorem tripped_lowVbus :
    (.short ∉ found → .thermal ∉ found → (x.tripped .lowVbus found).cause = 3) ∧
    (.short ∈ found → (x.tripped .lowVbus found).cause = 1) ∧
    (x.tripped .lowVbus found).lowVbus = x.lowVbus + 1 := by
  refine ⟨fun noShort noThermal => ?_, fun short => ?_, ?_⟩
  · show BitVec.ofNat 3 (firstCause _ _) = 3
    unfold firstCause
    rw [isFound_none (by decide) noShort, isFound_none (by decide) noThermal, isFound_self]
    rfl
  · show BitVec.ofNat 3 (firstCause _ _) = 1
    rw [firstCause_short _ _ ((isFound_short (by decide)).mpr short)]
    rfl
  · show x.lowVbus + (if isFound x .lowVbus found .lowVbus then 1 else 0) = _
    rw [isFound_self]
    rfl

theorem tripped_thermal :
    (.short ∉ found → (x.tripped .thermal found).cause = 2) ∧
    (.short ∈ found → (x.tripped .thermal found).cause = 1) ∧
    (x.tripped .thermal found).thermal = x.thermal + 1 := by
  refine ⟨fun noShort => ?_, fun short => ?_, ?_⟩
  · show BitVec.ofNat 3 (firstCause _ _) = 2
    unfold firstCause
    rw [isFound_none (by decide) noShort, isFound_self]
    rfl
  · show BitVec.ofNat 3 (firstCause _ _) = 1
    rw [firstCause_short _ _ ((isFound_short (by decide)).mpr short)]
    rfl
  · show x.thermal + (if isFound x .thermal found .thermal then 1 else 0) = _
    rw [isFound_self]
    rfl

theorem tripped_supply : (x.tripped .supply []).cause = 4 ∧ (x.tripped .supply []).supply = x.supply + 1 ∧
    (x.tripped .supply []).count = x.count := by
  refine ⟨rfl, ?_, rfl⟩
  show x.supply + (if isFound x .supply [] .supply then 1 else 0) = _
  rw [isFound_self]
  rfl

theorem hardShort_acts (driven : gateOn s (chan s c) = true) :
    let x := chan s c
    let t := trip c .short found s
    (chan t c).st = .cooling ∧ (chan t c).cause = 1 ∧ (chan t c).trip = true ∧ (chan t c).tripE = x.tripE + 1 ∧
    (chan t c).shorts = x.shorts + 1 ∧
    (chan t c).thermal = x.thermal + (if .thermal ∈ found ∧ causeHolds x .thermal = true then 1 else 0) ∧
    (chan t c).lowVbus = x.lowVbus + (if .lowVbus ∈ found ∧ causeHolds x .lowVbus = true then 1 else 0) ∧
    (chan t c).supply = x.supply + (if .supply ∈ found then 1 else 0) ∧
    (chan t c).offLeft = offMs x * 10 ∧ s.out ++ [.gate c.val false, .gateFast c.val] <+: t.out := by
  intro x t
  have now : chan t c = x.tripped .short found := chan_trip ..
  rw [now, ← tripped_counts .short .thermal (by decide), ← tripped_counts .short .lowVbus (by decide)]
  refine ⟨rfl, ?_, rfl, rfl, ?_, rfl, rfl, ?_, rfl, trip_out found driven⟩
  · show BitVec.ofNat 3 (firstCause _ _) = 1
    rw [firstCause_short _ _ (isFound_self .short)]
    rfl
  · show x.shorts + (if isFound x .short found .short then 1 else 0) = _
    rw [isFound_self]
    rfl
  · show x.supply + (if isFound x .short found .supply then 1 else 0) = _
    rw [tripped_counts .short .supply (by decide)]
    simp [causeHolds]

/-! ### Seats -/

theorem moved_keeps {st : ChanSt} {y : ChanReg} : (x.moved st y).st = st ∧ (x.moved st y).seatA = y.seatA ∧
    (x.moved st y).seatB = y.seatB ∧ (x.moved st y).count = y.count ∧ (x.moved st y).seatLeft = y.seatLeft ∧
    (x.moved st y).lock = y.lock ∧ (x.moved st y).lockE = y.lockE := by
  unfold ChanReg.moved
  extract_lets z
  split_ifs <;> exact ⟨rfl, rfl, rfl, rfl, rfl, rfl, rfl⟩

theorem seatOpen_acts (a b : Bool) :
    (chan (seatOpen c a b s) c).seatA = a ∧ (chan (seatOpen c a b s) c).seatB = b ∧
    (chan (seatOpen c a b s) c).st = (if (chan s c).st = .off then .off else .unseated) := by
  unfold seatOpen
  extract_lets x e
  have now : chan e c = { x with seatA := a, seatB := b } := chan_setChan_same ..
  cases st : x.st with
  | off => exact ⟨by rw [now], by rw [now], by rw [now, if_pos rfl]; exact st⟩
  | unseated => exact ⟨by rw [now], by rw [now], by rw [now, if_neg (by decide)]; exact st⟩
  | _ =>
    dsimp only
    rw [chan_goChan, now, if_neg (by decide)]
    obtain ⟨moved, seatA, seatB, -⟩ := moved_keeps (x := { x with seatA := a, seatB := b }) (st := .unseated)
      (y := { x with seatA := a, seatB := b })
    exact ⟨moved_keeps.2.1, moved_keeps.2.2.1, moved_keeps.1⟩

theorem tryDebounce_idle (h : (chan s c).st ≠ .unseated ∨ coolGate (chan s c) = false) : tryDebounce c s = s := by
  unfold tryDebounce
  exact if_neg (by rcases h with h | h <;> simp [h])

theorem tryDebounce_starts (st : (chan s c).st = .unseated) (a : (chan s c).seatA = true) (b : (chan s c).seatB = true)
    (cool : coolGate (chan s c) = true) :
    tryDebounce c s = goChan c .debounce (fun x => { x with seatLeft := seatTime x }) s := by
  unfold tryDebounce
  exact if_pos (by simp [st, a, b, cool])

theorem seatClose_acts : (chan (seatClose c s) c).seatA = true ∧ (chan (seatClose c s) c).seatB = true ∧
    ((chan s c).st = .unseated → coolGate (chan s c) = true → (chan (seatClose c s) c).st = .debounce ∧
      (chan (seatClose c s) c).seatLeft = seatTime (chan s c)) ∧
    ((chan s c).st ≠ .unseated ∨ coolGate (chan s c) = false → (chan (seatClose c s) c).st = (chan s c).st) := by
  obtain ⟨e, he⟩ : ∃ e, e = modChan c (fun x => { x with seatA := true, seatB := true }) s := ⟨_, rfl⟩
  have now : chan e c = { chan s c with seatA := true, seatB := true } := by rw [he, chan_modChan_same]
  have cool : coolGate (chan e c) = coolGate (chan s c) := by rw [now]; rfl
  have is : seatClose c s = tryDebounce c e := by rw [he]; rfl
  rw [is]
  by_cases starts : (chan s c).st = .unseated ∧ coolGate (chan s c) = true
  · obtain ⟨st, gate⟩ := starts
    rw [tryDebounce_starts (by rw [now]; exact st) (by rw [now]) (by rw [now]) (cool.trans gate), chan_goChan, now]
    exact ⟨moved_keeps.2.1, moved_keeps.2.2.1, fun _ _ => ⟨moved_keeps.1, moved_keeps.2.2.2.2.1⟩,
      fun idle => absurd st (idle.resolve_right (by simp [gate]))⟩
  · have idle : (chan s c).st ≠ .unseated ∨ coolGate (chan s c) = false := by
      by_cases st : (chan s c).st = .unseated
      · exact .inr (by simpa using fun g => starts ⟨st, g⟩)
      · exact .inl st
    rw [tryDebounce_idle (by rw [cool, now]; exact idle), now]
    exact ⟨rfl, rfl, fun st gate => absurd ⟨st, gate⟩ starts, fun _ => rfl⟩

/-! ### Group supplies -/

section Supply

variable {l : List Nat} {d : Nat}

/-- One channel of a group whose supply is low. -/
def supplyTrip (s : State) (c : Nat) : State :=
  if (chan s c).st = .ramp || (chan s c).st = .on then trip c .supply [] s else s

theorem supplyTrip_chans (c : Nat) : (supplyTrip s c).chans = s.chans ∨
    (supplyTrip s c).chans = (setChan c ((chan s c).tripped .supply []) s).chans := by
  unfold supplyTrip
  split
  · exact .inr (trip_chans ..)
  · exact .inl rfl

theorem chan_supplyTrip (c d : Nat) : chan (supplyTrip s c) d =
    if d = c ∧ ((chan s d).st = .ramp ∨ (chan s d).st = .on) then (chan s d).tripped .supply [] else chan s d := by
  unfold supplyTrip
  by_cases e : d = c
  · subst e
    by_cases run : (chan s d).st = .ramp ∨ (chan s d).st = .on
    · rw [if_pos (by simpa using run), if_pos ⟨rfl, run⟩, chan_trip]
    · rw [if_neg (by simpa using run), if_neg (fun h => run h.2)]
  · have out : ¬(d = c ∧ ((chan s d).st = .ramp ∨ (chan s d).st = .on)) := fun h => e h.1
    rw [if_neg out]
    split
    · exact chan_trip_other _ _ e
    · rfl

theorem chan_supplyTrips (nodup : l.Nodup) (d : Nat) : chan (l.foldl supplyTrip s) d =
    if d ∈ l ∧ ((chan s d).st = .ramp ∨ (chan s d).st = .on) then (chan s d).tripped .supply [] else chan s d := by
  induction l generalizing s with
  | nil => simp
  | cons a l ih =>
    obtain ⟨fresh, nodup⟩ := List.nodup_cons.mp nodup
    rw [List.foldl_cons, ih nodup]
    by_cases e : d = a
    · subst e
      rw [if_neg (fun h => fresh h.1), chan_supplyTrip]
      simp
    · have same : chan (supplyTrip s a) d = chan s d := by rw [chan_supplyTrip, if_neg (fun h => e h.1)]
      rw [same]
      simp [e]

theorem low_supplyTrips : (l.foldl supplyTrip s).chans.lowA = s.chans.lowA ∧
    (l.foldl supplyTrip s).chans.lowB = s.chans.lowB := by
  induction l generalizing s with
  | nil => exact ⟨rfl, rfl⟩
  | cons a l ih =>
    obtain ⟨lowA, lowB⟩ := ih (s := supplyTrip s a)
    rw [List.foldl_cons, lowA, lowB]
    rcases supplyTrip_chans (s := s) a with h | h <;> rw [h] <;> exact ⟨rfl, rfl⟩

theorem groupOf_nodup (g : Fin 2) : (groupOf g).Nodup := by
  fin_cases g <;> decide

theorem supplyLow_acts (g : Fin 2) :
    let t := (groupOf g).foldl supplyTrip (setLow g true s)
    isLow t g = true ∧
    (∀ c ∈ groupOf g, (chan s c).st = .ramp ∨ (chan s c).st = .on → (chan t c).st = .cooling ∧
      (chan t c).cause = 4 ∧ (chan t c).supply = (chan s c).supply + 1 ∧ (chan t c).count = (chan s c).count) ∧
    (∀ c, c ∉ groupOf g ∨ ((chan s c).st ≠ .ramp ∧ (chan s c).st ≠ .on) → chan t c = chan s c) := by
  intro t
  have same : ∀ c, chan (setLow g true s) c = chan s c := fun c => by unfold chan setLow; split <;> rfl
  obtain ⟨lowA, lowB⟩ := low_supplyTrips (l := groupOf g) (s := setLow g true s)
  have all := chan_supplyTrips (s := setLow g true s) (groupOf_nodup g)
  refine ⟨?_, fun c mem run => ?_, fun c out => ?_⟩
  · unfold isLow t
    rw [lowA, lowB]
    fin_cases g <;> rfl
  · obtain ⟨cause, supply, count⟩ := tripped_supply (x := chan s c)
    rw [all c, if_pos ⟨mem, by rw [same]; exact run⟩, same]
    exact ⟨rfl, cause, supply, count⟩
  · rw [all c, if_neg, same]
    rintro ⟨mem, run⟩
    rw [same] at run
    rcases out with out | ⟨ramp, on⟩
    · exact out mem
    · exact run.elim ramp on

/-- What a recheck of a channel that is neither ramping nor on leaves. -/
theorem recheck_leaves {c : Nat} (ramp : (chan s c).st ≠ .ramp) (on : (chan s c).st ≠ .on) :
    (∀ d, permission (recheck c s) d = permission s d) ∧ (∀ d, d ≠ c → chan (recheck c s) d = chan s d) ∧
    ((chan s c).st = .armed → (chan (recheck c s) c).st = if permission s c then .ramp else .armed) ∧
    ((chan s c).st ≠ .armed → chan (recheck c s) c = chan s c) ∧
    (recheck c s).chans.lowA = s.chans.lowA ∧ (recheck c s).chans.lowB = s.chans.lowB := by
  by_cases armed : (chan s c).st = .armed
  · rw [recheck_armed armed]
    split_ifs with may
    · refine ⟨fun d => permission_goChan (by simp [armed]) ⟨rfl, rfl, rfl, rfl⟩ d, fun d h => chan_startRamp_other h,
        fun _ => (chan_startRamp on).1, fun h => absurd armed h, ?_⟩
      unfold startRamp
      rw [goChan_chans]
      exact ⟨rfl, rfl⟩
    · exact ⟨fun _ => rfl, fun _ _ => rfl, fun _ => armed, fun _ => rfl, rfl, rfl⟩
  · rw [recheck_idle armed ramp on]
    exact ⟨fun _ => rfl, fun _ _ => rfl, fun h => absurd h armed, fun _ => rfl, rfl, rfl⟩

/-- A group whose channels are neither ramping nor on: a recheck lets the armed ones ramp. -/
theorem chan_rechecks (nodup : l.Nodup) (idle : ∀ c ∈ l, (chan s c).st ≠ .ramp ∧ (chan s c).st ≠ .on) :
    (∀ c ∈ l, (chan s c).st = .armed →
      (chan (l.foldl (fun s c => recheck c s) s) c).st = (if permission s c then .ramp else .armed)) ∧
    (∀ c, c ∉ l ∨ (chan s c).st ≠ .armed → chan (l.foldl (fun s c => recheck c s) s) c = chan s c) ∧
    (l.foldl (fun s c => recheck c s) s).chans.lowA = s.chans.lowA ∧
    (l.foldl (fun s c => recheck c s) s).chans.lowB = s.chans.lowB := by
  induction l generalizing s with
  | nil => exact ⟨fun c mem => absurd mem (by simp), fun _ _ => rfl, rfl, rfl⟩
  | cons a l ih =>
    obtain ⟨fresh, nodup⟩ := List.nodup_cons.mp nodup
    obtain ⟨ramp, on⟩ := idle a (by simp)
    obtain ⟨may, others, armed, still, lowA, lowB⟩ := recheck_leaves ramp on
    obtain ⟨ihArmed, ihStill, ihA, ihB⟩ := ih (s := recheck a s) nodup fun c mem => by
      rw [others c (fun e => fresh (e ▸ mem))]
      exact idle c (List.mem_cons_of_mem _ mem)
    rw [List.foldl_cons]
    refine ⟨fun c mem st => ?_, fun c out => ?_, ihA.trans lowA, ihB.trans lowB⟩
    · rcases List.mem_cons.mp mem with rfl | mem
      · rw [ihStill c (.inl fresh)]
        exact armed st
      · have other : c ≠ a := fun e => fresh (e ▸ mem)
        rw [ihArmed c mem (by rw [others c other]; exact st), may c]
    · by_cases e : c = a
      · subst e
        rw [ihStill c (.inl fresh)]
        exact still (out.resolve_left (by simp))
      · rw [ihStill c (by rw [others c e]; exact out.imp_left (fun h m => h (List.mem_cons_of_mem _ m))), others c e]

end Supply

/-! ### The cool gate -/

theorem coolOpen_lockout (st : (chan s c).st = .cooling) (cause : (chan s c).cause ≠ 4)
    (spent : retries (chan s c) ≤ (chan s c).count) :
    (chan (coolOpen c s) c).st = .lockout ∧ (chan (coolOpen c s) c).lock = true ∧
    (chan (coolOpen c s) c).lockE = (chan s c).lockE + 1 := by
  have notFour : (chan s c).cause.toNat ≠ 4 := fun e => cause (BitVec.eq_of_toNat_eq e)
  unfold coolOpen
  extract_lets +onlyGivenNames x
  simp only [show x.st = .cooling from st]
  rw [if_pos (by simpa [x] using ⟨notFour, spent⟩)]
  have now : chan (goChan c .lockout (fun x => { x with lock := true, lockE := x.lockE + 1 }) s) c =
      x.moved .lockout { x with lock := true, lockE := x.lockE + 1 } := chan_goChan ..
  generalize goChan c .lockout _ s = a at now ⊢
  have same {is : List Nat} {k : Nat} {l : List Word} : chan (events is k l (takeFree a).2) c = chan a c :=
    (chan_congr (show _ = (takeFree a).2.chans from events_eff.touches .chans (by decide)) c).trans rfl
  rw [same, now]
  exact ⟨moved_keeps.1, moved_keeps.2.2.2.2.2.1, moved_keeps.2.2.2.2.2.2⟩

theorem coolOpen_retries (st : (chan s c).st = .cooling)
    (left : (chan s c).cause = 4 ∨ (chan s c).count < retries (chan s c)) :
    (chan (coolOpen c s) c).st = (if permission s c then .ramp else .armed) ∧
    (permission s c = true →
      (chan (coolOpen c s) c).count = (chan s c).count + (if (chan s c).cause = 4 then 0 else 1)) := by
  have four : (chan s c).cause.toNat = 4 ↔ (chan s c).cause = 4 :=
    ⟨fun e => BitVec.eq_of_toNat_eq e, fun e => by rw [e]; rfl⟩
  unfold coolOpen
  extract_lets +onlyGivenNames x
  simp only [show x.st = .cooling from st]
  rw [if_neg (by
    simp only [Bool.and_eq_true, decide_eq_true_eq, not_and, not_le]
    exact fun n => left.resolve_left (fun e => n (four.mpr e)))]
  by_cases may : permission s c = true
  · rw [if_pos may, if_pos may]
    obtain ⟨isSt, -, -, count⟩ := chan_startRamp (c := c) (s := s)
      (g := fun x => { x with count := if x.cause.toNat = 4 then x.count else x.count + 1 }) (by rw [st]; decide)
    refine ⟨isSt, fun _ => count.trans ?_⟩
    dsimp only
    simp only [four]
    split <;> rfl
  · rw [if_neg may, if_neg may, chan_goChan]
    exact ⟨moved_keeps.1, fun h => absurd h may⟩

theorem coolOpen_idle (cooling : (chan s c).st ≠ .cooling) (seated : (chan s c).st ≠ .unseated) : coolOpen c s = s := by
  unfold coolOpen
  extract_lets x
  split
  · rename_i e
    exact absurd e cooling
  · exact tryDebounce_idle (.inl seated)

/-! ### The thermal model -/

/-- The registers with a sample taken, the limit timer and the readings apart. -/
def ChanReg.heated (s : State) (x : ChanReg) (m : ChanSample) : ChanReg :=
  let bad := badSense x m
  let onset := bad && !x.senseFault
  heat { x with
    iout := m.iout, vout := m.vout, offLeft := x.offLeft - 1
    seatLeft := (if x.st = .debounce then x.seatLeft - 1 else x.seatLeft)
    limiting := gateOn s x && iLim x ≤ m.iout.toNat
    rampLeft := (if x.st = .ramp then x.rampLeft - 1 else x.rampLeft)
    senseFault := bad, tNow := (if bad then x.tNow else m.tmeas)
    senseErr := x.senseErr || onset, senseE := (if onset then x.senseE + 1 else x.senseE) } m

/-- The registers after a sample, before the channel trips or goes on. -/
def ChanReg.sampled (s : State) (x : ChanReg) (m : ChanSample) : ChanReg :=
  let y := x.heated s m
  { y with
    limLeft := (if limitLow y then y.limLeft - 1 else rampTime y)
    tEst := tEstOf (tModel y) s
    tMeas := (if sense y = 0 then 0 else BitVec.ofInt 11 y.tNow) }

/-- A sample is taken; then a driven gate trips where the model stands at the trip temperature. -/
theorem sampleChan_splits (c : Nat) (m : ChanSample) (s : State) : ∃ u, chan u c = (chan s c).sampled s m ∧
    u.mgmt.gatesHeld = s.mgmt.gatesHeld ∧
    sampleChan c m s = (if gateOn u (chan u c) && decide ((tTrip (chan u c) : Rat) ≤ tUse (chan u c))
      then trip c .thermal m.found u else tryDebounce c u) := by
  unfold sampleChan
  extract_lets x bad onset y z a p b e
  have zIs : z = (chan s c).sampled s m := rfl
  have now : chan b c = z := chan_setChan_same ..
  have he : e.chans = b.chans := by
    unfold e
    split
    · exact events_eff.touches .chans (by decide)
    · rfl
  have hg : e.mgmt = b.mgmt := by
    unfold e
    split
    · exact events_eff.touches .mgmt (by decide)
    · rfl
  have at' : chan e c = z := (chan_congr he c).trans now
  refine ⟨e, at'.trans zIs, congrArg Mgmt.gatesHeld hg, ?_⟩
  rw [at']

/-- What a sample has read stays, whether the channel trips or goes on. -/
theorem chan_sampleChan (m : ChanSample) :
    (chan (sampleChan c m s) c).dj = (chan s c |>.sampled s m).dj ∧
    (chan (sampleChan c m s) c).db = (chan s c |>.sampled s m).db ∧
    (chan (sampleChan c m s) c).iout = m.iout ∧ (chan (sampleChan c m s) c).vout = m.vout ∧
    (chan (sampleChan c m s) c).senseE = (chan s c |>.sampled s m).senseE ∧
    (chan (sampleChan c m s) c).senseErr = (chan s c |>.sampled s m).senseErr := by
  obtain ⟨u, now, -, is⟩ := sampleChan_splits c m s
  rw [is]
  split
  · rw [chan_trip, now]
    exact ⟨rfl, rfl, rfl, rfl, rfl, rfl⟩
  · unfold tryDebounce
    extract_lets x
    split
    · rw [chan_goChan, now]
      unfold ChanReg.moved
      extract_lets z
      split <;> exact ⟨rfl, rfl, rfl, rfl, rfl, rfl⟩
    · rw [now]
      exact ⟨rfl, rfl, rfl, rfl, rfl, rfl⟩

section Driven

variable {m : ChanSample} (driven : gateOn s (chan s c) = true)

include driven

theorem gateOn_sampled (held : u.mgmt.gatesHeld = s.mgmt.gatesHeld) :
    gateOn u ((chan s c).sampled s m) = true := by
  unfold gateOn at driven ⊢
  rw [held]
  exact driven

theorem sampleChan_trips (hot : (tTrip ((chan s c).sampled s m) : Rat) ≤ tUse ((chan s c).sampled s m)) :
    chan (sampleChan c m s) c = ((chan s c).sampled s m).tripped .thermal m.found := by
  obtain ⟨u, now, held, is⟩ := sampleChan_splits c m s
  rw [is, now, if_pos (by rw [gateOn_sampled driven held, decide_eq_true hot]; rfl), chan_trip, now]

theorem sampleChan_goesOn (cool : tUse ((chan s c).sampled s m) < (tTrip ((chan s c).sampled s m) : Rat)) :
    chan (sampleChan c m s) c = (chan s c).sampled s m := by
  obtain ⟨u, now, held, is⟩ := sampleChan_splits c m s
  rw [is, now, if_neg (by rw [decide_eq_false (not_le.mpr cool)]; simp), tryDebounce_idle, now]
  left
  rw [now]
  intro unseated
  have st : (chan s c).st = .unseated := unseated
  simp [gateOn, st] at driven

end Driven

theorem thermalModelUpdate_acts (m : ChanSample) :
    let x := { heat (chan s c) m with
      senseFault := badSense (chan s c) m, tNow := if badSense (chan s c) m then (chan s c).tNow else m.tmeas }
    let t := sampleChan c m s
    (chan t c).dj = x.dj ∧ (chan t c).db = x.db ∧ (chan t c).iout = m.iout ∧ (chan t c).vout = m.vout ∧
    (gateOn s (chan s c) = true → (tTrip x : Rat) ≤ tUse x → (chan t c).st = .cooling ∧
      (.short ∉ m.found → (chan t c).cause = 2) ∧ (.short ∈ m.found → (chan t c).cause = 1) ∧
      (chan t c).thermal = (chan s c).thermal + 1 ∧ (chan t c).offLeft = offMs (chan s c) * 10) ∧
    (gateOn s (chan s c) = true → tUse x < (tTrip x : Rat) → (chan t c).st = (chan s c).st ∧
      (chan t c).offLeft = (chan s c).offLeft - 1) ∧
    (badSense (chan s c) m = true → (chan s c).senseFault = false →
      (chan t c).senseE = (chan s c).senseE + 1 ∧ (chan t c).senseErr = true) := by
  intro x t
  obtain ⟨dj, db, iout, vout, senseE, senseErr⟩ := chan_sampleChan (c := c) (s := s) m
  refine ⟨dj, db, iout, vout, fun driven hot => ?_, fun driven cool => ?_, fun bad fresh => ?_⟩
  · obtain ⟨two, one, counts⟩ := tripped_thermal (x := (chan s c).sampled s m) (found := m.found)
    unfold t
    rw [sampleChan_trips driven hot]
    exact ⟨rfl, two, one, counts, rfl⟩
  · unfold t
    rw [sampleChan_goesOn driven cool]
    exact ⟨rfl, rfl⟩
  · have onset : (badSense (chan s c) m && !(chan s c).senseFault) = true := by simp [bad, fresh]
    exact ⟨senseE.trans (if_pos onset), senseErr.trans (by
      show ((chan s c).senseErr || (badSense (chan s c) m && !(chan s c).senseFault)) = true
      rw [onset]
      exact Bool.or_true _)⟩

/-! ### The remaining rows -/

/-- A trip on a low VBUS from RAMP, or from ON in limiting. -/
theorem tripLowVbus_acts :
    let t := trip c .lowVbus found s
    (chan t c).st = .cooling ∧ (.short ∉ found → .thermal ∉ found → (chan t c).cause = 3) ∧
    (.short ∈ found → (chan t c).cause = 1) ∧ (chan t c).lowVbus = (chan s c).lowVbus + 1 ∧
    (chan t c).offLeft = offMs (chan s c) * 10 ∧ ((chan s c).st = .on → (chan t c).vgE = (chan s c).vgE + 1) := by
  intro t
  obtain ⟨three, one, counts⟩ := tripped_lowVbus (x := chan s c) (found := found)
  unfold t
  rw [chan_trip]
  exact ⟨rfl, three, one, counts, rfl, fun on => if_pos on⟩

theorem vbusGood_acts {g : ChanReg → ChanReg} (ramp : (chan s c).st = .ramp)
    (keep : (g (chan s c)).vgE = (chan s c).vgE ∧ (g (chan s c)).count = (chan s c).count) :
    (chan (goChan c .on g s) c).st = .on ∧ (chan (goChan c .on g s) c).vgChg = true ∧
    (chan (goChan c .on g s) c).vgE = (chan s c).vgE + 1 ∧ (chan (goChan c .on g s) c).count = (chan s c).count := by
  rw [chan_goChan, ← keep.1, ← keep.2]
  unfold ChanReg.moved
  rw [if_pos (by simp [ramp])]
  exact ⟨rfl, rfl, rfl, rfl⟩

theorem supplyRestored_acts (g : Fin 2)
    (idle : ∀ c ∈ groupOf g, (chan s c).st ≠ .ramp ∧ (chan s c).st ≠ .on) :
    let t := (groupOf g).foldl (fun s c => recheck c s) (setLow g false s)
    isLow t g = false ∧
    (∀ c ∈ groupOf g, (chan s c).st = .armed →
      (chan t c).st = (if permission (setLow g false s) c then .ramp else .armed)) ∧
    (∀ c, c ∉ groupOf g ∨ (chan s c).st ≠ .armed → chan t c = chan s c) := by
  intro t
  have same : ∀ c, chan (setLow g false s) c = chan s c := fun c => by unfold chan setLow; split <;> rfl
  obtain ⟨armed, still, lowA, lowB⟩ := chan_rechecks (s := setLow g false s) (groupOf_nodup g)
    (fun c mem => by rw [same]; exact idle c mem)
  refine ⟨?_, fun c mem st => armed c mem (by rw [same]; exact st), fun c out => ?_⟩
  · unfold isLow t
    rw [lowA, lowB]
    fin_cases g <;> rfl
  · exact (still c (by rw [same]; exact out)).trans (same c)

/-- Settles O57. -/
theorem channelsMove : Obligations.ChannelsMove := by
  unfold Obligations.ChannelsMove
  refine ⟨fun c v s manager on => ⟨fun en clr => ?_, fun dis => ?_, fun clr en was off => ?_⟩,
    fun c found s driven => ?_, fun c found s ramp left => ?_, fun c found s low left => ?_, fun c s ramp held => ?_,
    fun c a b s up opens moves => ?_, fun c s up opens => ?_, fun c s st left => ?_, fun g s up high => ?_,
    fun g s up low idle => ?_, fun c s up cool => ?_, fun c m s up => ?_⟩
  · refine ⟨_, rfl, ?_⟩
    rw [channelControl c v s manager on]
    exact channelEnable_acts v en clr
  · refine ⟨_, rfl, ?_⟩
    rw [channelControl c v s manager on]
    exact channelDisable_acts v dis
  · refine ⟨_, rfl, ?_⟩
    rw [channelControl c v s manager on]
    exact channelClr_acts (s := wakeLink (ungate s)) v clr en was off
  · exact ⟨_, when_of driven, hardShort_acts driven⟩
  · obtain ⟨st, three, one, counts, time, -⟩ := tripLowVbus_acts (c := c) (found := found) (s := s)
    exact ⟨_, when_of (by simp [ramp, left]), st, three, one, counts, time⟩
  · obtain ⟨st, three, one, counts, -, edge⟩ := tripLowVbus_acts (c := c) (found := found) (s := s)
    have on : (chan s c).st = .on := by simp only [limitLow, Bool.and_eq_true, decide_eq_true_eq] at low; exact low.1.1
    exact ⟨_, when_of (by simp [low, left]), st, three, one, counts, edge on⟩
  · exact ⟨_, when_of (by simp [ramp, held]), vbusGood_acts ramp ⟨rfl, rfl⟩⟩
  · refine ⟨_, when_of ?_, seatOpen_acts a b⟩
    simp only [up, Bool.true_and, Bool.and_eq_true, Bool.not_eq_true', Bool.and_eq_false_iff, Bool.or_eq_true, bne_iff_ne]
    exact ⟨opens, moves⟩
  · refine ⟨_, when_of ?_, seatClose_acts⟩
    simp only [up, Bool.true_and, Bool.not_eq_true', Bool.and_eq_false_iff]
    exact opens
  · obtain ⟨now, sets, -⟩ := chan_armed_recheck (g := id) (s := s) (c := c) (by rw [st]; decide) ⟨rfl, rfl, rfl, rfl⟩
    exact ⟨_, when_of (by simp [st, left]), fun may => ⟨now.trans (if_pos may), sets may⟩,
      fun not => now.trans (by rw [not]; rfl)⟩
  · exact ⟨_, when_of (by simp [up, high]), supplyLow_acts g⟩
  · exact ⟨_, when_of (by simp [up, low]), supplyRestored_acts g idle⟩
  · exact ⟨_, when_of (by simp [up, cool]), coolOpen_lockout, coolOpen_retries, coolOpen_idle⟩
  · exact ⟨_, when_of up, thermalModelUpdate_acts m⟩

end Sys2Proof.Machine
end

section
/-! A tenant's doorbell (file 03): the queue that it rings is the first of its own with the number, and a state whose
queues do not have names apart may hold another tenant's under that name. -/

namespace Sys2Proof.Machine

open Sys2Proof

/-- Two queues under the name 5: function 0's, and behind it the one that is number 3 of function 1. -/
def sharedName : Sparse Queue :=
  [(5, { owner := 0, st := .enabled, cell := 0x40 }), (5, { owner := 1, localNo := 3, st := .enabled, cell := 0x80 })]

def sharedNameState : State :=
  { qe := { queues := sharedName }, insts := [(1, { st := .active })]
    funcs := [(0, { memEnable := true, busMaster := true }), (1, { memEnable := true, busMaster := true })] }

/-- Refutes O20: the clause of a tenant's doorbell does not ask for names apart; where two queues share a name, the
search by owner and number finds the second, and the name reads the first, which belongs to function 0. -/
theorem not_doorbellsReadCells : ¬ Obligations.DoorbellsReadCells := by
  rintro ⟨-, -, -, tenants, -⟩
  obtain ⟨-, -, rings⟩ := tenants 1 3 sharedNameState (by decide +kernel)
  obtain ⟨t, -, owner, -⟩ := rings 5 { owner := 0, st := .enabled, cell := 0x40 } (by decide +kernel) (by decide +kernel)
    (by decide +kernel) rfl rfl (by decide +kernel) (by decide +kernel) (by decide +kernel)
  exact absurd owner (by decide)

end Sys2Proof.Machine
end

section
/-! A fetch turn (file 03): the choice of the queue, the accounts, and what the reads leave of the queues. -/

namespace Sys2Proof.Machine

open Sys2Proof

variable {s t u : State} {α : Type}

/-! ### Maps -/

theorem mem_of_find {m : Sparse α} {a : Nat} {x : α} (h : find m a = some x) : (a, x) ∈ m := by
  induction m with
  | nil => simp [find] at h
  | cons kv m ih =>
    obtain ⟨k, v⟩ := kv
    unfold find at h
    split_ifs at h with e
    · obtain rfl := Option.some.inj h
      exact e ▸ List.mem_cons_self ..
    · exact List.mem_cons_of_mem _ (ih h)

theorem find_of_mem {m : Sparse α} {a : Nat} {x : α} (sorted : Sorted m) (h : (a, x) ∈ m) : find m a = some x := by
  induction m with
  | nil => simp at h
  | cons kv m ih =>
    obtain ⟨k, v⟩ := kv
    obtain ⟨below, sorted⟩ := List.pairwise_cons.mp sorted
    unfold find
    rcases List.mem_cons.mp h with e | mem
    · obtain ⟨rfl, rfl⟩ := Prod.mk.inj e
      exact if_pos rfl
    · rw [if_neg (Nat.ne_of_lt (below _ mem)), ih sorted mem]

/-! ### The choice -/

/-- One step of the choice: the queue seen so far with the largest account. -/
def better (best : Option (Nat × Int)) (kv : Nat × Queue) : Option (Nat × Int) :=
  match best with
  | some (_, b) => if b < kv.2.cur + kv.2.weight then some (kv.1, kv.2.cur + kv.2.weight) else best
  | none => some (kv.1, kv.2.cur + kv.2.weight)

theorem nextTurn_is (s : State) : nextTurn s =
    ((s.qe.queues.filter (fun kv => eligible s kv.1 kv.2)).foldl better none).map Prod.fst := rfl

/-- The choice is the account of one of the queues, or what it was before, and no queue's is above it. -/
theorem foldl_better {l : List (Nat × Queue)} {best : Option (Nat × Int)} {q : Nat} {b : Int}
    (h : l.foldl better best = some (q, b)) :
    (best = some (q, b) ∨ ∃ x, (q, x) ∈ l ∧ b = x.cur + x.weight) ∧
    (∀ a c, best = some (a, c) → c ≤ b) ∧ ∀ kv ∈ l, kv.2.cur + (kv.2.weight : Int) ≤ b := by
  induction l generalizing best with
  | nil => exact ⟨.inl h, fun a c e => by rw [show best = some (q, b) from h] at e; simp_all, fun _ mem => by simp at mem⟩
  | cons kv l ih =>
    obtain ⟨found, above, all⟩ := ih h
    have self : ∃ a c, better best kv = some (a, c) ∧ kv.2.cur + (kv.2.weight : Int) ≤ c ∧
        (∀ a' c', best = some (a', c') → c' ≤ c) ∧
        (best = some (a, c) ∨ (a = kv.1 ∧ c = kv.2.cur + kv.2.weight)) := by
      rcases best with _ | ⟨a, c⟩
      · exact ⟨_, _, rfl, le_refl _, fun _ _ e => by simp at e, .inr ⟨rfl, rfl⟩⟩
      · unfold better
        dsimp only
        split_ifs with less
        · exact ⟨_, _, rfl, le_refl _, fun _ _ e => by simp at e; omega, .inr ⟨rfl, rfl⟩⟩
        · exact ⟨_, _, rfl, by omega, fun _ _ e => by simp at e; omega, .inl rfl⟩
    obtain ⟨a, c, is, mine, before, where_⟩ := self
    have least := above a c is
    refine ⟨?_, fun a' c' e => (before a' c' e).trans least, fun kv' mem => ?_⟩
    · rcases found with e | ⟨x, mem, e⟩
      · obtain ⟨rfl, rfl⟩ := Prod.mk.inj (Option.some.inj (is.symm.trans e))
        exact where_.imp id fun ⟨e, f⟩ => ⟨kv.2, e ▸ List.mem_cons_self .., f⟩
      · exact .inr ⟨x, List.mem_cons_of_mem _ mem, e⟩
    · rcases List.mem_cons.mp mem with rfl | mem
      · exact mine.trans least
      · exact all kv' mem

/-- The turn goes to an eligible queue with the largest account. -/
theorem nextTurn_best {q : Nat} (h : nextTurn s = some q) : ∃ x, (q, x) ∈ s.qe.queues ∧ eligible s q x = true ∧
    ∀ kv ∈ s.qe.queues, eligible s kv.1 kv.2 = true → kv.2.cur + (kv.2.weight : Int) ≤ x.cur + x.weight := by
  rw [nextTurn_is, Option.map_eq_some_iff] at h
  obtain ⟨⟨q, b⟩, h, rfl⟩ := h
  obtain ⟨found, -, all⟩ := foldl_better h
  obtain ⟨x, mem, rfl⟩ := found.resolve_left (by simp)
  obtain ⟨mem, el⟩ := List.mem_filter.mp mem
  exact ⟨x, mem, el, fun kv kvMem kvEl => all kv (List.mem_filter.mpr ⟨kvMem, kvEl⟩)⟩

/-! ### What the reads of a turn leave -/

/-- What a turn's reads keep of a queue. -/
def Queue.account (x : Queue) : QState × Word × Word × Nat × Int := (x.st, x.head, x.pi, x.weight, x.cur)

theorem issueRead_queue {r : ReadRef} {i a n j : Nat} : queue (issueRead r i a n s) j = queue s j := by
  unfold issueRead
  extract_lets go u
  have hu : queue u j = queue s j := by unfold u; split <;> rfl
  exact hu

theorem modQueue_account {q j : Nat} {g : Queue → Queue} (hg : ∀ x, (g x).account = x.account) :
    (queue (modQueue q g s) j).map Queue.account = (queue s j).map Queue.account := by
  unfold modQueue
  split
  · rename_i x found
    by_cases e : j = q
    · rw [e, queue_setQueue_same, found]
      exact congrArg some (hg x)
    · rw [queue_setQueue_other _ _ e]
  · rfl

theorem reserve_account {q n j : Nat} {i : Word} :
    (queue (reserve q n i s) j).map Queue.account = (queue s j).map Queue.account := by
  induction n generalizing i s with
  | zero => rfl
  | succ n ih =>
    unfold reserve
    extract_lets f used e
    exact ih.trans (modQueue_account fun _ => rfl)

theorem slotReads_account {q fuel n j : Nat} {x : Queue} {i : Word} : queue (slotReads q x fuel n i s) j = queue s j := by
  induction fuel generalizing i n s with
  | zero => rfl
  | succ fuel ih =>
    unfold slotReads
    extract_lets m
    split
    · rfl
    · exact ih.trans issueRead_queue

theorem readSlots_account {q n j : Nat} {x : Queue} {i : Word} :
    (queue (readSlots q x n i s) j).map Queue.account = (queue s j).map Queue.account := by
  unfold readSlots
  rw [slotReads_account, reserve_account]

/-! ### The accounts -/

/-- The account of a queue after the turn of `w`. -/
def turnAccount (s : State) (w j : Nat) (y : Queue) : Queue :=
  if eligible s j y then
    { y with cur := y.cur + y.weight - (if j = w then
      ((s.qe.queues.filter (fun kv => eligible s kv.1 kv.2)).map (fun kv => (kv.2.weight : Int))).sum else 0) }
  else y

theorem turnAccounts_is (s : State) (w : Nat) :
    turnAccounts s w = s.qe.queues.map (fun kv => (kv.1, turnAccount s w kv.1 kv.2)) := by
  unfold turnAccounts turnAccount
  refine List.map_congr_left fun kv _ => ?_
  dsimp only
  split <;> rfl

theorem fetchTurn_account {q n j : Nat} {x : Queue} (name : j ≠ 4096) :
    (queue (fetchTurn q x n s) j).map Queue.account =
      (find s.qe.queues j).map (fun y => (turnAccount s q j y).account) := by
  unfold fetchTurn
  extract_lets qe u a v
  have hu : queue u j = (find s.qe.queues j).map (turnAccount s q j) := by
    unfold queue
    rw [if_neg name]
    exact (congrArg (find · j) (turnAccounts_is s q)).trans (find_map_values s.qe.queues (turnAccount s q) j)
  have hv : (queue v j).map Queue.account = (queue u j).map Queue.account := readSlots_account
  have mapped : (queue u j).map Queue.account = (find s.qe.queues j).map (fun y => (turnAccount s q j y).account) := by
    rw [hu, Option.map_map]
    rfl
  split
  · exact hv.trans mapped
  · exact (readSlots_account.trans hv).trans mapped

/-- Settles O21. -/
theorem fetchTurnAccounts : Obligations.FetchTurnAccounts := by
  intro q x s turn found name tag apart
  obtain ⟨sorted, -⟩ := apart
  have stored {j : Nat} {y : Queue} (h : j ≠ 4096) (e : queue s j = some y) : find s.qe.queues j = some y := by
    rwa [queue, if_neg h] at e
  obtain ⟨x', mem, el, best⟩ := nextTurn_best turn
  obtain rfl : x' = x := Option.some.inj ((find_of_mem sorted mem).symm.trans (stored name found))
  refine ⟨fetchTurn q x' (turnSize s q x') s, ?_, el, fun j y jName is => ?_, fun j y jName is jEl =>
    best (j, y) (mem_of_find (stored jName is)) jEl⟩
  · show execFetchTurn s = _
    unfold execFetchTurn
    rw [turn]
    dsimp only
    rw [found]
    exact when_of tag
  · have after := fetchTurn_account (q := q) (n := turnSize s q x') (x := x') (s := s) jName
    rw [stored jName is, Option.map_some, Option.map_eq_some_iff] at after
    obtain ⟨z, zIs, same⟩ := after
    obtain ⟨st, head, pi, weight, cur⟩ : z.st = _ ∧ z.head = _ ∧ z.pi = _ ∧ z.weight = _ ∧ z.cur = _ := by
      simpa only [Queue.account, Prod.mk.injEq] using same
    refine ⟨z, zIs, st.trans ?_, head.trans ?_, pi.trans ?_, weight.trans ?_, cur.trans ?_⟩ <;>
      (unfold turnAccount; split <;> rfl)

end Sys2Proof.Machine
end

section
/-! Barrier reads, fences and the queues' control (file 03): why a barrier read's end is more than its entry's, and what
an event does to a queue whose name another queue shares. -/

namespace Sys2Proof.Machine

open Sys2Proof

/-! ### A barrier read that returns -/

/-- A completion that a barrier read holds back. -/
def heldCpl : CplDw := { d12 := 0, d13 := 64, d14 := 0, d15 := 0 }

/-- Entry 2 of queue 5 waits for its barrier read; the cistern holds a transfer on until it returns. -/
def barrierState : State :=
  { qe := { queues := [(5, { ents := [{ idx := 2, place := 0, dw := Vector.replicate 12 0, st := .barrier heldCpl 0x100 }] })] }
    host := { reads := [{ ref := .barrier 5 2, fn := 0, addr := 0x100, len := 4 }] }
    cis := { xfers := [(7, { type := .inp, inst := 0, q := 5, pipe := none, idx := 2, urg := false, bar := true })] } }

/-- Refutes O22: the good end of a barrier read ends its entry, and it also frees the place that the cistern kept for
the transfer until then. -/
theorem not_entryReadsReturn : ¬ Obligations.EntryReadsReturn := by
  rintro ⟨-, -, -, -, -, -, -, -, -, -, -, returns, -⟩
  have is := returns 5 2 { ref := .barrier 5 2, fn := 0, addr := 0x100, len := 4 }
    { idx := 2, place := 0, dw := Vector.replicate 12 0, st := .barrier heldCpl 0x100 } heldCpl 0x100 barrierState
    (by decide +kernel) rfl (by decide +kernel) rfl
  have done : exec (.barrierReadReturn 5 2 none) barrierState = .next (freeBarrier 5 2 (flush 5 (endEntDw 5 2 heldCpl
      (retireRead (.barrier 5 2) barrierState)))) := rfl
  have same := congrArg (fun t : State => t.cis.xfers.length) (Host.Outcome.next.inj (done.symm.trans is))
  exact absurd same (by decide +kernel)

/-! ### Queues that share a name -/

/-- The manager's event queue, under a name that another queue has too. -/
def eventTwin (e : List Ent) : Queue := { isEvent := true, st := .enabled, log2 := 4, ents := e }

def twinState (q : Nat) (a b : Queue) (rest : Sparse Queue) : State :=
  { funcs := [(0, { memEnable := true, busMaster := true })], boot := { fwReady := true, up := true }
    qe := { queues := rest ++ [(q, a), (q, b)] } }

/-- FENCE_SIGNAL, the last entry of a queue that drains. -/
def lastSignal : Ent := { idx := 2, place := 0, dw := #v[0x09, 0, 0, 0, 0, 0, 0, 0, 0, 0, 0, 0], st := .attached }

def signalState : State :=
  twinState 5 { st := .draining, head := 2, fetch := 3, ents := [lastSignal] } (eventTwin [lastSignal]) []

/-- Refutes O23: the signal ends the drain of its queue, and QUEUE_STATE goes to the manager's event queue; where that
one shares the name, it takes the place, and its entry of that index has not completed. The statement does not ask for
names apart. -/
theorem not_fencesCount : ¬ Obligations.FencesCount := by
  rintro ⟨signals, -⟩
  obtain ⟨t, is, -, -, completed⟩ := signals 5 2 0 0 lastSignal signalState (by decide +kernel) (by decide +kernel)
  have fence : fenceEnt signalState 5 2 0x09 = some (0, 0, lastSignal) := by decide +kernel
  have done : exec (.fenceSignal 5 2) signalState =
      .next (complete 5 2 (Cpl.atMaster { status := 0 }) (fenceSet 0 0 (fenceGet signalState 0 0 + 1) signalState)) := by
    show execFenceSignal 5 2 signalState = _
    unfold execFenceSignal
    rw [fence]
    exact when_of (by decide +kernel)
  have same := Host.Outcome.next.inj (done.symm.trans is)
  have ended := completed lastSignal (by rw [← same]; decide +kernel)
  exact absurd ended (by simp [lastSignal])

/-- A disable of queue 0, which has no entry. -/
def admTwinState : State := twinState 0 { st := .enabled } (eventTwin []) []

/-- Refutes O24: the disable drains queue 0 at once, and QUEUE_STATE goes to the manager's event queue; where that one
shares the name 0, it takes the place, ENABLED. The statement does not ask for names apart. -/
theorem not_adminQueueControl : ¬ Obligations.AdminQueueControl := by
  rintro ⟨-, -, disables, -⟩
  obtain ⟨t, y, is, found, -, -, moved⟩ := disables 0 { st := .enabled } admTwinState (by decide +kernel) (by decide)
    (by decide +kernel) (.inl rfl)
  have same := Host.Outcome.next.inj (is.symm.trans (rfl : exec (.adminQueueDisable 0) admTwinState = _))
  rw [same] at found
  have st : y.st = .enabled := by
    have now : (queue (regWrite 0x80020 (adminDisable 0) admTwinState) 0).map Queue.st = some .enabled := by decide +kernel
    rw [found] at now
    exact Option.some.inj now
  rw [st] at moved
  exact absurd moved (by simp)

/-- QUEUE_DISABLE of queue 5. -/
def disable5 : Packet := { index := 4, dw := #v[0x83, 0, 5, 0, 0, 0, 0, 0, 0, 0, 0, 0] }

def disableTwinState : State :=
  twinState 5 { st := .enabled } (eventTwin [])
    [(0, { st := .enabled, log2 := 4, head := 4, fetch := 5, pi := 5
           ents := [{ idx := 4, place := 0, dw := disable5.dw, st := .fetched }] })]

/-- Refutes O48: the disabled queue has drained at once, and QUEUE_STATE goes to the manager's event queue; where that
one shares the name, it takes the place, ENABLED. The statement does not ask for names apart. -/
theorem not_queueCommandsAct : ¬ Obligations.QueueCommandsAct := by
  rintro ⟨-, -, -, -, disables⟩
  have taken : Taken (.queueDisable disable5) disableTwinState := ⟨⟨by decide +kernel, by decide +kernel⟩, by decide +kernel⟩
  obtain ⟨t, is, -, y, found, moved⟩ := disables disable5 { st := .enabled } disableTwinState taken (by decide +kernel)
    (by decide)
  have done : (match exec (.queueDisable disable5) disableTwinState with
      | .next t => (queue t 5).map Queue.st | _ => none) = some .enabled := by decide +kernel
  rw [is] at done
  have st : y.st = .enabled := by
    have now : (queue t (cQueue disable5)).map Queue.st = some .enabled := done
    rw [found] at now
    exact Option.some.inj now
  rw [st] at moved
  exact absurd moved (by simp)

end Sys2Proof.Machine
end

section
/-! A pipe that is stopped (file 05): what leaving the periodic class does to it. -/

namespace Sys2Proof.Machine

open Sys2Proof

/-- A READY interrupt pipe in the periodic class, with 64 bytes' worth of charge pending. -/
def pendingPipe : Pipe := { kind := .interrupt, state := .ready, block := 1, pend := 64 }

def pendingState : State := setPipe 10 pendingPipe (modPsched 0 (fun y => { y with klass := [10] }) {})

/-- Refutes O50: a pipe of the periodic class that is stopped leaves the class, and its unused charge leaves the pending
charge (R145): the pipe's own part of it does not stay as it was. -/
theorem not_pipeCommandsAct : ¬ Obligations.PipeCommandsAct := by
  rintro ⟨-, -, -, -, -, -, -, stops⟩
  obtain ⟨stopped, -⟩ := stops 0 10 pendingPipe pendingState (by decide +kernel) rfl rfl
  have kept : (pipe (stopOne 0 pendingState 10) 10).map Pipe.pend = some 64 := by rw [stopped]; rfl
  exact absurd kept (by decide +kernel)

end Sys2Proof.Machine
end

section
/-! Power states (file 15): requests and refusers, what reaching a state leaves, and the wakes. -/

namespace Sys2Proof.Machine

open Sys2Proof

variable {s t u : State}

/-! ### What only leaves the block -/

/-- Nothing but output has left. -/
def Emits (s t : State) : Prop := ∃ o, t = { s with out := s.out ++ o }

theorem Emits.refl (s : State) : Emits s s := ⟨[], by rw [List.append_nil]⟩

theorem Emits.emit {o : Out} (h : Emits s t) : Emits s (emit o t) := by
  obtain ⟨l, rfl⟩ := h
  exact ⟨l ++ [o], by simp [Machine.emit]⟩

theorem Emits.foldl {α : Type} {f : State → α → State} (hf : ∀ t x, Emits s t → Emits s (f t x)) (h : Emits s t)
    (l : List α) : Emits s (l.foldl f t) := by
  induction l generalizing t with
  | nil => exact h
  | cons x xs ih => exact ih (hf t x h)

theorem Emits.ite {c : Prop} [Decidable c] (h : Emits s t) (k : Emits s u) : Emits s (if c then t else u) := by
  split <;> assumption

theorem Emits.pmic {core on : Bool} (h : Emits s t) : Emits s (pmic core on t) := .ite h h.emit

theorem Emits.domainsDown {old new : State} (h : Emits s t) : Emits s (domainsDown old new t) :=
  .foldl (fun _ _ h => h.emit) (.foldl (fun _ _ h => h.emit) h _) _

theorem Emits.domainsUp {old new : State} (h : Emits s t) : Emits s (domainsUp old new t) := by
  unfold Machine.domainsUp
  refine .foldl (fun _ _ h => ?_) h _
  unfold switchOn
  exact h.emit.emit

theorem Emits.pm (h : Emits s t) : t.pm = s.pm := by obtain ⟨o, rfl⟩ := h; rfl
theorem Emits.boot (h : Emits s t) : t.boot = s.boot := by obtain ⟨o, rfl⟩ := h; rfl
theorem Emits.qe (h : Emits s t) : t.qe = s.qe := by obtain ⟨o, rfl⟩ := h; rfl
theorem Emits.iso (h : Emits s t) : t.iso = s.iso := by obtain ⟨o, rfl⟩ := h; rfl
theorem Emits.fw (h : Emits s t) : t.fw = s.fw := by obtain ⟨o, rfl⟩ := h; rfl
theorem Emits.chans (h : Emits s t) : t.chans = s.chans := by obtain ⟨o, rfl⟩ := h; rfl
theorem Emits.isL (h : Emits s t) : t.isL = s.isL := by obtain ⟨o, rfl⟩ := h; rfl

/-! ### Requests -/

theorem nextReq_none (last : s.pm.pend = none) : nextReq s = { s with pm := { s.pm with entry := none } } := by
  unfold nextReq
  rw [last]

theorem nextReq_ends (last : s.pm.pend = none) : (nextReq s).pm.refusals = s.pm.refusals ∧ (nextReq s).pm.entry = none ∧
    (nextReq s).pm.st = s.pm.st := by
  rw [nextReq_none last]
  exact ⟨rfl, rfl, rfl⟩

theorem abort_aborts {r : Nat × Nat} {e : PmReq} (runs : s.pm.entry = some e) : (abort r s).pm.aborts = s.pm.aborts + 1 := by
  unfold abort
  rw [runs]
  exact nextReq_aborts

/-- An abort with no request pending. -/
theorem abort_ends {r : Nat × Nat} {e : PmReq} (runs : s.pm.entry = some e) (last : s.pm.pend = none) :
    (abort r s).pm.entry = none ∧ (abort r s).pm.st = s.pm.st := by
  unfold abort
  rw [runs]
  dsimp only
  obtain ⟨-, entry, st⟩ := nextReq_ends (s := charge r e.seq { s with pm := { s.pm with aborts := s.pm.aborts + 1 } }) last
  exact ⟨entry, st⟩

theorem refused_pm {r : PmSt} {q : BitVec 8} {rs : List (Nat × Nat)} {ms : Word} :
    (refused r q rs ms s).pm.pend = s.pm.pend ∧ (refused r q rs ms s).pm.refusals = s.pm.refusals + 1 ∧
    (refused r q rs ms s).pm.st = s.pm.st := by
  unfold refused
  extract_lets x p u
  have same {l : List Word} : (event 0 0x51 l u).pm.pend = u.pm.pend ∧ (event 0 0x51 l u).pm.refusals = u.pm.refusals ∧
      (event 0 0x51 l u).pm.st = u.pm.st := by
    have same := (event_eff (i := 0) (code := 0x51) (pay := l) (s := u)).touches .pmReg (by decide)
    have pend := congrArg Pm.pend same
    have refusals := congrArg Pm.refusals same
    have st := congrArg Pm.st same
    exact ⟨pend, refusals, st⟩
  exact same

/-- A refusal with no request pending. -/
theorem refused_ends {r : PmSt} {q : BitVec 8} {rs : List (Nat × Nat)} {ms : Word} (last : s.pm.pend = none) :
    (nextReq (refused r q rs ms s)).pm.refusals = s.pm.refusals + 1 ∧ (nextReq (refused r q rs ms s)).pm.entry = none ∧
    (nextReq (refused r q rs ms s)).pm.st = s.pm.st := by
  obtain ⟨pend, refusals, st⟩ := refused_pm (r := r) (q := q) (rs := rs) (ms := ms) (s := s)
  obtain ⟨refusals', entry, st'⟩ := nextReq_ends (pend.trans last)
  exact ⟨refusals'.trans refusals, entry, st'.trans st⟩

/-! ### Reaching a state -/

theorem getD_filter_keys {α : Type} {d : α} (m : Sparse α) (p : Nat → Bool) (a : Nat) :
    getD d (m.filter (fun kv => p kv.1)) a = if p a then getD d m a else d := by
  unfold getD
  induction m with
  | nil => simp [find]
  | cons kv m ih =>
    obtain ⟨k, v⟩ := kv
    by_cases own : k = a
    · subst own
      by_cases hp : p k = true
      · simp [hp, find]
      · simpa [hp] using ih
    · by_cases hp : p k = true
      · simp only [hp, List.filter_cons_of_pos, find, own, if_false]
        exact ih
      · rw [List.filter_cons_of_neg (by simpa using hp), ih]
        simp [find, own]

theorem reachSleep_acts (r : PmReq) (sleep : r.target = .sleep) :
    let t := reach r s
    t.pm.st = .sleep ∧ t.pm.was = s.pm.st ∧ t.pm.entry = none ∧ t.pm.entries = s.pm.entries + 1 ∧
    t.pm.armed = (r.mask ||| 0x004) &&& 0x1FF ∧ t.iso.running = false ∧ t.cfg = s.cfg ∧ t.qe = s.qe := by
  unfold reach
  simp only [sleep]
  refine ⟨sleep, rfl, rfl, rfl, ?_, rfl, rfl, rfl⟩
  show (r.mask ||| 0x004) &&& sourcesOf r.target = _
  rw [sleep]
  rfl

theorem reachDeep_acts (r : PmReq) (deep : r.target = .deep) :
    let t := reach r s
    t.pm.st = .deep ∧ t.pm.was = s.pm.st ∧ t.pm.kept = r.rooms ∧ t.pm.armed = (r.mask ||| 0x004) &&& 0x107 ∧
    t.boot.fwReady = false ∧ t.qe.queues = State.reset.qe.queues ∧
    (∀ a, r.rooms.getLsbD (a / 131072) = true → getD 0 t.pm.rooms a = getD 0 s.pm.rooms a) ∧
    (∀ a, r.rooms.getLsbD (a / 131072) = false → getD 0 t.pm.rooms a = 0) := by
  intro t
  obtain ⟨v, out, armed, stays, vIs⟩ : ∃ v : State, Emits v t ∧ v.pm.armed = (r.mask ||| 0x004) &&& sourcesOf r.target ∧
      (v.pm.st = r.target ∧ v.pm.was = s.pm.st ∧ v.pm.kept = r.rooms ∧ v.boot.fwReady = false) ∧
      (v.qe.queues = State.reset.qe.queues ∧ v.pm.rooms = keepRooms r.rooms s.pm.rooms) := by
    have is : t = reachDeep r s := by unfold t reach; rw [deep]
    rw [is]
    unfold reachDeep
    extract_lets room0 room1 log p c
    exact ⟨_, .pmic (.domainsDown (.refl _)), rfl, ⟨rfl, rfl, rfl, rfl⟩, ⟨rfl, rfl⟩⟩
  obtain ⟨st, was, kept, ready⟩ := stays
  obtain ⟨queues, rooms⟩ := vIs
  rw [deep] at armed st
  have roomsAt (a : Nat) : getD 0 v.pm.rooms a = if r.rooms.getLsbD (a / 131072) then getD 0 s.pm.rooms a else 0 := by
    rw [rooms]
    exact getD_filter_keys s.pm.rooms (fun a => r.rooms.getLsbD (a / 131072)) a
  rw [out.pm, out.boot, out.qe]
  exact ⟨st, was, kept, armed, ready, queues, fun a h => (roomsAt a).trans (if_pos h),
    fun a h => (roomsAt a).trans (if_neg (by simp [h]))⟩

theorem reachOff_acts (r : PmReq) (off : r.target = .off) :
    let t := reach r s
    t.pm.st = .off ∧ t.pm.scr = s.pm.scr ∧ t.pm.rooms = [] ∧ t.pm.armed = (r.mask ||| 0x004) &&& 0x001 ∧
    t.boot.up = false := by
  intro t
  obtain ⟨v, out, armed, stays⟩ : ∃ v : State, Emits v t ∧ v.pm.armed = (r.mask ||| 0x004) &&& sourcesOf r.target ∧
      (v.pm.st = .off ∧ v.pm.scr = s.pm.scr ∧ v.pm.rooms = [] ∧ v.boot.up = false) := by
    have is : t = reachOff r s := by unfold t reach; rw [off]
    rw [is]
    unfold reachOff
    extract_lets p c v
    exact ⟨_, .pmic (.pmic (.domainsDown (.refl _))), rfl, ⟨rfl, rfl, rfl, rfl⟩⟩
  obtain ⟨st, scr, rooms, up⟩ := stays
  rw [off] at armed
  rw [out.pm, out.boot]
  exact ⟨st, scr, rooms, armed, up⟩

/-! ### Wakes -/

theorem wakeSleep_clock {bit : Nat} {w : WakeOutcome} (last : s.pm.pend = none) :
    (wakeSleep bit w s).iso.running = true ∧ (wakeSleep bit w s).iso.mic = s.iso.mic + wd (ivlsIn w.time.aonTicks) := by
  unfold wakeSleep
  extract_lets up u held f glb pm v x y
  have vIs : v.pm.pend = s.pm.pend := rfl
  have late : Eff [.link, .l1, .reads, .msg, .fnCfg, .fnMsg, .queues, .fences, .sched, .halves, .units, .engines,
      .bursts, .portReg, .lock, .portTime, .cistern, .origins, .log, .sets, .instState, .capFlag, .cmd, .fwSlots,
      .fwHeld, .boot, .devReg, .devWake, .tunnel, .chans, .gate, .heldEv, .freeCount, .out] v (heldReset (relock y)) :=
    heldReset_eff.step (relock_eff.step (Eff.foldl (fun _ _ => event_eff.weaken) pmStateEvent_eff.weaken _))
  obtain ⟨-, -, -, pend, -⟩ := late.touches.pmRegs (by decide)
  have clock := late.touches .clock (by decide)
  obtain ⟨running, mic, -⟩ : _ ∧ _ ∧ _ := by simpa only [Part.Same, Prod.mk.injEq] using clock
  rw [nextReq_none (by rw [pend, vIs, last])]
  exact ⟨running, mic⟩

/-- What a wake has set stays: the state, its source and the pending request, the boot record and the timebase's run. -/
structure SameWake (s t : State) : Prop where
  st : t.pm.st = s.pm.st
  fired : t.pm.fired = s.pm.fired
  pend : t.pm.pend = s.pm.pend
  boot : t.boot = s.boot
  running : t.iso.running = s.iso.running

theorem SameWake.refl (s : State) : SameWake s s := ⟨rfl, rfl, rfl, rfl, rfl⟩

theorem SameWake.step (k : SameWake t u) (h : SameWake s t) : SameWake s u where
  st := k.st.trans h.st
  fired := k.fired.trans h.fired
  pend := k.pend.trans h.pend
  boot := k.boot.trans h.boot
  running := k.running.trans h.running

theorem Eff.sameWake {ps : List Part} (h : Eff ps s t) (free : .pmReg ∉ ps ∧ .boot ∉ ps ∧ .clock ∉ ps) : SameWake s t := by
  obtain ⟨pm, boot, clock⟩ := free
  obtain ⟨-, st, fired, pend, -⟩ := h.touches.pmRegs pm
  have same := h.touches .clock clock
  obtain ⟨running, -⟩ : _ ∧ _ := by simpa only [Part.Same, Prod.mk.injEq] using same
  exact ⟨st, fired, pend, h.touches .boot boot, running⟩

/-- What a wake from DEEP has before it reads the store rooms. -/
theorem wokenDeep_acts {bit : Nat} {w : WakeOutcome} : let t := wokenDeep bit w s
    (t.pm.st = s.pm.was ∧ t.pm.fired = BitVec.ofNat 9 (2 ^ bit) ∧ t.pm.pend = s.pm.pend) ∧
    (t.boot.up = true ∧ t.boot.fwReady = true ∧ t.boot.cause = 3) ∧ t.iso.running = true := by
  intro t
  obtain ⟨v, st, ready, running, late⟩ : ∃ v : State,
      (v.pm.st = s.pm.was ∧ v.pm.fired = BitVec.ofNat 9 (2 ^ bit) ∧ v.pm.pend = s.pm.pend) ∧
      (v.boot.up = true ∧ v.boot.fwReady = true ∧ v.boot.cause = 3) ∧ v.iso.running = true ∧
      Eff [.halves, .portReg, .cistern, .log] v t := by
    unfold t wokenDeep
    extract_lets a b up boot glb c0 pm v s0 ports pumps x
    have hx : Eff [.halves, .portReg, .cistern, .log] v x :=
      .step resizeLog_eff (.foldl (fun _ _ => .ite modPump_eff.weaken (.refl _ _))
        (.foldl (fun _ _ => modPort_eff (.refl _ _) (fun _ => {})) (.refl _ _) _) _)
    refine ⟨v, ⟨rfl, rfl, rfl⟩, ⟨rfl, rfl, rfl⟩, rfl, ?_⟩
    clear_value x
    split
    · exact .upd hx
    · exact hx
  have same := late.sameWake (by decide)
  rw [same.st, same.fired, same.pend, same.boot, same.running]
  exact ⟨st, ready, running⟩

theorem restoreRoom0_sameWake {r : Room0} : SameWake s (restoreRoom0 r s) := by
  unfold restoreRoom0
  extract_lets p c v
  have hv : SameWake s v := ⟨rfl, rfl, rfl, rfl, rfl⟩
  refine .step (Eff.sameWake (ps := [.portReg, .chans]) ?_ (by decide)) hv
  refine .foldl (fun _ _ => ?_) (.refl _ _) _
  extract_lets z
  have hz : Eff [.portReg, .chans] _ z := modChan_eff.weaken
  exact .ite hz (modPort_eff hz (fun _ => {}))

theorem restoreRoom1_sameWake {r : Room1} : SameWake s (restoreRoom1 r s) := ⟨rfl, rfl, rfl, rfl, rfl⟩

theorem wakeDeep_acts {bit : Nat} {w : WakeOutcome} (last : s.pm.pend = none) : let t := wakeDeep bit w s
    (t.pm.st = s.pm.was ∧ t.pm.fired = BitVec.ofNat 9 (2 ^ bit)) ∧
    (t.boot.up = true ∧ t.boot.fwReady = true ∧ t.boot.cause = 3) ∧ t.iso.running = true := by
  intro t
  obtain ⟨⟨st, fired, pend⟩, ready, running⟩ := wokenDeep_acts (bit := bit) (w := w) (s := pmic true true (aonPeWake bit s))
  have was : (pmic true true (aonPeWake bit s)).pm.was = s.pm.was ∧
      (pmic true true (aonPeWake bit s)).pm.pend = s.pm.pend := by
    rw [(Emits.refl _).pmic.pm]
    unfold aonPeWake
    split <;> exact ⟨rfl, rfl⟩
  unfold t wakeDeep
  extract_lets old a b r0 c d e f g
  have hb : SameWake a b := domainsUp_eff.sameWake (by decide)
  clear_value r0
  have hc : SameWake a c := by
    unfold c
    cases r0 with
    | some r => exact .step restoreRoom0_sameWake hb
    | none => exact hb
  have hd : SameWake a d := by
    unfold d
    cases c.pm.room1 with
    | some r => exact .step restoreRoom1_sameWake hc
    | none => exact hc
  have he : SameWake a e := .step (relock_eff.sameWake (by decide)) (.step (warmBound_eff.sameWake (by decide)) hd)
  have hf : SameWake a f := by
    unfold f
    cases r0 with
    | some r => exact .step (restorePp_eff.sameWake (by decide)) he
    | none => exact he
  have hp : f.pm.pend = none := hf.pend.trans (pend.trans (was.2.trans last))
  rw [nextReq_none (s := { f with pm := { f.pm with room0 := none, room1 := none, keptLog := none, kept := 0, srKept := false } }) hp]
  dsimp only
  rw [hf.st, hf.fired, hf.boot, hf.running]
  exact ⟨⟨st.trans was.1, fired⟩, ready, running⟩

/-! ### The boot record -/

theorem Touches.bootSame {ps : List Part} (h : Touches ps s t) (n : .boot ∉ ps) : t.boot = s.boot := h .boot n

theorem controllerReset_boot : (controllerReset s).boot = { s.boot with cause := 4, flrHeld := false } := by
  have same : (resetSets (resetDatapath s)).boot = s.boot :=
    (resetSets_eff.touches.bootSame (by decide)).trans (resetDatapath_eff.touches.bootSame (by decide))
  unfold controllerReset
  generalize resetSets (resetDatapath s) = u at same ⊢
  show { u.boot with cause := 4, flrHeld := false } = _
  rw [same]

/-- What a boot that ends in an image leaves in the record. -/
structure Boots (s t : State) : Prop where
  up : t.boot.up = s.boot.up
  failed : t.boot.failed = s.boot.failed
  hot : t.boot.hot = s.boot.hot
  fallback : t.boot.fallback = s.boot.fallback
  ready : t.boot.fwReady = true
  recovery : t.boot.recovery = false
  cause : s.boot.flrHeld = false → t.boot.cause = s.boot.cause

theorem Boots.heldReset (h : Boots s t) (flr : t.boot.flrHeld = s.boot.flrHeld) : Boots s (heldReset t) := by
  unfold Machine.heldReset
  split
  · rename_i held
    have same := controllerReset_boot (s := t)
    exact {
      up := (congrArg Boot.up same).trans h.up
      failed := (congrArg Boot.failed same).trans h.failed
      hot := (congrArg Boot.hot same).trans h.hot
      fallback := (congrArg Boot.fallback same).trans h.fallback
      ready := (congrArg Boot.fwReady same).trans h.ready
      recovery := (congrArg Boot.recovery same).trans h.recovery
      cause := fun none => absurd (flr ▸ held) (by simp [none]) }
  · exact h

theorem finishBoot_boots : Boots s (finishBoot s) := by
  unfold finishBoot
  extract_lets s0 a b boot
  have hb : boot = s.boot := by
    have late : Eff [.halves, .portReg, .cistern] s b :=
      .foldl (fun _ _ => .ite modPump_eff.weaken (.refl _ _)) (.foldl (fun _ _ => bringPort_eff.weaken) (.refl _ _) _) _
    exact late.touches.bootSame (by decide)
  refine Boots.heldReset ⟨?_, ?_, ?_, ?_, rfl, rfl, fun _ => ?_⟩ ?_ <;> rw [← hb]

theorem recover_boot : (recover s).boot = { s.boot with recovery := true } := by
  unfold recover
  extract_lets a b
  have late : Eff [.portReg] s a := .foldl (fun _ _ => modPort_eff (.refl _ _) (fun _ => {})) (.refl _ _) _
  have hb : b = s.boot := late.touches.bootSame (by decide)
  show { b with recovery := true } = _
  rw [hb]

theorem runSlot_boot {b : Bool} {i : BitVec 24 × Nat} : (runSlot b i s).boot = s.boot := by cases b <;> rfl

/-- What the choice of an image keeps of the record. -/
def Boot.chosen (b : Boot) : Bool × Bool × Bool × BitVec 3 × Bool := (b.up, b.failed, b.hot, b.cause, b.flrHeld)

theorem markBad_chosen {b bad : Bool} : (markBad b bad s).boot.chosen = s.boot.chosen := by
  cases b <;> cases bad <;> rfl

/-- Whatever image the sequence runs, or recovery. -/
theorem bootSelect_boots (o : BootOutcome) : (bootSelect o s).boot.up = s.boot.up ∧
    (bootSelect o s).boot.failed = s.boot.failed ∧ (bootSelect o s).boot.hot = s.boot.hot ∧
    (s.boot.flrHeld = false → (bootSelect o s).boot.cause = s.boot.cause) := by
  have ends {u v : State} (h : Boots u v) (same : u.boot.chosen = s.boot.chosen) : v.boot.up = s.boot.up ∧
      v.boot.failed = s.boot.failed ∧ v.boot.hot = s.boot.hot ∧ (s.boot.flrHeld = false → v.boot.cause = s.boot.cause) := by
    simp only [Boot.chosen, Prod.mk.injEq] at same
    obtain ⟨up, failed, hot, cause, flr⟩ := same
    exact ⟨h.up.trans up, h.failed.trans failed, h.hot.trans hot, fun none => (h.cause (flr.trans none)).trans cause⟩
  unfold bootSelect
  extract_lets fw first a
  have ha : a.boot.chosen = s.boot.chosen := markBad_chosen
  cases slotRuns o fw first with
  | some i => exact ends finishBoot_boots (congrArg Boot.chosen runSlot_boot)
  | none =>
    dsimp only
    cases slotRuns o fw (!first) with
    | some i => exact ends finishBoot_boots ((congrArg Boot.chosen runSlot_boot).trans ha)
    | none =>
      dsimp only
      rw [recover_boot]
      have same := markBad_chosen (b := !first) (bad := slotBad o fw (!first)) (s := a) |>.trans ha
      simp only [Boot.chosen, Prod.mk.injEq] at same
      obtain ⟨up, failed, hot, cause, -⟩ := same
      exact ⟨up, failed, hot, fun _ => cause⟩

/-- The power-on sequence from step 3. -/
theorem bringUp_acts (cause : Nat) (o : BootOutcome) : let t := bringUp cause o s
    (t.pm.st = .run ∧ t.pm.fired = s.pm.fired ∧ t.pm.pend = s.pm.pend) ∧ t.iso.running = true ∧
    t.boot.up = true ∧ t.boot.failed = false ∧ t.boot.hot = s.boot.hot ∧
    (s.boot.flrHeld = false → t.boot.cause = BitVec.ofNat 3 cause) := by
  intro t
  unfold t bringUp
  extract_lets mic old a retired boot iso pm sump cis glb fw v w
  have out : Emits w (domainsUp old w w) := .domainsUp (.refl _)
  have ha : a.boot = s.boot ∧ a.pm = s.pm := by
    have out : Emits { s with mgmt := {} } a := .pmic (.pmic (.refl _))
    exact ⟨out.boot, out.pm⟩
  obtain ⟨bootIs, pmIs⟩ := ha
  have warm : Eff [.chans, .log] v (warmChans o.offMs (resizeLog v)) := warmChans_eff.step resizeLog_eff.weaken
  have hv : (v.pm.st = .run ∧ v.pm.fired = s.pm.fired ∧ v.pm.pend = s.pm.pend) ∧ v.iso.running = true ∧
      v.boot.up = true ∧ v.boot.failed = false ∧ v.boot.hot = s.boot.hot ∧ v.boot.cause = BitVec.ofNat 3 cause ∧
      v.boot.flrHeld = s.boot.flrHeld :=
    ⟨⟨rfl, show a.pm.fired = _ from congrArg Pm.fired pmIs, show a.pm.pend = _ from congrArg Pm.pend pmIs⟩, rfl, rfl, rfl,
      show a.boot.hot = _ from congrArg Boot.hot bootIs, rfl, show a.boot.flrHeld = _ from congrArg Boot.flrHeld bootIs⟩
  clear_value v
  obtain ⟨⟨st, fired, pend⟩, running, up, failed, hot, because, flr⟩ := hv
  have woken : Eff [.link, .l1, .reads, .msg, .fnCfg, .fnMsg, .queues, .fences, .sched, .halves, .units, .engines,
      .bursts, .portReg, .lock, .portTime, .cistern, .origins, .log, .sets, .instState, .capFlag, .cmd, .fwSlots, .fwHeld,
      .boot, .devReg, .devWake, .tunnel, .chans, .gate, .heldEv, .freeCount, .out] v w := bootSelect_eff.step warm.weaken
  obtain ⟨-, st', fired', pend', -⟩ := woken.touches.pmRegs (by decide)
  have clock := woken.touches .clock (by decide)
  obtain ⟨running', -⟩ : _ ∧ _ := by simpa only [Part.Same, Prod.mk.injEq] using clock
  obtain ⟨up', failed', hot', because'⟩ := bootSelect_boots (s := warmChans o.offMs (resizeLog v)) o
  rw [warm.touches.bootSame (by decide)] at up' failed' hot' because'
  rw [out.pm, out.iso, out.boot]
  exact ⟨⟨st'.trans st, fired'.trans fired, pend'.trans pend⟩, running'.trans running, up'.trans up, failed'.trans failed,
    hot'.trans hot, fun none => (because' (flr.trans none)).trans because⟩

/-- A wake from OFF. -/
theorem wakeOff_acts (o : BootOutcome) (last : s.pm.pend = none) : let t := wakeOff o s
    t.pm.st = .run ∧ t.pm.fired = 1 ∧ t.boot.up = true := by
  intro t
  unfold t wakeOff
  extract_lets pend a p u
  obtain ⟨⟨st, fired, -⟩, -, up, -⟩ := bringUp_acts 2 o (s := { a with pm := { a.pm with st := .run, pend := none, armed := 0, fired := 1 } })
  rw [nextReq_none (by exact last)]
  exact ⟨st, fired, up⟩

theorem aonPeWake_pm {bit : Nat} : (aonPeWake bit s).pm =
    { s.pm with aonWake := s.pm.aonWake || decide (bit ≠ 2 ∧ s.boot.perst = true) } := by
  unfold aonPeWake
  by_cases own : bit = 2 ∨ s.boot.perst = false
  · rw [if_pos (by simpa using own)]
    have no : decide (bit ≠ 2 ∧ s.boot.perst = true) = false := by
      rcases own with e | e <;> simp [e]
    rw [no, Bool.or_false]
  · obtain ⟨other, perst⟩ : bit ≠ 2 ∧ s.boot.perst = true := by simpa using own
    rw [if_neg (by simp [other, perst]), decide_eq_true ⟨other, perst⟩, Bool.or_true]
    rfl

theorem wakeFail_pm {bit step : Nat} : (wakeFail bit step s).pm = { s.pm with
      fired := BitVec.ofNat 9 (2 ^ bit), wfail := true, wfailStep := BitVec.ofNat 3 step
      wfailE := s.pm.wfailE + 1
      aonWake := s.pm.aonWake || decide (s.pm.st = .deep ∧ bit ≠ 2 ∧ s.boot.perst = true) } := by
  obtain ⟨a, hp, is⟩ : ∃ a : State, a.pm = { s.pm with
        aonWake := s.pm.aonWake || decide (s.pm.st = .deep ∧ bit ≠ 2 ∧ s.boot.perst = true) } ∧
      (wakeFail bit step s).pm = { a.pm with
        fired := BitVec.ofNat 9 (2 ^ bit), wfail := true, wfailStep := BitVec.ofNat 3 step
        wfailE := a.pm.wfailE + 1 } := by
    refine ⟨if s.pm.st = .deep then pmic true false (pmic true true (aonPeWake bit s)) else s, ?_, rfl⟩
    split
    · rename_i deep
      rw [(Emits.refl _).pmic.pmic.pm, aonPeWake_pm]
      simp [deep]
    · rename_i not
      simp [not]
  rw [is, hp]

/-! ### What a source does -/

theorem fire_ignored {bit : Nat} {w : WakeOutcome} (awake : s.pm.st = .run ∨ s.pm.st = .idle) (ends : s.pm.entry = none) :
    fire bit w s = s := by
  unfold fire
  rw [ends]
  dsimp only
  split
  · rfl
  · rcases awake with e | e <;> rw [e]

theorem fire_aborts {bit : Nat} {w : WakeOutcome} {e : PmReq} (runs : s.pm.entry = some e)
    (watched : ((e.mask ||| 0x004) &&& sourcesOf e.target).getLsbD bit = true) (other : bit ≠ 1) :
    (fire bit w s).pm.aborts = s.pm.aborts + 1 := by
  unfold fire
  rw [runs]
  dsimp only
  rw [if_pos (by rw [watched]; simpa using other)]
  exact abort_aborts runs

theorem fire_unwatched {bit : Nat} {w : WakeOutcome} {e : PmReq} (runs : s.pm.entry = some e)
    (not : ((e.mask ||| 0x004) &&& sourcesOf e.target).getLsbD bit = false) : fire bit w s = s := by
  unfold fire
  rw [runs]
  exact if_neg (by rw [not]; simp)

theorem fire_unarmed {bit : Nat} {w : WakeOutcome} (ends : s.pm.entry = none) (not : s.pm.armed.getLsbD bit = false) :
    fire bit w s = s := by
  unfold fire
  rw [ends]
  exact if_pos (by simp [not])

theorem fire_sleep {bit : Nat} {w : WakeOutcome} (ends : s.pm.entry = none) (armed : s.pm.armed.getLsbD bit = true)
    (asleep : s.pm.st = .sleep) : fire bit w s = wakeSleep bit w s := by
  unfold fire
  rw [ends, asleep]
  exact if_neg (by simp [armed])

theorem fire_deep {bit : Nat} {w : WakeOutcome} (ends : s.pm.entry = none) (armed : s.pm.armed.getLsbD bit = true)
    (deep : s.pm.st = .deep) : fire bit w s = if w.imageOk then wakeDeep bit w s else wakeFail bit 5 s := by
  unfold fire
  rw [ends, deep]
  exact if_neg (by simp [armed])

/-- The pin, which every entry can watch. -/
theorem watched_pin {e : PmReq} (mask : e.mask.getLsbD 0 = true) (applies : sourcesOf e.target ≠ 0) :
    ((e.mask ||| 0x004) &&& sourcesOf e.target).getLsbD 0 = true := by
  have own : (sourcesOf e.target).getLsbD 0 = true := by
    cases h : e.target with
    | run => exact absurd (by rw [h]; rfl) applies
    | idle => exact absurd (by rw [h]; rfl) applies
    | sleep => rfl
    | deep => rfl
    | off => rfl
  rw [BitVec.getLsbD_and, BitVec.getLsbD_or, mask, own]
  rfl

theorem unwatched_pin {e : PmReq} (mask : e.mask.getLsbD 0 = false) :
    ((e.mask ||| 0x004) &&& sourcesOf e.target).getLsbD 0 = false := by
  rw [BitVec.getLsbD_and, BitVec.getLsbD_or, mask]
  rfl

/-! ### The statement -/

/-- An entry whose refusers are gone, or are not. -/
theorem refusersCleared_acts (r : PmReq) (runs : s.pm.entry = some r) :
    ∃ t, exec .pmRefusersCleared s = .next t ∧ (refusers s r.target r.perm = [] → t = reach r s) ∧
    (refusers s r.target r.perm ≠ [] → t.pm.aborts = s.pm.aborts + 1 ∧ (s.pm.pend = none → t.pm.entry = none ∧
      t.pm.st = s.pm.st)) := by
  refine ⟨refusersCleared r s, ?_, fun clear => ?_, fun held => ?_⟩
  · show execPmRefusersCleared s = _
    unfold execPmRefusersCleared
    rw [runs]
  · unfold refusersCleared
    rw [clear]
  · unfold refusersCleared
    cases h : refusers s r.target r.perm with
    | nil => exact absurd h held
    | cons x xs => exact ⟨abort_aborts runs, abort_ends runs⟩

theorem graceExpiry_acts (r : PmReq) (ms : Word) (runs : s.pm.entry = some r) :
    ∃ t, exec (.pmGraceExpiry ms) s = .next t ∧ (refusers s r.target r.perm = [] → t = reach r s) ∧
    (refusers s r.target r.perm ≠ [] → s.pm.pend = none → t.pm.refusals = s.pm.refusals + 1 ∧ t.pm.entry = none ∧
      t.pm.st = s.pm.st) := by
  refine ⟨graceEnd r ms s, ?_, fun clear => ?_, fun held last => ?_⟩
  · show execPmGraceExpiry ms s = _
    unfold execPmGraceExpiry
    rw [runs]
  · unfold graceEnd
    rw [clear]
  · unfold graceEnd
    cases h : refusers s r.target r.perm with
    | nil => exact absurd h held
    | cons x xs => exact refused_ends last

/-- Settles O58. -/
theorem powerStatesMove : Obligations.PowerStatesMove := by
  refine ⟨?entries, ?gate, ?pin, ?timer, ?source, ?timeout⟩
  case entries =>
    intro r s runs
    obtain ⟨t, is, clear, held⟩ := refusersCleared_acts r runs
    refine ⟨⟨t, is, fun none sleep => ?_, fun none deep => ?_, fun none off => ?_, held⟩, fun ms => graceExpiry_acts r ms runs⟩
    · rw [clear none]
      exact reachSleep_acts r sleep
    · rw [clear none]
      exact reachDeep_acts r deep
    · rw [clear none]
      exact reachOff_acts r off
  case gate =>
    intro s idle open' quiet
    exact when_of (by simp [idle, open', quiet])
  case pin =>
    intro o w s
    refine ⟨_, rfl, ?_⟩
    have awake (not : s.pm.st ≠ .off) : (if s.pm.st = .off && s.pm.armed.getLsbD 0 then wakeOff o s else fire 0 w s) = fire 0 w s :=
      if_neg (by simp [not])
    refine ⟨fun up ends => ?_, fun e on runs mask applies => ?_, fun e on runs mask => ?_,
      fun deep ends last armed ok => ?_, fun sleep ends last armed => ?_, fun off armed last => ?_⟩
    · rw [awake (by rcases up with e | e <;> rw [e] <;> decide), fire_ignored up ends]
    · rw [awake on, fire_aborts runs (watched_pin mask applies) (by decide)]
    · rw [awake on, fire_unwatched runs (unwatched_pin mask)]
    · obtain ⟨⟨st, fired⟩, ⟨up, ready, cause⟩, running⟩ := wakeDeep_acts (bit := 0) (w := w) last
      rw [awake (by rw [deep]; decide), fire_deep ends armed deep, if_pos ok]
      exact ⟨st, fired, up, ready, cause, running⟩
    · obtain ⟨st, fired⟩ := wakeSleep_pm (bit := 0) (w := w) last
      rw [awake (by rw [sleep]; decide), fire_sleep ends armed sleep]
      exact ⟨st, fired, (wakeSleep_clock last).1⟩
    · rw [if_pos (by simp [off, armed])]
      exact wakeOff_acts o last
  case timer =>
    intro w s low armed
    refine ⟨_, when_of (by simpa [armed] using low), fun ends last sleep => ?_, fun ends last deep ok => ?_,
      fun ends deep bad => ?_⟩
    · obtain ⟨st, fired⟩ := wakeSleep_pm (bit := 1) (w := w) last
      rw [fire_sleep ends armed sleep]
      exact ⟨st, fired, wakeSleep_clock last⟩
    · obtain ⟨⟨st, fired⟩, ⟨up, ready, cause⟩, -⟩ := wakeDeep_acts (bit := 1) (w := w) last
      rw [fire_deep ends armed deep, if_pos ok]
      exact ⟨st, fired, up, ready, cause⟩
    · rw [fire_deep ends armed deep, if_neg (by simp [bad]), wakeFail_pm]
      exact ⟨deep, rfl, rfl, rfl, rfl⟩
  case source =>
    intro b w s other
    refine ⟨_, when_of (by simpa using other), fun e runs watched => ?_, fun e runs not => fire_unwatched runs not,
      fun ends not => fire_unarmed ends not, fun ends last armed low => ?_⟩
    · exact fire_aborts runs watched (by omega)
    · rcases low with sleep | ⟨deep, ok⟩
      · rw [fire_sleep ends armed sleep]
        exact wakeSleep_pm last
      · rw [fire_deep ends armed deep, if_pos ok]
        exact (wakeDeep_acts last).1
  case timeout =>
    intro b k s low armed from' below
    exact ⟨_, when_of (by simpa [armed, from', below] using low), wakeFail_pm⟩

end Sys2Proof.Machine
end

section
/-! What a reaction of the block never does: it opens no pipe, counts no decision of the scheduler, does not put the link
to sleep and clears no PME_Status. -/

namespace Sys2Proof.Machine

open Sys2Proof

variable {s t u : State}

/-! ### The relation -/

/-- The fields of a state that the relation speaks of. -/
def steadyCore (s : State) : List (Nat × Pipe) × Word × Nat × L1State × Sparse Func :=
  (s.sched.pipes, s.sched.dec, s.sched.rr, s.host.l1, s.funcs)

/-- No pipe is new, no decision is counted, a link in L0 stays there, and PME_Status stays where it is set. -/
structure Steady (s t : State) : Prop where
  pipes : ∀ n, pipe s n = none → pipe t n = none
  dec : t.sched.dec = s.sched.dec
  rr : t.sched.rr = s.sched.rr
  link : s.host.l1 = .l0 → t.host.l1 = .l0
  pme : ∀ i, (fn s i).pmeStatus = true → (fn t i).pmeStatus = true

theorem Steady.refl (s : State) : Steady s s := ⟨fun _ h => h, rfl, rfl, id, fun _ h => h⟩

theorem Steady.step (k : Steady t u) (h : Steady s t) : Steady s u :=
  ⟨fun n e => k.pipes n (h.pipes n e), k.dec.trans h.dec, k.rr.trans h.rr, k.link ∘ h.link,
    fun i e => k.pme i (h.pme i e)⟩

theorem Steady.ite {c : Prop} [Decidable c] (h : Steady s t) (k : Steady s u) : Steady s (if c then t else u) := by
  split <;> assumption

theorem Steady.foldl {α : Type} {f : State → α → State} (hf : ∀ t x, Steady t (f t x)) (h : Steady s t) (l : List α) :
    Steady s (l.foldl f t) := by
  induction l generalizing t with
  | nil => exact h
  | cons x xs ih => exact ih (.step (hf t x) h)

theorem Steady.upd (h : Steady s t) (e : steadyCore u = steadyCore t) : Steady s u := by
  simp only [steadyCore, Prod.mk.injEq] at e
  obtain ⟨pipes, dec, rr, link, funcs⟩ := e
  refine .step ⟨fun n => ?_, dec, rr, fun l => link ▸ l, fun i => ?_⟩ h
  · unfold pipe; rw [pipes]; exact id
  · unfold fn; rw [funcs]; exact id

theorem Eff.steady {ps : List Part} (h : Eff ps s t) (free : .sched ∉ ps ∧ .l1 ∉ ps ∧ .fnMsg ∉ ps) : Steady s t := by
  obtain ⟨a, b, c⟩ := free
  have sched : t.sched = s.sched := h.touches .sched a
  have l1 : t.host.l1 = s.host.l1 := h.touches .l1 b
  have msg : ∀ i, ((fn t i).pmeStatus, (fn t i).vecs) = ((fn s i).pmeStatus, (fn s i).vecs) := h.touches .fnMsg c
  refine ⟨fun n => ?_, by rw [sched], by rw [sched], fun l => l1 ▸ l, fun i e => ?_⟩
  · unfold pipe; rw [sched]; exact id
  · exact (congrArg Prod.fst (msg i)).trans e

/-! ### The operations on the state -/

theorem setFn_steady {i : Nat} {f : Func} (keep : (fn s i).pmeStatus = true → f.pmeStatus = true) :
    Steady s (setFn i f s) :=
  { Steady.refl s with
    pme := fun j h => by
      by_cases e : j = i
      · subst e; rw [fn_setFn_same]; exact keep h
      · rw [fn_setFn, if_neg e]; exact h }

theorem Steady.setPipe {n : Nat} {x y : Pipe} (hx : pipe s n = some x) (h : Steady s t) :
    Steady s (setPipe n y t) :=
  { h with
    pipes := fun m g => by
      have e : m ≠ n := fun e => by rw [e, hx] at g; cases g
      rw [pipe_setPipe_other _ _ e, h.pipes m g] }

theorem modPort_steady {p : Nat} {g : PortReg → PortReg} (h : Steady s t) : Steady s (modPort p g t) := .upd h rfl

theorem setVec_steady {i v : Nat} {x : MsixVec} : Steady s (setVec i v x s) := setFn_steady fun h => h

theorem setPipe_steady {n : Nat} {x y : Pipe} (hx : pipe s n = some x) : Steady s (setPipe n y s) :=
  { Steady.refl s with
    pipes := fun m h => by
      have e : m ≠ n := fun e => by rw [e, hx] at h; cases h
      rw [pipe_setPipe_other _ _ e, h] }

theorem modPipe_steady {n : Nat} {g : Pipe → Pipe} : Steady s (modPipe n g s) := by
  unfold modPipe
  split
  · exact setPipe_steady ‹_›
  · exact .refl _

theorem delPipe_steady {n : Nat} : Steady s (delPipe n s) :=
  { Steady.refl s with
    pipes := fun m h => by
      by_cases e : m = n
      · rw [e, pipe_delPipe_same]
      · rw [pipe_delPipe_other _ e, h] }

theorem modPsched_steady {p : Nat} {g : PortSched → PortSched} : Steady s (modPsched p g s) := .upd (.refl s) rfl

theorem wakeLink_steady : Steady s (wakeLink s) := { Steady.refl s with link := fun _ => rfl }

theorem tlp_steady {o : Out} : Steady s (tlp o s) := by
  unfold tlp
  exact .step (emit_eff.steady (by decide)) (.step wakeLink_steady (ungate_eff.steady (by decide)))

theorem issueRead_steady {ref : ReadRef} {i addr len : Nat} : Steady s (issueRead ref i addr len s) := by
  unfold issueRead
  extract_lets +onlyGivenNames x0 x1
  have h1 : Steady s x1 := .ite (.step tlp_steady (.refl _)) (.refl _)
  exact .upd h1 rfl

theorem sendAt_steady {k : Nat} : Steady s (sendAt s k) := by
  unfold sendAt
  split
  · exact .ite (.step tlp_steady (.upd (.refl _) rfl)) (.refl _)
  · exact .refl _

theorem sendWaiting_steady : Steady s (sendWaiting s) := by
  unfold sendWaiting
  exact .foldl (fun _ _ => .step sendAt_steady (.refl _)) (.refl _) _

theorem trySend_steady {i v : Nat} : Steady s (trySend i v s) := by
  unfold trySend
  exact .ite (.step tlp_steady (.step setVec_steady (.refl _))) (.refl _)

theorem sendAll_steady {i : Nat} : Steady s (sendAll i s) := by
  unfold sendAll
  exact .foldl (fun _ _ => .step trySend_steady (.refl _)) (.refl _) _

theorem pme_steady {i : Nat} : Steady s (pme i s) := by
  unfold pme
  extract_lets +onlyGivenNames f a
  have ha : Steady s a := setFn_steady fun _ => rfl
  exact .ite ha (.ite (.step (assertWake_eff.steady (by decide)) ha) (.ite (.refl _) (.step tlp_steady ha)))

theorem due_steady {i v : Nat} : Steady s (due i v s) := by
  unfold due
  extract_lets +onlyGivenNames x0 x1
  have h1 : Steady s x1 := .step setVec_steady (.refl _)
  exact .ite (.step trySend_steady h1) (.step pme_steady h1)

theorem cause_steady {i v : Nat} : Steady s (cause i v s) := by
  unfold cause
  extract_lets +onlyGivenNames x0 x1 x2
  refine .ite (.step due_steady (.step setVec_steady (.refl _))) ?_
  extract_lets +onlyGivenNames x7
  have h7 : Steady s x7 := .step setVec_steady (.refl _)
  exact .ite (.step due_steady h7) h7

theorem writeState_steady {q : Nat} : Steady s (writeState q s) := by
  unfold writeState
  split
  · exact .ite (.refl _) (.ite (.step (setQueue_eff.steady (by decide)) (.refl _)) (.step tlp_steady (.step
      (setQueue_eff.steady (by decide)) (.refl _))))
  · exact .refl _

theorem writeHead_steady {q : Nat} : Steady s (writeHead q s) := by
  unfold writeHead
  split
  · exact .ite (.refl _) (.step tlp_steady (.refl _))
  · exact .refl _

theorem writeEvent_steady {q : Nat} {e : Ev} : Steady s (writeEvent q e s) := by
  unfold writeEvent
  split
  · extract_lets +onlyGivenNames x1 x5 x8
    have h1 : Steady s x1 := .step tlp_steady (.refl _)
    have h5 : Steady s x5 := .step (setQueue_eff.steady (by decide)) h1
    have h8 : Steady s x8 := .step writeHead_steady h5
    exact .ite (.step trySend_steady h8) (.step cause_steady h8)
  · exact .refl _

theorem flushEvents_steady {n q : Nat} : Steady s (flushEvents n q s) := by
  induction n generalizing s with
  | zero => exact .refl _
  | succ n ih =>
    unfold flushEvents
    split
    · refine .ite ?_ (.refl _)
      split
      · exact .step ih (.step writeEvent_steady (setQueue_eff.steady (by decide)))
      · exact .ite (.refl _) (.step writeEvent_steady (setQueue_eff.steady (by decide)))
    · exact .refl _

theorem event_steady {i : Nat} {code : Nat} {pay : List Word} : Steady s (event i code pay s) := by
  unfold event
  refine .ite (.upd (.refl _) rfl) ?_
  extract_lets +onlyGivenNames x3
  have h3 : Steady s x3 := .step (ungate_eff.steady (by decide)) (.refl _)
  split
  · exact h3
  · refine .ite (.step writeState_steady (.step (setQueue_eff.steady (by decide)) h3)) ?_
    extract_lets +onlyGivenNames x12 x13 x14 x17
    have h14 : Steady s x14 := .step (setQueue_eff.steady (by decide)) h3
    have h17 : Steady s x17 := .ite (.step cause_steady h14) h14
    exact .step flushEvents_steady h17

theorem events_steady {is : List Nat} {code : Nat} {pay : List Word} : Steady s (events is code pay s) :=
    by
  unfold events
  exact .foldl (fun _ _ => .step event_steady (.refl _)) (.refl _) _

theorem queueStateEvent_steady {q : Nat} : Steady s (queueStateEvent q s) := by
  unfold queueStateEvent
  split
  · exact .step events_steady (.refl _)
  · exact .refl _

theorem writeCpls_steady {q : Nat} {x : Queue} {es : List Ent} : Steady s (writeCpls q x es s).2 := by
  induction es generalizing s with
  | nil => exact .refl _
  | cons e es ih =>
    unfold writeCpls
    split
    · exact .step ih tlp_steady
    · exact ih

theorem iocCauses_steady {x : Queue} {es : List Ent} : Steady s (iocCauses x es s) := by
  induction es generalizing s with
  | nil => exact .refl _
  | cons e es ih =>
    unfold iocCauses
    exact .step ih (.ite cause_steady (.refl _))

theorem publish_steady {q : Nat} : Steady s (publish q s) := by
  unfold publish
  refine .ite (publishTunnel_eff.steady (by decide)) ?_
  split
  · refine .ite (.refl _) ?_
    extract_lets +onlyGivenNames r run a
    have ha : Steady s a := .step (setQueue_eff.steady (by decide)) writeCpls_steady
    exact .step (tellRoom_eff.steady (by decide)) (.ite ha (.step iocCauses_steady (.step writeHead_steady ha)))
  · exact .refl _

theorem drainEnd_steady {q : Nat} : Steady s (drainEnd q s) := by
  unfold drainEnd
  split
  · refine .ite ?_ (.refl _)
    extract_lets +onlyGivenNames x2 x7
    have h2 : Steady s x2 := .step (setQueue_eff.steady (by decide)) (.refl _)
    have h7 : Steady s x7 := .step queueStateEvent_steady (.step writeState_steady (.step writeHead_steady h2))
    split
    · exact .step publish_steady (.step (endEntDw_eff.steady (by decide)) h7)
    · exact h7
  · exact .refl _

theorem flush_steady {q : Nat} : Steady s (flush q s) := by
  unfold flush
  exact .step drainEnd_steady (.step publish_steady (.refl _))

theorem complete_steady {q : Nat} {i : Word} {c : Cpl} : Steady s (complete q i c s) := by
  unfold complete
  exact .step flush_steady (.step (endEntDw_eff.steady (by decide)) (.refl _))

theorem capEvent_steady {res : Nat} {returned failed : Bool} {ix : Nat} : Steady s (capEvent res returned
    failed ix s) := by
  unfold capEvent
  exact .step event_steady (.refl _)

theorem capChange_steady {res : Nat} {returned failed : Bool} {ix : Nat} : Steady s (capChange res
    returned failed ix s) := by
  unfold capChange
  exact .step capEvent_steady (.upd (.refl _) rfl)

theorem reply_steady {idx : Word} {status detail : Nat} {a b c : Word} : Steady s (reply idx status detail
    a b c s) := by
  unfold reply
  exact .step flush_steady (.step (endEntDw_eff.steady (by decide)) (.refl _))

theorem portServiceEvent_steady {p : Nat} {ret off : Bool} {result closed : Nat} : Steady s
    (portServiceEvent p ret off result closed s) := by
  unfold portServiceEvent
  exact .step event_steady (.refl _)

theorem portRemoved_steady {p : Port} : Steady s (portRemoved p s) := by
  unfold portRemoved
  split
  · refine .ite (.refl _) ?_
    extract_lets +onlyGivenNames a b
    have ha : Steady s a := modPort_steady (.ite (switchOff_eff.steady (by decide)) (.refl _))
    have hb : Steady s b := .step modPsched_steady ha
    exact .step reply_steady (.step portServiceEvent_steady (.step capChange_steady hb))
  · exact .refl _

theorem pumpOff_steady {n : Nat} : Steady s (pumpOff n s) := by
  unfold pumpOff
  split
  · refine .ite ?_ (.refl _)
    extract_lets +onlyGivenNames x2
    have h2 : Steady s x2 := .step (modPump_eff.steady (by decide)) (.refl _)
    exact .step reply_steady (.step capChange_steady h2)
  · exact .refl _

theorem setList_steady {p g : Nat} {l : List Nat} : Steady s (setList p g l s) := by
  unfold setList
  exact .step modPsched_steady (.refl _)

theorem needCtx_steady {n : Nat} : Steady s (needCtx n s) := by
  unfold needCtx
  exact .ite (.refl _) (.upd (.refl _) rfl)

theorem link_steady {n : Nat} {atHead : Bool} : Steady s (link n atHead s) := by
  unfold link
  split
  · exact .ite (.refl _) (.step needCtx_steady (.step setList_steady (.refl _)))
  · exact .refl _

theorem lowerPend_steady {n : Nat} {x : Pipe} {c : Nat} : Steady s (lowerPend n x c s) := by
  unfold lowerPend
  exact .step modPsched_steady (.step modPipe_steady (.refl _))

theorem dropKlass_steady {n : Nat} : Steady s (dropKlass n s) := by
  unfold dropKlass
  split
  · exact .ite (.step modPsched_steady (.step lowerPend_steady (.refl _))) (.refl _)
  · exact .refl _

theorem unlink_steady {n : Nat} : Steady s (unlink n s) := by
  unfold unlink
  split
  · exact .step dropKlass_steady (.step setList_steady (.refl _))
  · exact .refl _

theorem blockPipe_steady {n why : Nat} : Steady s (blockPipe n why s) := by
  unfold blockPipe
  extract_lets +onlyGivenNames x0 x3
  have h0 : Steady s x0 := .step unlink_steady (.refl _)
  exact .step modPipe_steady (.upd h0 rfl)

theorem unblock_steady {n why : Nat} : Steady s (unblock n why s) := by
  unfold unblock
  split
  · exact .ite (.step link_steady (.step (setPipe_steady ‹_›) (.refl _))) (.refl _)
  · exact .refl _

theorem dropPages_steady {k : Nat} {kept : Page → Bool} : Steady s (dropPages k kept s) := by
  unfold dropPages
  split
  · extract_lets +onlyGivenNames x1 x2 x3
    have h3 : Steady s x3 := .step (setXfer_eff.steady (by decide)) (.refl _)
    refine .ite h3 ?_
    extract_lets +onlyGivenNames x9 x10 x11
    have h11 : Steady s x11 := .ite h3 (.step (giveShared_eff.steady (by decide)) h3)
    split
    · exact .step unblock_steady h11
    · exact h11
  · exact .refl _

theorem turnPages_steady {k pos : Nat} : Steady s (turnPages k pos s) := by
  unfold turnPages
  exact .step dropPages_steady (.refl _)

theorem tunnelOffer_steady {k : Nat} : Steady s (tunnelOffer k s) := by
  unfold tunnelOffer
  split
  · refine .ite (.refl _) ?_
    split
    · extract_lets +onlyGivenNames x4
      refine .ite (.refl _) ?_
      refine .ite ?_ (.step (tunErdy_eff.steady (by decide)) (.refl _))
      extract_lets +onlyGivenNames x8
      have h8 : Steady s x8 := .step (emit_eff.steady (by decide)) (.refl _)
      exact .step turnPages_steady (.step (setXfer_eff.steady (by decide)) h8)
    · exact .refl _
  · exact .refl _

theorem queueJob_steady {k : Nat} : Steady s (queueJob k s) := by
  unfold queueJob
  split
  · refine .ite ?_ (.ite (.refl _) (.ite (.upd (.refl _) rfl) (.upd (.refl _) rfl)))
    extract_lets +onlyGivenNames x2
    have h2 : Steady s x2 := .step tunnelOffer_steady (.step (feedTunnel_eff.steady (by decide)) (.refl _))
    split
    · exact .step unblock_steady h2
    · exact h2
  · exact .refl _

theorem unbind_steady {k : Nat} : Steady s (unbind k s) := by
  unfold unbind
  split
  · split
    · extract_lets +onlyGivenNames x2
      have h2 : Steady s x2 := .step (setXfer_eff.steady (by decide)) (.refl _)
      exact .step pumpOff_steady (.step (modPump_eff.steady (by decide)) h2)
    · exact .refl _
  · exact .refl _

theorem nextJob_steady {fuel k : Nat} : Steady s (nextJob fuel k s) := by
  induction fuel generalizing s with
  | zero => exact .refl _
  | succ fuel ih =>
    unfold nextJob
    split
    · refine .ite ?_ (.refl _)
      extract_lets +onlyGivenNames a
      have ha : Steady s a := .step (dequeueJob_eff.steady (by decide)) unbind_steady
      split
      · exact .ite (.step ih (.step (modXfer_eff.steady (by decide)) ha)) ha
      · exact ha
    · exact .refl _

theorem settleJob_steady {k : Nat} : Steady s (settleJob k s) := by
  unfold settleJob
  extract_lets +onlyGivenNames x0
  have h0 : Steady s x0 := .step nextJob_steady (.refl _)
  split
  · split
    · exact .ite (.step unbind_steady h0) h0
    · exact .step queueJob_steady h0
  · exact h0

theorem modDesc_steady {n : Nat} {g : Desc → Desc} : Steady s (modDesc n g s) := by
  unfold modDesc
  split
  · exact modEngine_eff.steady (by decide)
  · exact .refl _

theorem replyStop_steady {n code : Nat} {c : Word} : Steady s (replyStop n code c s) := by
  unfold replyStop
  refine .ite (.refl _) ?_
  split
  · exact .step publish_steady (.step (endEntDw_eff.steady (by decide)) (.refl _))
  · exact .refl _

theorem replyPipe_steady {n : Nat} {code : Nat} : Steady s (replyPipe n code s) := by
  unfold replyPipe
  split
  · exact .foldl (fun _ _ => .step replyStop_steady (.refl _)) (.step (setPipe_steady ‹_›) (.refl _)) _
  · exact .refl _

theorem dropCtx_steady {n : Nat} : Steady s (dropCtx n s) := by
  unfold dropCtx
  exact .upd (.refl _) rfl

theorem ltrUpdate_steady : Steady s (ltrUpdate s) := by
  unfold ltrUpdate
  exact .ite (.refl _) (.step tlp_steady (.upd (.refl _) rfl))

theorem closeEndpoint_steady {x : Pipe} : Steady s (closeEndpoint x s) := by
  unfold closeEndpoint
  split
  · exact .ite (.step dropCtx_steady (.step delPipe_steady (.refl _))) (.refl _)
  · exact .refl _

theorem erasePipe_steady {n : Nat} : Steady s (erasePipe n s) := by
  unfold erasePipe
  split
  · extract_lets +onlyGivenNames x1 x5 x10 x13
    have h1 : Steady s x1 := .step unlink_steady (.refl _)
    have h5 : Steady s x5 := .ite (.step modPsched_steady h1) h1
    have h10 : Steady s x10 := .step (modEngine_eff.steady (by decide)) h5
    have h13 : Steady s x13 := .step ltrUpdate_steady (.step closeEndpoint_steady (.step dropCtx_steady (.step
      delPipe_steady h10)))
    exact .step portRemoved_steady (.ite (.step (idleStart_eff.steady (by decide)) h13) h13)
  · exact .refl _

theorem endEntry_steady {q : Nat} {i : Word} {c : Cpl} {wrote : Option Nat} : Steady s (endEntry q i c
    wrote s) := by
  unfold endEntry
  split
  · refine .ite ?_ (.step complete_steady (.refl _))
    extract_lets +onlyGivenNames x2
    have h2 : Steady s x2 := .step (modEnt_eff.steady (by decide)) (.refl _)
    exact .ite h2 (.step issueRead_steady h2)
  · exact .step complete_steady (.refl _)

theorem detach_steady {n : Nat} {q : Nat} {i : Word} : Steady s (detach n q i s) := by
  unfold detach
  exact .step modPipe_steady (.refl _)

theorem freeXfer_steady {k : Nat} : Steady s (freeXfer k s) := by
  unfold freeXfer
  split
  · extract_lets +onlyGivenNames x1 x6 x9 x10 x11 x12 x13 x14 x15
    have h1 : Steady s x1 := .step (dequeueJob_eff.steady (by decide)) (.step unbind_steady (.refl _))
    have h6 : Steady s x6 := .step (giveShared_eff.steady (by decide)) h1
    have h15 : Steady s x15 := .upd h6 rfl
    exact .upd h15 rfl
  · exact .refl _

theorem newXfer_steady {k : Nat} {y : Xfer} : Steady s (newXfer k y s) := by
  unfold newXfer
  extract_lets +onlyGivenNames x0 x3
  have h0 : Steady s x0 := .step (setXfer_eff.steady (by decide)) (.refl _)
  exact .upd h0 rfl

theorem activate_steady {n : Nat} {x : Pipe} {r : EntRef} {d : Slot} : Steady s (activate n x r d s) := by
  unfold activate
  split
  · exact .step modPipe_steady (.step newXfer_steady (.refl _))
  · exact .refl _

theorem endFollowers_steady {n : Option Nat} {q : Nat} {sig : Nat × Nat × Nat} {c : Cpl} {l : List Ent} :
    Steady s (endFollowers n q sig c l s) := by
  induction l generalizing s with
  | nil => exact .refl _
  | cons e es ih =>
    unfold endFollowers
    extract_lets +onlyGivenNames a b
    have ha : Steady s a := by
      unfold a
      split
      · exact detach_steady
      · exact .refl _
    have hb : Steady s b := .ite (.step (leaveWord_eff.steady (by decide)) ha) ha
    exact .step ih (.step complete_steady hb)

theorem endIdle_steady {n : Nat} {r : EntRef} : Steady s (endIdle n r s) := by
  unfold endIdle
  split
  · exact .step endFollowers_steady (.refl _)
  · exact .refl _

theorem emptied_steady {n : Nat} : Steady s (emptied n s) := by
  unfold emptied
  split
  · rename_i x hx
    exact .ite (.setPipe hx unlink_steady) (.refl _)
  · exact .refl _

theorem startHead_steady {fuel n : Nat} : Steady s (startHead fuel n s) := by
  induction fuel generalizing s with
  | zero => exact .refl _
  | succ fuel ih =>
    unfold startHead
    split
    · split
      · refine .ite (.refl _) (.ite (.step ih (.step emptied_steady endIdle_steady)) ?_)
        split
        · refine .ite (.ite ?_ blockPipe_steady) (.refl _)
          split
          · exact .step (askPages_eff.steady (by decide)) (.step queueJob_steady activate_steady)
          · exact .refl _
        · exact .refl _
      · exact .refl _
    · exact .refl _

theorem startHeads_steady {n : Nat} : Steady s (startHeads n s) := by
  unfold startHeads
  exact .step startHead_steady (.refl _)

theorem nextHead_steady {n : Nat} : Steady s (nextHead n s) := by
  unfold nextHead
  split
  · split
    · exact .ite (.step emptied_steady (.refl _)) (.step startHeads_steady (.refl _))
    · exact .step startHeads_steady (.refl _)
    · exact .refl _
  · exact .refl _

theorem clearErrs_steady {n : Nat} : Steady s (clearErrs n s) := by
  unfold clearErrs
  split
  · exact .step (modEngine_eff.steady (by decide)) (.step (setPipe_steady ‹_›) (.refl _))
  · exact .refl _

theorem detachXfer_steady {k : Nat} : Steady s (detachXfer k s) := by
  unfold detachXfer
  split
  · split
    · refine .ite ?_ (.refl _)
      extract_lets +onlyGivenNames x3 x4
      have h4 : Steady s x4 := .step modDesc_steady (.refl _)
      exact .step nextHead_steady (.step clearErrs_steady (.step modPipe_steady h4))
    · exact .refl _
  · exact .refl _

theorem closeDone_steady {n : Nat} : Steady s (closeDone n s) := by
  unfold closeDone
  split
  · refine .ite ?_ (.refl _)
    extract_lets +onlyGivenNames x2
    have h2 : Steady s x2 := .foldl (fun _ _ => .step complete_steady (.step detach_steady (.refl _))) (.refl _) _
    exact .step erasePipe_steady (.step replyPipe_steady h2)
  · exact .refl _

theorem endChain_steady {x : Xfer} {pos : Nat} {c : Cpl} {chain : List Ent} : Steady s (endChain x pos c
    chain s) := by
  unfold endChain
  split
  · extract_lets +onlyGivenNames x1 x2 x3 x4 x11 x16
    have h4 : Steady s x4 := by
      unfold x4
      split
      · exact .step detach_steady (.refl _)
      · exact .refl _
    have h11 : Steady s x11 := .ite (.step (leaveWord_eff.steady (by decide)) h4) h4
    have h16 : Steady s x16 := .step endEntry_steady h11
    exact .step endFollowers_steady h16
  · exact .step (leaveWord_eff.steady (by decide)) (.refl _)

theorem dropXfer_steady {k : Nat} {c : Cpl} : Steady s (dropXfer k c s) := by
  unfold dropXfer
  split
  · extract_lets +onlyGivenNames x1 x2 x3
    have h3 : Steady s x3 := .step (keepPlace_eff.steady (by decide)) (.step endChain_steady (.step freeXfer_steady
      (.step detachXfer_steady (.refl _))))
    split
    · exact .step closeDone_steady h3
    · exact h3
  · exact .refl _

theorem startCopy_steady {r : EntRef} : Steady s (startCopy r s) := by
  unfold startCopy
  split
  · split
    · extract_lets +onlyGivenNames x2 x3 x9
      have h3 : Steady s x3 := .upd (.refl _) rfl
      have h9 : Steady s x9 := .step newXfer_steady h3
      exact .ite (.step dropXfer_steady h9) (.step (askPages_eff.steady (by decide)) (.step queueJob_steady h9))
    · exact .refl _
  · exact .upd (.refl _) rfl

theorem retryBlocked_steady : Steady s (retryBlocked s) := by
  unfold retryBlocked
  extract_lets +onlyGivenNames x0
  have h0 : Steady s x0 := .foldl (fun _ _ => .step startHeads_steady (.step unblock_steady (.refl _))) (.refl _) _
  exact .foldl (fun _ _ => .step startCopy_steady (.refl _)) h0 _

theorem endXfer_steady {k : Nat} {c : Cpl} : Steady s (endXfer k c s) := by
  unfold endXfer
  exact .step retryBlocked_steady (.step dropXfer_steady (.refl _))

theorem passEntries_steady {fuel k : Nat} : Steady s (passEntries fuel k s) := by
  induction fuel generalizing s with
  | zero => exact .refl _
  | succ fuel ih =>
    unfold passEntries
    split
    · split
      · extract_lets +onlyGivenNames pos len closed
        refine .ite ?_ (.refl _)
        extract_lets +onlyGivenNames c a b d e
        have ha : Steady s a := by
          unfold a
          split
          · exact .step modPipe_steady detach_steady
          · exact .refl _
        have hb : Steady s b := .step endEntry_steady ha
        have hd : Steady s d := .ite (.step (markStarted_eff.steady (by decide)) hb) hb
        have he : Steady s e := .ite hd (.step (dequeueJob_eff.steady (by decide)) (.step unbind_steady hd))
        exact .step ih (.step (modXfer_eff.steady (by decide)) he)
      · exact .refl _
    · exact .refl _

theorem progress_steady {k : Nat} : Steady s (progress k s) := by
  unfold progress
  extract_lets +onlyGivenNames x0
  have h0 : Steady s x0 := .step passEntries_steady (.step tunnelOffer_steady (.refl _))
  split
  · extract_lets +onlyGivenNames x5
    have h5 : Steady s x5 := .ite (.step (markStarted_eff.steady (by decide)) h0) h0
    refine .ite (.step settleJob_steady h5) ?_
    split
    · extract_lets +onlyGivenNames x15 x16
      have h16 : Steady s x16 := .ite h5 (.step detachXfer_steady h5)
      exact .ite (.step endXfer_steady h16) (.step settleJob_steady h16)
    · exact .ite (.step endXfer_steady h5) (.step settleJob_steady h5)
  · exact h0

theorem endBus_steady {k : Nat} {c : Cpl} : Steady s (endBus k c s) := by
  unfold endBus
  split
  · exact .step progress_steady (.step (setXfer_eff.steady (by decide)) (.refl _))
  · exact .refl _

theorem endAll_steady {n : Nat} {started other : Cpl} : Steady s (endAll n started other s) := by
  unfold endAll
  split
  · extract_lets +onlyGivenNames x1 x2 x3
    have h3 : Steady s x3 := .foldl (fun _ _ => .step complete_steady (.step detach_steady (.refl _))) (.refl _) _
    split
    · exact .step endBus_steady h3
    · exact h3
  · exact .refl _

theorem cellRead_steady {q : QueueId} : Steady s (cellRead q s) := by
  unfold cellRead
  split
  · exact .step issueRead_steady (.refl _)
  · exact .refl _

theorem afterCell_steady {q : QueueId} : Steady s (afterCell q s) := by
  unfold afterCell
  split
  · exact .ite (.step cellRead_steady (.step (setQueue_eff.steady (by decide)) (.refl _))) (.refl _)
  · exact .refl _

theorem intoSet_steady {n : Nat} : Steady s ((intoSet n s).getD s) := by
  unfold intoSet
  extract_lets +onlyGivenNames set
  split
  · exact .upd (.refl s) rfl
  · cases set.find? (fun c => !pinned s c.1) with
    | none => exact .refl s
    | some c => exact .upd (.refl s) rfl

theorem roomOver_steady : Steady s (roomOver s) := by
  unfold roomOver
  refine .ite (.refl _) ?_
  split
  · exact .step intoSet_steady (.upd (.refl s) rfl)
  · exact .refl _

theorem pin_steady {n : Nat} : Steady s (pin n s) := by
  unfold pin
  extract_lets +onlyGivenNames x0
  refine .ite ?_ (.refl _)
  extract_lets +onlyGivenNames x2
  have h2 : Steady s x2 := .step roomOver_steady (.refl _)
  exact .ite (.upd h2 rfl) h2

theorem touch_steady {n : Nat} : Steady s (touch n s) := by
  unfold touch
  exact .step pin_steady (.upd (.refl _) rfl)

theorem chargeRoom_steady {p ix : Nat} {c : Int} : Steady s (chargeRoom p ix c s) := by
  unfold chargeRoom
  exact .step modPsched_steady (.refl _)

theorem sendBurst_steady {n : Nat} {x : Pipe} {pl : Plan} {numP : Nat} : Steady s (sendBurst n x pl numP
    s) := by
  unfold sendBurst
  extract_lets +onlyGivenNames x0 x1 x2 x3 x4 x5 x8 x13
  have h5 : Steady s x5 := .step modPipe_steady (.refl _)
  have h8 : Steady s x8 := by
    unfold x8
    split
    · exact .step (modXfer_eff.steady (by decide)) h5
    · exact h5
  have h13 : Steady s x13 := .ite (.step (busOut_eff.steady (by decide)) h8) h8
  refine .ite ?_ ?_
  · split
    · exact .step (busOut_eff.steady (by decide)) h13
    · exact h13
  · refine .ite (.step (busOut_eff.steady (by decide)) h13) ?_
    refine .ite (.ite (.step (busOut_eff.steady (by decide)) h13) (.step (busOut_eff.steady (by decide)) h13)) ?_
    refine .ite (.step (busOut_eff.steady (by decide)) h13) ?_
    refine .ite (.step (busOut_eff.steady (by decide)) h13) ?_
    extract_lets +onlyGivenNames x38
    split
    · exact .step modDesc_steady (.step (sendPages_eff.steady (by decide)) h13)
    · exact h13

theorem startDesc_steady {p h : Nat} {d : Desc} : Steady s (startDesc p h d s) := by
  unfold startDesc
  split
  · refine .ite ?_ (.refl _)
    split
    · exact .ite (.refl _) (.step (ssDone_eff.steady (by decide)) (.step sendBurst_steady
        (modEngine_eff.steady (by decide))))
    · exact .refl _
  · exact .refl _

theorem splitDispatch_steady {n : Nat} {x : Pipe} : Steady s (splitDispatch n x s) := by
  unfold splitDispatch
  exact .step modPipe_steady (.refl _)

theorem startSplitOf_steady {p : Nat} {d : Desc} : Steady s (startSplitOf p d s) := by
  unfold startSplitOf
  split
  · refine .ite (.refl _) ?_
    extract_lets +onlyGivenNames x3 x4 x5 x6 x10
    have h6 : Steady s x6 := .step (setPipe_steady ‹_›) (.refl _)
    refine .ite (.ite h6 (.step modDesc_steady h6)) ?_
    refine .ite h6 ?_
    refine .ite ?_ (.step (busOut_eff.steady (by decide)) (.step modDesc_steady (.step splitDispatch_steady h6)))
    extract_lets +onlyGivenNames x20 x21 x22 x23
    have h23 : Steady s x23 := .step (busOut_eff.steady (by decide)) (.step splitDispatch_steady h6)
    exact .step (busOut_eff.steady (by decide)) h23
  · exact .refl _

theorem startNext_steady {p h : Nat} : Steady s (startNext p h s) := by
  unfold startNext
  extract_lets +onlyGivenNames x0
  have h0 : Steady s x0 := .ite (.foldl (fun _ _ => .step startSplitOf_steady (.refl _)) (.refl _) _) (.refl _)
  exact .foldl (fun _ _ => .step startDesc_steady (.refl _)) h0 _

theorem dispatch_steady {n : Nat} {x : Pipe} {pl : Plan} {fromGroup : Option Nat} : Steady s (dispatch n x
    pl fromGroup s) := by
  unfold dispatch
  extract_lets +onlyGivenNames x0 x1 x2 x3 x6 x13 x17 x25 x26 x40 x45 x46 x47 x50
  have h3 : Steady s x3 := .step setList_steady (.refl _)
  have h6 : Steady s x6 := by
    unfold x6
    split
    · split
      · exact .step activate_steady h3
      · exact h3
    · exact h3
  have h13 : Steady s x13 := by
    unfold x13
    split
    · extract_lets +onlyGivenNames x15 x22
      have h15 : Steady s x15 := .ite h6 (.step (takeShared_eff.steady (by decide)) h6)
      have h22 : Steady s x22 := by
        unfold x22
        split
        · exact .step (markStarted_eff.steady (by decide)) (.step (setXfer_eff.steady (by decide)) h15)
        · exact h15
      exact .ite (.step (askPages_eff.steady (by decide)) (.step queueJob_steady h22)) h22
    · exact h6
  have h17 : Steady s x17 := .step modPipe_steady h13
  have h26 : Steady s x26 := .step lowerPend_steady (.step chargeRoom_steady h17)
  have h40 : Steady s x40 := by
    unfold x40
    split
    · exact .step modPsched_steady h26
    · exact h26
  have h47 : Steady s x47 := .step (modEngine_eff.steady (by decide)) h40
  have h50 : Steady s x50 := .step touch_steady h47
  split
  · exact .ite (.step (ssDone_eff.steady (by decide)) (.step sendBurst_steady h50)) h50
  · exact h50

theorem pickList_steady {ns : List Nat} : Steady s (pickList s ns).1 := by
  induction ns generalizing s with
  | nil => exact .refl _
  | cons n ns ih =>
    unfold pickList
    split
    · split
      · split
        · split
          · exact .refl _
          · exact ih
        · exact ih
      · exact .step ih blockPipe_steady
    · exact ih

theorem pickAsync_steady {p fuel : Nat} {seen : Bool} : Steady s (pickAsync p fuel s seen).1 := by
  induction fuel generalizing s seen with
  | zero => exact .refl _
  | succ fuel ih =>
    unfold pickAsync
    extract_lets +onlyGivenNames y g l turn
    split
    · extract_lets +onlyGivenNames a r
      have ha : Steady s a := .ite (.refl _) modPsched_steady
      have hr : Steady s r.1 := .step pickList_steady ha
      split
      · extract_lets +onlyGivenNames fit
        split
        · exact hr
        · exact .step ih (.step modPsched_steady hr)
      · exact .step ih (.step modPsched_steady hr)
    · extract_lets +onlyGivenNames a
      have ha : Steady s a := .ite modPsched_steady (.refl _)
      exact .step ih (.step modPsched_steady ha)

theorem pickScav_steady {p : Nat} {gs : List Nat} : Steady s (pickScav p gs s).1 := by
  induction gs generalizing s with
  | nil => exact .refl _
  | cons g gs ih =>
    unfold pickScav
    split
    · extract_lets +onlyGivenNames r
      have hr : Steady s r.1 := pickList_steady
      split
      · split
        · exact .upd hr rfl
        · exact .step ih hr
      · exact .step ih hr
    · exact ih

theorem pickPeriodic_steady {p : Nat} {ns : List Nat} : Steady s (pickPeriodic p s ns).1 := by
  induction ns generalizing s with
  | nil => exact .refl _
  | cons n ns ih =>
    unfold pickPeriodic
    split
    · split
      · exact ih
      · split
        · split
          · split
            · exact .refl _
            · exact ih
          · exact ih
        · exact .step ih (.ite dropKlass_steady modPipe_steady)
    · exact ih

theorem sendProbe_steady {p h : Nat} {w : Walk} {hub hp : Nat} : Steady s (sendProbe p h w hub hp s) := by
  unfold sendProbe
  extract_lets +onlyGivenNames x0 x5 x6
  have h0 : Steady s x0 := .foldl (fun _ _ => .step chargeRoom_steady (.refl _)) (.refl _) _
  have h6 : Steady s x6 := .upd h0 rfl
  exact .step (bus_eff.steady (by decide)) h6

theorem sendSet_steady {p h a : Nat} : Steady s (sendSet p h a s) := by
  unfold sendSet
  extract_lets +onlyGivenNames x0 x5 x10
  have h0 : Steady s x0 := .foldl (fun _ _ => .step chargeRoom_steady (.refl _)) (.refl _) _
  have h5 : Steady s x5 := by
    unfold x5
    split
    · exact .step (bus_eff.steady (by decide)) h0
    · exact h0
  exact .step (bus_eff.steady (by decide)) (.step (modEngine_eff.steady (by decide)) h5)

theorem prefetch_steady {p : Nat} : Steady s (prefetch p s) := by
  unfold prefetch
  exact .foldl (fun _ _ => .foldl (fun _ _ => .step needCtx_steady (.refl _)) (.refl _) _) (.refl _) _

theorem settleBurst_steady {n : Nat} : Steady s (settleBurst n s) := by
  unfold settleBurst
  split
  · extract_lets +onlyGivenNames x1 x2 x3 x7 x12 x15 x18
    have h3 : Steady s x3 := .step (modEngine_eff.steady (by decide)) (.refl _)
    have h7 : Steady s x7 := .ite (.step (idleStart_eff.steady (by decide)) h3) h3
    have h12 : Steady s x12 := .step (sendSignals_eff.steady (by decide)) h7
    have h15 : Steady s x15 := .step chargeRoom_steady h12
    have h18 : Steady s x18 := .ite h12 (.ite (.step modPsched_steady (.step modPipe_steady h15)) h15)
    split
    · exact .ite h18 (.step modPsched_steady h18)
    · exact h18
  · exact .refl _

theorem erdyHonoured_steady {n : Nat} : Steady s (erdyHonoured n s) := by
  unfold erdyHonoured
  split
  · exact .ite (.step startHeads_steady (.step link_steady (.step (setPipe_steady ‹_›) (.refl _)))) (.refl _)
  · exact .refl _

theorem freeStreams_steady {ep : Nat} : Steady s (freeStreams ep s) := by
  unfold freeStreams
  exact .foldl (fun _ _ => .step erdyHonoured_steady (.refl _)) (.foldl (fun _ _ => .step unblock_steady (.refl _))
    (.refl _) _) _

theorem streamIdle_steady {ep : Nat} : Steady s (streamIdle ep s) := by
  unfold streamIdle
  split
  · exact .step freeStreams_steady (.ite (.refl _) (.step modPipe_steady (.step (setPipe_steady ‹_›) (.refl _))))
  · exact .refl _

theorem streamDone_steady {n : Nat} {x : Pipe} : Steady s (streamDone n x s) := by
  unfold streamDone
  extract_lets +onlyGivenNames x0
  have h0 : Steady s x0 := .step modPipe_steady (.refl _)
  split
  · exact .ite (.step freeStreams_steady h0) h0
  · exact h0

theorem freeTt_steady {x : Pipe} : Steady s (freeTt x s) := by
  unfold freeTt
  exact .ite (.refl _) (.foldl (fun _ _ => .step unblock_steady (.refl _)) (.refl _) _)

theorem retryStore_steady {n : Nat} {x : Pipe} : Steady s (retryStore n x s) := by
  unfold retryStore
  extract_lets +onlyGivenNames x0
  split
  · exact .ite (.step (modEngine_eff.steady (by decide)) (.step modPipe_steady (.refl _))) (.step
      (modEngine_eff.steady (by decide)) (.refl _))
  · exact .step (modEngine_eff.steady (by decide)) (.refl _)

theorem unpause_steady {k : Nat} : Steady s (unpause k s) := by
  unfold unpause
  split
  · exact .ite (.step unbind_steady (.refl _)) (.refl _)
  · exact .refl _

theorem drainCheck_steady {n : Nat} : Steady s (drainCheck n s) := by
  unfold drainCheck
  split
  · split
    · exact .ite (.step progress_steady (.ite (.step unpause_steady (.refl _)) (.refl _))) (.ite (.step endBus_steady
        (.step unpause_steady (.refl _))) (.refl _))
    · exact .refl _
  · exact .refl _

theorem streamAfter_steady {n : Nat} {x : Pipe} {how : BurstEnd} : Steady s (streamAfter n x how s) := by
  unfold streamAfter
  exact .ite (.refl _) (.ite (.step streamDone_steady (.step streamIdle_steady (.refl _))) (.step streamDone_steady
    (.refl _)))

theorem streamEmpty_steady {n : Nat} {x : Pipe} : Steady s (streamEmpty n x s) := by
  unfold streamEmpty
  exact .ite (.step streamIdle_steady (.refl _)) (.refl _)

theorem burstState_steady {n : Nat} {x : Pipe} {how : BurstEnd} : Steady s (burstState n x how s) := by
  unfold burstState
  refine .ite ?_ ?_
  · extract_lets +onlyGivenNames x1
    have h1 : Steady s x1 := .step dropKlass_steady (.refl _)
    exact .step replyPipe_steady (.step modPipe_steady h1)
  · refine .ite ?_ ?_
    · extract_lets +onlyGivenNames x3
      have h3 : Steady s x3 := .step dropKlass_steady (.refl _)
      exact .ite (.ite (.step modPipe_steady h3) (.step startHeads_steady (.step link_steady (.step modPipe_steady
        h3)))) (.step modPipe_steady h3)
    · refine .ite (.step modPipe_steady (.step dropKlass_steady (.refl _))) ?_
      extract_lets +onlyGivenNames x8 x29
      have h8 : Steady s x8 := .step link_steady (.step modPipe_steady (.refl _))
      have h29 : Steady s x29 := .ite (.step dropKlass_steady h8) h8
      exact .step startHeads_steady h29

theorem burstClosed_steady {n : Nat} {x : Pipe} : Steady s (burstClosed n x s) := by
  unfold burstClosed
  split
  · exact .step endAll_steady (.refl _)
  · exact .step endBus_steady (.refl _)
  · exact .refl _

theorem finishBurst_steady {n : Nat} {how : BurstEnd} : Steady s (finishBurst n how s) := by
  unfold finishBurst
  split
  · exact .refl _
  · extract_lets +onlyGivenNames x2 x3 x6 x11 x14 x19 x23
    have h3 : Steady s x3 := .step settleBurst_steady (.refl _)
    have h6 : Steady s x6 := by
      unfold x6
      split
      · exact .step (modXfer_eff.steady (by decide)) h3
      · exact h3
    have h11 : Steady s x11 := .step modPipe_steady h6
    have h14 : Steady s x14 := .ite (.step retryStore_steady h11) h11
    have h19 : Steady s x19 := .step freeTt_steady (.step streamAfter_steady h14)
    have h23 : Steady s x23 := by
      unfold x23
      split
      · exact .step burstState_steady h19
      · exact .step burstClosed_steady h19
      · exact h19
    exact .step startNext_steady (.step streamEmpty_steady (.step closeDone_steady (.step drainCheck_steady h23)))

theorem withdrawUnsent_steady {n : Nat} : Steady s (withdrawUnsent n s) := by
  unfold withdrawUnsent
  split
  · exact .ite (.step finishBurst_steady (.refl _)) (.refl _)
  · exact .refl _

theorem breakChain_steady {k : Nat} {x : Xfer} {c : Cpl} : Steady s (breakChain k x c s) := by
  unfold breakChain
  split
  · extract_lets +onlyGivenNames x1 x2 x6 x11 x16 x19
    have h2 : Steady s x2 := .upd (.refl _) rfl
    have h6 : Steady s x6 := .step (modXfer_eff.steady (by decide)) (.step (cutPages_eff.steady (by decide)) (.step
      unbind_steady h2))
    have h11 : Steady s x11 := by
      unfold x11
      split
      · exact .step detach_steady h6
      · exact h6
    have h16 : Steady s x16 := .step complete_steady h11
    have h19 : Steady s x19 := .ite (.step (leaveWord_eff.steady (by decide)) h16) h16
    refine .step progress_steady (.step endFollowers_steady ?_)
    split
    · exact .step unblock_steady h19
    · exact h19
  · exact .refl _

theorem ackJob_steady {k : Nat} {p : PumpReg} : Steady s (ackJob k p s) := by
  unfold ackJob
  split
  · extract_lets +onlyGivenNames x1
    refine .ite (.step breakChain_steady (.refl _)) ?_
    split
    · exact .ite (.step endXfer_steady (.refl _)) (.ite (.step (modXfer_eff.steady (by decide)) (.step unbind_steady
        (.refl _))) (.step endXfer_steady (.step finishBurst_steady (.refl _))))
    · exact .step endXfer_steady (.refl _)
  · exact .refl _

theorem drainBurst_steady {n k : Nat} : Steady s (drainBurst n k s) := by
  unfold drainBurst
  refine .ite (.step progress_steady (.step unpause_steady (.refl _))) ?_
  split
  · exact .ite (.refl _) (.step finishBurst_steady (.refl _))
  · exact .step drainCheck_steady (.refl _)

theorem drainXfer_steady {k : Nat} : Steady s (drainXfer k s) := by
  unfold drainXfer
  split
  · split
    · refine .ite (.step ackJob_steady (.refl _)) ?_
      refine .ite (.step endXfer_steady (.refl _)) ?_
      split
      · exact .step drainBurst_steady (.refl _)
      · exact .refl _
    · split
      · exact .step drainBurst_steady (.refl _)
      · exact .step endXfer_steady (.refl _)
  · exact .refl _

theorem setInstSt_steady {i : Nat} {st : InstSt} : Steady s (setInstSt i st s) := by
  unfold setInstSt
  extract_lets +onlyGivenNames old
  refine .ite (.refl _) ?_
  extract_lets +onlyGivenNames a f
  have ha : Steady s a := .upd (.refl _) rfl
  exact .step event_steady ha

theorem judgeInst_steady {i : Nat} : Steady s (judgeInst i s) := by
  unfold judgeInst
  split
  · exact .ite (.refl _) (.step setInstSt_steady (.refl _))
  · exact .ite (.refl _) (.step setInstSt_steady (.refl _))
  · exact .refl _
  · exact .refl _

theorem quiesceJob_steady {k : Nat} : Steady s (quiesceJob k s) := by
  unfold quiesceJob
  split
  · exact .ite (.step unbind_steady (.refl _)) (.step (modPump_eff.steady (by decide)) (.refl _))
  · exact .refl _

theorem quiesce_steady {i : Nat} : Steady s (quiesce i s) := by
  unfold quiesce
  extract_lets +onlyGivenNames x0
  have h0 : Steady s x0 := .foldl (fun _ _ => .step quiesceJob_steady (.refl _)) (.refl _) _
  exact .foldl (fun _ _ => .step withdrawUnsent_steady (.refl _)) h0 _

theorem reissueBarriers_steady {q : Nat} {x : Queue} : Steady s (reissueBarriers q x s) := by
  unfold reissueBarriers
  refine .foldl (fun _ _ => ?_) (.refl _) _
  split
  · exact .ite (.step issueRead_steady (.refl _)) (.refl _)
  · exact .refl _

theorem resumeQueue_steady {q : Nat} : Steady s (resumeQueue q s) := by
  unfold resumeQueue
  split
  · extract_lets +onlyGivenNames x1 x6 x12
    have h1 : Steady s x1 := .step flush_steady (.step reissueBarriers_steady (.refl _))
    have h6 : Steady s x6 := .ite (.step writeState_steady (.step writeHead_steady h1)) h1
    have h12 : Steady s x12 := .ite (.step afterCell_steady h6) h6
    exact .step flushEvents_steady h12
  · exact .refl _

theorem resume_steady {i : Nat} : Steady s (resume i s) := by
  unfold resume
  extract_lets +onlyGivenNames x0 x1 x6 x11
  have h1 : Steady s x1 := .foldl (fun _ _ => .step resumeQueue_steady (.refl _)) (.refl _) _
  have h6 : Steady s x6 := .foldl (fun _ _ => .step queueJob_steady (.refl _)) h1 _
  have h11 : Steady s x11 := .foldl (fun _ _ => .step unblock_steady (.refl _)) h6 _
  exact .step sendAll_steady (.step sendWaiting_steady h11)

theorem devStateEvent_steady {old : DevSt} : Steady s (devStateEvent old s) := by
  unfold devStateEvent
  exact .step event_steady (.refl _)

theorem devMove_steady {st : DevSt} : Steady s (devMove st s) := by
  unfold devMove
  exact .step devStateEvent_steady (.step (devTo_eff.steady (by decide)) (.refl _))

theorem endRequest_steady {r : TunReq} : Steady s (endRequest r s) := by
  unfold endRequest
  split
  · split
    · refine .ite ?_ ?_
      · split
        · exact .step drainXfer_steady (.step (modXfer_eff.steady (by decide)) (.refl _))
        · exact .refl _
      · extract_lets +onlyGivenNames x8 x14
        have h8 : Steady s x8 := by
          unfold x8
          split
          · extract_lets +onlyGivenNames x12
            have h12 : Steady s x12 := .step freeXfer_steady (.refl _)
            split
            · exact .step modPipe_steady h12
            · exact h12
          · exact .refl _
        have h14 : Steady s x14 := by
          unfold x14
          split
          · exact .step nextHead_steady (.step detach_steady h8)
          · exact h8
        exact .step retryBlocked_steady (.step complete_steady h14)
    · exact .refl _
  · exact .refl _

theorem abandon_steady : Steady s (abandon s).1 := by
  unfold abandon
  extract_lets +onlyGivenNames x0 x1 x2
  have h2 : Steady s x2 := .upd (.refl _) rfl
  exact .foldl (fun _ _ => .step endRequest_steady (.refl _)) h2 _

theorem devResetEvent_steady {pay : List Word} : Steady s (devResetEvent pay s) := by
  unfold devResetEvent
  exact .ite (.upd (.refl _) rfl) (.step event_steady (.refl _))

theorem busReset_steady {kind stage : Nat} {req : Byte} : Steady s (busReset kind stage req s) := by
  unfold busReset
  extract_lets +onlyGivenNames d r a e b
  have hr : Steady s r.1 := abandon_steady
  have hb : Steady s b := .upd hr rfl
  exact .step devResetEvent_steady hb

theorem devDetach_steady {stage : Nat} {req : Byte} : Steady s (devDetach stage req s) := by
  unfold devDetach
  refine .ite ?_ (.refl _)
  extract_lets +onlyGivenNames x1
  have h1 : Steady s x1 := .step busReset_steady (.refl _)
  exact .step devMove_steady (.upd h1 rfl)

theorem devOff_steady {stage : Nat} {req : Byte} : Steady s (devOff stage req s) := by
  unfold devOff
  refine .ite (.refl _) ?_
  extract_lets +onlyGivenNames x2
  have h2 : Steady s x2 := .step (devTo_eff.steady (by decide)) (.step devDetach_steady (.refl _))
  exact .step (switchOff_eff.steady (by decide)) (.step (emit_eff.steady (by decide)) (.upd h2 rfl))

theorem devClear_steady : Steady s (devClear s) := by
  unfold devClear
  extract_lets +onlyGivenNames f
  have hf : Steady s f.2 := .upd (.refl s) rfl
  exact .step devOff_steady hf

theorem pmeAll_steady : Steady s (pmeAll s) := by
  unfold pmeAll
  exact .foldl (fun _ _ => .ite (.step tlp_steady (.refl _)) (.refl _)) (.refl _) _

theorem linkChanged_steady : Steady s (linkChanged s) := by
  unfold linkChanged
  extract_lets +onlyGivenNames f
  have hf : Steady s f.2 := .upd (.refl s) rfl
  exact .step capEvent_steady hf

end Sys2Proof.Machine
end

section
/-! The link (file 02): training, the resets of the link and PERST#. -/

namespace Sys2Proof.Machine

open Sys2Proof

variable {s t : State}

/-! ### Changes of the functions one by one -/

theorem changeFn_steady {i : Nat} {g : Func → Func} (keep : ∀ f, f.pmeStatus = true → (g f).pmeStatus = true) :
    Steady s (changeFn i g s) := by
  unfold changeFn
  extract_lets was a b c
  have ha : Steady s a := setFn_steady (keep _)
  have hb : Steady s b := .ite (.step quiesce_steady ha) ha
  have hc : Steady s c := .step judgeInst_steady hb
  exact .ite hc (.ite (.step resume_steady hc) (.step sendAll_steady hc))

theorem changeFns_steady {l : List Nat} {g : Nat → Func → Func} (keep : ∀ i f, (g i f).pmeStatus = f.pmeStatus) :
    Steady s (l.foldl (fun s i => changeFn i (g i) s) s) :=
  .foldl (fun _ i => changeFn_steady fun f h => (keep i f).trans h) (.refl s) l

theorem functions_tail : ∃ l, functions s = 0 :: l ∧ 0 ∉ l :=
  ⟨_, rfl, by simp⟩

theorem controls_changeFns {l : List Nat} {g : Nat → Func → Func} (other : 0 ∉ l) :
    (fn (l.foldl (fun s i => changeFn i (g i) s) s) 0).controls = (fn s 0).controls := by
  induction l generalizing s with
  | nil => rfl
  | cons i l ih =>
    rw [List.mem_cons, not_or] at other
    exact (ih other.2).trans (controls_changeFn_other other.1)

/-- Each function is changed once: function 0 has its own change. -/
theorem controls_changeAll {g : Nat → Func → Func} :
    (fn ((functions s).foldl (fun s i => changeFn i (g i) s) t) 0).controls = (g 0 (fn t 0)).controls := by
  obtain ⟨l, all, other⟩ := functions_tail (s := s)
  rw [all, List.foldl_cons, controls_changeFns other, controls_changeFn_same]

/-- A function whose PME_Status is set has an entry of its own. -/
theorem any_of_fn {i : Nat} {f : Func → Bool} (none' : f {} = false) (h : f (fn s i) = true) :
    s.funcs.any (fun kv => f kv.2) = true := by
  unfold fn getD at h
  cases e : find s.funcs i with
  | none => rw [e] at h; exact absurd h (by simp [none'])
  | some x =>
    rw [e] at h
    exact List.any_eq_true.mpr ⟨_, mem_of_find e, h⟩

theorem assertWake_wakes : (assertWake s).host.peWake = true := by
  unfold assertWake
  split_ifs with h
  exacts [h, rfl]

/-! ### The link's registers -/

section Trained

variable {speed width : Nat} {rev : Bool}

/-- What training does to the registers of the link, before anybody is told. -/
def trained (speed width : Nat) (rev : Bool) (s : State) : State :=
  { s with host := { s.host with
    speed := BitVec.ofNat 4 speed, width := BitVec.ofNat 4 width, reversed := rev, linkUp := true, l1 := .l0 } }

theorem linkTrained_told : Steady (trained speed width rev s) (linkTrained speed width rev s) ∧
    Touches [.l1, .msg, .fnMsg, .queues, .tunnel, .gate, .heldEv, .freeCount, .out] (trained speed width rev s)
      (linkTrained speed width rev s) := by
  unfold linkTrained
  extract_lets old a b
  have hb : Steady a b := .ite (.refl _) pmeAll_steady
  have eb : Eff [.l1, .msg, .fnMsg, .queues, .tunnel, .gate, .heldEv, .freeCount, .out] a b :=
    Eff.ite (Eff.refl _ _) (pmeAll_eff.step (Eff.refl _ _))
  exact ⟨.ite (.step linkChanged_steady hb) hb, (Eff.ite (linkChanged_eff.step eb) eb).touches⟩

end Trained

section Reset

variable {k : LinkResetKind}

/-- The registers of the link and the boot record at a reset of the link, before its functions are changed. -/
def linkCleared (k : LinkResetKind) (s : State) : State :=
  { s with
    boot := { s.boot with perst := s.boot.perst || k = .perst }
    fw := if k = .perst then { s.fw with updates := [], actRecord := false } else s.fw
    host := { s.host with
      linkUp := false, speed := 0, width := 0, reversed := false, tenBit := false, mps := 0, mrrs := 2, l1 := .l0
      aspmL11 := false, aspmL12 := false, pciL11 := false, pciL12 := false
      cplTimeoutOff := false, cplTimeout := 0, ari := false } }

/-- The functions after it. -/
def functionsReset (k : LinkResetKind) (s : State) : State :=
  (functions (linkCleared k s)).foldl (fun s i => changeFn i (linkResetFn k i) s) (linkCleared k s)

theorem linkReset_eq : linkReset k s =
    if k = .perst && (functionsReset k s).funcs.any (fun kv => kv.2.pmeStatus && kv.2.pmeEnable) then
      assertWake (functionsReset k s) else functionsReset k s := rfl

theorem functionsReset_touches : Touches [.l1, .reads, .msg, .fnCfg, .fnMsg, .queues, .sched, .halves, .engines, .bursts,
    .portReg, .cistern, .instState, .capFlag, .devWake, .tunnel, .gate, .heldEv, .out] (linkCleared k s)
    (functionsReset k s) :=
  (Eff.foldl (fun _ _ => changeFn_eff (Eff.refl _ _) fun _ => {}) (Eff.refl _ _) _).touches

theorem functionsReset_steady : Steady (linkCleared k s) (functionsReset k s) := by
  unfold functionsReset
  exact changeFns_steady (g := linkResetFn k) fun _ _ => rfl

theorem functionsReset_controls : (fn (functionsReset k s) 0).controls = (linkResetFn k 0 (fn s 0)).controls :=
  controls_changeAll

theorem linkReset_woken : Touches [.msg, .out] (functionsReset k s) (linkReset k s) := by
  rw [linkReset_eq]
  exact (Eff.ite (assertWake_eff.step (Eff.refl _ _)) (Eff.refl [.msg, .out] _)).touches

theorem linkReset_controls : (fn (linkReset k s) 0).controls = (linkResetFn k 0 (fn s 0)).controls :=
  (linkReset_woken.controls (by decide) 0).trans functionsReset_controls

theorem linkReset_boot : (linkReset k s).boot = (linkCleared k s).boot :=
  Eq.trans (linkReset_woken .boot (by decide)) (functionsReset_touches .boot (by decide))

theorem linkReset_link : Part.Same (linkCleared k s) (linkReset k s) .link :=
  Eq.trans (linkReset_woken .link (by decide)) (functionsReset_touches .link (by decide))

/-- A function that enters D3cold with its wake pending has PE_WAKE_N asserted. -/
theorem linkReset_wakes (status : (fn s 0).pmeStatus = true) (enabled : (fn s 0).pmeEnable = true) :
    (linkReset .perst s).host.peWake = true := by
  have kept : (fn (functionsReset .perst s) 0).pmeStatus = true := functionsReset_steady.pme 0 status
  have on : (fn (functionsReset .perst s) 0).pmeEnable = true :=
    (congrArg (·.2.2.2.2.2.1) functionsReset_controls).trans enabled
  have waits := any_of_fn (f := fun f => f.pmeStatus && f.pmeEnable) rfl (by rw [kept, on]; rfl)
  rw [linkReset_eq, waits]
  exact assertWake_wakes

end Reset

/-- The functions after PERST# is deasserted. -/
def functionsUp (s : State) : State :=
  (functions { s with boot := { s.boot with perst := false } }).foldl
    (fun s i => changeFn i (fun f => { f with dstate := .d0 }) s) { s with boot := { s.boot with perst := false } }

theorem perstDeassert_eq : perstDeassert s =
    if (functionsUp s).host.peWake || (functionsUp s).pm.aonWake then
      emit (.peWake false) { functionsUp s with
        host := { (functionsUp s).host with peWake := false }, pm := { (functionsUp s).pm with aonWake := false } }
    else functionsUp s := rfl

theorem functionsUp_boot : (functionsUp s).boot = { s.boot with perst := false } :=
  (Eff.foldl (fun _ _ => changeFn_eff (ps := [.l1, .reads, .msg, .fnCfg, .fnMsg, .queues, .sched, .halves, .engines,
    .bursts, .portReg, .cistern, .instState, .capFlag, .devWake, .tunnel, .gate, .heldEv, .out]) (Eff.refl _ _)
    fun _ => {}) (Eff.refl _ _) _).touches .boot (by decide)

theorem functionsUp_controls : (fn (functionsUp s) 0).controls = { fn s 0 with dstate := .d0 }.controls :=
  controls_changeAll (g := fun _ f => { f with dstate := .d0 })

/-- Settles O15: function 0 has its own change of its controls, and the reactions leave the link's registers. -/
theorem linkEvents : Obligations.LinkEvents := by
  refine ⟨?idle, ?training, ?reset, ?deassert⟩
  case idle =>
    intro s idle
    exact (when_of idle).trans rfl
  case training =>
    intro speed width rev s up perst deep off some' lanes
    have can : (s.boot.up && !s.boot.perst && s.pm.st != .deep && s.pm.st != .off && speed ≠ 0 &&
        (width = 1 || width = 2 || width = 4 || width = 8)) = true := by
      simp [up, perst, deep, off, some', lanes, or_assoc]
    obtain ⟨steady, touches⟩ := linkTrained_told (speed := speed.val) (width := width.val) (rev := rev) (s := s)
    have link := touches .link (by decide)
    simp only [Part.Same, Prod.mk.injEq] at link
    exact ⟨_, when_of can, by simp [link, trained], by simp [link, trained], by simp [link, trained],
      by simp [link, trained], steady.link rfl⟩
  case reset =>
    intro k s can
    have run : exec (.linkReset k) s = .next (linkReset k s) := by
      refine when_of ?_
      split_ifs at can ⊢ <;> simp [can]
    have link : Part.Same (linkCleared k s) (linkReset k s) .link := linkReset_link
    have fn0 := linkReset_controls (k := k) (s := s)
    simp only [Part.Same, Prod.mk.injEq] at link
    simp only [Func.controls, Prod.mk.injEq] at fn0
    obtain ⟨mem, master, dstate, msix, -⟩ := fn0
    exact ⟨_, run, by simp [link, linkCleared], by simp [link, linkCleared], by simp [link, linkCleared],
      congrArg Boot.perst linkReset_boot, master, mem, msix, dstate, fun e => by subst e; exact linkReset_wakes,
      everyCommandKeepsItsFrame _ _ _ run⟩
  case deassert =>
    intro s down
    have boot := functionsUp_boot (s := s)
    have fn0 := functionsUp_controls (s := s)
    simp only [Func.controls, Prod.mk.injEq] at fn0
    obtain ⟨-, master, dstate, -⟩ := fn0
    refine ⟨_, when_of down, ?_⟩
    rw [perstDeassert_eq]
    split_ifs with waking
    · exact ⟨congrArg Boot.perst boot, dstate, rfl, rfl, master⟩
    · simp only [Bool.or_eq_true, not_or, Bool.not_eq_true] at waking
      exact ⟨congrArg Boot.perst boot, dstate, waking.1, waking.2, master⟩

end Sys2Proof.Machine
end

section
/-! One decision of the scheduler (files 05 and 07): what is chosen leaves as the last burst of its engine, as a probe or
as a SET_ADDRESS. -/

namespace Sys2Proof.Machine

open Sys2Proof

variable {s t u : State}

/-! ### The bursts of an engine -/

/-- What a burst descriptor says of its burst. -/
def Desc.burst (d : Desc) : Nat × Nat × Nat × Nat × Bool := (d.pipe, d.count, d.charged, d.carried, d.onWire)

/-- The bursts of the engines are as they were. -/
def KeepsBursts (s t : State) : Prop :=
  ∀ p h, (engine t p h).descs.map Desc.burst = (engine s p h).descs.map Desc.burst

theorem KeepsBursts.refl (s : State) : KeepsBursts s s := fun _ _ => rfl

theorem KeepsBursts.step (k : KeepsBursts t u) (h : KeepsBursts s t) : KeepsBursts s u := fun p e => (k p e).trans (h p e)

theorem KeepsBursts.ite {c : Prop} [Decidable c] (h : KeepsBursts s t) (k : KeepsBursts s u) :
    KeepsBursts s (if c then t else u) := by split <;> assumption

theorem Eff.keepsBursts {ps : List Part} (h : Eff ps s t) (n : .engines ∉ ps) : KeepsBursts s t := fun p e => by
  rw [h.touches.engine n]

theorem engine_modEngine_half {p h k : Nat} {g : Engine → Engine} (same : k = 0 ↔ h = 0) :
    engine (modEngine p h g s) p k = g (engine s p k) := by
  unfold engine modEngine
  rw [port_modPort]
  split_ifs <;> simp_all

theorem modDesc_keepsBursts {n : Nat} {g : Desc → Desc} (keep : ∀ d, (g d).burst = d.burst) :
    KeepsBursts s (modDesc n g s) := by
  unfold modDesc
  split
  · rename_i x _
    intro p h
    by_cases here : p = x.port.val ∧ (h = 0 ↔ pHalf x = 0)
    · rw [here.1, engine_modEngine_half here.2, List.map_map]
      refine List.map_congr_left fun d _ => ?_
      simp only [Function.comp]
      split_ifs
      exacts [keep d, rfl]
    · have away : p ≠ x.port.val ∨ (h = 0 ↔ pHalf x ≠ 0) := by tauto
      rw [engine_modEngine_other _ _ away]
  · exact .refl s

theorem sendBurst_keepsBursts {n : Nat} {x : Pipe} {pl : Plan} {m : Nat} : KeepsBursts s (sendBurst n x pl m s) := by
  unfold sendBurst
  extract_lets +onlyGivenNames h st setup status y a b c
  have ha : KeepsBursts s a := modPipe_eff.keepsBursts (by decide)
  have hb : KeepsBursts s b := by
    unfold b
    split
    · exact .step (modXfer_eff.keepsBursts (by decide)) ha
    · exact ha
  have hc : KeepsBursts s c := .ite (.step (busOut_eff.keepsBursts (by decide)) hb) hb
  have onBus {k : BusPkt} : KeepsBursts s (busOut y k c) := .step (busOut_eff.keepsBursts (by decide)) hc
  refine .ite ?_ (.ite onBus (.ite (.ite onBus onBus) (.ite onBus (.ite onBus ?_))))
  · split
    · exact onBus
    · exact hc
  · extract_lets k
    split
    · exact .step (modDesc_keepsBursts fun _ => rfl) (.step (sendPages_eff.keepsBursts (by decide)) hc)
    · exact hc

theorem ssDone_keepsBursts {n : Nat} {x : Pipe} : KeepsBursts s (ssDone n x s) := by
  unfold ssDone
  exact .ite (modDesc_keepsBursts fun _ => rfl) (.ite (modDesc_keepsBursts fun _ => rfl) (.refl s))

/-! ### A dispatch -/

theorem Touches.frameLeft {ps : List Part} (h : Touches ps s t) (halves : .halves ∉ ps) (clock : .clock ∉ ps)
    (time : .portTime ∉ ps) (p : Nat) : frameLeft t p = frameLeft s p := by
  have iso := h .clock clock
  simp only [Part.Same, Prod.mk.injEq] at iso
  obtain ⟨-, mic, pos, -⟩ := iso
  unfold Machine.frameLeft portPos portElapsed
  rw [h.halfReg halves, h.ptime time, mic, pos]

/-- A dispatch leaves one more burst, the last, in the pipe's engine; it says whether the wire was free for it. -/
theorem dispatch_pushes {n : Nat} {x : Pipe} {pl : Plan} {g : Option Nat} :
    ∃ e, Eff [.queues, .sched, .cistern, .devWake, .tunnel, .out] s e ∧
      (engine (dispatch n x pl g s) x.port (pHalf x)).descs.map Desc.burst =
        (engine e x.port (pHalf x)).descs.map Desc.burst ++
          [(n, pl.count, planCharge x pl, 0, wireFree e x (planCharge x pl))] := by
  unfold dispatch
  extract_lets +onlyGivenNames p h chg a b c m ix d e wire pushed f f'
  have ha : Eff [.queues, .sched, .cistern, .devWake, .tunnel, .out] s a := setList_eff.step (Eff.refl _ _)
  have hb : Eff [.queues, .sched, .cistern, .devWake, .tunnel, .out] s b := by
    unfold b
    split
    · split
      · exact activate_eff.step ha
      · exact ha
    · exact ha
  have hc : Eff [.queues, .sched, .cistern, .devWake, .tunnel, .out] s c := by
    unfold c
    split
    · extract_lets +onlyGivenNames k l
      have hk : Eff [.queues, .sched, .cistern, .devWake, .tunnel, .out] s k := Eff.ite hb (takeShared_eff.step hb)
      have hl : Eff [.queues, .sched, .cistern, .devWake, .tunnel, .out] s l := by
        unfold l
        split
        · exact markStarted_eff.step (setXfer_eff.step hk)
        · exact hk
      exact Eff.ite (askPages_eff.step (queueJob_eff.step hl)) hl
    · exact hb
  have hd : Eff [.queues, .sched, .cistern, .devWake, .tunnel, .out] s d :=
    lowerPend_eff.step (chargeRoom_eff.step (modPipe_eff.step hc))
  have he : Eff [.queues, .sched, .cistern, .devWake, .tunnel, .out] s e := by
    unfold e
    split
    · exact modPsched_eff.step hd
    · exact hd
  refine ⟨e, he, ?_⟩
  have pushes : (engine f' x.port (pHalf x)).descs.map Desc.burst = (engine e x.port (pHalf x)).descs.map Desc.burst ++
      [(n, pl.count, planCharge x pl, 0, wireFree e x (planCharge x pl))] := by
    rw [touch_eff.keepsBursts (by decide)]
    simp [f, p, h, engine_modEngine_same, pushed, Desc.burst, wire, chg]
  split
  · split
    · rw [← pushes]
      exact KeepsBursts.step ssDone_keepsBursts sendBurst_keepsBursts _ _
    · exact pushes
  · exact pushes

/-! ### A burst that is placed -/

/-- The burst stands last in its engine, as the statement has it. -/
def Placed (u t : State) (n : Nat) (x : Pipe) (pl : Plan) : Prop :=
  let busy := (engine u x.port (pHalf x)).descs.filter onBus
  ∃ d : Desc, (engine t x.port (pHalf x)).descs.getLast? = some d ∧
    (engine t x.port (pHalf x)).descs.map (·.pipe) = (engine u x.port (pHalf x)).descs.map (·.pipe) ++ [n] ∧
    d.pipe = n ∧ d.count = pl.count ∧ d.charged = planCharge x pl ∧ d.carried = 0 ∧
    (pHalf x = 0 → (busy = [] → d.onWire = true) ∧ (16 ≤ busy.length → d.onWire = false)) ∧
    (pHalf x = 1 → (d.onWire = true ↔ busy = [] ∧ planCharge x pl ≤ frameLeft u x.port))

theorem getLast?_of_map {α β : Type} {f : α → β} {l : List α} {m : List β} {b : β} (h : l.map f = m ++ [b]) :
    ∃ a, l.getLast? = some a ∧ f a = b := by
  have last : (l.map f).getLast? = some b := by rw [h, List.getLast?_concat]
  rw [List.getLast?_map] at last
  exact Option.map_eq_some_iff.mp last

/-- A burst goes on the wire of half 0 where no other is there, and never beside 16; on that of half 1 just where no other
is there and its charge fits. -/
theorem wireFree_half {x : Pipe} {c : Nat} (h : Touches [.queues, .sched, .cistern, .devWake, .tunnel, .out] u s) :
    let busy := (engine u x.port (pHalf x)).descs.filter onBus
    (pHalf x = 0 → (busy = [] → wireFree s x c = true) ∧ (16 ≤ busy.length → wireFree s x c = false)) ∧
    (pHalf x = 1 → (wireFree s x c = true ↔ busy = [] ∧ c ≤ frameLeft u x.port)) := by
  intro busy
  have same : (engine s x.port (pHalf x)).descs.filter onBus = busy := by rw [h.engine (by decide)]
  unfold wireFree
  rw [same, h.frameLeft (by decide) (by decide) (by decide)]
  refine ⟨fun zero => ⟨fun none' => ?_, fun full => ?_⟩, fun one => ?_⟩
  · simp [zero, none']
  · simp [zero, Nat.not_lt.mpr full]
  · simp [one]

theorem dispatch_placed {n : Nat} {x : Pipe} {pl : Plan} {g : Option Nat}
    (h : Touches [.queues, .sched, .cistern, .devWake, .tunnel, .out] u s) : Placed u (dispatch n x pl g s) n x pl := by
  obtain ⟨e, eff, pushed⟩ := dispatch_pushes (s := s) (n := n) (x := x) (pl := pl) (g := g)
  have he : Touches [.queues, .sched, .cistern, .devWake, .tunnel, .out] u e := h.trans eff.touches
  obtain ⟨d, last, is⟩ := getLast?_of_map pushed
  simp only [Desc.burst, Prod.mk.injEq] at is
  obtain ⟨pipe, count, charged, carried, wire⟩ := is
  have pipes := congrArg (List.map Prod.fst) pushed
  rw [List.map_append, List.map_map, List.map_map, he.engine (by decide)] at pipes
  obtain ⟨half0, half1⟩ := wireFree_half (x := x) (c := planCharge x pl) he
  exact ⟨d, last, pipes, pipe, count, charged, carried, wire ▸ half0, wire ▸ half1⟩

/-! ### A decision -/

section Decision

variable {p : Nat}

/-- The state in which a decision chooses: it is counted, and the turn has passed on. -/
def counted (p : Nat) (u : State) : State := { u with sched := { u.sched with dec := u.sched.dec + 1, rr := (p + 1) % 8 } }

/-- What the choice has touched. -/
theorem chosen_touches (h : Eff [.sched] (prefetch p (counted p u)) t) :
    Touches [.queues, .sched, .cistern, .devWake, .tunnel, .out] u t := by
  have first : Eff [.sched] u (counted p u) := Eff.upd (Eff.refl _ _)
  exact (h.step (prefetch_eff.step first)).touches.weaken (by decide)

/-- What the three ways to choose leave, one after the other, and what they choose. -/
structure Choices (p : Nat) (u s0 : State) (a : State × Option (Nat × Pipe × Plan))
    (b : State × Bool × Option (Nat × Pipe × Plan × Nat)) (c : State × Option (Nat × Pipe × Plan)) : Prop where
  start : s0 = prefetch p (counted p u)
  periodic : a = pickPeriodic p s0 (psched s0 p).klass
  async : b = pickAsync p 16 a.1 false
  scav : c = pickScav p ((List.range 16).map (fun i => (i + (psched b.1 p).scavenger) % 16)) b.1

theorem Choices.unique {u s0 s1 : State} {a a' c c' : State × Option (Nat × Pipe × Plan)}
    {b b' : State × Bool × Option (Nat × Pipe × Plan × Nat)} (h : Choices p u s0 a b c) (k : Choices p u s1 a' b' c') :
    a' = a ∧ b' = b ∧ c' = c := by
  have start : s1 = s0 := k.start.trans h.start.symm
  have periodic : a' = a := by rw [k.periodic, h.periodic, start]
  have async : b' = b := by rw [k.async, h.async, periodic]
  exact ⟨periodic, async, by rw [k.scav, h.scav, async]⟩

/-- What the choices make of a decision (R139, R145, R153, R268). -/
def decided (p : Nat) (a : State × Option (Nat × Pipe × Plan)) (b : State × Bool × Option (Nat × Pipe × Plan × Nat))
    (c : State × Option (Nat × Pipe × Plan)) : State :=
  match a.2 with
  | some (n, x, pl) => dispatch n x pl none a.1
  | none =>
    match probeReady a.1 p 0, probeReady a.1 p 1, setReady a.1 p 0, setReady a.1 p 1 with
    | some (w, hub, hp), _, _, _ => sendProbe p 0 w hub hp a.1
    | none, some (w, hub, hp), _, _ => sendProbe p 1 w hub hp a.1
    | none, none, some k, _ => sendSet p 0 k a.1
    | none, none, none, some k => sendSet p 1 k a.1
    | none, none, none, none =>
      match b.2.2 with
      | some (n, x, pl, g) => dispatch n x pl (some g) b.1
      | none =>
        if b.2.1 then b.1
        else match c.2 with
          | some (n, x, pl) => dispatch n x pl none c.1
          | none => c.1

theorem decide'_eq {s0 : State} {a c : State × Option (Nat × Pipe × Plan)}
    {b : State × Bool × Option (Nat × Pipe × Plan × Nat)} (choices : Choices p (grantAll s) s0 a b c) :
    decide' p s = decided p a b c := by
  unfold decide'
  extract_lets _ _ _ a' s' b' _ c'
  have own : Choices p (grantAll s) _ a' b' c' := ⟨rfl, rfl, rfl, rfl⟩
  obtain ⟨ha, hb, hc⟩ := choices.unique own
  simp only [s', ha, hb, hc]
  rfl

theorem decided_steady {s0 : State} {a c : State × Option (Nat × Pipe × Plan)}
    {b : State × Bool × Option (Nat × Pipe × Plan × Nat)} (choices : Choices p u s0 a b c) :
    Steady (counted p u) (decided p a b c) := by
  have start : Steady (counted p u) s0 := choices.start ▸ prefetch_steady
  have ha : Steady (counted p u) a.1 := choices.periodic ▸ .step pickPeriodic_steady start
  have hb : Steady (counted p u) b.1 := choices.async ▸ .step pickAsync_steady ha
  have hc : Steady (counted p u) c.1 := choices.scav ▸ .step pickScav_steady hb
  unfold decided
  split
  · exact .step dispatch_steady ha
  · split
    · exact .step sendProbe_steady ha
    · exact .step sendProbe_steady ha
    · exact .step sendSet_steady ha
    · exact .step sendSet_steady ha
    · split
      · exact .step dispatch_steady hb
      · refine .ite hb ?_
        split
        · exact .step dispatch_steady hc
        · exact hc

theorem sendProbe_walk {h : Nat} {w : Walk} {hub hp : Nat} :
    find (sendProbe p h w hub hp s).sump.walks (p * 2 + h) = some { w with probing := true } := by
  unfold sendProbe
  extract_lets a src b
  have walks : (bus p h (.probe hub hp) b).sump.walks = b.sump.walks :=
    congrArg (·.2.1) (bus_eff.touches .origins (by decide) : Part.Same b _ .origins)
  rw [walks]
  exact find_insert_same _ _ _

theorem sendSet_sent {h a : Nat} : (engine (sendSet p h a s) p h).setSent = true := by
  unfold sendSet
  extract_lets b c r
  rw [bus_eff.touches.engine (by decide), engine_modEngine_same]

end Decision


/-- Settles O27: a decision is a dispatch, a probe or a SET_ADDRESS in the state that the choice leaves. -/
theorem schedulerDecides : Obligations.SchedulerDecides := by
  intro p mem s turn u s0 a b c none' busy placed
  let v := chipError mem (catchAll s)
  have choices : Choices p u s0 a b c := ⟨rfl, rfl, rfl, rfl⟩
  have run : exec (.schedulerDecision p mem) s = .next (decided p a b c) := by
    rw [← decide'_eq choices]
    exact when_of (by simpa using turn)
  have ea : Eff [.sched] s0 a.1 := pickPeriodic_eff
  have eb : Eff [.sched] s0 b.1 := pickAsync_eff.step ea
  have ec : Eff [.sched] s0 c.1 := pickScav_eff.step eb
  have steady := decided_steady choices
  refine ⟨_, run, everyCommandKeepsItsFrame _ _ _ run, steady.dec, steady.rr,
    ?periodic, ?probe0, ?probe1, ?set0, ?set1, ?async, ?scav⟩
  case periodic =>
    intro n x pl h
    simp only [decided, h]
    exact dispatch_placed (chosen_touches ea)
  case probe0 =>
    intro w hub hp none' h
    simp only [decided, none', h]
    exact sendProbe_walk
  case probe1 =>
    intro w hub hp none' probe0 h
    simp only [decided, none', probe0, h]
    exact sendProbe_walk
  case set0 =>
    rintro a' ⟨none', probe0, probe1⟩ h
    simp only [decided, none', probe0, probe1, h]
    exact sendSet_sent
  case set1 =>
    rintro a' ⟨none', probe0, probe1⟩ set0 h
    simp only [decided, none', probe0, probe1, set0, h]
    exact sendSet_sent
  case async =>
    rintro n x pl g ⟨none', probe0, probe1⟩ set0 set1 h
    simp only [decided, none', probe0, probe1, set0, set1, h]
    exact dispatch_placed (chosen_touches eb)
  case scav =>
    rintro n x pl ⟨none', probe0, probe1⟩ set0 set1 async seen h
    simp only [decided, none', probe0, probe1, set0, set1, async, seen, h, Bool.false_eq_true, if_false]
    exact dispatch_placed (chosen_touches ec)

end Sys2Proof.Machine
end

section
/-! Start-up, power fail and resets (files 11 and 16). -/

namespace Sys2Proof.Machine

open Sys2Proof

variable {s t u : State}

/-! ### No pipe, no origin and no walk -/

/-- The block holds no pipe, no origin and no walk. -/
def Bare (s : State) : Prop := s.sched.pipes = [] ∧ s.sump.origins = [] ∧ s.sump.walks = [] ∧ s.sump.intake = []

theorem pipes_nil (h : ∀ n, pipe s n = none) : s.sched.pipes = [] := by
  cases e : s.sched.pipes with
  | nil => rfl
  | cons kv l => exact absurd (h kv.1) (by simp [pipe, e, find])

theorem Bare.of_touches {ps : List Part} (h : Touches ps s t) (free : .sched ∉ ps ∧ .origins ∉ ps) (b : Bare s) :
    Bare t := by
  have sched := h .sched free.1
  have sump := h .origins free.2
  simp only [Part.Same, Prod.mk.injEq] at sched sump
  obtain ⟨origins, walks, intake⟩ := sump
  unfold Bare
  rw [sched, origins, walks, intake]
  exact b

theorem Eff.bare {ps : List Part} (h : Eff ps s t) (free : .sched ∉ ps ∧ .origins ∉ ps) (b : Bare s) : Bare t :=
  b.of_touches h.touches free

/-- A reaction that opens no pipe and touches no origin. -/
theorem Bare.of_steady {ps : List Part} (h : Steady s t) (e : Eff ps s t) (free : .origins ∉ ps) (b : Bare s) :
    Bare t := by
  have sump := e.touches .origins free
  simp only [Part.Same, Prod.mk.injEq] at sump
  obtain ⟨origins, walks, intake⟩ := sump
  obtain ⟨pipes, rest⟩ := b
  refine ⟨pipes_nil fun n => h.pipes n (by simp [pipe, pipes, find]), ?_⟩
  rw [origins, walks, intake]
  exact rest

theorem Bare.foldl {α : Type} {f : State → α → State} (hf : ∀ t x, Bare t → Bare (f t x)) (l : List α) (b : Bare s) :
    Bare (l.foldl f s) := by
  induction l generalizing s with
  | nil => exact b
  | cons x xs ih => exact ih (hf _ _ b)

theorem Bare.ite {c : Prop} [Decidable c] (h : Bare s) (k : Bare t) : Bare (if c then s else t) := by
  split <;> assumption

theorem Bare.origin (b : Bare s) (k : Nat) : origin s k = {} := by
  unfold Machine.origin
  rw [b.2.1]
  rfl

theorem Bare.walk (b : Bare s) (k : Nat) : find s.sump.walks k = none := by rw [b.2.2.1]; rfl

/-! ### Ports and channels where nothing is open -/

theorem leaveWalk_bare {p : Port} {h : Half} (b : Bare s) : leaveWalk p h s = s := by
  unfold leaveWalk
  rw [b.walk]

theorem reachEnabled_bare {p : Port} {h : Half} (b : Bare s) : reachEnabled p h s = s := by
  unfold reachEnabled
  rw [b.origin]
  rfl

theorem endWalk_bare {k : Nat} (b : Bare s) : Bare (endWalk k s) := by
  unfold endWalk
  extract_lets +onlyGivenNames src a mine src' c
  have none' : mine = [] := by unfold mine a; rw [b.2.2.2]; rfl
  rw [none']
  obtain ⟨pipes, origins, walks, intake⟩ := b
  have erased : erase s.sump.walks k = [] := by rw [walks]; rfl
  have left : s.sump.intake.filter (fun r => r.port.val * 2 + r.half.val ≠ k) = [] := by rw [intake]; rfl
  exact ⟨pipes, origins, erased, left⟩

theorem portOrigin_bare {p : Port} {h : Half} {status errinfo n : Nat} {insts : Sparse Nat} (zero : n = 0)
    (b : Bare s) : Bare (portOrigin p h status errinfo n insts s) := by
  have same : portOrigin p h status errinfo n insts s = s := if_pos zero
  rw [same]
  exact b

theorem closePipes_bare {ns : List Nat} {soft : Bool} {status errinfo : Nat} (none' : ns = []) (b : Bare s) :
    Bare (closePipes ns soft status errinfo s) := by
  rw [none']
  exact b

/-- A half that closes closes nothing. -/
theorem closeHalf_bare {p : Port} {h : Half} {status errinfo : Nat} (b : Bare s) :
    Bare (closeHalf p h status errinfo s).1 := by
  unfold closeHalf
  extract_lets +onlyGivenNames ns k held insts a c d e f
  have none' : ns = [] := by unfold ns pipesWhere; rw [b.1]; rfl
  have zero : ns.length = 0 := congrArg List.length none'
  have ha : Bare a := .ite (portOrigin_bare zero b) b
  have hc : Bare c := closePipes_bare none' ha
  have hd : Bare d := .ite hc (portOrigin_bare zero hc)
  have he : Bare e := by
    unfold e
    rw [hd.walk]
    exact hd
  exact freeHalf_eff.bare (by decide) (endSet_eff.bare (by decide) (endWalk_bare he))

theorem goHalf_bare {p : Port} {h : Half} {st : HalfSt} {fs : List HFlag} {cause : Nat} {close : Option (Nat × Nat)}
    (b : Bare s) : Bare (goHalf p h st fs cause close s) := by
  unfold goHalf
  extract_lets old is r c d
  have hr : Bare r.1 := by
    unfold r
    split
    · exact closeHalf_bare b
    · exact b
  have hc : Bare c := modHalf_eff.bare (by decide) hr
  have hd : Bare d := by
    unfold d
    rw [reachEnabled_bare hc, leaveWalk_bare hc]
    exact .ite (idleStart_eff.bare (by decide) hc) hc
  exact .ite hd (portChange_eff.bare (by decide) hd)

theorem halfOn_bare {p : Port} {h : Half} (b : Bare s) : Bare (halfOn p h s) := .ite (goHalf_bare b) b

theorem halfOff_bare {p : Port} {h : Half} {ei : Nat} (b : Bare s) : Bare (halfOff p h ei s) := by
  unfold halfOff
  split
  · exact b
  · exact goHalf_bare b
  · exact goHalf_bare b
  · exact goHalf_bare b
  · exact goHalf_bare b
  · exact goHalf_bare b
  · exact goHalf_bare (resumeWake_eff.bare (by decide) b)

theorem portPower_bare {p : Port} {detach : Bool} (b : Bare s) : Bare (portPower p detach s) := by
  unfold portPower
  extract_lets +onlyGivenNames on
  refine .ite b ?_
  extract_lets +onlyGivenNames c d
  have hd : Bare d := b
  exact .ite hd (.ite (halfOn_bare (halfOn_bare hd)) (halfOff_bare (halfOff_bare hd)))

theorem goChan_bare {c : Nat} {st : ChanSt} {g : ChanReg → ChanReg} (b : Bare s) : Bare (goChan c st g s) := by
  unfold goChan
  extract_lets +onlyGivenNames x src y vg z d e f is h
  have hd : Bare d := b
  have he : Bare e := .ite hd hd
  have hf : Bare f := .ite he (.ite he he)
  have hh : Bare h := .ite (.ite (portPower_bare hf) hf) hf
  exact .ite (chanState_eff.bare (by decide) hh) hh

theorem recheckPort_bare {p : Nat} (b : Bare s) : Bare (recheckPort p s) := by
  unfold recheckPort
  split
  · unfold recheck
    extract_lets +onlyGivenNames x
    refine .ite (goChan_bare b) (.ite ?_ b)
    extract_lets +onlyGivenNames a
    have ha : Bare a := goChan_bare b
    exact .ite (goChan_bare ha) ha
  · exact b

/-! ### A controller reset -/

theorem erasePipes_none {l : List Nat} {n : Nat} (h : pipe s n = none ∨ n ∈ l) :
    pipe (l.foldl (fun s n => erasePipe n s) s) n = none := by
  induction l generalizing s with
  | nil => simpa using h
  | cons m l ih =>
    refine ih ?_
    rcases h with h | h
    · exact .inl (erasePipe_steady.pipes n h)
    · rcases List.mem_cons.mp h with rfl | h
      · exact .inl pipe_erasePipe
      · exact .inr h

theorem erased (n : Nat) : pipe ((pipesWhere s (fun _ => true)).foldl (fun s n => erasePipe n s) s) n = none := by
  refine erasePipes_none ?_
  cases e : pipe s n with
  | none => exact .inl rfl
  | some x =>
    refine .inr ?_
    simp only [pipesWhere, List.mem_map, List.mem_filter]
    exact ⟨(n, x), ⟨mem_of_find e, trivial⟩, rfl⟩

theorem Bare.of_pipes {x : Sump} (h : s.sched.pipes = []) :
    Bare { s with sump := { x with origins := [], walks := [], intake := [] } } := ⟨h, rfl, rfl, rfl⟩

theorem Bare.dev {x : DevPort} (b : Bare s) : Bare { s with dev := x } := b

theorem Bare.cis {x : Cistern} (b : Bare s) : Bare { s with cis := x } := b

/-- What a reset of the data path clears after the instances. -/
def clearRest (s : State) : State :=
  let s := (pipesWhere s (fun _ => true)).foldl (fun s n => erasePipe n s) s
  let s := { s with sump := { s.sump with origins := [], walks := [], intake := [] } }
  let s := (List.range 8).foldl (fun s p => clearPort (Fin.ofNat 8 p) s) s
  let s := devClear { s with dev := { s.dev with looping := false, loopCmd := none } }
  let s := (List.range 64).foldl (fun s n => idlePump n s) s
  { s with cis := { s.cis with high := [], norm := [], reqs := [], copyWait := [] } }

theorem resetDatapath_eq : resetDatapath s = clearRest (clearInstances (clearPf s)) := by
  unfold resetDatapath clearRest
  with_reducible rfl

theorem clearRest_bare : Bare (clearRest s) := by
  unfold clearRest
  extract_lets +onlyGivenNames b src c d src' e f
  have hc : Bare c := .of_pipes (pipes_nil fun n => erased n)
  have hd : Bare d := .foldl (fun _ _ => clearPort_eff.bare (by decide)) _ hc
  have he : Bare e := .of_steady devClear_steady devClear_eff (by decide) hd.dev
  have hf : Bare f := .foldl (fun _ _ => idlePump_eff.bare (by decide)) _ he
  exact hf.cis

theorem clearRest_eff : Eff [.l1, .reads, .msg, .fnMsg, .queues, .sched, .halves, .units, .engines, .bursts, .portReg,
    .cistern, .origins, .log, .capFlag, .fwHeld, .devReg, .devWake, .tunnel, .gate, .heldEv, .freeCount, .out] s
    (clearRest s) := by
  unfold clearRest
  extract_lets +onlyGivenNames b
  refine Eff.via b (.foldl (fun _ _ => erasePipe_eff.weaken) (.refl _ _) _) fun hb => ?_
  clear_value b
  extract_lets +onlyGivenNames src c d
  refine Eff.via d (.foldl (fun _ _ => clearPort_eff.weaken) (.upd hb) _) fun hd => ?_
  clear_value d
  extract_lets +onlyGivenNames src' e f
  refine Eff.via f (.foldl (fun _ _ => idlePump_eff.weaken) (devClear_eff.step (.upd hd)) _) fun hf => ?_
  clear_value f
  exact .upd hf

theorem resetSets_bare (b : Bare s) : Bare (resetSets s) := by
  unfold resetSets
  extract_lets +onlyGivenNames old src a src' tb c d
  have hd : Bare d := .foldl (fun _ _ => commitPcfg_eff.bare (by decide)) _ b
  exact .foldl (fun _ _ => recheckPort_bare) _ hd

/-- VF Enable belongs to the link's registers. -/
theorem Touches.vfEnable {ps : List Part} (h : Touches ps s t) (n : .link ∉ ps) : t.host.vfEnable = s.host.vfEnable := by
  have link := h .link n
  simp only [Part.Same, Prod.mk.injEq] at link
  obtain ⟨-, -, -, -, -, -, -, -, -, -, -, -, -, -, -, -, -, vf, -⟩ := link
  exact vf

theorem clearInstances_vf : (clearInstances s).host.vfEnable = false := by
  unfold clearInstances
  extract_lets +onlyGivenNames is a src b c d mine e
  have late : Eff [.l1, .reads, .msg, .fnMsg, .queues, .fences, .sched, .halves, .engines, .bursts, .portReg, .cistern,
      .origins, .log, .instState, .capFlag, .fwHeld, .devWake, .tunnel, .gate, .heldEv, .out] b (setQueue 0 {} e) :=
    setQueue_eff.step (.foldl (fun _ _ => delQueue_eff.weaken) (clearWork_eff.step (gateWork_eff.step
      (.foldl (fun _ _ => clearWork_eff.step (modInst_eff (.refl _ _) fun _ => {})) (.refl _ _) _))) _)
  exact late.touches.vfEnable (by decide)

/-- The sets have their reset values, and no swap waits. -/
theorem resetSets_acts : (resetSets s).cfg = {} ∧ (resetSets s).cmd.pendSwap = false ∧
    (resetSets s).host.vfEnable = s.host.vfEnable := by
  unfold resetSets
  extract_lets +onlyGivenNames old src a src' tb c d
  have hc : c.cfg = {} ∧ c.cmd.pendSwap = false ∧ c.host.vfEnable = s.host.vfEnable := ⟨rfl, rfl, rfl⟩
  clear_value c
  have late : Eff [.l1, .reads, .msg, .fnMsg, .queues, .sched, .halves, .units, .engines, .bursts, .portReg, .portTime,
      .cistern, .origins, .log, .capFlag, .fwHeld, .devWake, .tunnel, .chans, .gate, .heldEv, .out] c
      ((List.range 8).foldl (fun s p => recheckPort p s) d) :=
    .foldl (fun _ _ => recheckPort_eff.weaken) (.foldl (fun _ _ => commitPcfg_eff.weaken) (.refl _ _) _) _
  obtain ⟨cfg, swap, vf⟩ := hc
  have sets := late.touches .sets (by decide)
  have cmd := late.touches .cmd (by decide)
  exact ⟨Eq.trans sets cfg, (congrArg CmdProc.pendSwap cmd).trans swap, (late.touches.vfEnable (by decide)).trans vf⟩

theorem controllerReset_keeps {w : State} (h : resetSets (resetDatapath s) = w) : let t := controllerReset s
    t.cfg = w.cfg ∧ t.sump = w.sump ∧ t.cmd = w.cmd ∧ t.host.vfEnable = w.host.vfEnable ∧ t.fw.staging = false := by
  unfold controllerReset
  rw [h]
  exact ⟨rfl, rfl, rfl, rfl, rfl⟩

/-- A controller reset (R312, R416): the sets have their reset values, and nothing is left of what ran. -/
theorem controllerReset_acts : let t := controllerReset s
    t.cfg = {} ∧ t.sump.origins = [] ∧ t.sump.walks = [] ∧ t.cmd.pendSwap = false ∧ t.fw.staging = false ∧
    t.host.vfEnable = false ∧ t.iso.mic = s.iso.mic := by
  intro t
  have clock : Part.Same s t .clock := controllerReset_eff.touches .clock (by decide)
  simp only [Part.Same, Prod.mk.injEq] at clock
  obtain ⟨-, mic, -⟩ := clock
  have data : Bare (resetDatapath s) ∧ (resetDatapath s).host.vfEnable = false := by
    rw [resetDatapath_eq]
    exact ⟨clearRest_bare, (clearRest_eff.touches.vfEnable (by decide)).trans clearInstances_vf⟩
  obtain ⟨cfg, swap, vf⟩ := resetSets_acts (s := resetDatapath s)
  obtain ⟨-, origins, walks, -⟩ := resetSets_bare data.1
  obtain ⟨cfg', sump', cmd', vf', staging⟩ := controllerReset_keeps (s := s) rfl
  exact ⟨cfg'.trans cfg, (congrArg Sump.origins sump').trans origins, (congrArg Sump.walks sump').trans walks,
    (congrArg CmdProc.pendSwap cmd').trans swap, staging, vf'.trans (vf.trans data.2), mic⟩

/-! ### The power-on sequence -/

theorem heldReset_quiet (none' : s.boot.flrHeld = false) : heldReset s = s := if_neg (by simp [none'])

/-- Where no reset was held back, the end of a boot leaves the image and the queues to the choice. -/
theorem finishBoot_quiet (none' : s.boot.flrHeld = false) :
    (finishBoot s).fw = s.fw ∧ (finishBoot s).qe.queues = s.qe.queues := by
  unfold finishBoot
  extract_lets s0 a b boot
  have late : Eff [.halves, .portReg, .cistern] s b :=
    .foldl (fun _ _ => .ite modPump_eff.weaken (.refl _ _)) (.foldl (fun _ _ => bringPort_eff.weaken) (.refl _ _) _) _
  have flr : boot.flrHeld = false := (congrArg Boot.flrHeld (late.touches.bootSame (by decide))).trans none'
  clear_value b
  rw [heldReset_quiet (by exact flr)]
  exact ⟨late.touches.fw (by decide), late.touches .queues (by decide)⟩

theorem markBad_keeps {b bad : Bool} : (markBad b bad s).fw = s.fw ∧ (markBad b bad s).qe = s.qe ∧
    (markBad b bad s).boot.fwReady = s.boot.fwReady := by
  cases b <;> cases bad <;> exact ⟨rfl, rfl, rfl⟩

theorem recover_keeps : (recover s).fw = s.fw ∧ (recover s).qe.queues = s.qe.queues := by
  unfold recover
  extract_lets a b
  have late : Eff [.portReg] s a := .foldl (fun _ _ => modPort_eff (.refl _ _) (fun _ => {})) (.refl _ _) _
  clear_value a
  exact ⟨late.touches.fw (by decide), late.touches .queues (by decide)⟩

theorem finishBoot_runs {b : Bool} {i : BitVec 24 × Nat} (none' : s.boot.flrHeld = false) :
    let t := finishBoot (runSlot b i s)
    (t.fw.otp = s.fw.otp ∧ t.fw.fallbacks = s.fw.fallbacks ∧ t.fw.runB = b ∧ t.fw.ver = i.1) ∧
    t.qe.queues = s.qe.queues ∧ t.boot.fwReady = true ∧ t.boot.recovery = false ∧ t.boot.fallback = s.boot.fallback := by
  intro t
  have boot : (runSlot b i s).boot = s.boot := runSlot_boot
  obtain ⟨fw, queues⟩ := finishBoot_quiet (s := runSlot b i s) ((congrArg Boot.flrHeld boot).trans none')
  have boots : Boots (runSlot b i s) t := finishBoot_boots
  have image : (runSlot b i s).fw.otp = s.fw.otp ∧ (runSlot b i s).fw.fallbacks = s.fw.fallbacks := by
    cases b <;> exact ⟨rfl, rfl⟩
  unfold t
  rw [fw]
  exact ⟨⟨image.1, image.2, rfl, rfl⟩, queues, boots.ready, boots.recovery,
    boots.fallback.trans (congrArg Boot.fallback boot)⟩

/-- The sequence runs the image of the slot that the record names, or the other, or recovery (R406–R409). -/
theorem bootSelect_runs (o : BootOutcome) (none' : s.boot.flrHeld = false) :
    let t := bootSelect o s
    let first := !o.recordBad && s.fw.recSlotB
    (t.fw.otp = s.fw.otp ∧ t.qe.queues = s.qe.queues) ∧
    (∀ i, slotRuns o s.fw first = some i → t.boot.fwReady = true ∧ t.boot.recovery = false ∧
      t.boot.fallback = s.boot.fallback ∧ t.fw.runB = first ∧ t.fw.ver = i.1) ∧
    (∀ i, slotRuns o s.fw first = none → slotRuns o s.fw (!first) = some i → t.boot.fwReady = true ∧
      t.boot.fallback = true ∧ t.fw.fallbacks = s.fw.fallbacks + 1 ∧ t.fw.runB = (!first) ∧ t.fw.ver = i.1) ∧
    ((∀ b, slotRuns o s.fw b = none) → t.boot.recovery = true ∧ t.boot.fwReady = s.boot.fwReady) := by
  intro t first
  unfold t bootSelect
  extract_lets fw a src src' b
  obtain ⟨fwA, qeA, readyA⟩ := markBad_keeps (s := s) (b := first) (bad := slotBad o fw first)
  cases h : slotRuns o s.fw first with
  | some i =>
    dsimp only
    obtain ⟨⟨otp, -, runB, ver⟩, queues, ready, recovery, fallback⟩ := finishBoot_runs (b := first) (i := i) none'
    refine ⟨⟨otp, queues⟩, fun j e => ?_, fun j e => (nomatch e),
      fun all => (nomatch h.symm.trans (all first))⟩
    rw [Option.some.injEq] at e
    exact ⟨ready, recovery, fallback, runB, e ▸ ver⟩
  | none =>
    dsimp only
    have flrA : a.boot.flrHeld = false := by
      have chosen : a.boot.chosen = s.boot.chosen := markBad_chosen
      simp only [Boot.chosen, Prod.mk.injEq] at chosen
      obtain ⟨-, -, -, -, flr⟩ := chosen
      exact flr.trans none'
    cases k : slotRuns o s.fw (!first) with
    | some i =>
      dsimp only
      obtain ⟨⟨otp, fallbacks, runB, ver⟩, queues, ready, -, fallback⟩ :=
        finishBoot_runs (s := b) (b := !first) (i := i) flrA
      refine ⟨⟨otp.trans (congrArg Firmware.otp fwA : a.fw.otp = _), queues.trans (congrArg QueueEngine.queues qeA)⟩,
        fun j e => (nomatch e), fun j _ e => ?_, fun all => (nomatch k.symm.trans (all !first))⟩
      rw [Option.some.injEq] at e
      have counts : b.fw.fallbacks = s.fw.fallbacks + 1 := congrArg (fun f : Firmware => f.fallbacks + 1) fwA
      exact ⟨ready, fallback, fallbacks.trans counts, runB, e ▸ ver⟩
    | none =>
      dsimp only
      obtain ⟨fwB, qeB, readyB⟩ := markBad_keeps (s := a) (b := !first) (bad := slotBad o fw (!first))
      obtain ⟨fwC, queues⟩ := recover_keeps (s := markBad (!first) (slotBad o fw (!first)) a)
      have boot := recover_boot (s := markBad (!first) (slotBad o fw (!first)) a)
      exact ⟨⟨congrArg Firmware.otp (fwC.trans (fwB.trans fwA)),
        queues.trans (congrArg QueueEngine.queues (qeB.trans qeA))⟩, fun j e => (nomatch e), fun j _ e => (nomatch e),
        fun _ => ⟨congrArg Boot.recovery boot, (congrArg Boot.fwReady boot).trans (readyB.trans readyA)⟩⟩

/-- What the sequence chooses an image from. -/
theorem bringUp_selects (cause : Nat) (o : BootOutcome) : ∃ w, Emits (bootSelect o w) (bringUp cause o s) ∧
    w.fw = { s.fw with otp := max s.fw.otp o.otp.val } ∧ w.qe.queues = s.qe.queues ∧
    w.boot.flrHeld = s.boot.flrHeld ∧ w.boot.fallback = s.boot.fallback ∧ w.boot.fwReady = s.boot.fwReady := by
  unfold bringUp
  extract_lets mic old a retired boot iso pm sump cis glb fw v w
  have out : Emits { s with mgmt := {} } a := .pmic (.pmic (.refl _))
  have hv : v.fw = { s.fw with otp := max s.fw.otp o.otp.val } ∧ v.qe.queues = s.qe.queues ∧
      v.boot.flrHeld = s.boot.flrHeld ∧ v.boot.fallback = s.boot.fallback ∧ v.boot.fwReady = s.boot.fwReady :=
    ⟨congrArg (fun f : Firmware => { f with otp := max f.otp o.otp.val }) out.fw,
      congrArg QueueEngine.queues out.qe, (congrArg Boot.flrHeld out.boot : a.boot.flrHeld = _),
      (congrArg Boot.fallback out.boot : a.boot.fallback = _), (congrArg Boot.fwReady out.boot : a.boot.fwReady = _)⟩
  clear_value v
  obtain ⟨fwV, queues, flr, fallback, ready⟩ := hv
  have warm : Eff [.chans, .log] v (warmChans o.offMs (resizeLog v)) := warmChans_eff.step resizeLog_eff.weaken
  have boot := warm.touches.bootSame (by decide)
  exact ⟨_, .domainsUp (.refl _), (warm.touches.fw (by decide)).trans fwV,
    Eq.trans (warm.touches .queues (by decide)) queues, (congrArg Boot.flrHeld boot).trans flr,
    (congrArg Boot.fallback boot).trans fallback, (congrArg Boot.fwReady boot).trans ready⟩

/-! ### Power fail -/

/-- A channel without power. -/
def ChanReg.dead (x : ChanReg) : Prop := x.st = .off ∧ x.bound = false

/-- Channels come back with their seats alone. -/
theorem dead_seats {l : List (Nat × ChanReg)} {m : Sparse ChanReg} (h : ∀ c, (getD {} m c).dead) (c : Nat) :
    (getD {} (l.foldl (fun m kv => setD {} m kv.1 { seatA := kv.2.seatA, seatB := kv.2.seatB }) m) c).dead := by
  induction l generalizing m with
  | nil => exact h c
  | cons kv l ih =>
    refine ih fun d => ?_
    rw [getD_setD]
    split_ifs
    exacts [⟨rfl, rfl⟩, h d]

theorem cold_dead (c : Nat) : (chan (cold s) c).dead := dead_seats (fun _ => ⟨rfl, rfl⟩) c

theorem gatesFast_emits : Emits s (gatesFast s) := .foldl (fun _ _ h => .ite h.emit.emit h) (.refl s) _

theorem gatesOff_emits : Emits s (gatesOff s) := .foldl (fun _ _ h => .ite h.emit h) (.refl s) _

/-- What a power fail leaves, but for what it tells the regulators. -/
theorem powerFail_emits : ∃ t, Emits (coldKeep (gatesFast s)) t ∧
    powerFail s = { t with boot := { t.boot with failed := true } } :=
  ⟨_, .pmic (.pmic (.domainsDown (.refl _))), rfl⟩

theorem powerFail_acts : let t := powerFail s
    (t.boot.failed = true ∧ t.boot.up = false) ∧ (t.pm.scr = s.pm.scr ∧ t.pm.cool = s.pm.cool) ∧
    (t.fw.otp = s.fw.otp ∧ t.fw.recSeq = s.fw.recSeq) ∧ ∀ c, (chan t c).dead := by
  obtain ⟨t, out, is⟩ := powerFail_emits (s := s)
  have gates := gatesFast_emits (s := s)
  rw [is]
  generalize gatesFast s = g at out gates
  have boot : t.boot.up = false := congrArg Boot.up out.boot
  have chans (c : Nat) : chan t c = chan (cold g) c := by
    unfold chan
    rw [out.chans]
    rfl
  have scr : g.pm.scr = s.pm.scr := congrArg Pm.scr gates.pm
  have cool : g.pm.cool = s.pm.cool := congrArg Pm.cool gates.pm
  have otp : g.fw.otp = s.fw.otp := congrArg Firmware.otp gates.fw
  have seq : g.fw.recSeq = s.fw.recSeq := congrArg Firmware.recSeq gates.fw
  exact ⟨⟨rfl, boot⟩, ⟨(congrArg Pm.scr out.pm).trans scr, (congrArg Pm.cool out.pm).trans cool⟩,
    ⟨(congrArg Firmware.otp out.fw).trans otp, (congrArg Firmware.recSeq out.fw).trans seq⟩,
    fun c => (chans c).symm ▸ cold_dead c⟩

theorem vaonLoss_acts : let t := vaonLoss s
    t.boot = { perst := s.boot.perst } ∧ t.pm = {} ∧ t.fw.otp = s.fw.otp ∧ t.isL = s.isL := by
  have gates := gatesOff_emits (s := s)
  unfold vaonLoss
  generalize gatesOff s = g at gates
  have perst : g.boot.perst = s.boot.perst := congrArg Boot.perst gates.boot
  have otp : g.fw.otp = s.fw.otp := congrArg Firmware.otp gates.fw
  exact ⟨congrArg (fun p => ({ perst := p } : Boot)) perst, rfl, otp, gates.isL⟩

/-! ### The background check of the other slot -/

theorem otherSlot_acts {c : Image} :
    let t := otherSlot c s
    let part := if s.fw.runB then s.fw.partA else s.fw.partB
    t.boot.otherCheck = false ∧
    (part = false → imageFault c.header none c.verified s.fw.otp = none → slotValid t (!s.fw.runB) = true ∧
      slotVer t (!s.fw.runB) = imageVer c.header) ∧
    (part = true ∨ imageFault c.header none c.verified s.fw.otp ≠ none → t.fw = s.fw) ∧
    slotValid t s.fw.runB = slotValid s s.fw.runB := by
  intro t part
  have can : (!part && (imageFault c.header none c.verified s.fw.otp).isNone) = true ↔
      part = false ∧ imageFault c.header none c.verified s.fw.otp = none := by simp
  by_cases good : part = false ∧ imageFault c.header none c.verified s.fw.otp = none
  · have is : t = setSlot (!s.fw.runB) true (imageVer c.header) (hdrDw c.header 8)
        { s with boot := { s.boot with otherCheck := false } } := if_pos (can.mpr good)
    have bad : ¬(part = true ∨ imageFault c.header none c.verified s.fw.otp ≠ none) := by simp [good.1, good.2]
    rw [is]
    refine ⟨rfl, fun _ _ => ?_, fun h => absurd h bad, ?_⟩ <;> cases s.fw.runB
    exacts [⟨rfl, rfl⟩, ⟨rfl, rfl⟩, rfl, rfl]
  · have is : t = { s with boot := { s.boot with otherCheck := false } } := if_neg (mt can.mp good)
    rw [is]
    exact ⟨rfl, fun p f => absurd ⟨p, f⟩ good, fun _ => rfl, rfl⟩

/-- Settles O59: the sequence is its choice of an image between two steps that only tell, and a controller reset clears the
pipes before it clears the origins, so that none is opened after. -/
theorem startUpRuns : Obligations.StartUpRuns := by
  refine ⟨?powerOn, ?powerFail, ?overTemp, ?restart, ?hot, ?vaon, ?xtal, ?other, ?flr⟩
  case powerOn =>
    intro o s down ok run fw first
    let z : State := { cold s with boot := { perst := s.boot.perst, xtalWait := true } }
    obtain ⟨-, running, up, -, -, because⟩ := bringUp_acts 0 o (s := z)
    obtain ⟨w, out, fwW, queuesW, flr, fallbackW, readyW⟩ := bringUp_selects 0 o (s := z)
    obtain ⟨⟨otp, queues⟩, chosen, other, neither⟩ := bootSelect_runs o flr
    have outFw : (powerOn o s).fw = (bootSelect o w).fw := out.fw
    have outQe : (powerOn o s).qe = (bootSelect o w).qe := out.qe
    have outBoot : (powerOn o s).boot = (bootSelect o w).boot := out.boot
    have same (b : Bool) : slotRuns o w.fw b = slotRuns o fw b := by rw [fwW]; rfl
    have firstW : (!o.recordBad && w.fw.recSlotB) = first := by rw [fwW]; rfl
    rw [firstW] at chosen other
    simp only [same] at chosen other neither
    refine ⟨_, when_of (by simp [down, ok, run]), up, because rfl, running, ?_, ?_, ?_, ?_, ?_⟩
    · rw [outFw, otp, fwW]; rfl
    · rw [outQe, queues, queuesW]; rfl
    · intro i h
      rw [outBoot, outFw]
      obtain ⟨ready, recovery, fallback, runs⟩ := chosen i h
      exact ⟨ready, recovery, fallback.trans fallbackW, runs⟩
    · intro i none' h
      rw [outBoot, outFw]
      obtain ⟨ready, fallback, counts, runs⟩ := other i none' h
      have zero : w.fw.fallbacks = 0 := congrArg Firmware.fallbacks fwW
      exact ⟨ready, fallback, by rw [counts, zero]; rfl, runs⟩
    · intro all
      rw [outBoot]
      obtain ⟨recovery, ready⟩ := neither all
      exact ⟨recovery, ready.trans readyW⟩
  case powerFail =>
    intro s can
    obtain ⟨⟨failed, down⟩, ⟨scr, cool⟩, ⟨otp, seq⟩, dead⟩ := powerFail_acts (s := s)
    exact ⟨_, when_of (by simpa using can), failed, down, scr, cool, otp, seq, dead⟩
  case overTemp =>
    intro s can
    obtain ⟨⟨failed, down⟩, ⟨scr, cool⟩, -⟩ := powerFail_acts (s := s)
    exact ⟨_, when_of (by simpa [or_assoc] using can), failed, down, rfl, scr, cool⟩
  case restart =>
    intro o die s failed may
    obtain ⟨-, -, up, ok, hot, cause⟩ := bringUp_acts 1 o (s := { s with boot := { s.boot with hot := false } })
    exact ⟨_, when_of (by simpa [failed] using may), ok, up, hot, cause⟩
  case hot =>
    intro o die s hot warm
    exact when_not (by simp [hot, warm])
  case vaon =>
    exact fun s => ⟨_, rfl, vaonLoss_acts⟩
  case xtal =>
    intro s waits
    exact ⟨when_of waits, when_of waits⟩
  case other =>
    intro c s due part
    exact ⟨_, when_of due, otherSlot_acts⟩
  case flr =>
    intro s up
    have run (t : State) (h : pfReset (wakeLink s) = t) : exec .pfFunctionLevelReset s = .next t := h ▸ when_of up
    constructor
    · intro held
      refine run _ (if_pos ?_)
      show (!s.boot.fwReady || s.cmd.paused || decide (s.pm.st = .sleep)) = true
      simpa [or_assoc] using held
    · intro ready runs awake
      have is : pfReset (wakeLink s) = controllerReset (ungate (wakeLink s)) := if_neg (by simp [wakeLink, ready, runs, awake])
      obtain ⟨cfg, origins, walks, swap, staging, vf, mic⟩ := controllerReset_acts (s := ungate (wakeLink s))
      have boot := controllerReset_boot (s := ungate (wakeLink s))
      exact ⟨_, run _ is, congrArg Boot.cause boot, congrArg Boot.flrHeld boot, cfg, origins, walks, swap, staging, vf, mic⟩

end Sys2Proof.Machine
end
